-- ==== Sys2Proof/Word.lean ====
section
/-! DEFINITION. The word type of the links. The part carries bytes; every quantity of its records is a whole number
(00_scope 5.5: "Quantities are whole numbers unless stated otherwise"), so only what travels on a link is a bit vector. -/

namespace Sys2Proof

/-- One byte on a link (01, tables 1-6 and 1-7). -/
abbrev Byte := BitVec 8

/-- The byte that carries the number `n`, taken modulo 256. -/
abbrev byteOf (n : Nat) : Byte := BitVec.ofNat 8 n

/-- The highest run time and the highest 32-bit count: 4,294,967,295 (00_scope 5.1). -/
abbrev maxCount32 : Nat := 4294967295

/-- The highest 16-bit number, 65535. -/
abbrev maxCount16 : Nat := 65535

end Sys2Proof
end

