-- ==== Sys2Proof/Syntax.lean ====
section
/-! DEFINITION. The commands of the LQ-12: one constructor of `Instr` per row of spec/opcode_table.json.

A directive's command carries only the port whose handoff queue the unit takes from (R8: "either port's head may be taken
first"): the directive's fields ride in the queued packet. A command that stands for a block's taking of another block's event
carries no copy of the event: the event stands at the head of the sender's queue of events under way, in the order sent
(00_scope 3, "Events from one sender reach it in the order that sender sends them"). What arrives from outside the part (a
frame, a character, a panel link's report) is carried whole. -/

namespace Sys2Proof

/-- The two ports (chapter 1). -/
inductive Port where
  | feed
  | desk
  deriving DecidableEq, Repr

/-- The eleven blocks of 00_scope 3. -/
inductive Block where
  | link | clock | schedule | seat | builder | notice | rotation | render | composer | memory | output
  deriving DecidableEq, Repr

/-- The commands: one constructor per row of the opcode table, in the table's order. -/
inductive Instr where
  /-- FEED_FRAME (R1). A frame completes at the feed port; it is checked against the envelope and routed by kind as a SEGMENT, BEACON or DIRECTIVE. -/
  | feedFrame (frame : List Byte) (damaged : Bool)
  /-- DESK_BYTE (R2). A character arrives on the desk port and moves the receiver through HUNTING, LENGTH and COLLECTING; it may complete, spoil or abandon a packet. -/
  | deskByte (value : Byte) (error : Bool)
  /-- INTAKE_HEAD_MOVE (R7). The link unit moves an intake head to its target's handoff queue, or answers a malformed head MALFORMED, once room exists. -/
  | intakeHeadMove (port : Port)
  /-- ANSWER_SENT (R10). An answer packet finishes sending and leaves its port's answer queue. -/
  | answerSent (port : Port)
  /-- REPORT_SENT (R14). A REPORT packet for a due condition finishes sending on the feed port and its due mark clears. -/
  | reportSent
  /-- CONDITION_RAISE (R13). The link unit takes a block's raise of a condition; a clear flag becomes set and its report becomes due if enabled. -/
  | conditionRaise (sender : Block)
  /-- CONDITION_END (R13). The link unit takes a block's end of a condition and clears the flag, keeping any due mark. -/
  | conditionEnd (sender : Block)
  /-- BEACON_WATCH (R17). At a run-time second the link unit fires the beacon watch if the clock is SET and 600 s have passed since the last beacon. -/
  | beaconWatch
  /-- GRANT (R9). The link unit changes the owner of a grantable table group. -/
  | grant (port : Port)
  /-- SET_REPORTS (R15). The link unit sets the report enables to the set carried and clears due marks of disabled conditions. -/
  | setReports (port : Port)
  /-- ACKNOWLEDGE (R16). The link unit clears the named acknowledgeable conditions, sending a resume when MEMORY_FAULT clears. -/
  | acknowledge (port : Port)
  /-- RESET (R19). The link unit stops handoff, drops new packets, answers DONE and arranges a full reset once earlier answers have been sent. -/
  | reset (port : Port)
  /-- FULL_RESET (R20). Power-on, the reset pin or a completed RESET returns every block to its full-reset state. -/
  | fullReset
  /-- DISPLAY_RESTART (R21). The link unit sends a restart to six display blocks and answers DONE. -/
  | displayRestart (port : Port)
  /-- QUERY_LINK (R12). The link unit answers with the LINK record. -/
  | queryLink (port : Port)
  /-- LINK_UP (R176). A panel link reports link up; the panel output sends the refresh rate and makes the panel LIVE or STANDBY. -/
  | linkUp (panel : Nat)
  /-- LINK_DOWN (R176). A panel link reports link down; the panel becomes DARK and may be marked lost with PANEL_LOST raised. -/
  | linkDown (panel : Nat)
  /-- PANEL_FRAME_SLOT (R176). A panel reports a frame slot; the panel output passes it to the composer when the panel is LIVE. -/
  | panelFrameSlot (panel : Nat)
  /-- TENTH_TICK (R22). Every 100 ms the board clock delivers a tenth-tick and advances its tenth count. -/
  | tenthTick
  /-- RUN_TIME_SECOND (R23). The tenth count wraps; run time rises by 1 and is delivered to five blocks, and the wall time advances. -/
  | runTimeSecond
  /-- BEACON (R30). The board clock takes a checked beacon and sets, steps, confirms or ignores its time by business day and d. -/
  | beacon
  /-- BEACON_OVERDUE (R34). The board clock takes beacon overdue and in SET becomes UNCONFIRMED, raising CLOCK_UNCONFIRMED. -/
  | beaconOverdue
  /-- SET_CLOCK (R33). The board clock checks the fields and applies them as a beacon, answering DONE or refusing an earlier business day. -/
  | setClock (port : Port)
  /-- SET_HOUSE (R35). The board clock takes the hour format and day-start hour, refusing a day-start change while the clock holds time. -/
  | setHouse (port : Port)
  /-- SET_CUE (R37). The board clock makes a cue entry present with the fields given. -/
  | setCue (port : Port)
  /-- CLEAR_CUE (R37). The board clock makes a present cue entry empty. -/
  | clearCue (port : Port)
  /-- QUERY_CLOCK (R41). The board clock answers with its state, time, run time, mark and house settings. -/
  | queryClock (port : Port)
  /-- QUERY_CUE (R41). The board clock answers with a present cue entry. -/
  | queryCue (port : Port)
  /-- LOAD_TITLE (R43). The schedule unit loads a title entry and sends title changed. -/
  | loadTitle (port : Port)
  /-- LOAD_SCREENING (R51). The schedule unit checks and creates or replaces a screening record, making room by reuse if needed. -/
  | loadScreening (port : Port)
  /-- AMEND_SCREENING (R55). The schedule unit amends the delay, capacity, badges or note of a record and sends the events that follow. -/
  | amendScreening (port : Port)
  /-- CANCEL_SCREENING (R57). The schedule unit makes a PENDING, LISTED or BOARDING record CANCELLED with the present run time as cancel time. -/
  | cancelScreening (port : Port)
  /-- DROP_SCREENING (R58). The schedule unit removes a record and sends screening removed. -/
  | dropScreening (port : Port)
  /-- SET_PHASE_TIMES (R46). The schedule unit takes A, W, Z, Q and K, recomputes phases and announces row changes when K changes. -/
  | setPhaseTimes (port : Port)
  /-- QUERY_TITLE (R61). The schedule unit answers with a title entry. -/
  | queryTitle (port : Port)
  /-- QUERY_SCREENING (R61). The schedule unit answers with a screening record. -/
  | queryScreening (port : Port)
  /-- QUERY_PHASE_TIMES (R61). The schedule unit answers with the phase settings. -/
  | queryPhaseTimes (port : Port)
  /-- SCHEDULE_MINUTE_EVENT (R48). The schedule unit sets its view minute and moves every non-cancelled record forward to its target phase. -/
  | scheduleMinuteEvent
  /-- SCHEDULE_ROLLOVER (R49). The schedule unit sets its view day, removes records of past days and recomputes phases. -/
  | scheduleRollover
  /-- LINGER_END (R50). At a run-time second, CANCELLED records whose linger has run out become CLOSED. -/
  | lingerEnd
  /-- SCREENING_ADDED (R64). The seat unit creates a tally for a new screening and computes its availability. -/
  | screeningAdded
  /-- CAPACITY_CHANGED (R65). The seat unit takes a new capacity for a tally and recomputes it. -/
  | capacityChanged
  /-- SEAT_PHASE_CHANGED (R66). On CLOSED or CANCELLED the seat unit removes the screening's holds and recomputes its tally. -/
  | seatPhaseChanged
  /-- SEAT_SCREENING_REMOVED (R67). The seat unit removes the screening's holds and tally and updates the oversold count. -/
  | seatScreeningRemoved
  /-- SELL (R69). The seat unit adds n to a tally's sold count, clamping at 999. -/
  | sell (port : Port)
  /-- REFUND (R70). The seat unit subtracts n from the sold count, clamping at 0 and raising TALLY_UNDERFLOW. -/
  | refund (port : Port)
  /-- SET_SOLD (R71). The seat unit sets a tally's sold and blocked counts. -/
  | setSold (port : Port)
  /-- HOLD (R73). The seat unit makes a timed hold in expiry order and raises the held count, or refuses it as DUPLICATE or FULL. -/
  | hold (port : Port)
  /-- CONFIRM (R74). The seat unit removes a hold and turns its seats into sold seats. -/
  | confirm (port : Port)
  /-- RELEASE (R75). The seat unit removes a hold and frees its seats. -/
  | release (port : Port)
  /-- HOLD_EXPIRY (R76). At a run-time second, holds due at the head of the list expire and their tallies are recomputed. -/
  | holdExpiry
  /-- SET_BANDS (R84). The seat unit takes the six band settings and recomputes every tally. -/
  | setBands (port : Port)
  /-- QUERY_TALLY (R85). The seat unit answers with a tally. -/
  | queryTally (port : Port)
  /-- QUERY_HOLD (R85). The seat unit answers with a hold. -/
  | queryHold (port : Port)
  /-- QUERY_BANDS (R85). The seat unit answers with the band settings. -/
  | queryBands (port : Port)
  /-- DEFINE_BOARD (R88). The board builder defines a board, rebuilds its list, sizes its row tiles and redraws every slot. -/
  | defineBoard (port : Port)
  /-- CLEAR_BOARD (R89). The board builder makes a board undefined and empties its row tiles. -/
  | clearBoard (port : Port)
  /-- QUERY_BOARD (R105). The board builder answers with a board's definition, page state and row list. -/
  | queryBoard (port : Port)
  /-- BUILDER_PHASE_CHANGED (R92). The board builder rebuilds every defined board and redraws the slots that changed. -/
  | builderPhaseChanged
  /-- BUILDER_SCREENING_REMOVED (R92). The board builder rebuilds every defined board after a removal and redraws the slots that changed. -/
  | builderScreeningRemoved
  /-- SCREENING_CHANGED (R92). The board builder rebuilds every defined board and redraws the changed screening's row. -/
  | screeningChanged
  /-- BUILDER_ROLLOVER (R90). The board builder sets its view day and view minute 0 and rebuilds every defined board. -/
  | builderRollover
  /-- BUILDER_MINUTE_EVENT (R102). The board builder sets its view minute and redraws the on-page rows whose countdown runs or has just stopped. -/
  | builderMinuteEvent
  /-- FIGURE_CHANGED (R101). The board builder redraws the on-page slots of the screening whose figure changed. -/
  | figureChanged
  /-- TITLE_CHANGED (R103). The board builder redraws the on-page slots of the changed title. -/
  | titleChanged
  /-- HOUR_FORMAT_CHANGED (R103). The board builder redraws every occupied on-page slot. -/
  | hourFormatChanged
  /-- BUILDER_TENTH_TICK (R94). The board builder lowers the dwell remaining of every defined board. -/
  | builderTenthTick
  /-- PAGE_DWELL_EXPIRY (R94). A board's dwell runs out; it restarts and a multi-page board advances its page and redraws its slots. -/
  | pageDwellExpiry (board : Nat)
  /-- BOARD_RESTART (R107). At DISPLAY RESTART the board builder restarts every dwell and redraws every slot in use. -/
  | boardRestart
  /-- POST_NOTICE (R109). The notice unit posts or replaces a notice, updates the urgent lists, sizes its tile and asks for its redraw. -/
  | postNotice (port : Port)
  /-- WITHDRAW_NOTICE (R111). The notice unit withdraws a live notice, moving urgent lists and emptying its tile. -/
  | withdrawNotice (port : Port)
  /-- NOTICE_EXPIRY (R112). At a run-time second, notices whose lifetime has ended are withdrawn. -/
  | noticeExpiry
  /-- URGENT_DWELL_EXPIRY (R115). A panel's urgent dwell runs out and the next urgent notice of its list is shown. -/
  | urgentDwellExpiry (panel : Nat)
  /-- NOTICE_PHASE_CHANGED (R113). On CLOSED the notice unit withdraws every notice bound to the screening. -/
  | noticePhaseChanged
  /-- NOTICE_SCREENING_REMOVED (R113). The notice unit withdraws every notice bound to the removed screening. -/
  | noticeScreeningRemoved
  /-- SET_NOTICE_STYLE (R119). The notice unit takes the style settings, resizing and redrawing notice tiles as needed. -/
  | setNoticeStyle (port : Port)
  /-- QUERY_NOTICE (R121). The notice unit answers with a live notice. -/
  | queryNotice (port : Port)
  /-- QUERY_URGENT_LIST (R121). The notice unit answers with a panel's urgent list and dwell. -/
  | queryUrgentList (port : Port)
  /-- NOTICE_RESTART (R122). At DISPLAY RESTART the notice unit restarts urgent dwells and redraws every live notice tile. -/
  | noticeRestart
  /-- SET_CAROUSEL (R124). The rotation unit makes the mode and lists the carousel's pending content. -/
  | setCarousel (port : Port)
  /-- SET_PERIODS (R125). The rotation unit writes the present periods into the carousel's pending periods. -/
  | setPeriods (port : Port)
  /-- SET_QUIET (R131). The rotation unit sets the quiet flag of the named carousels. -/
  | setQuiet (port : Port)
  /-- CAROUSEL_ON (R132). The rotation unit starts STOPPED carousels at a boundary and returns STOPPING ones to RUNNING. -/
  | carouselOn (port : Port)
  /-- CAROUSEL_OFF (R133). The rotation unit makes RUNNING carousels STOPPING. -/
  | carouselOff (port : Port)
  /-- SET_SYNC_GROUP (R134). The rotation unit sets a sync group's leader and members. -/
  | setSyncGroup (port : Port)
  /-- QUERY_CAROUSEL (R138). The rotation unit answers with a carousel record. -/
  | queryCarousel (port : Port)
  /-- QUERY_SYNC_GROUP (R138). The rotation unit answers with a sync group's leader and carousels. -/
  | querySyncGroup (port : Port)
  /-- CAROUSEL_TENTH_TICK (R128). The rotation unit lowers the remaining count of every RUNNING or STOPPING carousel. -/
  | carouselTenthTick
  /-- MARK_END (R128). A carousel's mark runs out and its cycle enters SPACE for the active space. -/
  | markEnd (carousel : Nat)
  /-- CYCLE_END (R129). A carousel's cycle ends; pending values apply, the cursor advances, and a new cycle starts or the carousel stops. -/
  | cycleEnd (carousel : Nat)
  /-- CUE_QUIET (R39). The rotation unit applies a cue's QUIET ON or QUIET OFF as SET QUIET, without answer. -/
  | cueQuiet
  /-- LOAD_IMAGE (R142). The render unit sizes an IMAGE tile, discards its picture and makes it LOADING. -/
  | loadImage (port : Port)
  /-- IMAGE_PIECE (R143). The render unit checks a piece and makes it the waiting piece write, or answers at once. -/
  | imagePiece (port : Port)
  /-- LOAD_TEXT_TILE (R144). The render unit loads a TEXT tile's glyph set, text and size and queues its redraw. -/
  | loadTextTile (port : Port)
  /-- CLEAR_TILE (R145). The render unit empties a loaded tile and makes its size none. -/
  | clearTile (port : Port)
  /-- QUERY_TILE (R154). The render unit answers with a tile record without its image. -/
  | queryTile (port : Port)
  /-- REDRAW_REQUEST (R148). The render unit queues a tile in a lane, promotes it to URGENT, or marks a running job stale. -/
  | redrawRequest (sender : Block)
  /-- SIZE_REQUEST (R146). The render unit gives a row or notice tile a new size, removing its image and staling any job. -/
  | sizeRequest (sender : Block)
  /-- EMPTY_TILE (R147). The render unit empties a tile and removes it from its lane. -/
  | emptyTile (sender : Block)
  /-- PIECE_WRITE_START (R149). The idle render engine starts the waiting piece write on the RENDER channel. -/
  | pieceWriteStart
  /-- PIECE_WRITE_COMPLETE (R143). A piece write completes; bytes received rise, the image may become present and the piece is answered DONE. -/
  | pieceWriteComplete
  /-- PIECE_WRITE_ENDED (R143). A piece write ends without completion and its IMAGE PIECE is answered REFUSED_STATE. -/
  | pieceWriteEnded
  /-- RENDER_JOB_START (R150). The idle render engine takes the head of URGENT or NORMAL, makes it RENDERING and reads its sources. -/
  | renderJobStart
  /-- RENDER_JOB_COMPLETE (R152). A render job's last unit completes; the image is installed if the size still matches and the tile goes CLEAN or requeues. -/
  | renderJobComplete
  /-- RENDER_JOB_ABANDON (R153). A render job ends without completion, installs nothing, and its tile requeues at the tail of its lane. -/
  | renderJobAbandon
  /-- RENDER_RESTART (R156). At DISPLAY RESTART the render unit cancels its work, empties the lanes and requeues rendered and pending TEXT tiles. -/
  | renderRestart
  /-- LOAD_LAYOUT (R157). The composer loads a layout. -/
  | loadLayout (port : Port)
  /-- APPLY_LAYOUT (R160). The composer makes a layout pending on the named panels. -/
  | applyLayout (port : Port)
  /-- SET_OVERRIDE (R160). The composer sets or clears the override layout of the named panels. -/
  | setOverride (port : Port)
  /-- CUE_APPLY_LAYOUT (R39). The composer applies a cue's APPLY LAYOUT as the directive, without answer. -/
  | cueApplyLayout
  /-- QUERY_LAYOUT (R167). The composer answers with a layout. -/
  | queryLayout (port : Port)
  /-- QUERY_PANEL (R167). The composer answers with a panel record. -/
  | queryPanel (port : Port)
  /-- PANEL_LIVE (R159). The composer makes the panel record LIVE. -/
  | panelLive
  /-- PANEL_STANDBY_EVENT (R159). The composer makes the panel record STANDBY. -/
  | panelStandbyEvent
  /-- PANEL_DARK (R159). The composer makes the panel DARK, removes its queued request and frees its FRONT and READY buffers. -/
  | panelDark
  /-- FRAME_SLOT (R161). For a LIVE panel the composer swaps READY to FRONT, makes a pending layout current and queues a request or raises FRAME_LATE. -/
  | frameSlot
  /-- COMPOSE_JOB_START (R163). The idle compose engine takes the head panel, claims a FREE buffer and reads and pins all the frame's sources. -/
  | composeJobStart
  /-- PIN_REQUEST (R171). The frame memory unit pins a stream's LATEST store for a compose job and records a use of the stream. -/
  | pinRequest
  /-- PIN_RELEASE (R171). A job's pins are released and a HELD store becomes FREE. -/
  | pinRelease
  /-- COMPOSE_JOB_COMPLETE (R165). A compose job completes; pins are released and its buffer becomes READY, FRONT or FREE by the panel's state. -/
  | composeJobComplete
  /-- COMPOSE_JOB_ABANDON (R166). A compose job ends without completion; its buffer is freed and a live panel is requeued. -/
  | composeJobAbandon
  /-- COMPOSER_RESTART (R169). At DISPLAY RESTART the composer cancels its job, empties the queue and frees every buffer. -/
  | composerRestart
  /-- SEGMENT (R170). The frame memory unit tests a stream segment against its reception and queues its INGEST write or abandons the frame. -/
  | segment
  /-- UNIT_GRANT (R173). With no unit in flight, the memory is granted to the highest waiting channel that is not halted. -/
  | unitGrant
  /-- TRANSFER_UNIT_COMPLETE (R173). A transfer unit completes and is reported to its owner; an ingest write may complete a stream frame. -/
  | transferUnitComplete
  /-- UNIT_FAULT (R174). A unit meets an uncorrectable memory error; MEMORY_FAULT is raised and every channel halts. -/
  | unitFault
  /-- RESUME (R175). The frame memory unit ends the faulted work and lets every channel leave HALTED. -/
  | resume
  /-- STREAM_WATCH (R172). At a run-time second a stream in use whose frames have stopped becomes lost and STREAM_LOST is raised. -/
  | streamWatch
  /-- QUERY_STREAM (R179). The frame memory unit answers with a stream's stores, reception and watch. -/
  | queryStream (port : Port)
  /-- FRAME_MEMORY_RESTART (R180). At DISPLAY RESTART streams, ingest queue and channels are reset, dropped work is reported, and MEMORY_FAULT and STREAM_LOST end. -/
  | frameMemoryRestart
  /-- PANEL_STANDBY (R177). The panel output sets the standby mark, sets the backlight target to 0 and makes LIVE panels STANDBY. -/
  | panelStandby (port : Port)
  /-- WAKE (R177). The panel output clears the standby mark, restores the backlight target and makes STANDBY panels with link up LIVE. -/
  | wake (port : Port)
  /-- SET_BRIGHTNESS (R177). The panel output sets the set level and, unless in standby, the backlight target. -/
  | setBrightness (port : Port)
  /-- SET_PANEL (R177). The panel output takes a panel's refresh rate and orientation. -/
  | setPanel (port : Port)
  /-- CUE_STANDBY (R39). The panel output applies a cue's STANDBY as PANEL STANDBY, without answer. -/
  | cueStandby
  /-- CUE_WAKE (R39). The panel output applies a cue's WAKE as WAKE, without answer. -/
  | cueWake
  /-- CUE_BRIGHTNESS (R39). The panel output applies a cue's BRIGHTNESS as SET BRIGHTNESS, without answer. -/
  | cueBrightness
  /-- QUERY_OUTPUT (R179). The panel output answers with a panel's output record. -/
  | queryOutput (port : Port)
  /-- BACKLIGHT_STEP (R178). At each tenth-tick every backlight level moves one step toward its target. -/
  | backlightStep
  /-- PANEL_OUTPUT_RESTART (R180). At DISPLAY RESTART the panel output keeps its records. -/
  | panelOutputRestart
  deriving DecidableEq, Repr

end Sys2Proof
end

