-- ==== Sys2Proof/WellFormed.lean ====
section
/-! DEFINITION. What a command must satisfy to name something that exists: a panel link, board or carousel in range
(00_scope 5.3), and a sender that sends that kind of event. `exec` is total all the same: an ill-formed command finds nothing
to act on and leaves the state as it is (DESIGN CHOICE, assumption 2). -/

namespace Sys2Proof

/-- The blocks that raise or end conditions by an event to the link unit (Table 1-4). -/
def Block.sendsConditions : Block → Bool
  | .clock | .seat | .composer | .memory | .output => true
  | .link | .schedule | .builder | .notice | .rotation | .render => false

/-- The blocks that ask for redraws (R148; LOAD TEXT TILE's own request is made inside its step). -/
def Block.sendsRedraws : Block → Bool
  | .clock | .builder | .notice => true
  | .link | .schedule | .seat | .rotation | .render | .composer | .memory | .output => false

/-- The blocks that size and empty tiles (R146, R147). -/
def Block.sizesTiles : Block → Bool
  | .builder | .notice => true
  | .link | .clock | .schedule | .seat | .rotation | .render | .composer | .memory | .output => false

/-- A command is well formed when what it names exists. -/
def wellFormed : Instr → Bool
  | .conditionRaise b | .conditionEnd b => b.sendsConditions
  | .linkUp p | .linkDown p | .panelFrameSlot p => p ≤ 11
  | .pageDwellExpiry b => b ≤ 7
  | .urgentDwellExpiry p => p ≤ 11
  | .markEnd c | .cycleEnd c => c ≤ 11
  | .redrawRequest b => b.sendsRedraws
  | .sizeRequest b | .emptyTile b => b.sizesTiles
  | .feedFrame _ _ | .deskByte _ _ | .intakeHeadMove _ | .answerSent _ | .reportSent | .beaconWatch | .grant _
  | .setReports _ | .acknowledge _ | .reset _ | .fullReset | .displayRestart _ | .queryLink _ | .tenthTick
  | .runTimeSecond | .beacon | .beaconOverdue | .setClock _ | .setHouse _ | .setCue _ | .clearCue _ | .queryClock _
  | .queryCue _ | .loadTitle _ | .loadScreening _ | .amendScreening _ | .cancelScreening _ | .dropScreening _
  | .setPhaseTimes _ | .queryTitle _ | .queryScreening _ | .queryPhaseTimes _ | .scheduleMinuteEvent
  | .scheduleRollover | .lingerEnd | .screeningAdded | .capacityChanged | .seatPhaseChanged | .seatScreeningRemoved
  | .sell _ | .refund _ | .setSold _ | .hold _ | .confirm _ | .release _ | .holdExpiry | .setBands _ | .queryTally _
  | .queryHold _ | .queryBands _ | .defineBoard _ | .clearBoard _ | .queryBoard _ | .builderPhaseChanged
  | .builderScreeningRemoved | .screeningChanged | .builderRollover | .builderMinuteEvent | .figureChanged
  | .titleChanged | .hourFormatChanged | .builderTenthTick | .boardRestart | .postNotice _ | .withdrawNotice _
  | .noticeExpiry | .noticePhaseChanged | .noticeScreeningRemoved | .setNoticeStyle _ | .queryNotice _
  | .queryUrgentList _ | .noticeRestart | .setCarousel _ | .setPeriods _ | .setQuiet _ | .carouselOn _
  | .carouselOff _ | .setSyncGroup _ | .queryCarousel _ | .querySyncGroup _ | .carouselTenthTick | .cueQuiet
  | .loadImage _ | .imagePiece _ | .loadTextTile _ | .clearTile _ | .queryTile _ | .pieceWriteStart
  | .pieceWriteComplete | .pieceWriteEnded | .renderJobStart | .renderJobComplete | .renderJobAbandon
  | .renderRestart | .loadLayout _ | .applyLayout _ | .setOverride _ | .cueApplyLayout | .queryLayout _
  | .queryPanel _ | .panelLive | .panelStandbyEvent | .panelDark | .frameSlot | .composeJobStart | .pinRequest
  | .pinRelease | .composeJobComplete | .composeJobAbandon | .composerRestart | .segment | .unitGrant
  | .transferUnitComplete | .unitFault | .resume | .streamWatch | .queryStream _ | .frameMemoryRestart
  | .panelStandby _ | .wake _ | .setBrightness _ | .setPanel _ | .cueStandby | .cueWake | .cueBrightness
  | .queryOutput _ | .backlightStep | .panelOutputRestart => true

end Sys2Proof
end

