-- ==== Sys2Proof/Decode.lean ====
section
/-! DEFINITION. The command a word spells by the bits of spec/opcode_table.json. The LQ-12 has no instruction words: no row of the
table gives bits (98_reader: "n_rows_with_fixed": 0), so no word spells a command. What its links carry is read by
Machine/Bytes.lean and Machine/Operands.lean. -/

namespace Sys2Proof

/-- The command a word spells by the table's bits: none, for no row gives bits. -/
def decodeTableWord (_nbits _w : Nat) : Option Instr := none

end Sys2Proof
end

