-- ==== Sys2Proof/Config.lean ====
section
/-! DEFINITION. What the manual leaves open: free values (opaque, with no body, so that no proof can see what they are) and the
values the model names for state whose reset value the manual does not give. -/

namespace Sys2Proof.Config

/-- Which of two equal candidates the part takes, where the manual says only "a FREE buffer" (R163) or "a FREE store" (R170).
A free value, one per choice made: the argument counts the choices (DESIGN CHOICE, assumption 12). -/
opaque freeChoice : Nat → Bool

/-- The pixels of a glyph, free because the manual draws no glyph shapes (R151): `large` picks the glyph set, `code` is the
character value (256 for the hollow box, 257 for the "…" glyph), then the pixel column and row inside the glyph. True is a
pixel in the house text colour (DESIGN CHOICE, assumption 13). -/
opaque glyphPixel : (large : Bool) → (code x y : Nat) → Bool

/-- The frame number, width and height a stream store holds before any frame has been completed in it: R180 gives none
(DESIGN CHOICE, assumption 14). -/
def storeFrameAtReset : Nat × Nat × Nat := (0, 1, 1)

/-- The refresh rate last sent on a panel link before any has been sent: none (R176, R180; DESIGN CHOICE, assumption 14). -/
def rateSentAtReset : Option Nat := none

end Sys2Proof.Config
end

