-- ==== Sys2Proof/Machine/Records.lean ====
section
/-! DEFINITION. The records of the eleven blocks as plain data, chapter by chapter, the packets that travel on the links, and
the events that are under way from one block to another. -/

namespace Sys2Proof.Machine

open Sys2Proof

/-! ### Chapter 1: links, directives and answers -/

/-- The five table groups, numbered 0 to 4 in this order (R9). -/
inductive Group where
  | schedule | tally | notices | display | house
  deriving DecidableEq, Repr

/-- The outcome codes of R11, carried as 0 to 9 in this order (Table 1-10). -/
inductive OutcomeCode where
  | done | doneClamped | notOwner | noSuch | full | outOfRange | tooLate | duplicate | malformed | refusedState
  deriving DecidableEq, Repr

/-- The conditions of Table 1-4, numbered 0 to 11 in this order. -/
inductive Condition where
  | clockUnset | clockUnconfirmed | clockConflict | directiveDiscard | lineError | oversold | tallyUnderflow | holdsFull
  | frameLate | streamLost | memoryFault | panelLost
  deriving DecidableEq, Repr

/-- A field as a message carries it before its unit has checked its range: a kind and a number. -/
structure Coded where
  kind : Nat
  value : Nat
  deriving DecidableEq, Repr

/-- The fields LOAD SCREENING carries (R44, from the screening number to the note text). An empty note is an absent one. -/
structure ScreeningFields where
  number : Nat
  day : Nat
  auditorium : Nat
  title : Nat
  showTime : Nat
  delay : Nat
  capacity : Nat
  badges : List Nat
  note : List Byte
  deriving DecidableEq, Repr

/-- The fields DEFINE BOARD carries (R87), unchecked; an auditorium filter of `none` is ALL, a title filter of 65535 is ALL. -/
structure BoardFields where
  auditoriums : Option (List Nat)
  title : Nat
  sort : Nat
  rowsPerPage : Nat
  pageDwell : Nat
  showCancelled : Nat
  rowWidth : Nat
  deriving DecidableEq, Repr

/-- The fields POST NOTICE carries (R108, from the notice number to the lifetime), unchecked. -/
structure NoticeFields where
  number : Nat
  cls : Nat
  text : List Byte
  targets : List Nat
  bound : Option Nat
  lifetime : Option Nat
  deriving DecidableEq, Repr

/-- The fields SET CUE carries (R37), unchecked; `arg` is the layout of APPLY LAYOUT or the level of BRIGHTNESS. -/
structure CueFields where
  enabled : Nat
  weekday : Nat
  hour : Nat
  minute : Nat
  kind : Nat
  arg : Nat
  members : List Nat
  deriving DecidableEq, Repr

/-- A region as LOAD LAYOUT carries it (R157), unchecked. -/
structure RegionFields where
  col : Nat
  row : Nat
  width : Nat
  height : Nat
  content : Coded
  deriving DecidableEq, Repr

/-- The fields LOAD LAYOUT carries (R157), unchecked. -/
structure LayoutFields where
  orientation : Nat
  background : Coded
  spaceFill : Coded
  regions : List RegionFields
  deriving DecidableEq, Repr

/-- The six fields of a beacon or a SET CLOCK (Table 1-8). -/
structure TimeFields where
  serial : Nat
  weekday : Nat
  hour : Nat
  minute : Nat
  second : Nat
  deriving DecidableEq, Repr

/-- The six band settings of R84. -/
structure BandSettings where
  fewSeats : Nat
  fewFill : Nat
  fillingFill : Nat
  marginSeats : Nat
  marginFill : Nat
  reopenSeats : Nat
  deriving DecidableEq, Repr

/-- The five phase settings of R46: doors lead A, late window W, listing horizon Z, cancel linger Q, countdown limit K. -/
structure PhaseSettings where
  doorsLead : Nat
  lateWindow : Nat
  horizon : Nat
  linger : Nat
  countdown : Nat
  deriving DecidableEq, Repr

/-- The six settings of SET NOTICE STYLE (R119). -/
structure NoticeStyle where
  urgentDwell : Nat
  normalWidth : Nat
  normalHeight : Nat
  urgentWidth : Nat
  urgentHeight : Nat
  urgentColour : Nat
  deriving DecidableEq, Repr

/-- A well-shaped directive or tally message (Table 1-2, Table 1-9), its fields as carried. The unit that takes it checks
their ranges (R5). -/
inductive Directive where
  | sell (screening n : Nat)
  | refund (screening n : Nat)
  | hold (screening id seats minutes : Nat)
  | confirm (id : Nat)
  | release (id : Nat)
  | setSold (screening sold blocked : Nat)
  | loadTitle (title : Nat) (text rating : List Byte) (runtime : Nat)
  | loadScreening (fields : ScreeningFields)
  | amendScreening (screening : Nat) (delay capacity : Option Nat) (badges : Option (List Nat)) (note : Option (List Byte))
  | cancelScreening (screening : Nat)
  | dropScreening (screening : Nat)
  | defineBoard (board : Nat) (fields : BoardFields)
  | clearBoard (board : Nat)
  | postNotice (fields : NoticeFields)
  | withdrawNotice (notice : Nat)
  | setCue (cue : Nat) (fields : CueFields)
  | clearCue (cue : Nat)
  | setNoticeStyle (style : NoticeStyle)
  | setCarousel (carousel mode : Nat) (primary secondary : List Coded)
  | setPeriods (carousel : Nat) (primaryMark primarySpace secondaryMark secondarySpace : Option Nat)
  | setQuiet (carousels : List Nat) (value : Nat)
  | carouselOn (carousels : List Nat)
  | carouselOff (carousels : List Nat)
  | setSyncGroup (group leader : Nat) (members : List Nat)
  | loadImage (tile width height total : Nat)
  | imagePiece (tile offset : Nat) (piece : List Byte)
  | loadTextTile (tile width height glyphSet : Nat) (text : List Byte)
  | clearTile (tile : Nat)
  | loadLayout (layout : Nat) (fields : LayoutFields)
  | applyLayout (layout : Nat) (panels : List Nat)
  | setOverride (layout : Nat) (panels : List Nat)
  | setPanel (panel rate orientation : Nat)
  | panelStandby (panels : List Nat)
  | wake (panels : List Nat)
  | setBrightness (level : Nat) (panels : List Nat)
  | setClock (time : TimeFields)
  | setHouse (hourFormat dayStart : Nat)
  | setPhaseTimes (settings : PhaseSettings)
  | setBands (settings : BandSettings)
  | grant (group owner : Nat)
  | setReports (conditions : List Nat)
  | reset
  | displayRestart
  | query (kind key : Nat)
  | acknowledge (conditions : List Nat)
  deriving DecidableEq, Repr

/-- A directive or tally message in an intake or handoff queue: its tag, the byte its answer names it by (Table 1-10), and
its directive, or `none` for a packet marked malformed (R5). -/
structure Packet where
  tag : Nat
  code : Nat
  directive : Option Directive
  deriving DecidableEq, Repr

/-- An answer (R10). -/
structure Answer where
  tag : Nat
  code : Nat
  outcome : OutcomeCode
  record : List Byte
  deriving DecidableEq, Repr

/-- A port's answer queue: the answers in issue order, and the number of reserved places (R8, R10). -/
structure AnswerQueue where
  answers : List Answer
  reserved : Nat
  deriving DecidableEq, Repr

/-- One thing for each port. -/
structure PerPort (α : Type) where
  feed : α
  desk : α
  deriving DecidableEq, Repr

/-- The feed receiver (Table 1-1). A feed frame is one command, so it stands idle between commands
(DESIGN CHOICE, assumption 10). -/
inductive FeedReceiver where
  | idle
  | inFrame
  deriving DecidableEq, Repr

/-- The desk receiver (R2). `escaped`: the last byte was an escape. `spoiled`: the packet in progress is spoiled. `values`:
the unescaped values of kind, tag, body and sum so far. -/
inductive DeskReceiver where
  | hunting
  | length (escaped : Bool)
  | collecting (length : Nat) (values : List Nat) (escaped spoiled : Bool)
  deriving DecidableEq, Repr

/-- What the link unit holds for one port. -/
structure PortState where
  intake : List Packet
  answers : AnswerQueue
  discards : Nat
  lineErrors : Nat
  deriving DecidableEq, Repr

/-- The beacon watch (R17). -/
structure BeaconWatch where
  last : Nat
  overdue : Bool
  deriving DecidableEq, Repr

/-- A RESET that has been taken (R19): how many answers of each port must still be sent in full before the reset acts. -/
structure ResetPending where
  feedLeft : Nat
  deskLeft : Nat
  deriving DecidableEq, Repr

/-- A DISPLAY RESTART that has been taken and not yet answered (R8, R21): the port of its reserved place, its tag and code, and
whether the end of MEMORY_FAULT that it brings has been taken. -/
structure RestartPending where
  port : Port
  tag : Nat
  code : Nat
  faultEnded : Bool
  deriving DecidableEq, Repr

/-- The link unit (Table 1-1). `handoff` is indexed by `Block.index`, the condition sets by condition number, `owners` by
group number. -/
structure LinkUnit where
  feedReceiver : FeedReceiver
  deskReceiver : DeskReceiver
  ports : PerPort PortState
  handoff : Vector (PerPort (List Packet)) 11
  owners : Vector Port 5
  flags : Vector Bool 12
  enables : Vector Bool 12
  due : Vector Bool 12
  watch : BeaconWatch
  resetPending : Option ResetPending
  restartPending : Option RestartPending
  deriving DecidableEq, Repr

/-! ### Chapter 2: the board clock -/

/-- The clock state (R24), carried as 0, 1 and 2. -/
inductive ClockState where
  | unset | set | unconfirmed
  deriving DecidableEq, Repr

/-- The hour format (R35), carried as 12 and 24. -/
inductive HourFormat where
  | h12 | h24
  deriving DecidableEq, Repr

/-- A cue's action (R37), carried as 1 to 6: APPLY LAYOUT, QUIET ON, QUIET OFF, STANDBY, WAKE, BRIGHTNESS. -/
inductive CueAction where
  | applyLayout (layout : Nat) (panels : List Nat)
  | quiet (on : Bool) (carousels : List Nat)
  | standby (panels : List Nat)
  | wake (panels : List Nat)
  | brightness (level : Nat) (panels : List Nat)
  deriving DecidableEq, Repr

/-- A present cue entry (R37); `none` in a time field is ANY. -/
structure Cue where
  enabled : Bool
  weekday : Option Nat
  hour : Option Nat
  minute : Option Nat
  action : CueAction
  deriving DecidableEq, Repr

/-- The board clock (Table 2-1). `secondOwed` is the model's own: the tenth count has come to pass 9 and the run-time second
this brings has not been taken yet (DESIGN CHOICE, assumption 4). -/
structure Clock where
  state : ClockState
  hour : Nat
  minute : Nat
  second : Nat
  weekday : Nat
  day : Nat
  tenths : Nat
  secondOwed : Bool
  runTime : Nat
  mark : Option Nat
  hourFormat : HourFormat
  dayStart : Nat
  cues : Vector (Option Cue) 16
  deriving DecidableEq, Repr

/-! ### Chapter 3: the schedule unit -/

/-- The phases (R44), carried as 0 to 5 in this order. -/
inductive Phase where
  | pending | listed | boarding | running | closed | cancelled
  deriving DecidableEq, Repr

/-- A present title entry (R43). -/
structure Title where
  text : List Byte
  rating : List Byte
  runtime : Nat
  deriving DecidableEq, Repr

/-- A screening record (R44). -/
structure Screening where
  number : Nat
  day : Nat
  auditorium : Nat
  title : Nat
  showTime : Nat
  delay : Nat
  capacity : Nat
  badges : List Nat
  note : Option (List Byte)
  phase : Phase
  cancelTime : Option Nat
  deriving DecidableEq, Repr

/-- The schedule unit (Table 3-1). The screening table is kept in ascending screening number. -/
structure ScheduleUnit where
  titles : Vector (Option Title) 128
  table : List Screening
  settings : PhaseSettings
  viewDay : Nat
  viewMinute : Option Nat
  deriving DecidableEq, Repr

/-! ### Chapter 4: the seat unit -/

/-- The availability bands (R63), carried as 0 to 3, from lowest to highest (R80). -/
inductive Band where
  | plenty | filling | few | soldOut
  deriving DecidableEq, Repr

/-- A tally (R63). `band` and `figure` are the shown pair; a figure of `none` is "none". -/
structure Tally where
  number : Nat
  capacity : Nat
  sold : Nat
  held : Nat
  blocked : Nat
  left : Nat
  fill : Nat
  band : Band
  figure : Option Nat
  oversold : Bool
  deriving DecidableEq, Repr

/-- A hold (R72). -/
structure Hold where
  id : Nat
  screening : Nat
  seats : Nat
  expiry : Nat
  deriving DecidableEq, Repr

/-- The seat unit (Table 4-1). The tally table is kept in ascending screening number. -/
structure SeatUnit where
  tallies : List Tally
  holds : List Hold
  bands : BandSettings
  oversold : Nat
  deriving DecidableEq, Repr

/-! ### Chapter 5: the board builder -/

/-- The sort orders (R87), carried as 1 and 2. -/
inductive SortOrder where
  | byTime | byScreen
  deriving DecidableEq, Repr

/-- A board's definition (R87); `none` in a filter is ALL. -/
structure BoardDef where
  auditoriums : Option (List Nat)
  title : Option Nat
  sort : SortOrder
  rowsPerPage : Nat
  pageDwell : Nat
  showCancelled : Bool
  rowWidth : Nat
  deriving DecidableEq, Repr

/-- A row list entry (R92). -/
structure RowEntry where
  screening : Nat
  auditorium : Nat
  title : Nat
  start : Nat
  phase : Phase
  deriving DecidableEq, Repr

/-- A board (Table 5-1). -/
structure Board where
  defn : Option BoardDef
  rows : List RowEntry
  page : Nat
  dwell : Option Nat
  deriving DecidableEq, Repr

/-- The board builder (Table 5-1). -/
structure BuilderUnit where
  boards : Vector Board 8
  viewDay : Nat
  viewMinute : Option Nat
  deriving DecidableEq, Repr

/-! ### Chapter 6: the notice unit -/

/-- The notice classes (R108), carried as 1, 2 and 3. -/
inductive NoticeClass where
  | urgent | service | promo
  deriving DecidableEq, Repr

/-- A notice (R108) and the slot it sits in. -/
structure Notice where
  number : Nat
  cls : NoticeClass
  text : List Byte
  targets : List Nat
  bound : Option Nat
  lifetime : Option Nat
  expiry : Option Nat
  postOrder : Nat
  slot : Nat
  deriving DecidableEq, Repr

/-- A panel's urgent list, shown urgent notice and urgent dwell remaining (Table 6-1). -/
structure UrgentState where
  list : List Nat
  shown : Option Nat
  dwell : Option Nat
  deriving DecidableEq, Repr

/-- The notice unit (Table 6-1). The notice table is kept in posting order (R108). -/
structure NoticeUnit where
  notices : List Notice
  urgent : Vector UrgentState 12
  style : NoticeStyle
  deriving DecidableEq, Repr

/-! ### Chapter 7: the rotation unit -/

/-- The run states (R123), carried as 0, 1 and 2. -/
inductive RunState where
  | stopped | running | stopping
  deriving DecidableEq, Repr

/-- The modes (R123), carried as 1 and 2. -/
inductive Mode where
  | single | alternate
  deriving DecidableEq, Repr

/-- A carousel item (R123), its kind carried as 1, 2 and 3. -/
inductive Item where
  | stream (s : Nat)
  | tile (t : Nat)
  | notices
  deriving DecidableEq, Repr

/-- The shown item of a cycle (R123); "none" is an absent one. -/
inductive ShownItem where
  | stream (s : Nat)
  | tile (t : Nat)
  | notice (n : Nat)
  deriving DecidableEq, Repr

/-- Which list a cycle is from (R123), carried as 1 and 2. -/
inductive ListChoice where
  | primary | secondary
  deriving DecidableEq, Repr

/-- The phase of a cycle (R123), carried as 1 and 2. -/
inductive CyclePhase where
  | mark | space
  deriving DecidableEq, Repr

/-- Four periods in tenth-ticks (R123). -/
structure Periods where
  primaryMark : Nat
  primarySpace : Nat
  secondaryMark : Nat
  secondarySpace : Nat
  deriving DecidableEq, Repr

/-- A pending period and its written mark (R123). -/
structure PendingPeriod where
  value : Nat
  written : Bool
  deriving DecidableEq, Repr

/-- The four pending periods (R123). -/
structure PendingPeriods where
  primaryMark : PendingPeriod
  primarySpace : PendingPeriod
  secondaryMark : PendingPeriod
  secondarySpace : PendingPeriod
  deriving DecidableEq, Repr

/-- A mode and two lists (R124). -/
structure CarouselContent where
  mode : Mode
  primary : List Item
  secondary : List Item
  deriving DecidableEq, Repr

/-- A carousel record (R123). -/
structure Carousel where
  run : RunState
  content : CarouselContent
  primaryCursor : Nat
  secondaryCursor : Nat
  noticeStep : Nat
  choice : ListChoice
  phase : Option CyclePhase
  remaining : Option Nat
  shown : Option ShownItem
  active : Periods
  pending : PendingPeriods
  pendingContent : Option CarouselContent
  quiet : Bool
  quietInEffect : Bool
  group : Option Nat
  deriving DecidableEq, Repr

/-- The rotation unit (Table 7-1); `leaders` is indexed by sync group. -/
structure RotationUnit where
  carousels : Vector Carousel 12
  leaders : Vector (Option Nat) 4
  deriving DecidableEq, Repr

/-! ### Chapter 8: the render unit -/

/-- The glyph sets (R140), carried as 1 and 2. -/
inductive GlyphSet where
  | small | large
  deriving DecidableEq, Repr

/-- A glyph position of a drawn text: a drawable character, the hollow box, or the "…" glyph (R151). -/
inductive Glyph where
  | char (c : Byte)
  | box
  | ellipsis
  deriving DecidableEq, Repr

/-- A tile image or a stream frame, sized in cells. `text` is a rendered tile: lines of glyphs from the top left, every other
pixel clear (R140). `picture` is a loaded image or a stream frame: two bytes a pixel, row by row (R142, R170). -/
inductive Image where
  | text (width height : Nat) (glyphs : GlyphSet) (lines : List (List Glyph))
  | picture (width height : Nat) (data : List Byte)
  deriving DecidableEq, Repr

/-- The tile states (R140), carried as 0 to 5 in this order. -/
inductive TileState where
  | empty | loading | queued | rendering | renderingStale | clean
  deriving DecidableEq, Repr

/-- The lanes of the redraw queue (R140), carried as 1 and 2. -/
inductive Lane where
  | urgent | normal
  deriving DecidableEq, Repr

/-- A tile record (R140). `loadData` holds the picture bytes received so far (R143). -/
structure Tile where
  size : Option (Nat × Nat)
  state : TileState
  lane : Lane
  image : Option Image
  byteTotal : Nat
  bytesReceived : Nat
  loadData : List Byte
  glyphSet : GlyphSet
  text : List Byte
  deriving DecidableEq, Repr

/-- A render job (R150): its tile, the size it noted, and the image its readings give. -/
structure RenderJob where
  tile : Nat
  width : Nat
  height : Nat
  image : Image
  deriving DecidableEq, Repr

/-- A piece write (R143): the accepted IMAGE PIECE, with the port and tag its answer goes to. -/
structure PieceWrite where
  tile : Nat
  piece : List Byte
  port : Port
  tag : Nat
  code : Nat
  deriving DecidableEq, Repr

/-- The render engine (R149). -/
inductive RenderEngine where
  | idle
  | job (j : RenderJob)
  | piece (w : PieceWrite)
  deriving DecidableEq, Repr

/-- The render unit (Table 8-1). -/
structure RenderUnit where
  tiles : Vector Tile 256
  urgentLane : List Nat
  normalLane : List Nat
  engine : RenderEngine
  waiting : Option PieceWrite
  deriving DecidableEq, Repr

/-! ### Chapter 9: the composer -/

/-- The orientations (R157), carried as 1 and 2. -/
inductive Orientation where
  | landscape | portrait
  deriving DecidableEq, Repr

/-- A fill (R157), its kind carried as 1, 2 and 3. -/
inductive Fill where
  | colour (c : Nat)
  | stream (s : Nat)
  | tile (t : Nat)
  deriving DecidableEq, Repr

/-- A region's content (R157), its kind carried as 1 to 5. -/
inductive Content where
  | stream (s : Nat)
  | tile (t : Nat)
  | board (b : Nat)
  | feature
  | clock (c : Nat)
  deriving DecidableEq, Repr

/-- A rectangle in cells (R157). -/
structure Rect where
  col : Nat
  row : Nat
  width : Nat
  height : Nat
  deriving DecidableEq, Repr

/-- A region of a layout (R157). -/
structure Region where
  rect : Rect
  content : Content
  deriving DecidableEq, Repr

/-- A loaded layout (R157). -/
structure Layout where
  orientation : Orientation
  background : Fill
  spaceFill : Fill
  regions : List Region
  deriving DecidableEq, Repr

/-- What paints a layer of a frame. A `stream` stands for the stream's pinned store until the job completes. -/
inductive Paint where
  | colour (c : Nat)
  | image (i : Image)
  | stream (s : Nat)
  deriving DecidableEq, Repr

/-- Where a layer of a frame comes from (the model's own note, for the laws L8 and L9). -/
inductive Origin where
  | background | region | spaceFill | carousel | urgent
  deriving DecidableEq, Repr

/-- A layer of a frame: painted from the top left of its rectangle and clipped to it (R158). `tile` names the tile an image
layer was read from. -/
structure Layer where
  rect : Rect
  paint : Paint
  origin : Origin
  tile : Option Nat
  deriving DecidableEq, Repr

/-- A colour in its parts (R157): red 0..31, green 0..63, blue 0..31. -/
structure Rgb where
  red : Nat
  green : Nat
  blue : Nat
  deriving DecidableEq, Repr

/-- What a frame was composed from (R164). -/
inductive FrameBasis where
  | override (layout : Nat)
  | defaultTakeover
  | current (layout : Nat)
  | black
  deriving DecidableEq, Repr

/-- A frame: its layers in drawing order over black (R158). -/
structure Frame where
  orientation : Orientation
  basis : FrameBasis
  layers : List Layer
  deriving DecidableEq, Repr

/-- A buffer's role (R159), carried as 1 to 4. -/
inductive BufferRole where
  | front | ready | free | composing
  deriving DecidableEq, Repr

/-- A frame buffer (R159) and the frame it holds. -/
structure Buffer where
  role : BufferRole
  seq : Nat
  frame : Frame
  deriving DecidableEq, Repr

/-- A panel's state (R159, R176), carried as 0, 1 and 2. -/
inductive PanelState where
  | dark | standby | live
  deriving DecidableEq, Repr

/-- A panel's request (R159), carried as 0, 1 and 2. -/
inductive RequestState where
  | none | queued | composing
  deriving DecidableEq, Repr

/-- A panel record of the composer (R159). -/
structure Panel where
  state : PanelState
  current : Option Nat
  pendingLayout : Option Nat
  override : Option Nat
  bufA : Buffer
  bufB : Buffer
  nextSeq : Nat
  request : RequestState
  shown : Nat
  repeated : Nat
  deriving DecidableEq, Repr

/-- Which of a panel's two buffers. -/
inductive BufferName where
  | a | b
  deriving DecidableEq, Repr

/-- A compose job (R163): its panel, the buffer it writes, and the frame its readings give. -/
structure ComposeJob where
  panel : Nat
  buffer : BufferName
  frame : Frame
  deriving DecidableEq, Repr

/-- The composer (Table 9-1). -/
structure ComposerUnit where
  layouts : Vector (Option Layout) 32
  panels : Vector Panel 12
  queue : List Nat
  engine : Option ComposeJob
  deriving DecidableEq, Repr

/-! ### Chapter 10: the frame memory unit and the panel outputs -/

/-- A store's role (R170), carried as 1 to 4. -/
inductive StoreRole where
  | receiving | latest | free | held
  deriving DecidableEq, Repr

/-- A stream store (Table 10-1) and the pixel bytes written into it. -/
structure Store where
  role : StoreRole
  pinned : Bool
  frameNumber : Nat
  width : Nat
  height : Nat
  data : List Byte
  deriving DecidableEq, Repr

/-- A frame in reception (Table 10-1). `frameId` is the model's own name for the frame, by which its writes are bound to it. -/
structure Reception where
  frameId : Nat
  frameNumber : Nat
  width : Nat
  height : Nat
  nextIndex : Nat
  bytes : Nat
  deriving DecidableEq, Repr

/-- A stream of the frame memory unit (Table 10-1). `nextFrameId` is the model's own. -/
structure Stream where
  stores : Vector Store 3
  reception : Option Reception
  lastFrame : Nat
  lastUse : Option Nat
  lost : Bool
  nextFrameId : Nat
  deriving DecidableEq, Repr

/-- A segment write of the ingest queue, bound to its frame (R170). -/
structure SegmentWrite where
  stream : Nat
  frameId : Nat
  frameNumber : Nat
  width : Nat
  height : Nat
  first : Bool
  last : Bool
  data : List Byte
  deriving DecidableEq, Repr

/-- A channel's state (R173). -/
inductive ChannelState where
  | idle | active | preempted | halted
  deriving DecidableEq, Repr

/-- A memory channel (Table 10-1). `hasWork`: the channel holds its owner's work and has not yet reported its end. -/
structure Channel where
  state : ChannelState
  remaining : Nat
  fault : Bool
  hasWork : Bool
  deriving DecidableEq, Repr

/-- The three channels (R173). -/
inductive ChannelName where
  | ingest | compose | render
  deriving DecidableEq, Repr

/-- The transfer unit in flight (R173). `ignored`: its work has been cancelled or dropped, so its owner ignores its report.
`write`: the segment write of an INGEST unit, with a mark saying whether its frame has been abandoned. -/
structure UnitInFlight where
  channel : ChannelName
  ignored : Bool
  write : Option SegmentWrite
  abandoned : Bool
  deriving DecidableEq, Repr

/-- The frame memory unit (Table 10-1). -/
structure MemoryUnit where
  streams : Vector Stream 4
  ingestQueue : List SegmentWrite
  ingest : Channel
  compose : Channel
  render : Channel
  inFlight : Option UnitInFlight
  deriving DecidableEq, Repr

/-- A panel's output record (R176). `rateSent` is the refresh rate last sent to the panel on its link. -/
structure Output where
  linkUp : Bool
  state : PanelState
  standby : Bool
  lost : Bool
  rate : Nat
  orientation : Orientation
  setLevel : Nat
  level : Nat
  target : Nat
  rateSent : Option Nat
  deriving DecidableEq, Repr

/-- The panel output block. -/
structure OutputUnit where
  panels : Vector Output 12
  deriving DecidableEq, Repr

/-! ### Events under way between blocks -/

/-- A block's raise or end of a condition, on its way to the link unit (R13). -/
inductive ConditionEvent where
  | raise (c : Condition)
  | ends (c : Condition)
  deriving DecidableEq, Repr

/-- From the link unit to the board clock: a checked beacon (R4), "beacon overdue" (R17). -/
inductive LinkClockEvent where
  | beacon (time : TimeFields)
  | overdue
  deriving DecidableEq, Repr

/-- From the board clock to the schedule unit (R26, R27). -/
inductive DayEvent where
  | minute (n : Nat)
  | rollover (day : Nat)
  deriving DecidableEq, Repr

/-- From the board clock to the board builder (R22, R26, R27, R35). -/
inductive BuilderEvent where
  | tick
  | minute (n : Nat)
  | rollover (day : Nat)
  | hourFormatChanged
  deriving DecidableEq, Repr

/-- From the schedule unit to its recipients (R59). -/
inductive ScheduleEvent where
  | added (screening capacity : Nat)
  | capacityChanged (screening capacity : Nat)
  | phaseChanged (screening : Nat) (phase : Phase)
  | removed (screening : Nat)
  | changed (screening : Nat)
  | titleChanged (title : Nat)
  deriving DecidableEq, Repr

/-- To the render unit (R146, R147, R148). -/
inductive TileRequest where
  | redraw (tile : Nat) (lane : Lane)
  | size (tile width height : Nat)
  | empty (tile : Nat)
  deriving DecidableEq, Repr

/-- From the panel output to the composer (R159, R176). -/
inductive PanelEvent where
  | live (panel : Nat)
  | standby (panel : Nat)
  | dark (panel : Nat)
  | slot (panel : Nat)
  deriving DecidableEq, Repr

/-- From the composer to the frame memory unit (R171): a pin request of a job (`live`: for a LIVE panel), or the release of a
job's pins. -/
inductive PinEvent where
  | pin (stream : Nat) (live : Bool)
  | release
  deriving DecidableEq, Repr

/-- From the frame memory unit to the owner of a channel's work (R173, R175, R180). -/
inductive WorkReport where
  | complete
  | ended
  deriving DecidableEq, Repr

/-- From the link unit to the frame memory unit (R16, R21). -/
inductive MemoryEvent where
  | resume
  | restart
  deriving DecidableEq, Repr

/-- A cue action on its way to the panel output (R39). -/
inductive OutputCue where
  | standby (panels : List Nat)
  | wake (panels : List Nat)
  | brightness (level : Nat) (panels : List Nat)
  deriving DecidableEq, Repr

/-- Everything sent by one block and not yet taken by another, in the order sent (00_scope 3; DEDUCED, assumption 3). Run-time seconds
carry the new run time (R23). Vectors are indexed by `Block.index`. -/
structure Mail where
  /-- raises and ends of conditions, by sender -/
  conditions : Vector (List ConditionEvent) 11
  /-- size, empty and redraw requests to the render unit, by sender -/
  tiles : Vector (List TileRequest) 11
  /-- the restart of DISPLAY RESTART (R21), by recipient: how many are under way -/
  restarts : Vector Nat 11
  /-- run-time seconds (R23), by recipient -/
  seconds : Vector (List Nat) 11
  linkToClock : List LinkClockEvent
  segments : List (List Byte)
  linkToMemory : List MemoryEvent
  clockToSchedule : List DayEvent
  clockToBuilder : List BuilderEvent
  ticksToRotation : Nat
  ticksToOutput : Nat
  cuesToComposer : List (Nat × List Nat)
  cuesToRotation : List (Bool × List Nat)
  cuesToOutput : List OutputCue
  scheduleToBuilder : List ScheduleEvent
  scheduleToSeat : List ScheduleEvent
  scheduleToNotice : List ScheduleEvent
  figuresToBuilder : List Nat
  outputToComposer : List PanelEvent
  composerToMemory : List PinEvent
  memoryToComposer : List WorkReport
  memoryToRender : List WorkReport
  deriving DecidableEq, Repr

end Sys2Proof.Machine
end

