-- ==== Sys2Proof/Machine/Bytes.lean ====
section
/-! DEFINITION. How numbers, texts, sets and packets are carried in bytes: the encodings of R5, the check values of R1 and R2,
and the two envelopes of tables 1-6 and 1-7. -/

namespace Sys2Proof.Machine

open Sys2Proof

/-! ### Writing fields (R5) -/

/-- A one-byte field. -/
def put1 (n : Nat) : List Byte := [byteOf n]

/-- A number: two bytes, high byte first. -/
def put2 (n : Nat) : List Byte := [byteOf (n / 256), byteOf n]

/-- A run time or 32-bit count: four bytes, high byte first. -/
def put4 (n : Nat) : List Byte := put2 (n / 65536) ++ put2 n

/-- A text: a count byte, then one byte a character. -/
def putText (t : List Byte) : List Byte := byteOf t.length :: t

/-- A set or list of numbers: a count byte, then its members. -/
def putSet (xs : List Nat) : List Byte := byteOf xs.length :: xs.flatMap put2

/-- An optional field: a presence byte, then the value when present. -/
def putOpt {α : Type} (f : α → List Byte) : Option α → List Byte
  | none => [byteOf 0]
  | some a => byteOf 1 :: f a

/-- "None" and "ANY" in a two-byte field: 65535. -/
def put2OrNone : Option Nat → List Byte
  | none => put2 65535
  | some n => put2 n

/-- "None" in a one-byte field: 255. -/
def put1OrNone : Option Nat → List Byte
  | none => put1 255
  | some n => put1 n

/-- A flag: 1 or 0. -/
def putFlag (b : Bool) : List Byte := put2 (if b then 1 else 0)

/-! ### Reading fields (R5): each reader takes its bytes off the front, or fails where they are too few -/

/-- Read a one-byte field. -/
def get1 : List Byte → Option (Nat × List Byte)
  | b :: rest => some (b.toNat, rest)
  | [] => none

/-- Read a number. -/
def get2 : List Byte → Option (Nat × List Byte)
  | hi :: lo :: rest => some (hi.toNat * 256 + lo.toNat, rest)
  | _ => none

/-- Read a run time or 32-bit count. -/
def get4 (bs : List Byte) : Option (Nat × List Byte) := do
  let (hi, bs) ← get2 bs
  let (lo, bs) ← get2 bs
  return (hi * 65536 + lo, bs)

/-- Read `n` values one after another. -/
def getMany {α : Type} (get : List Byte → Option (α × List Byte)) : Nat → List Byte → Option (List α × List Byte)
  | 0, bs => some ([], bs)
  | n + 1, bs => do
    let (x, bs) ← get bs
    let (xs, bs) ← getMany get n bs
    return (x :: xs, bs)

/-- Read a count byte and that many values. -/
def getList {α : Type} (get : List Byte → Option (α × List Byte)) (bs : List Byte) : Option (List α × List Byte) := do
  let (n, bs) ← get1 bs
  getMany get n bs

/-- Read a set of numbers. -/
def getSet : List Byte → Option (List Nat × List Byte) := getList get2

/-- Read a set of numbers for which a count byte of 255 stands for ALL (R87). -/
def getSetOrAll (bs : List Byte) : Option (Option (List Nat) × List Byte) := do
  let (n, bs) ← get1 bs
  if n = 255 then return (none, bs)
  let (xs, bs) ← getMany get2 n bs
  return (some xs, bs)

/-- Read a text. -/
def getText (bs : List Byte) : Option (List Byte × List Byte) := do
  let (n, bs) ← get1 bs
  if n ≤ bs.length then return (bs.take n, bs.drop n)
  none

/-- Read an optional field; a presence byte other than 0 and 1 fails (DEDUCED, assumption 18). -/
def getOpt {α : Type} (get : List Byte → Option (α × List Byte)) (bs : List Byte) : Option (Option α × List Byte) := do
  let (p, bs) ← get1 bs
  if p = 0 then return (none, bs)
  if p = 1 then
    let (x, bs) ← get bs
    return (some x, bs)
  none

/-- The value of a reader that must use every byte. -/
def whole {α : Type} (r : Option (α × List Byte)) : Option α :=
  match r with
  | some (a, []) => some a
  | _ => none

/-! ### Check values -/

/-- A body as 16-bit words, high byte first, an odd last byte being a high byte (R1). -/
def bodyWords : List Byte → List Nat
  | [] => []
  | [a] => [a.toNat * 256]
  | a :: b :: rest => (a.toNat * 256 + b.toNat) :: bodyWords rest

/-- 16-bit addition with the carry out of the top bit added back in at the bottom (R1). -/
def onesAdd (x y : Nat) : Nat := if x + y < 65536 then x + y else x + y - 65535

/-- The ones'-complement sum of a body (R1). -/
def onesSum (body : List Byte) : Nat := (bodyWords body).foldl onesAdd 0

/-- The modulo-65536 sum of a list of byte values (R2). -/
def plainSum (values : List Nat) : Nat := values.sum % 65536

/-! ### Envelopes -/

/-- The feed port's envelope (Table 1-6). -/
def feedPacket (kind tag : Nat) (body : List Byte) : List Byte :=
  put1 kind ++ put1 tag ++ put2 body.length ++ body ++ put2 (onesSum body)

/-- Escaping on the desk line (R2): 0xFE is sent as 0xFD 0xFF and 0xFD as 0xFD 0xFC. -/
def deskEscape (b : Byte) : List Byte :=
  if b = 0xFE then [0xFD, 0xFF] else if b = 0xFD then [0xFD, 0xFC] else [b]

/-- The desk port's envelope, escaped after the start byte (Table 1-7, R2). -/
def deskPacket (kind tag : Nat) (body : List Byte) : List Byte :=
  let inner := put1 (body.length + 2) ++ put1 kind ++ put1 tag ++ body
  0xFE :: (inner ++ put2 (plainSum (inner.map BitVec.toNat))).flatMap deskEscape

/-- The number an outcome is carried as (Table 1-10). -/
def OutcomeCode.number : OutcomeCode → Nat
  | .done => 0
  | .doneClamped => 1
  | .notOwner => 2
  | .noSuch => 3
  | .full => 4
  | .outOfRange => 5
  | .tooLate => 6
  | .duplicate => 7
  | .malformed => 8
  | .refusedState => 9

/-- An answer's body (Table 1-10). -/
def Answer.body (a : Answer) : List Byte := put1 a.code ++ put1 a.outcome.number ++ a.record

/-- An answer as its port sends it: kind 4 ANSWER in the port's own envelope (R10). -/
def Answer.packet (p : Port) (a : Answer) : List Byte :=
  match p with
  | .feed => feedPacket 4 a.tag a.body
  | .desk => deskPacket 4 a.tag a.body

end Sys2Proof.Machine
end

