-- ==== Sys2Proof/Machine/Operands.lean ====
section
/-! DEFINITION. The operand forms of the directives: the shape check of R5, which reads a directive body (Table 1-11) or a tally
body (Table 1-9) into its fields, and the target and group of each directive (Table 1-2). Field widths follow R5: a number takes
two bytes unless its own rule carries it in one (DEDUCED, assumption 15). -/

namespace Sys2Proof.Machine

open Sys2Proof

/-- The rest of a body as it stands. -/
def getRest (bs : List Byte) : Option (List Byte × List Byte) := some (bs, [])

/-- A kind byte and a number byte (R124, R157). -/
def getCodedByte (bs : List Byte) : Option (Coded × List Byte) := do
  let (k, bs) ← get1 bs
  let (n, bs) ← get1 bs
  return (⟨k, n⟩, bs)

/-- A fill: a kind byte and a two-byte value (R157). -/
def getFill (bs : List Byte) : Option (Coded × List Byte) := do
  let (k, bs) ← get1 bs
  let (n, bs) ← get2 bs
  return (⟨k, n⟩, bs)

/-- A region of LOAD LAYOUT (R157). -/
def getRegion (bs : List Byte) : Option (RegionFields × List Byte) := do
  let (c, bs) ← get2 bs
  let (r, bs) ← get2 bs
  let (w, bs) ← get2 bs
  let (h, bs) ← get2 bs
  let (k, bs) ← getCodedByte bs
  return (⟨c, r, w, h, k⟩, bs)

/-- The six fields of a beacon body (Table 1-8). -/
def getTime (bs : List Byte) : Option (TimeFields × List Byte) := do
  let (d, bs) ← get2 bs
  let (w, bs) ← get1 bs
  let (h, bs) ← get1 bs
  let (m, bs) ← get1 bs
  let (s, bs) ← get1 bs
  return (⟨d, w, h, m, s⟩, bs)

/-- The parameters of SELL and REFUND (Table 1-9). -/
def readCounted (bs : List Byte) : Option (Nat × Nat) := whole do
  let (scr, bs) ← get2 bs
  let (n, bs) ← get1 bs
  return ((scr, n), bs)

/-- The parameters of HOLD (Table 1-9). -/
def readHold (bs : List Byte) : Option Directive := whole do
  let (scr, bs) ← get2 bs
  let (id, bs) ← get2 bs
  let (seats, bs) ← get1 bs
  let (minutes, bs) ← get1 bs
  return (.hold scr id seats minutes, bs)

/-- The parameters of SET SOLD (Table 1-9). -/
def readSetSold (bs : List Byte) : Option Directive := whole do
  let (scr, bs) ← get2 bs
  let (s, bs) ← get2 bs
  let (b, bs) ← get2 bs
  return (.setSold scr s b, bs)

/-- A tally message: its type 1 to 6, which is also its directive code, and the bytes after it (Table 1-9). -/
def readTally (type : Nat) (bs : List Byte) : Option Directive :=
  match type with
  | 1 => (readCounted bs).map fun (scr, n) => .sell scr n
  | 2 => (readCounted bs).map fun (scr, n) => .refund scr n
  | 3 => readHold bs
  | 4 => (whole (get2 bs)).map .confirm
  | 5 => (whole (get2 bs)).map .release
  | 6 => readSetSold bs
  | _ => none

/-- LOAD TITLE (R43). -/
def readLoadTitle (bs : List Byte) : Option Directive := whole do
  let (n, bs) ← get2 bs
  let (t, bs) ← getText bs
  let (r, bs) ← getText bs
  let (m, bs) ← get2 bs
  return (.loadTitle n t r m, bs)

/-- LOAD SCREENING (R44, R51). -/
def readLoadScreening (bs : List Byte) : Option Directive := whole do
  let (n, bs) ← get2 bs
  let (day, bs) ← get2 bs
  let (aud, bs) ← get2 bs
  let (title, bs) ← get2 bs
  let (t, bs) ← get2 bs
  let (d, bs) ← get2 bs
  let (c, bs) ← get2 bs
  let (badges, bs) ← getSet bs
  let (note, bs) ← getText bs
  return (.loadScreening ⟨n, day, aud, title, t, d, c, badges, note⟩, bs)

/-- AMEND SCREENING (R55). -/
def readAmendScreening (bs : List Byte) : Option Directive := whole do
  let (n, bs) ← get2 bs
  let (d, bs) ← getOpt get2 bs
  let (c, bs) ← getOpt get2 bs
  let (badges, bs) ← getOpt getSet bs
  let (note, bs) ← getOpt getText bs
  return (.amendScreening n d c badges note, bs)

/-- DEFINE BOARD (R87, R88). -/
def readDefineBoard (bs : List Byte) : Option Directive := whole do
  let (b, bs) ← get2 bs
  let (aud, bs) ← getSetOrAll bs
  let (title, bs) ← get2 bs
  let (sort, bs) ← get2 bs
  let (rows, bs) ← get2 bs
  let (dwell, bs) ← get2 bs
  let (canc, bs) ← get2 bs
  let (width, bs) ← get2 bs
  return (.defineBoard b ⟨aud, title, sort, rows, dwell, canc, width⟩, bs)

/-- POST NOTICE (R108, R109). -/
def readPostNotice (bs : List Byte) : Option Directive := whole do
  let (n, bs) ← get2 bs
  let (cls, bs) ← get2 bs
  let (text, bs) ← getText bs
  let (targets, bs) ← getSet bs
  let (bound, bs) ← getOpt get2 bs
  let (life, bs) ← getOpt get2 bs
  return (.postNotice ⟨n, cls, text, targets, bound, life⟩, bs)

/-- SET CUE (R37): the parameters after the action kind depend on the kind; those of an unknown kind are left unread
(DEDUCED, assumption 19). -/
def readSetCue (bs : List Byte) : Option Directive := whole do
  let (cue, bs) ← get2 bs
  let (en, bs) ← get2 bs
  let (wd, bs) ← get2 bs
  let (h, bs) ← get2 bs
  let (m, bs) ← get2 bs
  let (kind, bs) ← get2 bs
  if kind = 1 ∨ kind = 6 then
    let (arg, bs) ← get2 bs
    let (set, bs) ← getSet bs
    return (.setCue cue ⟨en, wd, h, m, kind, arg, set⟩, bs)
  if 2 ≤ kind ∧ kind ≤ 5 then
    let (set, bs) ← getSet bs
    return (.setCue cue ⟨en, wd, h, m, kind, 0, set⟩, bs)
  return (.setCue cue ⟨en, wd, h, m, kind, 0, []⟩, [])

/-- SET NOTICE STYLE (R119). -/
def readNoticeStyle (bs : List Byte) : Option Directive := whole do
  let (a, bs) ← get2 bs
  let (b, bs) ← get2 bs
  let (c, bs) ← get2 bs
  let (d, bs) ← get2 bs
  let (e, bs) ← get2 bs
  let (f, bs) ← get2 bs
  return (.setNoticeStyle ⟨a, b, c, d, e, f⟩, bs)

/-- SET CAROUSEL (R124). -/
def readSetCarousel (bs : List Byte) : Option Directive := whole do
  let (c, bs) ← get2 bs
  let (m, bs) ← get2 bs
  let (p, bs) ← getList getCodedByte bs
  let (s, bs) ← getList getCodedByte bs
  return (.setCarousel c m p s, bs)

/-- SET PERIODS (R125). -/
def readSetPeriods (bs : List Byte) : Option Directive := whole do
  let (c, bs) ← get2 bs
  let (pm, bs) ← getOpt get2 bs
  let (ps, bs) ← getOpt get2 bs
  let (sm, bs) ← getOpt get2 bs
  let (ss, bs) ← getOpt get2 bs
  return (.setPeriods c pm ps sm ss, bs)

/-- SET QUIET (R131). -/
def readSetQuiet (bs : List Byte) : Option Directive := whole do
  let (set, bs) ← getSet bs
  let (v, bs) ← get2 bs
  return (.setQuiet set v, bs)

/-- SET SYNC GROUP (R134): the leader is a one-byte field, "none" being 255. -/
def readSetSyncGroup (bs : List Byte) : Option Directive := whole do
  let (g, bs) ← get2 bs
  let (l, bs) ← get1 bs
  let (set, bs) ← getSet bs
  return (.setSyncGroup g l set, bs)

/-- LOAD IMAGE (R142). -/
def readLoadImage (bs : List Byte) : Option Directive := whole do
  let (t, bs) ← get2 bs
  let (w, bs) ← get2 bs
  let (h, bs) ← get2 bs
  let (g, bs) ← get4 bs
  return (.loadImage t w h g, bs)

/-- IMAGE PIECE (R143): the piece fills the rest of the body and is not empty. The piece length is the body length less 6, with
the code in byte 0 of the body, so the tile number takes one byte (DEDUCED, assumption 15). -/
def readImagePiece (bs : List Byte) : Option Directive := do
  let (t, bs) ← get1 bs
  let (o, bs) ← get4 bs
  if bs = [] then none else some (.imagePiece t o bs)

/-- LOAD TEXT TILE (R144). -/
def readLoadTextTile (bs : List Byte) : Option Directive := whole do
  let (t, bs) ← get2 bs
  let (w, bs) ← get2 bs
  let (h, bs) ← get2 bs
  let (g, bs) ← get2 bs
  let (text, bs) ← getText bs
  return (.loadTextTile t w h g text, bs)

/-- LOAD LAYOUT (R157). -/
def readLoadLayout (bs : List Byte) : Option Directive := whole do
  let (n, bs) ← get2 bs
  let (o, bs) ← get2 bs
  let (bg, bs) ← getFill bs
  let (sp, bs) ← getFill bs
  let (regions, bs) ← getList getRegion bs
  return (.loadLayout n ⟨o, bg, sp, regions⟩, bs)

/-- A number and then a set: APPLY LAYOUT, SET BRIGHTNESS (R160, R177). -/
def readNumberAndSet (bs : List Byte) : Option (Nat × List Nat) := whole do
  let (n, bs) ← get2 bs
  let (set, bs) ← getSet bs
  return ((n, set), bs)

/-- SET OVERRIDE (R160): the layout is a one-byte field, "none" being 255. -/
def readSetOverride (bs : List Byte) : Option Directive := whole do
  let (n, bs) ← get1 bs
  let (set, bs) ← getSet bs
  return (.setOverride n set, bs)

/-- SET PANEL (R177). -/
def readSetPanel (bs : List Byte) : Option Directive := whole do
  let (p, bs) ← get2 bs
  let (r, bs) ← get2 bs
  let (o, bs) ← get2 bs
  return (.setPanel p r o, bs)

/-- SET HOUSE and GRANT: two numbers (R35, R9). -/
def readTwo (bs : List Byte) : Option (Nat × Nat) := whole do
  let (a, bs) ← get2 bs
  let (b, bs) ← get2 bs
  return ((a, b), bs)

/-- SET PHASE TIMES (R46). -/
def readPhaseTimes (bs : List Byte) : Option Directive := whole do
  let (a, bs) ← get2 bs
  let (w, bs) ← get2 bs
  let (z, bs) ← get2 bs
  let (q, bs) ← get2 bs
  let (k, bs) ← get2 bs
  return (.setPhaseTimes ⟨a, w, z, q, k⟩, bs)

/-- SET BANDS (R84). -/
def readBands (bs : List Byte) : Option Directive := whole do
  let (a, bs) ← get2 bs
  let (b, bs) ← get2 bs
  let (c, bs) ← get2 bs
  let (d, bs) ← get2 bs
  let (e, bs) ← get2 bs
  let (f, bs) ← get2 bs
  return (.setBands ⟨a, b, c, d, e, f⟩, bs)

/-- Whether a record kind of R12 carries a key. -/
def queryHasKey (kind : Nat) : Bool := kind ≠ 3 && kind ≠ 6 && kind ≠ 10 && kind ≠ 19

/-- QUERY (R12): a record kind in one byte, then the key where the kind has one. -/
def readQuery (bs : List Byte) : Option Directive := whole do
  let (kind, bs) ← get1 bs
  if kind < 1 ∨ 19 < kind then none
  if queryHasKey kind then
    let (key, bs) ← get2 bs
    return (.query kind key, bs)
  return (.query kind 0, bs)

/-- The parameters of the directive with a code of Table 1-11; `none` where the code is unknown or the shape is wrong (R5). -/
def readParameters (code : Nat) (bs : List Byte) : Option Directive :=
  match code with
  | 7 => readLoadTitle bs
  | 8 => readLoadScreening bs
  | 9 => readAmendScreening bs
  | 10 => (whole (get2 bs)).map .cancelScreening
  | 11 => (whole (get2 bs)).map .dropScreening
  | 12 => readDefineBoard bs
  | 13 => (whole (get2 bs)).map .clearBoard
  | 14 => readPostNotice bs
  | 15 => (whole (get2 bs)).map .withdrawNotice
  | 16 => readSetCue bs
  | 17 => (whole (get2 bs)).map .clearCue
  | 18 => readNoticeStyle bs
  | 19 => readSetCarousel bs
  | 20 => readSetPeriods bs
  | 21 => readSetQuiet bs
  | 22 => (whole (getSet bs)).map .carouselOn
  | 23 => (whole (getSet bs)).map .carouselOff
  | 24 => readSetSyncGroup bs
  | 25 => readLoadImage bs
  | 26 => readImagePiece bs
  | 27 => readLoadTextTile bs
  | 28 => (whole (get2 bs)).map .clearTile
  | 29 => readLoadLayout bs
  | 30 => (readNumberAndSet bs).map fun (n, set) => .applyLayout n set
  | 31 => readSetOverride bs
  | 32 => readSetPanel bs
  | 33 => (whole (getSet bs)).map .panelStandby
  | 34 => (whole (getSet bs)).map .wake
  | 35 => (readNumberAndSet bs).map fun (n, set) => .setBrightness n set
  | 36 => (whole (getTime bs)).map .setClock
  | 37 => (readTwo bs).map fun (f, d) => .setHouse f d
  | 38 => readPhaseTimes bs
  | 39 => readBands bs
  | 40 => (readTwo bs).map fun (g, o) => .grant g o
  | 41 => (whole (getSet bs)).map .setReports
  | 42 => if bs = [] then some .reset else none
  | 43 => if bs = [] then some .displayRestart else none
  | 44 => readQuery bs
  | 45 => (whole (getSet bs)).map .acknowledge
  | _ => readTally code bs

/-- The shape check of a DIRECTIVE packet's body (R5): its directive, or `none`. -/
def readDirective : List Byte → Option Directive
  | code :: params => readParameters code.toNat params
  | [] => none

/-- The shape check of a TALLY packet's body (R5): its directive, or `none`. -/
def readTallyBody : List Byte → Option Directive
  | type :: params => readTally type.toNat params
  | [] => none

/-- The byte an answer names its packet by: byte 0 of the body, or 0 when the body is empty (Table 1-10). -/
def codeOf : List Byte → Nat
  | [] => 0
  | b :: _ => b.toNat

/-- The owner of a QUERY's record (R12). -/
def queryOwner (kind : Nat) : Block :=
  if kind ≤ 3 then .schedule
  else if kind ≤ 6 then .seat
  else if kind = 7 then .builder
  else if kind ≤ 9 then .notice
  else if kind ≤ 11 then .clock
  else if kind ≤ 13 then .rotation
  else if kind = 14 then .render
  else if kind ≤ 16 then .composer
  else if kind = 17 then .output
  else if kind = 18 then .memory
  else .link

/-- The target unit of each directive (Table 1-2). -/
def Directive.target : Directive → Block
  | .loadTitle .. | .loadScreening .. | .amendScreening .. | .cancelScreening .. | .dropScreening .. => .schedule
  | .setPhaseTimes .. => .schedule
  | .defineBoard .. | .clearBoard .. => .builder
  | .sell .. | .refund .. | .hold .. | .confirm .. | .release .. | .setSold .. | .setBands .. => .seat
  | .postNotice .. | .withdrawNotice .. | .setNoticeStyle .. => .notice
  | .setCue .. | .clearCue .. | .setClock .. | .setHouse .. => .clock
  | .setCarousel .. | .setPeriods .. | .setQuiet .. | .carouselOn .. | .carouselOff .. | .setSyncGroup .. => .rotation
  | .loadImage .. | .imagePiece .. | .loadTextTile .. | .clearTile .. => .render
  | .loadLayout .. | .applyLayout .. | .setOverride .. => .composer
  | .setPanel .. | .panelStandby .. | .wake .. | .setBrightness .. => .output
  | .grant .. | .setReports .. | .reset | .displayRestart | .acknowledge .. => .link
  | .query kind _ => queryOwner kind

/-- The table group of each directive (Table 1-2, Table 1-3); QUERY and ACKNOWLEDGE have none. -/
def Directive.group : Directive → Option Group
  | .loadTitle .. | .loadScreening .. | .amendScreening .. | .cancelScreening .. | .dropScreening .. => some .schedule
  | .defineBoard .. | .clearBoard .. => some .schedule
  | .sell .. | .refund .. | .hold .. | .confirm .. | .release .. | .setSold .. => some .tally
  | .postNotice .. | .withdrawNotice .. => some .notices
  | .setCue .. | .clearCue .. | .setNoticeStyle .. => some .display
  | .setCarousel .. | .setPeriods .. | .setQuiet .. | .carouselOn .. | .carouselOff .. | .setSyncGroup .. => some .display
  | .loadImage .. | .imagePiece .. | .loadTextTile .. | .clearTile .. => some .display
  | .loadLayout .. | .applyLayout .. | .setOverride .. => some .display
  | .setPanel .. | .panelStandby .. | .wake .. | .setBrightness .. => some .display
  | .setClock .. | .setHouse .. | .setPhaseTimes .. | .setBands .. => some .house
  | .grant .. | .setReports .. | .reset | .displayRestart => some .house
  | .query .. | .acknowledge .. => none

/-- The number of a table group (R9). -/
def Group.number : Group → Nat
  | .schedule => 0
  | .tally => 1
  | .notices => 2
  | .display => 3
  | .house => 4

end Sys2Proof.Machine
end

