-- ==== Sys2Proof/Machine/State.lean ====
section
/-! DEFINITION. The state of the LQ-12: the eleven blocks of 00_scope 3, the events under way between them, what the two ports'
lines last carried, and the queue of waiting commands; and the state after a full reset, block by block. -/

namespace Sys2Proof.Machine

open Sys2Proof

/-- The whole part. `pending` is the queue of commands that wait (the model's own). `feedLine` and `deskLine` are the bytes of
the packet each port last sent in full (R10, R14). `choices` counts the free choices made (the model's own, DESIGN CHOICE, assumption 12). -/
structure State where
  pending : List Instr
  link : LinkUnit
  clock : Clock
  schedule : ScheduleUnit
  seat : SeatUnit
  builder : BuilderUnit
  notice : NoticeUnit
  rotation : RotationUnit
  render : RenderUnit
  composer : ComposerUnit
  memory : MemoryUnit
  output : OutputUnit
  mail : Mail
  feedLine : List Byte
  deskLine : List Byte
  choices : Nat
  deriving DecidableEq, Repr

/-- What stops the part with a fault: nothing. The manual gives every command an effect in every state (or leaves the command
waiting), so the type has no constructor and no step ends in a fault. Safe: no behaviour is cut off. -/
inductive Fault where
  deriving DecidableEq, Repr

/-- Why a command has no meaning. -/
inductive Refusal where
  /-- Raised by `exec` alone, for a command whose meaning has not been written. Safe: nothing can be proved of the command. -/
  | notModelled (mnemonic : String)
  deriving DecidableEq, Repr

/-! ### After a full reset -/

/-- A port after a full reset (R20). -/
def PortState.atReset : PortState := ⟨[], ⟨[], 0⟩, 0, 0⟩

/-- The link unit after a full reset (R20): CLOCK_UNSET is set and its report due, every enable is on. -/
def LinkUnit.atReset : LinkUnit where
  feedReceiver := .idle
  deskReceiver := .hunting
  ports := ⟨.atReset, .atReset⟩
  handoff := Vector.replicate 11 ⟨[], []⟩
  owners := #v[.feed, .desk, .desk, .feed, .feed]
  flags := #v[true, false, false, false, false, false, false, false, false, false, false, false]
  enables := Vector.replicate 12 true
  due := #v[true, false, false, false, false, false, false, false, false, false, false, false]
  watch := ⟨0, false⟩
  resetPending := none
  restartPending := none

/-- The board clock after a full reset (R42). -/
def Clock.atReset : Clock where
  state := .unset
  hour := 0
  minute := 0
  second := 0
  weekday := 1
  day := 0
  tenths := 0
  secondOwed := false
  runTime := 0
  mark := none
  hourFormat := .h24
  dayStart := 6
  cues := Vector.replicate 16 none

/-- The schedule unit after a full reset (R62, R46). -/
def ScheduleUnit.atReset : ScheduleUnit where
  titles := Vector.replicate 128 none
  table := []
  settings := ⟨20, 15, 240, 10, 15⟩
  viewDay := 0
  viewMinute := none

/-- The seat unit after a full reset (R86, R84). -/
def SeatUnit.atReset : SeatUnit where
  tallies := []
  holds := []
  bands := ⟨20, 900, 600, 5, 30, 2⟩
  oversold := 0

/-- The board builder after a full reset (R106). -/
def BuilderUnit.atReset : BuilderUnit where
  boards := Vector.replicate 8 ⟨none, [], 0, none⟩
  viewDay := 0
  viewMinute := none

/-- The notice unit after a full reset (R122, R119). -/
def NoticeUnit.atReset : NoticeUnit where
  notices := []
  urgent := Vector.replicate 12 ⟨[], none, none⟩
  style := ⟨8, 24, 8, 48, 27, 63488⟩

/-- A carousel after a full reset (R139). -/
def Carousel.atReset : Carousel where
  run := .stopped
  content := ⟨.single, [], []⟩
  primaryCursor := 0
  secondaryCursor := 0
  noticeStep := 0
  choice := .primary
  phase := none
  remaining := none
  shown := none
  active := ⟨100, 0, 100, 0⟩
  pending := ⟨⟨100, false⟩, ⟨0, false⟩, ⟨100, false⟩, ⟨0, false⟩⟩
  pendingContent := none
  quiet := false
  quietInEffect := false
  group := none

/-- The rotation unit after a full reset (R139). -/
def RotationUnit.atReset : RotationUnit where
  carousels := Vector.replicate 12 .atReset
  leaders := Vector.replicate 4 none

/-- A tile after a full reset, with the size it has then (R155). -/
def Tile.atReset (size : Option (Nat × Nat)) : Tile where
  size := size
  state := .empty
  lane := .normal
  image := none
  byteTotal := 0
  bytesReceived := 0
  loadData := []
  glyphSet := .small
  text := []

/-- The tile table after a full reset: the clock tiles 192 to 199 hold their fixed sizes, the others none (R141, R155). -/
def tilesAtReset : Vector Tile 256 :=
  Vector.replicate 192 (Tile.atReset none) ++ Vector.replicate 4 (Tile.atReset (some (8, 2)))
    ++ Vector.replicate 4 (Tile.atReset (some (4, 1))) ++ Vector.replicate 56 (Tile.atReset none)

/-- The render unit after a full reset (R155). -/
def RenderUnit.atReset : RenderUnit where
  tiles := tilesAtReset
  urgentLane := []
  normalLane := []
  engine := .idle
  waiting := none

/-- The black frame (R164). -/
def Frame.black (o : Orientation) : Frame := ⟨o, .black, []⟩

/-- A buffer after a full reset (R168). -/
def Buffer.atReset : Buffer := ⟨.free, 0, .black .landscape⟩

/-- A panel record after a full reset (R168). -/
def Panel.atReset : Panel where
  state := .dark
  current := none
  pendingLayout := none
  override := none
  bufA := .atReset
  bufB := .atReset
  nextSeq := 1
  request := .none
  shown := 0
  repeated := 0

/-- The composer after a full reset (R168). -/
def ComposerUnit.atReset : ComposerUnit where
  layouts := Vector.replicate 32 none
  panels := Vector.replicate 12 .atReset
  queue := []
  engine := none

/-- A store in a given role, with the frame the configuration names for a store nothing has been completed in (R180). -/
def Store.atReset (role : StoreRole) : Store where
  role := role
  pinned := false
  frameNumber := Config.storeFrameAtReset.1
  width := Config.storeFrameAtReset.2.1
  height := Config.storeFrameAtReset.2.2
  data := []

/-- The stores of a stream after a full reset: store 0 RECEIVING, stores 1 and 2 FREE (R180). -/
def storesAtReset : Vector Store 3 := #v[.atReset .receiving, .atReset .free, .atReset .free]

/-- A stream after a full reset (R180). -/
def Stream.atReset : Stream := ⟨storesAtReset, none, 0, none, false, 0⟩

/-- A channel after a full reset (R180). -/
def Channel.atReset : Channel := ⟨.idle, 0, false, false⟩

/-- The frame memory unit after a full reset (R180). -/
def MemoryUnit.atReset : MemoryUnit where
  streams := Vector.replicate 4 .atReset
  ingestQueue := []
  ingest := .atReset
  compose := .atReset
  render := .atReset
  inFlight := none

/-- An output record after a full reset (R180). -/
def Output.atReset : Output where
  linkUp := false
  state := .dark
  standby := false
  lost := false
  rate := 60
  orientation := .landscape
  setLevel := 15
  level := 0
  target := 15
  rateSent := Config.rateSentAtReset

/-- The panel output after a full reset (R180). -/
def OutputUnit.atReset : OutputUnit := ⟨Vector.replicate 12 .atReset⟩

/-- The redraw requests for the clock tiles 192 to 199 (R40), in ascending tile number (DESIGN CHOICE, assumption 28: R40 and R148
give no order). -/
def clockTileRequests : List TileRequest := (List.range' 192 8).map fun t => .redraw t .normal

/-- No event is under way after a full reset but the board clock's requests for its tiles (R42; 1 is the board clock's index). -/
def Mail.atReset : Mail where
  conditions := Vector.replicate 11 []
  tiles := (Vector.replicate 11 []).set 1 clockTileRequests
  restarts := Vector.replicate 11 0
  seconds := Vector.replicate 11 []
  linkToClock := []
  segments := []
  linkToMemory := []
  clockToSchedule := []
  clockToBuilder := []
  ticksToRotation := 0
  ticksToOutput := 0
  cuesToComposer := []
  cuesToRotation := []
  cuesToOutput := []
  scheduleToBuilder := []
  scheduleToSeat := []
  scheduleToNotice := []
  figuresToBuilder := []
  outputToComposer := []
  composerToMemory := []
  memoryToComposer := []
  memoryToRender := []

/-- The part right after power-on: every block as its chapter gives it after a full reset (R20, R42, R62, R86, R106, R122,
R139, R155, R168, R180). -/
def State.reset : State where
  pending := []
  link := .atReset
  clock := .atReset
  schedule := .atReset
  seat := .atReset
  builder := .atReset
  notice := .atReset
  rotation := .atReset
  render := .atReset
  composer := .atReset
  memory := .atReset
  output := .atReset
  mail := .atReset
  feedLine := []
  deskLine := []
  choices := 0

end Sys2Proof.Machine
end

