-- ==== Sys2Proof/Machine/Ops.lean ====
section
/-! DEFINITION. The named operations the commands share: reading and writing tables of records, the queues of a port, taking a
directive and answering it (R8 to R11), and sending events from block to block. -/

namespace Sys2Proof

/-- A block's place in the vectors that hold one thing for each block. -/
def Block.index : Block → Fin 11
  | .link => 0
  | .clock => 1
  | .schedule => 2
  | .seat => 3
  | .builder => 4
  | .notice => 5
  | .rotation => 6
  | .render => 7
  | .composer => 8
  | .memory => 9
  | .output => 10

end Sys2Proof

namespace Sys2Proof.Machine

open Sys2Proof

/-! ### Tables of records -/

/-- Store at an index that is in range by its type. -/
def put {α : Type} {n : Nat} (v : Vector α n) (i : Fin n) (a : α) : Vector α n := v.set i.val a i.isLt

/-- Change the record numbered `i`, if there is one. -/
def modifyAt {α : Type} {n : Nat} (v : Vector α n) (i : Nat) (f : α → α) : Vector α n :=
  if h : i < n then v.set i (f v[i]) h else v

/-- Change every record. -/
def mapAll {α β : Type} {n : Nat} (f : α → β) (v : Vector α n) : Vector β n := ⟨⟨v.toList.map f⟩, by simp⟩

/-- Whether a list names something twice. -/
def hasRepeat (xs : List Nat) : Bool := !decide xs.Nodup

/-- A set of panels or carousels that is non-empty, with members 0 to 11, none twice (R131, R160, R177). -/
def validSet (xs : List Nat) : Bool := !xs.isEmpty && xs.all (· ≤ 11) && !hasRepeat xs

/-- One thing of the two ports. -/
def PerPort.get {α : Type} (x : PerPort α) : Port → α
  | .feed => x.feed
  | .desk => x.desk

/-- Replace one thing of the two ports. -/
def PerPort.put {α : Type} (x : PerPort α) (p : Port) (a : α) : PerPort α :=
  match p with
  | .feed => { x with feed := a }
  | .desk => { x with desk := a }

/-- A count that saturates at 65535 goes up by 1 (R3, R6). -/
def saturate16 (n : Nat) : Nat := min (n + 1) maxCount16

/-- A sum of run times, held at the highest run time (R50, R73, R110). -/
def addTime (t d : Nat) : Nat := min (t + d) maxCount32

/-! ### A port's queues -/

/-- What the link unit holds for a port. -/
def State.port (s : State) (p : Port) : PortState := s.link.ports.get p

/-- Replace what the link unit holds for a port. -/
def State.putPort (s : State) (p : Port) (x : PortState) : State :=
  { s with link := { s.link with ports := s.link.ports.put p x } }

/-- A unit's handoff queue for a port (R7). -/
def State.handoffOf (s : State) (u : Block) (p : Port) : List Packet := s.link.handoff[u.index].get p

/-- Replace a unit's handoff queue for a port. -/
def State.putHandoff (s : State) (u : Block) (p : Port) (q : List Packet) : State :=
  { s with link := { s.link with handoff := Machine.put s.link.handoff u.index (s.link.handoff[u.index].put p q) } }

/-- Whether a port's answer queue has a free place that is not reserved (R8, R10: 16 places). -/
def State.hasRoom (s : State) (p : Port) : Bool :=
  (s.port p).answers.answers.length + (s.port p).answers.reserved < 16

/-- Put an answer at the tail of a port's answer queue (R10). -/
def State.issue (s : State) (p : Port) (a : Answer) : State :=
  let x := s.port p
  s.putPort p { x with answers := { x.answers with answers := x.answers.answers ++ [a] } }

/-- Reserve a place of a port's answer queue (R8). -/
def State.reserve (s : State) (p : Port) : State :=
  let x := s.port p
  s.putPort p { x with answers := { x.answers with reserved := x.answers.reserved + 1 } }

/-- Issue an answer into the place reserved for it (R8). -/
def State.issueReserved (s : State) (p : Port) (a : Answer) : State :=
  let x := s.port p
  s.putPort p { x with answers := ⟨x.answers.answers ++ [a], x.answers.reserved - 1⟩ }

/-! ### Taking a directive -/

/-- What a unit answers: an outcome, and for a QUERY answered DONE the record (R10). -/
structure Reply where
  outcome : OutcomeCode
  record : List Byte := []
  deriving DecidableEq, Repr

/-- The answer to a packet. -/
def Packet.answer (q : Packet) (r : Reply) : Answer := ⟨q.tag, q.code, r.outcome, r.record⟩

/-- The number of a table group as an index of the ownership table. -/
def Group.index : Group → Fin 5
  | .schedule => 0
  | .tally => 1
  | .notices => 2
  | .display => 3
  | .house => 4

/-- Whether a port may send a directive: it owns the directive's group, or there is no group (R9). -/
def State.mayTake (s : State) (p : Port) (d : Directive) : Bool :=
  match d.group with
  | none => true
  | some g => s.link.owners[g.index] = p

/-- Whether the rotation unit has carried out all that fell due at the tenth-tick it has taken (R128: it takes the tick whole). -/
def RotationUnit.settled (r : RotationUnit) : Bool := r.carousels.toList.all fun c => c.remaining ≠ some 0

/-- Whether the notice unit has counted out the run-time second it has taken (R112). -/
def NoticeUnit.settled (u : NoticeUnit) : Bool := u.urgent.toList.all fun x => x.dwell ≠ some 0

/-- Whether the board builder has carried out the page dwell expiries of the tenth-tick it has taken (R94). -/
def BuilderUnit.settled (b : BuilderUnit) : Bool := b.boards.toList.all fun x => x.dwell ≠ some 0

/-- Whether the render unit is free of an IMAGE PIECE that has not been answered yet (R143). -/
def RenderUnit.pieceless (r : RenderUnit) : Bool :=
  r.waiting.isNone && (match r.engine with | .piece _ => false | _ => true)

/-- Whether a unit may take its next directive: its last one has been answered (R8), and it takes events and directives one at a
time, each whole (DESIGN CHOICE, assumption 5). -/
def State.ready (s : State) : Block → Bool
  | .builder => s.builder.settled
  | .notice => s.notice.settled
  | .rotation => s.rotation.settled
  | .render => s.render.pieceless
  | .link => s.link.restartPending.isNone
  | .clock | .schedule | .seat | .composer | .memory | .output => true

/-- R8: a unit takes the directive at the head of its handoff queue for a port, when the head is one that `select` reads, the
unit is ready for it, and the port's answer queue has a free place. A directive from a port that does not own its group is
answered NOT_OWNER; otherwise `act` acts on it. Where it cannot be taken, nothing happens: it waits (DESIGN CHOICE, assumption 2). -/
def State.take {α : Type} (u : Block) (p : Port) (select : Directive → Option α) (act : Packet → α → State → State)
    (s : State) : State :=
  match s.handoffOf u p with
  | [] => s
  | q :: rest =>
    match q.directive with
    | none => s
    | some d =>
      match select d with
      | none => s
      | some a =>
        if s.ready u && s.hasRoom p then
          if s.mayTake p d then act q a (s.putHandoff u p rest)
          else (s.putHandoff u p rest).issue p (q.answer ⟨.notOwner, []⟩)
        else s

/-- R8 with the answer issued in the same step: `act` gives the state it leaves and its reply. -/
def State.takeAndAnswer {α : Type} (u : Block) (p : Port) (select : Directive → Option α) (act : α → State → State × Reply)
    (s : State) : State :=
  s.take u p select fun q a s => (act a s).1.issue p (q.answer (act a s).2)

/-- R12: on the desk port an answer body of more than 253 bytes is not sent; the QUERY is answered REFUSED_STATE. -/
def Reply.limited (p : Port) (r : Reply) : Reply :=
  if p = .desk ∧ 253 < 2 + r.record.length then ⟨.refusedState, []⟩ else r

/-- The key of a QUERY of one kind. -/
def Directive.queryKey (kind : Nat) : Directive → Option Nat
  | .query k key => if k = kind then some key else none
  | _ => none

/-- R12: a unit takes a QUERY of one kind and answers it with a record read from the state; nothing else changes. -/
def State.takeQuery (u : Block) (p : Port) (kind : Nat) (record : Nat → State → Reply) (s : State) : State :=
  s.takeAndAnswer u p (Directive.queryKey kind) fun key s => (s, (record key s).limited p)

/-- A directive that leaves its unit as it was and answers with an outcome. -/
def refuse (s : State) (o : OutcomeCode) : State × Reply := (s, ⟨o, []⟩)

/-- A directive answered DONE in a given state. -/
def done (s : State) : State × Reply := (s, ⟨.done, []⟩)

/-! ### Sending events -/

/-- A block sends the raise or the end of a condition to the link unit (R13). -/
def State.sendCondition (s : State) (b : Block) (e : ConditionEvent) : State :=
  { s with mail := { s.mail with conditions := Machine.put s.mail.conditions b.index (s.mail.conditions[b.index] ++ [e]) } }

/-- A block sends requests to the render unit (R146 to R148). -/
def State.requestTiles (s : State) (b : Block) (rs : List TileRequest) : State :=
  { s with mail := { s.mail with tiles := Machine.put s.mail.tiles b.index (s.mail.tiles[b.index] ++ rs) } }

/-- The link unit sends a block the restart of DISPLAY RESTART (R21). -/
def State.sendRestart (s : State) (b : Block) : State :=
  { s with mail := { s.mail with restarts := Machine.put s.mail.restarts b.index (s.mail.restarts[b.index] + 1) } }

/-- A block takes a restart. -/
def State.dropRestart (s : State) (b : Block) : State :=
  { s with mail := { s.mail with restarts := Machine.put s.mail.restarts b.index (s.mail.restarts[b.index] - 1) } }

/-- The board clock delivers a run-time second to a block (R23). -/
def State.sendSecond (s : State) (b : Block) (runTime : Nat) : State :=
  { s with mail := { s.mail with seconds := Machine.put s.mail.seconds b.index (s.mail.seconds[b.index] ++ [runTime]) } }

/-- The oldest run-time second under way to a block. -/
def State.nextSecond (s : State) (b : Block) : Option Nat := s.mail.seconds[b.index].head?

/-- A block takes its oldest run-time second. -/
def State.dropSecond (s : State) (b : Block) : State :=
  { s with mail := { s.mail with seconds := Machine.put s.mail.seconds b.index s.mail.seconds[b.index].tail } }

/-- The schedule unit sends one event to the recipients R59 gives it. -/
def State.sendSchedule (s : State) (e : ScheduleEvent) : State :=
  match e with
  | .added .. | .capacityChanged .. => { s with mail := { s.mail with scheduleToSeat := s.mail.scheduleToSeat ++ [e] } }
  | .phaseChanged .. | .removed .. =>
    { s with mail := { s.mail with
        scheduleToBuilder := s.mail.scheduleToBuilder ++ [e]
        scheduleToSeat := s.mail.scheduleToSeat ++ [e]
        scheduleToNotice := s.mail.scheduleToNotice ++ [e] } }
  | .changed .. | .titleChanged .. =>
    { s with mail := { s.mail with scheduleToBuilder := s.mail.scheduleToBuilder ++ [e] } }

/-- The schedule unit sends events one after another. -/
def State.sendScheduleAll (s : State) (es : List ScheduleEvent) : State := es.foldl State.sendSchedule s

end Sys2Proof.Machine
end

