-- ==== Sys2Proof/Machine/Flags.lean ====
section
/-! DEFINITION. The condition flags of the whole part (Table 1-4): raising, ending and acknowledging them, and their reports
(R13 to R16). -/

namespace Sys2Proof.Machine

open Sys2Proof

/-- A condition's number as an index of the condition sets (Table 1-4). -/
def Condition.index : Condition → Fin 12
  | .clockUnset => 0
  | .clockUnconfirmed => 1
  | .clockConflict => 2
  | .directiveDiscard => 3
  | .lineError => 4
  | .oversold => 5
  | .tallyUnderflow => 6
  | .holdsFull => 7
  | .frameLate => 8
  | .streamLost => 9
  | .memoryFault => 10
  | .panelLost => 11

/-- The numbers of a condition set. R12 and R14 give a set without an order: here ascending (DESIGN CHOICE, assumption 15). -/
def setNumbers (v : Vector Bool 12) : List Nat := (List.range 12).filter fun i => v[i]?.getD false

/-- R13, a raise: a clear flag becomes set, and its report becomes due if enabled; a set flag stays as it is. -/
def LinkUnit.raise (l : LinkUnit) (c : Condition) : LinkUnit :=
  if l.flags[c.index] then l
  else { l with
    flags := put l.flags c.index true
    due := if l.enables[c.index] then put l.due c.index true else l.due }

/-- R13, an end: the flag clears, and the due mark is left as it is. -/
def LinkUnit.endCondition (l : LinkUnit) (c : Condition) : LinkUnit := { l with flags := put l.flags c.index false }

/-- The link unit raises a condition of its own (R3, R6). -/
def State.raiseOwn (s : State) (c : Condition) : State := { s with link := s.link.raise c }

/-- The conditions that only their block ends (R16). -/
def Condition.endedByBlock : Condition → Bool
  | .clockUnset | .oversold | .streamLost | .panelLost => true
  | .clockUnconfirmed | .clockConflict | .directiveDiscard | .lineError | .tallyUnderflow | .holdsFull | .frameLate
  | .memoryFault => false

/-- The condition with a number. -/
def Condition.ofNumber : Nat → Option Condition
  | 0 => some .clockUnset
  | 1 => some .clockUnconfirmed
  | 2 => some .clockConflict
  | 3 => some .directiveDiscard
  | 4 => some .lineError
  | 5 => some .oversold
  | 6 => some .tallyUnderflow
  | 7 => some .holdsFull
  | 8 => some .frameLate
  | 9 => some .streamLost
  | 10 => some .memoryFault
  | 11 => some .panelLost
  | _ => none

/-- R15: the report enables become exactly the set carried, and a due mark whose enable goes off is cleared. -/
def LinkUnit.setEnables (l : LinkUnit) (members : List Nat) : LinkUnit :=
  { l with
    enables := Vector.ofFn fun i => members.contains i.val
    due := Vector.ofFn fun i => l.due[i] && members.contains i.val }

/-- R16: the flags of the conditions named are cleared. -/
def LinkUnit.clearFlags (l : LinkUnit) (members : List Nat) : LinkUnit :=
  { l with flags := Vector.ofFn fun i => l.flags[i] && !members.contains i.val }

/-- The lowest-numbered condition whose report is due (R14). -/
def LinkUnit.nextReport (l : LinkUnit) : Option (Fin 12) := (List.finRange 12).find? fun i => l.due[i]

end Sys2Proof.Machine
end

