-- ==== Sys2Proof/Machine/Links.lean ====
section
/-! DEFINITION. Chapter 1: the link unit. Receiving packets, the intake, handoff and answer queues, ownership, conditions and
reports, the beacon watch, and the two kinds of reset. -/

namespace Sys2Proof.Machine

open Sys2Proof

/-- What every meaning answers. -/
abbrev Result := Host.Outcome State Fault Refusal

/-! ### Receiving packets -/

/-- R3: a discarded packet is dropped, the port's line-error count goes up, saturating, and LINE_ERROR is raised. -/
def State.discardPacket (s : State) (p : Port) : State :=
  let x := s.port p
  (s.putPort p { x with lineErrors := saturate16 x.lineErrors }).raiseOwn .lineError

/-- R6: a directive or tally message joins its port's intake queue at the tail, or is discarded where the queue holds 32. -/
def State.joinIntake (s : State) (p : Port) (q : Packet) : State :=
  let x := s.port p
  if x.intake.length < 32 then s.putPort p { x with intake := x.intake ++ [q] }
  else (s.putPort p { x with discards := saturate16 x.discards }).raiseOwn .directiveDiscard

/-- R1: the tests of a feed frame; a checked packet is its kind, tag and body. -/
def readFeedFrame (frame : List Byte) (damaged : Bool) : Option (Nat × Nat × List Byte) :=
  match frame with
  | kind :: tag :: hi :: lo :: rest =>
    let length := hi.toNat * 256 + lo.toNat
    let body := rest.take length
    if 1 ≤ kind.toNat ∧ kind.toNat ≤ 3 ∧ length ≤ 8192 ∧ rest.length = length + 2
        ∧ whole (get2 (rest.drop length)) = some (onesSum body) ∧ damaged = false then
      some (kind.toNat, tag.toNat, body)
    else none
  | _ => none

/-- R4: the body check of a beacon. -/
def readBeacon (body : List Byte) : Option TimeFields :=
  match whole (getTime body) with
  | some t =>
    if 1 ≤ t.weekday ∧ t.weekday ≤ 7 ∧ t.hour ≤ 23 ∧ t.minute ≤ 59 ∧ t.second ≤ 59 then some t else none
  | none => none

/-- R17: a restart of the beacon watch records the present run time and clears the overdue mark. -/
def State.restartWatch (s : State) : State := { s with link := { s.link with watch := ⟨s.clock.runTime, false⟩ } }

/-- R4: a checked feed packet goes on by its kind: 1 SEGMENT, 2 BEACON, 3 DIRECTIVE. -/
def State.routeFeed (s : State) (kind tag : Nat) (body : List Byte) : State :=
  if kind = 1 then { s with mail := { s.mail with segments := s.mail.segments ++ [body] } }
  else if kind = 2 then
    match readBeacon body with
    | some t =>
      let s := s.restartWatch
      { s with mail := { s.mail with linkToClock := s.mail.linkToClock ++ [.beacon t] } }
    | none => s.discardPacket .feed
  else s.joinIntake .feed ⟨tag, codeOf body, readDirective body⟩

/-- FEED_FRAME (R1, R3, R4). The command is the end of a frame, so every frame completes; after a RESET has been taken, packets
that complete are dropped without count (R19). -/
def execFeedFrame (frame : List Byte) (damaged : Bool) (s : State) : Result :=
  .next <|
    let s := { s with link := { s.link with feedReceiver := .idle } }
    if s.link.resetPending.isSome then s
    else
      match readFeedFrame frame damaged with
      | some (kind, tag, body) => s.routeFeed kind tag body
      | none => s.discardPacket .feed

/-- The three tests of a desk packet whose sum is complete (R2): a checked packet is its kind, tag and body. -/
def readDeskPacket (length : Nat) (values : List Nat) (spoiled : Bool) : Option (Nat × Nat × List Byte) :=
  let content := values.take length
  match content, values.drop length with
  | kind :: tag :: body, [hi, lo] =>
    if spoiled = false ∧ hi * 256 + lo = plainSum (length :: content) ∧ (kind = 1 ∨ kind = 3) then
      some (kind, tag, body.map byteOf)
    else none
  | _, _ => none

/-- R4: a checked desk packet goes to the desk intake queue, as a TALLY (kind 1) or a DIRECTIVE (kind 3). -/
def State.routeDesk (s : State) (kind tag : Nat) (body : List Byte) : State :=
  s.joinIntake .desk ⟨tag, codeOf body, if kind = 1 then readTallyBody body else readDirective body⟩

/-- What the desk receiver does with a byte: its new state, and what became of a packet (R2). -/
inductive DeskEvent where
  | nothing
  | discarded
  | completed (length : Nat) (values : List Nat) (spoiled : Bool)
  deriving DecidableEq, Repr

/-- R2: the value a byte carries after an escape has its lowest bit inverted. -/
def unescape (n : Nat) : Nat := if n % 2 = 0 then n + 1 else n - 1

/-- R2: a byte's step of the desk receiver (what it does with damaged and stray escapes: DEDUCED, assumption 7). -/
def deskReceive (r : DeskReceiver) (b : Byte) (error : Bool) : DeskReceiver × DeskEvent :=
  let n := b.toNat
  match r with
  | .hunting => if n = 0xFE ∧ error = false then (.length false, .nothing) else (.hunting, .nothing)
  | .length escaped =>
    if n = 0xFE ∧ error = false then (.length false, .discarded)
    else if error then (.hunting, .discarded)
    else if n = 0xFD ∧ escaped = false then (.length true, .nothing)
    else
      let v := if escaped then unescape n else n
      if 2 ≤ v then (.collecting v [] false (escaped && n ≠ 0xFF && n ≠ 0xFC), .nothing) else (.hunting, .discarded)
  | .collecting length values escaped spoiled =>
    if n = 0xFE ∧ error = false then (.length false, .discarded)
    else if n = 0xFD ∧ escaped = false then (.collecting length values true (spoiled || error), .nothing)
    else
      let v := if escaped then unescape n else n
      let spoiled := spoiled || error || (escaped && n ≠ 0xFF && n ≠ 0xFC)
      let values := values ++ [v]
      if values.length = length + 2 then (.hunting, .completed length values spoiled)
      else (.collecting length values false spoiled, .nothing)

/-- R2 to R4, R19: what becomes of a desk packet. One that is abandoned, or whose length byte is bad, is discarded; one that
completes is checked and goes on, but after a RESET has been taken it is dropped without count. -/
def State.applyDeskEvent (s : State) : DeskEvent → State
  | .nothing => s
  | .discarded => s.discardPacket .desk
  | .completed length values spoiled =>
    if s.link.resetPending.isSome then s
    else
      match readDeskPacket length values spoiled with
      | some (kind, tag, body) => s.routeDesk kind tag body
      | none => s.discardPacket .desk

/-- DESK_BYTE (R2, R3, R4, R19). -/
def execDeskByte (b : Byte) (error : Bool) (s : State) : Result :=
  .next <|
    let (receiver, event) := deskReceive s.link.deskReceiver b error
    ({ s with link := { s.link with deskReceiver := receiver } } : State).applyDeskEvent event

/-! ### Queues and answers -/

/-- INTAKE_HEAD_MOVE (R7): a malformed head is answered MALFORMED when the answer queue has room; a well-shaped head moves to its
target's handoff queue when that holds fewer than 8, and no longer once a RESET has been taken (R19). Otherwise the head waits. -/
def execIntakeHeadMove (p : Port) (s : State) : Result :=
  .next <|
    let x := s.port p
    match x.intake with
    | [] => s
    | q :: rest =>
      match q.directive with
      | none => if s.hasRoom p then (s.putPort p { x with intake := rest }).issue p (q.answer ⟨.malformed, []⟩) else s
      | some d =>
        let h := s.handoffOf d.target p
        if h.length < 8 ∧ s.link.resetPending = none then
          (s.putPort p { x with intake := rest }).putHandoff d.target p (h ++ [q])
        else s

/-- R20: a full reset puts every block in its full-reset state at once. The queue of waiting commands, what the lines last
carried and the count of free choices are the model's own and stay (DESIGN CHOICE, assumption 8). -/
def State.fullReset (s : State) : State :=
  { State.reset with pending := s.pending, feedLine := s.feedLine, deskLine := s.deskLine, choices := s.choices }

/-- R19: an answer sent counts toward a RESET that waits; when all that must be sent first has been, the full reset acts. -/
def State.countTowardReset (s : State) (p : Port) : State :=
  match s.link.resetPending with
  | none => s
  | some r =>
    let r := match p with
      | .feed => { r with feedLeft := r.feedLeft - 1 }
      | .desk => { r with deskLeft := r.deskLeft - 1 }
    if r.feedLeft = 0 ∧ r.deskLeft = 0 then s.fullReset
    else { s with link := { s.link with resetPending := some r } }

/-- R19: whether a RESET that waits has no more answers to wait for on a port. An answer still in that port's queue was issued
behind the RESET's, or after it, and is lost in the reset: it is not sent (assumption 8). -/
def State.lostInReset (s : State) (p : Port) : Bool :=
  match s.link.resetPending with
  | none => false
  | some r =>
    match p with
    | .feed => r.feedLeft = 0
    | .desk => r.deskLeft = 0

/-- What a port's line last carried. -/
def State.putLine (s : State) (p : Port) (bytes : List Byte) : State :=
  match p with
  | .feed => { s with feedLine := bytes }
  | .desk => { s with deskLine := bytes }

/-- ANSWER_SENT (R10, R19): the answer at the head has been sent in full and leaves its queue, but for one that a RESET has made
lost. -/
def execAnswerSent (p : Port) (s : State) : Result :=
  .next <|
    let x := s.port p
    match x.answers.answers with
    | [] => s
    | a :: rest =>
      if s.lostInReset p then s
      else ((s.putPort p { x with answers := { x.answers with answers := rest } }).putLine p (a.packet p)).countTowardReset p

/-- A REPORT's body (R14): the condition, the run time, and the set of conditions set. -/
def State.reportBody (s : State) (c : Nat) : List Byte := put2 c ++ put4 s.clock.runTime ++ putSet (setNumbers s.link.flags)

/-- REPORT_SENT (R14): the REPORT of the lowest-numbered due condition has been sent in full, kind 5 with tag 0, and its mark
clears. -/
def execReportSent (s : State) : Result :=
  .next <|
    match s.link.nextReport with
    | none => s
    | some c =>
      { s with
        feedLine := feedPacket 5 0 (s.reportBody c.val)
        link := { s.link with due := put s.link.due c false } }

/-! ### Conditions -/

/-- CONDITION_RAISE (R13): the link unit takes a raise that a block has sent. -/
def execConditionRaise (b : Block) (s : State) : Result :=
  .next <|
    match s.mail.conditions[b.index] with
    | .raise c :: rest =>
      { s with
        link := s.link.raise c
        mail := { s.mail with conditions := put s.mail.conditions b.index rest } }
    | _ => s

/-- R21: the frame memory unit's restart ends MEMORY_FAULT and then STREAM_LOST; when the link unit has taken both ends, it issues
DONE for the DISPLAY RESTART that waits for them, into the place reserved for it (R8). Any other end leaves it waiting. -/
def State.countTowardRestart (s : State) (b : Block) (c : Condition) : State :=
  match s.link.restartPending with
  | none => s
  | some r =>
    if b ≠ .memory then s
    else if c = .memoryFault then { s with link := { s.link with restartPending := some { r with faultEnded := true } } }
    else if c = .streamLost ∧ r.faultEnded = true then
      ({ s with link := { s.link with restartPending := none } } : State).issueReserved r.port ⟨r.tag, r.code, .done, []⟩
    else s

/-- CONDITION_END (R13, R21): the link unit takes the end of a condition that a block has sent. -/
def execConditionEnd (b : Block) (s : State) : Result :=
  .next <|
    match s.mail.conditions[b.index] with
    | .ends c :: rest =>
      ({ s with
        link := s.link.endCondition c
        mail := { s.mail with conditions := put s.mail.conditions b.index rest } } : State).countTowardRestart b c
    | _ => s

/-- BEACON_WATCH (R17): at a run-time second the watch fires when its mark is clear, the clock is SET and 600 seconds have
passed since the recorded run time. -/
def execBeaconWatch (s : State) : Result :=
  .next <|
    match s.nextSecond .link with
    | none => s
    | some t =>
      let s := s.dropSecond .link
      if s.link.watch.overdue = false ∧ s.clock.state = .set ∧ s.link.watch.last + 600 ≤ t then
        { s with
          link := { s.link with watch := { s.link.watch with overdue := true } }
          mail := { s.mail with linkToClock := s.mail.linkToClock ++ [.overdue] } }
      else s

/-! ### The link unit's directives -/

/-- The owner a GRANT carries: 1 FEED, 2 DESK (R9). -/
def portOfNumber : Nat → Option Port
  | 1 => some .feed
  | 2 => some .desk
  | _ => none

/-- GRANT's effect (R9): a group 0 to 3 takes the owner carried; HOUSE and numbers out of range are refused. -/
def grantOwner (group owner : Nat) (s : State) : State × Reply :=
  match portOfNumber owner with
  | none => refuse s .outOfRange
  | some p =>
    if h : group < 4 then
      done { s with link := { s.link with owners := put s.link.owners ⟨group, Nat.lt_succ_of_lt h⟩ p } }
    else refuse s .outOfRange

/-- GRANT (R9). -/
def execGrant (p : Port) (s : State) : Result :=
  .next <| s.takeAndAnswer .link p (fun d => match d with | .grant g o => some (g, o) | _ => none)
    fun (g, o) s => grantOwner g o s

/-- SET REPORTS' effect (R15). -/
def setReportEnables (members : List Nat) (s : State) : State × Reply :=
  if members.all (· ≤ 11) then done { s with link := s.link.setEnables members } else refuse s .outOfRange

/-- SET_REPORTS (R15). -/
def execSetReports (p : Port) (s : State) : Result :=
  .next <| s.takeAndAnswer .link p (fun d => match d with | .setReports c => some c | _ => none) setReportEnables

/-- Whether a set names a condition that only its block ends and whose flag is set (R16). -/
def LinkUnit.namesHeldCondition (l : LinkUnit) (members : List Nat) : Bool :=
  members.any fun n =>
    match Condition.ofNumber n with
    | some c => c.endedByBlock && l.flags[c.index]
    | none => false

/-- ACKNOWLEDGE's effect (R16): the flags named clear; clearing a set MEMORY_FAULT sends a resume to the frame memory unit. -/
def acknowledgeConditions (members : List Nat) (s : State) : State × Reply :=
  if members.all (· ≤ 11) = false then refuse s .outOfRange
  else if s.link.namesHeldCondition members then refuse s .refusedState
  else
    let resume := members.contains 10 && s.link.flags[Condition.memoryFault.index]
    done { s with
      link := s.link.clearFlags members
      mail := if resume then { s.mail with linkToMemory := s.mail.linkToMemory ++ [.resume] } else s.mail }

/-- ACKNOWLEDGE (R16). -/
def execAcknowledge (p : Port) (s : State) : Result :=
  .next <| s.takeAndAnswer .link p (fun d => match d with | .acknowledge c => some c | _ => none) acknowledgeConditions

/-- R19: the RESET waits for its own answer, the last of the feed answer queue once issued, and for the answers already in the
desk answer queue. A second RESET changes nothing (DEDUCED, assumption 8). -/
def State.arrangeReset (s : State) : State :=
  match s.link.resetPending with
  | some _ => s
  | none =>
    { s with link := { s.link with
        resetPending := some ⟨(s.port .feed).answers.answers.length + 1, (s.port .desk).answers.answers.length⟩ } }

/-- RESET (R19). -/
def execReset (p : Port) (s : State) : Result :=
  .next <| s.takeAndAnswer .link p (fun d => match d with | .reset => some () | _ => none)
    fun _ s => done s.arrangeReset

/-- FULL_RESET (R20): power-on or the reset pin. -/
def execFullReset (s : State) : Result := .next s.fullReset

/-- R21: the restart goes to six blocks. -/
def State.sendRestarts (s : State) : State :=
  let s := ((((s.sendRestart .builder).sendRestart .notice).sendRestart .render).sendRestart .composer).sendRestart .output
  { s with mail := { s.mail with linkToMemory := s.mail.linkToMemory ++ [.restart] } }

/-- R21, R8: the restarts are sent and a place is reserved for DONE, which `State.countTowardRestart` issues once MEMORY_FAULT and
STREAM_LOST have cleared. -/
def State.arrangeRestart (s : State) (p : Port) (q : Packet) : State :=
  let s := (s.reserve p).sendRestarts
  { s with link := { s.link with restartPending := some ⟨p, q.tag, q.code, false⟩ } }

/-- DISPLAY_RESTART (R21). Until DONE has been issued the link unit takes no other directive (R8); it goes on taking events
meanwhile, and the six blocks take their restarts in any order (DESIGN CHOICE, assumption 27). -/
def execDisplayRestart (p : Port) (s : State) : Result :=
  .next <| s.take .link p (fun d => match d with | .displayRestart => some () | _ => none)
    fun q _ s => s.arrangeRestart p q

/-- The number an owner is carried as (R9). -/
def portNumber : Port → Nat
  | .feed => 1
  | .desk => 2

/-- The counts of a port in the LINK record (R12). -/
def PortState.record (x : PortState) : List Byte := put2 x.intake.length ++ put2 x.discards ++ put2 x.lineErrors

/-- The LINK record (R12). R12 writes "the owner of each group" and "for each port" without an order: the owners stand in group-number
order, and the feed port's three counts before the desk port's (DESIGN CHOICE, assumption 15). -/
def linkRecord (s : State) : List Byte :=
  s.link.owners.toList.flatMap (fun p => put2 (portNumber p))
    ++ putSet (setNumbers s.link.flags) ++ putSet (setNumbers s.link.enables)
    ++ (s.port .feed).record ++ (s.port .desk).record ++ put4 s.link.watch.last

/-- QUERY_LINK (R12). -/
def execQueryLink (p : Port) (s : State) : Result :=
  .next <| s.takeQuery .link p 19 fun _ s => ⟨.done, linkRecord s⟩

end Sys2Proof.Machine
end

