-- ==== Sys2Proof/Machine/Clock.lean ====
section
/-! DEFINITION. Chapter 2: the board clock. The tenth-tick and run time, the wall time and business day, beacons and SET CLOCK,
house settings, and the cues. -/

namespace Sys2Proof.Machine

open Sys2Proof

/-! ### Wall time and business time -/

/-- The business minute of a wall time (00_scope 5.1): minutes since the day-start hour. -/
def businessMinute (dayStart hour minute : Nat) : Nat := (hour + 24 - dayStart) % 24 * 60 + minute

/-- The wall time of day, in minutes, of a business minute (00_scope 5.1). -/
def timeOfDay (dayStart e : Nat) : Nat := (dayStart * 60 + e) % 1440

/-- The clock's business minute. -/
def Clock.businessMinute (c : Clock) : Nat := Machine.businessMinute c.dayStart c.hour c.minute

/-- The clock's position in seconds (R28): its business day number, then its business second. -/
def Clock.position (c : Clock) : Nat := c.day * 86400 + c.businessMinute * 60 + c.second

/-- The business day of a beacon's fields (R28). -/
def Clock.dayOf (c : Clock) (t : TimeFields) : Nat := if c.dayStart ≤ t.hour then t.serial else t.serial - 1

/-- The business minute of a beacon's fields (R28). -/
def Clock.minuteOf (c : Clock) (t : TimeFields) : Nat := Machine.businessMinute c.dayStart t.hour t.minute

/-- The position of a beacon's fields (R28). -/
def Clock.positionOf (c : Clock) (t : TimeFields) : Nat := c.dayOf t * 86400 + c.minuteOf t * 60 + t.second

/-- The clock takes a beacon's time (R28). -/
def Clock.takeTime (c : Clock) (t : TimeFields) : Clock :=
  { c with hour := t.hour, minute := t.minute, second := t.second, weekday := t.weekday, day := c.dayOf t }

/-- The wall time advances by one second (R25). -/
def Clock.advance (c : Clock) : Clock :=
  if c.second < 59 then { c with second := c.second + 1 }
  else if c.minute < 59 then { c with second := 0, minute := c.minute + 1 }
  else if c.hour < 23 then { c with second := 0, minute := 0, hour := c.hour + 1 }
  else { c with second := 0, minute := 0, hour := 0, weekday := if c.weekday < 7 then c.weekday + 1 else 1 }

/-! ### What the board clock sends -/

/-- One minute event goes to the schedule unit and the board builder (R26). -/
def State.sendMinute (s : State) (n : Nat) : State :=
  { s with mail := { s.mail with
      clockToSchedule := s.mail.clockToSchedule ++ [.minute n]
      clockToBuilder := s.mail.clockToBuilder ++ [.minute n] } }

/-- R27: the business day number becomes `day`, a rollover event goes to the schedule unit and the board builder, and the
high-water mark becomes NONE. -/
def State.rollover (s : State) (day : Nat) : State :=
  { s with
    clock := { s.clock with day := day, mark := none }
    mail := { s.mail with
      clockToSchedule := s.mail.clockToSchedule ++ [.rollover day]
      clockToBuilder := s.mail.clockToBuilder ++ [.rollover day] } }

/-- R40: the redraw of the eight clock tiles is asked for. -/
def State.redrawClockTiles (s : State) : State := s.requestTiles .clock clockTileRequests

/-- R39: a fired cue's action goes to the block named in R37. -/
def State.sendAction (s : State) (a : CueAction) : State :=
  match a with
  | .applyLayout l ps => { s with mail := { s.mail with cuesToComposer := s.mail.cuesToComposer ++ [(l, ps)] } }
  | .quiet on cs => { s with mail := { s.mail with cuesToRotation := s.mail.cuesToRotation ++ [(on, cs)] } }
  | .standby ps => { s with mail := { s.mail with cuesToOutput := s.mail.cuesToOutput ++ [.standby ps] } }
  | .wake ps => { s with mail := { s.mail with cuesToOutput := s.mail.cuesToOutput ++ [.wake ps] } }
  | .brightness l ps => { s with mail := { s.mail with cuesToOutput := s.mail.cuesToOutput ++ [.brightness l ps] } }

/-! ### Cues -/

/-- Whether a field of a cue matches: it is ANY or equal (R38). -/
def fieldMatches (f : Option Nat) (n : Nat) : Bool :=
  match f with
  | none => true
  | some m => m = n

/-- Whether an entry fires for a wall minute (R38). -/
def Cue.matches (c : Cue) (weekday hour minute : Nat) : Bool :=
  c.enabled && fieldMatches c.weekday weekday && fieldMatches c.hour hour && fieldMatches c.minute minute

/-- The actions that fire for a wall minute, in ascending cue number (R38). -/
def Clock.firing (c : Clock) (weekday hour minute : Nat) : List CueAction :=
  c.cues.toList.filterMap fun e =>
    match e with
    | some cue => if cue.matches weekday hour minute then some cue.action else none
    | none => none

/-- Whether the high-water mark stands at or after a business minute (R38). -/
def Clock.markReaches (c : Clock) (x : Nat) : Bool :=
  match c.mark with
  | some m => x ≤ m
  | none => false

/-- R38: the cues are evaluated for the business minute `x` with its wall weekday, hour and minute. -/
def State.evaluateCues (s : State) (x weekday hour minute : Nat) : State :=
  if s.clock.markReaches x then s
  else
    let s := (s.clock.firing weekday hour minute).foldl State.sendAction s
    { s with clock := { s.clock with mark := some x } }

/-! ### Counting -/

/-- R26: at a minute boundary reached by counting, the rollover where the day starts, the minute event, the cues, the tiles. -/
def State.minuteBoundary (s : State) : State :=
  let s := if s.clock.hour = s.clock.dayStart ∧ s.clock.minute = 0 then s.rollover (min (s.clock.day + 1) maxCount16) else s
  let n := s.clock.businessMinute
  ((s.sendMinute n).evaluateCues n s.clock.weekday s.clock.hour s.clock.minute).redrawClockTiles

/-- R25, R26: the wall time counts one second, unless the clock is UNSET. -/
def State.countWallTime (s : State) : State :=
  if s.clock.state = .unset then s
  else
    let s := { s with clock := s.clock.advance }
    if s.clock.second = 0 then s.minuteBoundary else s

/-- R22: the tenth-tick goes to the board builder, the rotation unit and the panel output. -/
def State.deliverTick (s : State) : State :=
  { s with mail := { s.mail with
      clockToBuilder := s.mail.clockToBuilder ++ [.tick]
      ticksToRotation := s.mail.ticksToRotation + 1
      ticksToOutput := s.mail.ticksToOutput + 1 } }

/-- TENTH_TICK (R22): the tick is delivered and the tenth count goes up by 1; where it would pass 9, a run-time second is owed,
and no further tick is produced before that second has taken place (DESIGN CHOICE, assumption 4). -/
def execTenthTick (s : State) : Result :=
  .next <|
    if s.clock.secondOwed then s
    else
      let s := s.deliverTick
      if s.clock.tenths < 9 then { s with clock := { s.clock with tenths := s.clock.tenths + 1 } }
      else { s with clock := { s.clock with secondOwed := true } }

/-- R23: the run-time second goes to the five blocks. -/
def State.deliverSecond (s : State) (t : Nat) : State :=
  ((((s.sendSecond .seat t).sendSecond .schedule t).sendSecond .notice t).sendSecond .link t).sendSecond .memory t

/-- RUN_TIME_SECOND (R22, R23, R25): the owed second takes place; the tenth count returns to 0, run time goes up by 1,
saturating, and is delivered, and the wall time counts. -/
def execRunTimeSecond (s : State) : Result :=
  .next <|
    if s.clock.secondOwed = false then s
    else
      let t := min (s.clock.runTime + 1) maxCount32
      let s := { s with clock := { s.clock with tenths := 0, secondOwed := false, runTime := t } }
      (s.deliverSecond t).countWallTime

/-! ### Beacons and SET CLOCK -/

/-- R29: in UNSET the clock is set. -/
def State.setFromUnset (s : State) (t : TimeFields) : State :=
  let held := s.clock.day
  let s := { s with clock := { s.clock with state := .set } }
  let s := s.sendCondition .clock (.ends .clockUnset)
  let s := { s with clock := s.clock.takeTime t }
  let s := if held < s.clock.day then s.rollover s.clock.day else s
  let n := s.clock.businessMinute
  let s := { s with clock := { s.clock with mark := some n } }
  (s.sendMinute n).redrawClockTiles

/-- The calendar day a business minute falls on, counted on from business day 0: it turns at midnight. -/
def calendarDay (dayStart absoluteMinute : Nat) : Nat := (dayStart * 60 + absoluteMinute) / 1440

/-- A weekday `n` days before another (1 to 7). -/
def weekdayBefore (weekday n : Nat) : Nat := (weekday + 6 + 7 * n - n) % 7 + 1

/-- R31: crossed minutes are evaluated one after another, each with its own weekday, hour and minute. A crossed minute is given
as business day × 1440 + business minute; weekdays are counted back from the beacon's (DEDUCED, assumption 9). -/
def State.evaluateCrossed (s : State) (t : TimeFields) (last : Nat) (minutes : List Nat) : State :=
  minutes.foldl (fun s k =>
    let w := timeOfDay s.clock.dayStart (k % 1440)
    let back := calendarDay s.clock.dayStart last - calendarDay s.clock.dayStart k
    s.evaluateCues (k % 1440) (weekdayBefore t.weekday back) (w / 60) (w % 60)) s

/-- R31 step 5: the mark after a set of more than 600 s. -/
def State.raiseMark (s : State) (n : Nat) : State :=
  if s.clock.markReaches n then s else { s with clock := { s.clock with mark := some n } }

/-- R31: a forward set. -/
def State.forwardSet (s : State) (t : TimeFields) : State :=
  let old := s.clock.position
  let new := s.clock.positionOf t
  let oldDay := s.clock.day
  let newDay := s.clock.dayOf t
  let near := new - old ≤ 600
  let crossed := if near then List.range' (old / 60 + 1) (new / 60 - old / 60) else []
  if new / 60 = old / 60 then ({ s with clock := s.clock.takeTime t } : State).redrawClockTiles
  else
    let s := if oldDay < newDay then s.evaluateCrossed t (new / 60) (crossed.filter fun k => k / 1440 = oldDay) else s
    let s := if oldDay < newDay then s.rollover newDay else s
    let s := { s with clock := s.clock.takeTime t }
    let s := s.evaluateCrossed t (new / 60) (crossed.filter fun k => k / 1440 = newDay)
    let s := if near then s else s.raiseMark s.clock.businessMinute
    (s.sendMinute s.clock.businessMinute).redrawClockTiles

/-- R32: a backward set. -/
def State.backwardSet (s : State) (t : TimeFields) : State :=
  let old := s.clock.businessMinute
  let s := { s with clock := s.clock.takeTime t }
  let s := if s.clock.businessMinute = old then s else s.sendMinute s.clock.businessMinute
  s.redrawClockTiles

/-- R30: in SET or UNCONFIRMED a beacon's time is applied by its business day and by d. -/
def State.applyTime (s : State) (t : TimeFields) : State :=
  if s.clock.dayOf t < s.clock.day then s.sendCondition .clock (.raise .clockConflict)
  else if s.clock.positionOf t = s.clock.position then { s with clock := { s.clock with weekday := t.weekday } }
  else if s.clock.positionOf t < s.clock.position then s.backwardSet t
  else s.forwardSet t

/-- R24: a beacon, or a SET CLOCK with fields in range, in each clock state. -/
def State.takeBeacon (s : State) (t : TimeFields) : State :=
  match s.clock.state with
  | .unset => s.setFromUnset t
  | .set => s.applyTime t
  | .unconfirmed =>
    (({ s with clock := { s.clock with state := .set } } : State).sendCondition .clock (.ends .clockUnconfirmed)).applyTime t

/-- BEACON (R30, R29): the board clock takes a beacon that the feed port has checked. -/
def execBeacon (s : State) : Result :=
  .next <|
    match s.mail.linkToClock with
    | .beacon t :: rest => ({ s with mail := { s.mail with linkToClock := rest } } : State).takeBeacon t
    | _ => s

/-- BEACON_OVERDUE (R34): SET becomes UNCONFIRMED, raising CLOCK_UNCONFIRMED; in the other states the event is ignored. -/
def execBeaconOverdue (s : State) : Result :=
  .next <|
    match s.mail.linkToClock with
    | .overdue :: rest =>
      let s := { s with mail := { s.mail with linkToClock := rest } }
      if s.clock.state = .set then
        ({ s with clock := { s.clock with state := .unconfirmed } } : State).sendCondition .clock (.raise .clockUnconfirmed)
      else s
    | _ => s

/-- R33: SET CLOCK's checks and action; an answer of DONE restarts the beacon watch (R17). -/
def setClock (t : TimeFields) (s : State) : State × Reply :=
  if t.weekday < 1 ∨ 7 < t.weekday ∨ 23 < t.hour ∨ 59 < t.minute ∨ 59 < t.second then refuse s .outOfRange
  else if s.clock.state ≠ .unset ∧ s.clock.dayOf t < s.clock.day then
    refuse (s.sendCondition .clock (.raise .clockConflict)) .refusedState
  else done (s.takeBeacon t).restartWatch

/-- SET_CLOCK (R33). -/
def execSetClock (p : Port) (s : State) : Result :=
  .next <| s.takeAndAnswer .clock p (fun d => match d with | .setClock t => some t | _ => none) setClock

/-! ### House settings -/

/-- The hour format a number stands for (R35). -/
def hourFormatOf : Nat → Option HourFormat
  | 12 => some .h12
  | 24 => some .h24
  | _ => none

/-- R35: SET HOUSE's checks and action. -/
def setHouse (fmt dayStart : Nat) (s : State) : State × Reply :=
  match hourFormatOf fmt with
  | none => refuse s .outOfRange
  | some f =>
    if 23 < dayStart then refuse s .outOfRange
    else if s.clock.state ≠ .unset ∧ dayStart ≠ s.clock.dayStart then refuse s .refusedState
    else
      let changed := s.clock.hourFormat ≠ f
      let s := { s with clock := { s.clock with hourFormat := f, dayStart := dayStart } }
      if changed then
        done (({ s with mail := { s.mail with clockToBuilder := s.mail.clockToBuilder ++ [.hourFormatChanged] } } :
          State).redrawClockTiles)
      else done s

/-- SET_HOUSE (R35). -/
def execSetHouse (p : Port) (s : State) : Result :=
  .next <| s.takeAndAnswer .clock p (fun d => match d with | .setHouse f h => some (f, h) | _ => none)
    fun (f, h) s => setHouse f h s

/-! ### The cue table -/

/-- Whether a time field of SET CUE is in range or ANY, which is 65535 in a two-byte field (R5, R37). -/
def cueFieldOk (lo hi n : Nat) : Bool := (lo ≤ n && n ≤ hi) || n = 65535

/-- A time field of a cue. -/
def cueField (n : Nat) : Option Nat := if n = 65535 then none else some n

/-- The action a SET CUE carries, where its kind is one of the six and its parameters are in range (R37). -/
def CueFields.action (f : CueFields) : Option CueAction :=
  if f.members = [] ∨ f.members.all (· ≤ 11) = false then none
  else
    match f.kind with
    | 1 => if f.arg ≤ 31 then some (.applyLayout f.arg f.members) else none
    | 2 => some (.quiet true f.members)
    | 3 => some (.quiet false f.members)
    | 4 => some (.standby f.members)
    | 5 => some (.wake f.members)
    | 6 => if f.arg ≤ 15 then some (.brightness f.arg f.members) else none
    | _ => none

/-- The entry a SET CUE carries, where every field is in range (R37). -/
def CueFields.entry (f : CueFields) : Option Cue :=
  if f.enabled ≤ 1 && cueFieldOk 1 7 f.weekday && cueFieldOk 0 23 f.hour && cueFieldOk 0 59 f.minute then
    f.action.map fun a => ⟨f.enabled = 1, cueField f.weekday, cueField f.hour, cueField f.minute, a⟩
  else none

/-- R37: SET CUE. -/
def setCue (cue : Nat) (f : CueFields) (s : State) : State × Reply :=
  match f.entry with
  | none => refuse s .outOfRange
  | some e =>
    if h : cue < 16 then done { s with clock := { s.clock with cues := s.clock.cues.set cue (some e) h } }
    else refuse s .outOfRange

/-- SET_CUE (R37). -/
def execSetCue (p : Port) (s : State) : Result :=
  .next <| s.takeAndAnswer .clock p (fun d => match d with | .setCue n f => some (n, f) | _ => none)
    fun (n, f) s => setCue n f s

/-- R37: CLEAR CUE. -/
def clearCue (cue : Nat) (s : State) : State × Reply :=
  if h : cue < 16 then
    match s.clock.cues[cue] with
    | none => refuse s .noSuch
    | some _ => done { s with clock := { s.clock with cues := s.clock.cues.set cue none h } }
  else refuse s .outOfRange

/-- CLEAR_CUE (R37). -/
def execClearCue (p : Port) (s : State) : Result :=
  .next <| s.takeAndAnswer .clock p (fun d => match d with | .clearCue n => some n | _ => none) clearCue

/-! ### Queries -/

/-- The number a clock state is carried as (R41). -/
def ClockState.number : ClockState → Nat
  | .unset => 0
  | .set => 1
  | .unconfirmed => 2

/-- The number an hour format is carried as (R35). -/
def HourFormat.number : HourFormat → Nat
  | .h12 => 12
  | .h24 => 24

/-- The CLOCK record (R41). -/
def Clock.record (c : Clock) : List Byte :=
  put2 c.state.number ++ put2 c.day ++ put2 c.weekday ++ put2 c.hour ++ put2 c.minute ++ put2 c.second ++ put4 c.runTime
    ++ put2OrNone c.mark ++ put2 c.hourFormat.number ++ put2 c.dayStart

/-- QUERY_CLOCK (R41). -/
def execQueryClock (p : Port) (s : State) : Result :=
  .next <| s.takeQuery .clock p 10 fun _ s => ⟨.done, s.clock.record⟩

/-- A cue action as SET CUE carries it: its kind 1 to 6 and its parameters (R37, R41). -/
def CueAction.bytes : CueAction → List Byte
  | .applyLayout l ps => put2 1 ++ put2 l ++ putSet ps
  | .quiet true cs => put2 2 ++ putSet cs
  | .quiet false cs => put2 3 ++ putSet cs
  | .standby ps => put2 4 ++ putSet ps
  | .wake ps => put2 5 ++ putSet ps
  | .brightness l ps => put2 6 ++ put2 l ++ putSet ps

/-- The CUE record (R37, R41). -/
def Cue.record (c : Cue) : List Byte :=
  putFlag c.enabled ++ put2OrNone c.weekday ++ put2OrNone c.hour ++ put2OrNone c.minute ++ c.action.bytes

/-- The answer to QUERY CUE (R12, R41). -/
def cueReply (cue : Nat) (s : State) : Reply :=
  match s.clock.cues[cue]? with
  | none => ⟨.outOfRange, []⟩
  | some none => ⟨.noSuch, []⟩
  | some (some c) => ⟨.done, c.record⟩

/-- QUERY_CUE (R41). -/
def execQueryCue (p : Port) (s : State) : Result := .next <| s.takeQuery .clock p 11 cueReply

end Sys2Proof.Machine
end

