-- ==== Sys2Proof/Machine/Schedule.lean ====
section
/-! DEFINITION. Chapter 3: the schedule unit. Titles, the screening table, the phase settings, the phase computation, and the
directives that load, amend, cancel and drop screenings. The unit's own operations change `ScheduleUnit` and give the events
they send (R59) in order. -/

namespace Sys2Proof.Machine

open Sys2Proof

/-! ### The screening table -/

/-- The record of a screening number. -/
def findScreening (table : List Screening) (n : Nat) : Option Screening := table.find? fun r => r.number = n

/-- Put a record into a table kept in ascending screening number, replacing a record of the same number (R44). -/
def insertScreening (r : Screening) : List Screening → List Screening
  | [] => [r]
  | x :: rest =>
    if r.number < x.number then r :: x :: rest
    else if r.number = x.number then r :: rest
    else x :: insertScreening r rest

/-- Take a screening number out of a table. -/
def removeScreening (n : Nat) (table : List Screening) : List Screening := table.filter fun r => r.number ≠ n

/-- The effective start E = T + D (R44). -/
def Screening.start (r : Screening) : Nat := r.showTime + r.delay

/-! ### Phases -/

/-- A phase's number: its place in the order PENDING, LISTED, BOARDING, RUNNING, CLOSED, and the number it is carried as (R44). -/
def Phase.number : Phase → Nat
  | .pending => 0
  | .listed => 1
  | .boarding => 2
  | .running => 3
  | .closed => 4
  | .cancelled => 5

/-- The later of two phases of the order PENDING, LISTED, BOARDING, RUNNING, CLOSED (R48). -/
def Phase.later (a b : Phase) : Phase := if a.number < b.number then b else a

/-- The target phase for a view minute `n` on the record's own business day (R47). -/
def phaseAt (p : PhaseSettings) (e n : Nat) : Phase :=
  if e + p.lateWindow ≤ n then .closed
  else if e ≤ n then .running
  else if e - p.doorsLead ≤ n then .boarding
  else if e - p.horizon ≤ n then .listed
  else .pending

/-- The target phase of a record that is not CANCELLED (R47). -/
def ScheduleUnit.target (u : ScheduleUnit) (r : Screening) : Phase :=
  match u.viewMinute with
  | none => .pending
  | some n => if r.day = u.viewDay then phaseAt u.settings r.start n else .pending

/-- R48: a record after the phase computation; a CANCELLED record has no target phase (R47). -/
def ScheduleUnit.moved (u : ScheduleUnit) (r : Screening) : Screening :=
  if r.phase = .cancelled then r else { r with phase := r.phase.later (u.target r) }

/-- R48: the event of a record's move, if its phase has changed. -/
def moveEvent (old new : Screening) : List ScheduleEvent :=
  if old.phase = new.phase then [] else [.phaseChanged new.number new.phase]

/-- R48: the computation is run for every record that is not CANCELLED, in ascending screening number. -/
def ScheduleUnit.recompute (u : ScheduleUnit) : ScheduleUnit × List ScheduleEvent :=
  ({ u with table := u.table.map u.moved }, u.table.flatMap fun r => moveEvent r (u.moved r))

/-- R48: the computation is run for one record. -/
def ScheduleUnit.recomputeOne (u : ScheduleUnit) (r : Screening) : ScheduleUnit × List ScheduleEvent :=
  ({ u with table := insertScreening (u.moved r) u.table }, moveEvent r (u.moved r))

/-- The schedule unit becomes `x.1` and sends the events `x.2`. -/
def State.withSchedule (s : State) (x : ScheduleUnit × List ScheduleEvent) : State :=
  ({ s with schedule := x.1 } : State).sendScheduleAll x.2

/-! ### Events from the board clock -/

/-- SCHEDULE_MINUTE_EVENT (R45, R48): the view minute is set, then every record that is not CANCELLED is moved forward. -/
def execScheduleMinuteEvent (s : State) : Result :=
  .next <|
    match s.mail.clockToSchedule with
    | .minute n :: rest =>
      let s := { s with mail := { s.mail with clockToSchedule := rest } }
      s.withSchedule ({ s.schedule with viewMinute := some n } : ScheduleUnit).recompute
    | _ => s

/-- R49: a rollover to a business day: the view is set, the records of other days are removed, and the rest are moved. -/
def ScheduleUnit.rollover (u : ScheduleUnit) (day : Nat) : ScheduleUnit × List ScheduleEvent :=
  let stays (r : Screening) : Bool := r.day = day || r.day = day + 1
  let gone := (u.table.filter fun r => !stays r).map fun r => ScheduleEvent.removed r.number
  let x := ({ u with viewDay := day, viewMinute := some 0, table := u.table.filter stays } : ScheduleUnit).recompute
  (x.1, gone ++ x.2)

/-- SCHEDULE_ROLLOVER (R49). -/
def execScheduleRollover (s : State) : Result :=
  .next <|
    match s.mail.clockToSchedule with
    | .rollover day :: rest =>
      let s := { s with mail := { s.mail with clockToSchedule := rest } }
      s.withSchedule (s.schedule.rollover day)
    | _ => s

/-- Whether a record's cancel linger has come to its end at a run time (R50). -/
def Screening.lingerOver (r : Screening) (linger t : Nat) : Bool :=
  r.phase = .cancelled &&
    match r.cancelTime with
    | some c => addTime c (60 * linger) ≤ t
    | none => false

/-- R50: CANCELLED records whose linger has ended become CLOSED, in ascending screening number. -/
def ScheduleUnit.endLingers (u : ScheduleUnit) (t : Nat) : ScheduleUnit × List ScheduleEvent :=
  ({ u with table := u.table.map fun r =>
      if r.lingerOver u.settings.linger t then { r with phase := .closed, cancelTime := none } else r },
   (u.table.filter fun r => r.lingerOver u.settings.linger t).map fun r => .phaseChanged r.number .closed)

/-- LINGER_END (R50). -/
def execLingerEnd (s : State) : Result :=
  .next <|
    match s.nextSecond .schedule with
    | none => s
    | some t =>
      let s := s.dropSecond .schedule
      s.withSchedule (s.schedule.endLingers t)

/-! ### Titles -/

/-- R43: LOAD TITLE. -/
def loadTitle (n : Nat) (text rating : List Byte) (runtime : Nat) (s : State) : State × Reply :=
  if text.length < 1 ∨ 48 < text.length ∨ 5 < rating.length ∨ runtime < 1 ∨ 400 < runtime then refuse s .outOfRange
  else if h : n < 128 then
    done (({ s with schedule := { s.schedule with
      titles := s.schedule.titles.set n (some ⟨text, rating, runtime⟩) h } } : State).sendSchedule (.titleChanged n))
  else refuse s .outOfRange

/-- LOAD_TITLE (R43). -/
def execLoadTitle (p : Port) (s : State) : Result :=
  .next <| s.takeAndAnswer .schedule p (fun d => match d with | .loadTitle n t r m => some (n, t, r, m) | _ => none)
    fun (n, t, r, m) s => loadTitle n t r m s

/-! ### Phase settings -/

/-- R46: the ranges of the phase settings and the order A ≤ Z. -/
def PhaseSettings.valid (p : PhaseSettings) : Bool :=
  p.doorsLead ≤ 60 && p.lateWindow ≤ 60 && p.horizon ≤ 720 && p.linger ≤ 60 && p.countdown ≤ 60 && p.doorsLead ≤ p.horizon

/-- R46: "screening changed" for every LISTED or BOARDING record, when the countdown limit has changed. -/
def countdownEvents (old : PhaseSettings) (u : ScheduleUnit) : List ScheduleEvent :=
  if old.countdown = u.settings.countdown then []
  else (u.table.filter fun r => r.phase = .listed || r.phase = .boarding).map fun r => .changed r.number

/-- R46: SET PHASE TIMES. -/
def setPhaseTimes (p : PhaseSettings) (s : State) : State × Reply :=
  if p.valid then
    let old := s.schedule.settings
    let x := ({ s.schedule with settings := p } : ScheduleUnit).recompute
    done (s.withSchedule (x.1, x.2 ++ countdownEvents old x.1))
  else refuse s .outOfRange

/-- SET_PHASE_TIMES (R46). -/
def execSetPhaseTimes (p : Port) (s : State) : Result :=
  .next <| s.takeAndAnswer .schedule p (fun d => match d with | .setPhaseTimes x => some x | _ => none) setPhaseTimes

/-! ### Loading and amending -/

/-- R51: at most 4 badge codes, each 1 to 6, none twice. -/
def badgesOk (bs : List Nat) : Bool := bs.length ≤ 4 && bs.all (fun c => 1 ≤ c && c ≤ 6) && !hasRepeat bs

/-- R44: a note of 0 characters is stored as absent. -/
def noteOf (t : List Byte) : Option (List Byte) := if t = [] then none else some t

/-- R51 step 1: the ranges of LOAD SCREENING. -/
def ScreeningFields.inRange (f : ScreeningFields) : Bool :=
  f.number ≠ 0 && 1 ≤ f.auditorium && f.auditorium ≤ 24 && f.title ≤ 127 && f.showTime ≤ 1439 && f.delay ≤ 120
    && 1 ≤ f.capacity && f.capacity ≤ 999 && badgesOk f.badges && f.note.length ≤ 24

/-- R51 step 3: the business day is the view day or the next, unless the view minute is NONE. -/
def ScheduleUnit.dayAccepted (u : ScheduleUnit) (day : Nat) : Bool :=
  u.viewMinute = none || day = u.viewDay || day = u.viewDay + 1

/-- The record LOAD SCREENING makes: the fields carried, PENDING, no cancel time (R52, R54). -/
def ScreeningFields.record (f : ScreeningFields) : Screening :=
  ⟨f.number, f.day, f.auditorium, f.title, f.showTime, f.delay, f.capacity, f.badges, noteOf f.note, .pending, none⟩

/-- R53: which of two CLOSED records is given up first: the earlier business day, then the earlier E, then the lower number. -/
def givenUpBefore (a b : Screening) : Bool :=
  a.day < b.day || (a.day = b.day && (a.start < b.start || (a.start = b.start && a.number < b.number)))

/-- R53: the CLOSED record given up to make room. -/
def pickClosed (table : List Screening) : Option Screening :=
  (table.filter fun r => r.phase = .closed).foldl (fun best r =>
    match best with
    | none => some r
    | some b => if givenUpBefore r b then some r else some b) none

/-- R52: a new record is created: "screening added", then the phase computation. -/
def ScheduleUnit.create (u : ScheduleUnit) (f : ScreeningFields) : ScheduleUnit × List ScheduleEvent :=
  let x := ({ u with table := insertScreening f.record u.table } : ScheduleUnit).recomputeOne f.record
  (x.1, .added f.number f.capacity :: x.2)

/-- R54: an existing record is replaced. -/
def ScheduleUnit.replace (u : ScheduleUnit) (old : Screening) (f : ScreeningFields) : ScheduleUnit × List ScheduleEvent :=
  let x := ({ u with table := insertScreening f.record u.table } : ScheduleUnit).recomputeOne f.record
  let reached := (u.moved f.record).phase
  (x.1,
    (if f.capacity = old.capacity then [] else [.capacityChanged f.number f.capacity])
      ++ [.changed f.number]
      ++ (if reached = old.phase then [] else [.phaseChanged f.number reached]))

/-- R53: room for a new number; the unit with a record given up where the table is full, or `none` where no room can be made. -/
def ScheduleUnit.makeRoom (u : ScheduleUnit) : Option (ScheduleUnit × List ScheduleEvent) :=
  if u.table.length < 96 then some (u, [])
  else (pickClosed u.table).map fun r => ({ u with table := removeScreening r.number u.table }, [.removed r.number])

/-- R51 to R54: LOAD SCREENING. -/
def loadScreening (f : ScreeningFields) (s : State) : State × Reply :=
  if f.inRange = false then refuse s .outOfRange
  else if 1439 < f.showTime + f.delay then refuse s .outOfRange
  else if s.schedule.dayAccepted f.day = false then refuse s .outOfRange
  else if (s.schedule.titles[f.title]?.getD none).isNone then refuse s .noSuch
  else
    match findScreening s.schedule.table f.number with
    | some old => done (s.withSchedule (s.schedule.replace old f))
    | none =>
      match s.schedule.makeRoom with
      | none => refuse s .full
      | some (u, gone) =>
        let x := u.create f
        done (s.withSchedule (x.1, gone ++ x.2))

/-- LOAD_SCREENING (R51). -/
def execLoadScreening (p : Port) (s : State) : Result :=
  .next <| s.takeAndAnswer .schedule p (fun d => match d with | .loadScreening f => some f | _ => none) loadScreening

/-- The optional fields of AMEND SCREENING (R55). -/
structure AmendFields where
  delay : Option Nat
  capacity : Option Nat
  badges : Option (List Nat)
  note : Option (List Byte)
  deriving DecidableEq, Repr

/-- R55 step 2: the ranges of the fields present. -/
def AmendFields.inRange (f : AmendFields) : Bool :=
  f.delay.all (· ≤ 120) && f.capacity.all (fun c => 1 ≤ c && c ≤ 999) && f.badges.all badgesOk
    && f.note.all (fun t => t.length ≤ 24)

/-- R55 step 4: whether the phase has passed the one in which the amendment is allowed. -/
def AmendFields.tooLate (f : AmendFields) (phase : Phase) : Bool :=
  (f.delay.isSome && (phase = .running || phase = .closed || phase = .cancelled))
    || (f.capacity.isSome && (phase = .closed || phase = .cancelled))

/-- R56: the record with the fields present changed. -/
def AmendFields.apply (f : AmendFields) (r : Screening) : Screening :=
  { r with
    delay := f.delay.getD r.delay
    capacity := f.capacity.getD r.capacity
    badges := f.badges.getD r.badges
    note := match f.note with | some t => noteOf t | none => r.note }

/-- R56: an amendment of a record: capacity, then phase, then row. -/
def ScheduleUnit.amend (u : ScheduleUnit) (old : Screening) (f : AmendFields) : ScheduleUnit × List ScheduleEvent :=
  let new := f.apply old
  let u := { u with table := insertScreening new u.table }
  let x := if f.delay.isSome then u.recomputeOne new else (u, [])
  (x.1,
    (if new.capacity = old.capacity then [] else [.capacityChanged old.number new.capacity])
      ++ x.2
      ++ (if new.delay = old.delay ∧ new.badges = old.badges ∧ new.note = old.note then [] else [.changed old.number]))

/-- R55: AMEND SCREENING. -/
def amendScreening (n : Nat) (f : AmendFields) (s : State) : State × Reply :=
  match findScreening s.schedule.table n with
  | none => refuse s .noSuch
  | some r =>
    if f.inRange = false then refuse s .outOfRange
    else if f.delay.any (fun d => 1439 < r.showTime + d) then refuse s .outOfRange
    else if f.tooLate r.phase then refuse s .tooLate
    else done (s.withSchedule (s.schedule.amend r f))

/-- AMEND_SCREENING (R55). -/
def execAmendScreening (p : Port) (s : State) : Result :=
  .next <| s.takeAndAnswer .schedule p
    (fun d => match d with | .amendScreening n dl c b t => some (n, AmendFields.mk dl c b t) | _ => none)
    fun (n, f) s => amendScreening n f s

/-! ### Cancelling and dropping -/

/-- R57: CANCEL SCREENING. -/
def cancelScreening (n : Nat) (s : State) : State × Reply :=
  match findScreening s.schedule.table n with
  | none => refuse s .noSuch
  | some r =>
    match r.phase with
    | .running | .closed => refuse s .tooLate
    | .cancelled => done s
    | .pending | .listed | .boarding =>
      let r := { r with phase := .cancelled, cancelTime := some s.clock.runTime }
      done (s.withSchedule ({ s.schedule with table := insertScreening r s.schedule.table }, [.phaseChanged n .cancelled]))

/-- CANCEL_SCREENING (R57). -/
def execCancelScreening (p : Port) (s : State) : Result :=
  .next <| s.takeAndAnswer .schedule p (fun d => match d with | .cancelScreening n => some n | _ => none) cancelScreening

/-- R58: DROP SCREENING. -/
def dropScreening (n : Nat) (s : State) : State × Reply :=
  match findScreening s.schedule.table n with
  | none => refuse s .noSuch
  | some _ => done (s.withSchedule ({ s.schedule with table := removeScreening n s.schedule.table }, [.removed n]))

/-- DROP_SCREENING (R58). -/
def execDropScreening (p : Port) (s : State) : Result :=
  .next <| s.takeAndAnswer .schedule p (fun d => match d with | .dropScreening n => some n | _ => none) dropScreening

/-! ### Queries -/

/-- The TITLE record (R43). -/
def Title.record (t : Title) : List Byte := putText t.text ++ putText t.rating ++ put2 t.runtime

/-- The answer to QUERY TITLE (R61). -/
def titleReply (n : Nat) (s : State) : Reply :=
  match s.schedule.titles[n]? with
  | none => ⟨.outOfRange, []⟩
  | some none => ⟨.noSuch, []⟩
  | some (some t) => ⟨.done, t.record⟩

/-- QUERY_TITLE (R61). -/
def execQueryTitle (p : Port) (s : State) : Result := .next <| s.takeQuery .schedule p 1 titleReply

/-- The SCREENING record (R61). -/
def Screening.record (r : Screening) : List Byte :=
  put2 r.number ++ put2 r.day ++ put2 r.auditorium ++ put2 r.title ++ put2 r.showTime ++ put2 r.delay ++ put2 r.start
    ++ put2 r.capacity ++ putSet r.badges ++ putOpt putText r.note ++ put2 r.phase.number ++ putOpt put4 r.cancelTime

/-- The answer to QUERY SCREENING (R61, R12): a screening number is 1 to 65535. -/
def screeningReply (n : Nat) (s : State) : Reply :=
  if n = 0 then ⟨.outOfRange, []⟩
  else
    match findScreening s.schedule.table n with
    | none => ⟨.noSuch, []⟩
    | some r => ⟨.done, r.record⟩

/-- QUERY_SCREENING (R61). -/
def execQueryScreening (p : Port) (s : State) : Result := .next <| s.takeQuery .schedule p 2 screeningReply

/-- The PHASE TIMES record (R61). -/
def PhaseSettings.record (p : PhaseSettings) : List Byte :=
  put2 p.doorsLead ++ put2 p.lateWindow ++ put2 p.horizon ++ put2 p.linger ++ put2 p.countdown

/-- QUERY_PHASE_TIMES (R61). -/
def execQueryPhaseTimes (p : Port) (s : State) : Result :=
  .next <| s.takeQuery .schedule p 3 fun _ s => ⟨.done, s.schedule.settings.record⟩

end Sys2Proof.Machine
end

