-- ==== Sys2Proof/Machine/Seats.lean ====
section
/-! DEFINITION. Chapter 4: the seat unit. Tallies and the life of a screening, the six tally messages, the hold list, and the
availability computation. The unit's own operations change `SeatUnit` and give what they send. -/

namespace Sys2Proof.Machine

open Sys2Proof

/-- What the seat unit sends (04, 4.6): "figure changed" to the board builder, condition events to the link unit. -/
inductive SeatEvent where
  | figure (screening : Nat)
  | condition (e : ConditionEvent)
  deriving DecidableEq, Repr

/-- The seat unit sends one event. -/
def State.sendSeat (s : State) (e : SeatEvent) : State :=
  match e with
  | .figure n => { s with mail := { s.mail with figuresToBuilder := s.mail.figuresToBuilder ++ [n] } }
  | .condition c => s.sendCondition .seat c

/-- The seat unit becomes `x.1` and sends the events `x.2`. -/
def State.withSeat (s : State) (x : SeatUnit × List SeatEvent) : State :=
  x.2.foldl State.sendSeat ({ s with seat := x.1 } : State)

/-! ### The tally table -/

/-- The tally of a screening number. -/
def findTally (ts : List Tally) (n : Nat) : Option Tally := ts.find? fun t => t.number = n

/-- Put a tally into a table kept in ascending screening number, replacing a tally of the same number (R63). -/
def insertTally (t : Tally) : List Tally → List Tally
  | [] => [t]
  | x :: rest =>
    if t.number < x.number then t :: x :: rest
    else if t.number = x.number then t :: rest
    else x :: insertTally t rest

/-! ### Availability -/

/-- R78 step 2: the seats left. -/
def seatsLeft (capacity sold held blocked : Nat) : Nat := capacity - (sold + held + blocked)

/-- R78 step 4: the fill in parts per thousand. -/
def fillOf (capacity left : Nat) : Nat := (capacity - left) * 1000 / capacity

/-- The order of the bands, from lowest to highest, and the number each is carried as (R63, R80). -/
def Band.number : Band → Nat
  | .plenty => 0
  | .filling => 1
  | .few => 2
  | .soldOut => 3

/-- R80: the raw band. -/
def rawBand (b : BandSettings) (left fill : Nat) : Band :=
  if left = 0 then .soldOut
  else if left ≤ b.fewSeats ∨ b.fewFill ≤ fill then .few
  else if b.fillingFill ≤ fill then .filling
  else .plenty

/-- R81: the stay condition of a band. -/
def stays (b : BandSettings) (left fill : Nat) : Band → Bool
  | .soldOut => left < b.reopenSeats
  | .few => left ≤ b.fewSeats + b.marginSeats || b.fewFill - b.marginFill ≤ fill
  | .filling => b.fillingFill - b.marginFill ≤ fill
  | .plenty => false

/-- The band one step down (R81). -/
def Band.down : Band → Band
  | .soldOut => .few
  | .few => .filling
  | .filling => .plenty
  | .plenty => .plenty

/-- R81: the fall from a band toward a lower raw band, one step at a time. Three steps reach PLENTY from anywhere. -/
def fallBand (b : BandSettings) (left fill : Nat) (raw : Band) : Nat → Band → Band
  | 0, band => band
  | steps + 1, band =>
    if stays b left fill band then band
    else if band.down.number ≤ raw.number then band.down
    else fallBand b left fill raw steps band.down

/-- R81: the new band from the raw band and the previous band. -/
def newBand (b : BandSettings) (left fill : Nat) (previous : Band) : Band :=
  let raw := rawBand b left fill
  if previous.number ≤ raw.number then raw else fallBand b left fill raw 3 previous

/-- R82: the figure of a band. -/
def figureOf (band : Band) (left : Nat) : Option Nat :=
  match band with
  | .plenty | .soldOut => none
  | .filling => if 10 ≤ left then some (left / 10 * 10) else some left
  | .few => some left

/-- R78, R80 to R83: a tally after the availability computation. -/
def Tally.computed (t : Tally) (b : BandSettings) : Tally :=
  let left := seatsLeft t.capacity t.sold t.held t.blocked
  let fill := fillOf t.capacity left
  let band := newBand b left fill t.band
  { t with
    left := left
    fill := fill
    band := band
    figure := figureOf band left
    oversold := t.capacity < t.sold + t.blocked }

/-- R79: what a change of the oversold flag sends, given the new oversold count. -/
def oversoldEvents (before after : Bool) (count : Nat) : List SeatEvent :=
  if before = after then []
  else if after then [.condition (.raise .oversold)]
  else if count = 0 then [.condition (.ends .oversold)]
  else []

/-- R79: the oversold count after a change of the oversold flag. -/
def oversoldCount (before after : Bool) (count : Nat) : Nat :=
  if before = after then count else if after then count + 1 else count - 1

/-- R83: "figure changed" is sent when the shown pair has moved. -/
def figureEvents (old new : Tally) : List SeatEvent :=
  if old.band = new.band ∧ old.figure = new.figure then [] else [.figure new.number]

/-- R78: the availability computation for one tally, which may be new to the table: `t` holds the counts as changed. -/
def SeatUnit.compute (u : SeatUnit) (t : Tally) : SeatUnit × List SeatEvent :=
  let new := t.computed u.bands
  let count := oversoldCount t.oversold new.oversold u.oversold
  ({ u with tallies := insertTally new u.tallies, oversold := count },
   oversoldEvents t.oversold new.oversold count ++ figureEvents t new)

/-- R78: the computation for several tallies, one after another. -/
def SeatUnit.computeAll (u : SeatUnit) : List Tally → SeatUnit × List SeatEvent
  | [] => (u, [])
  | t :: rest =>
    let x := u.compute t
    let y := x.1.computeAll rest
    (y.1, x.2 ++ y.2)

/-! ### Events of the schedule unit -/

/-- R64: a new tally: the counts at 0, the shown pair PLENTY and none, not oversold. -/
def Tally.fresh (n capacity : Nat) : Tally := ⟨n, capacity, 0, 0, 0, 0, 0, .plenty, none, false⟩

/-- R65: the tally of a number takes a capacity; a number with no tally is ignored. -/
def SeatUnit.takeCapacity (u : SeatUnit) (n capacity : Nat) : SeatUnit × List SeatEvent :=
  match findTally u.tallies n with
  | none => (u, [])
  | some t => u.compute { t with capacity := capacity }

/-- R64: "screening added". -/
def SeatUnit.added (u : SeatUnit) (n capacity : Nat) : SeatUnit × List SeatEvent :=
  match findTally u.tallies n with
  | none => u.compute (Tally.fresh n capacity)
  | some _ => u.takeCapacity n capacity

/-- R66: "phase changed" to CLOSED or CANCELLED removes the screening's holds. -/
def SeatUnit.phaseChanged (u : SeatUnit) (n : Nat) (phase : Phase) : SeatUnit × List SeatEvent :=
  if phase = .closed ∨ phase = .cancelled then
    let u := { u with holds := u.holds.filter fun h => h.screening ≠ n }
    match findTally u.tallies n with
    | none => (u, [])
    | some t => u.compute { t with held := 0 }
  else (u, [])

/-- R67: "screening removed". -/
def SeatUnit.removed (u : SeatUnit) (n : Nat) : SeatUnit × List SeatEvent :=
  match findTally u.tallies n with
  | none => (u, [])
  | some t =>
    let count := if t.oversold then u.oversold - 1 else u.oversold
    ({ u with
       holds := u.holds.filter fun h => h.screening ≠ n
       tallies := u.tallies.filter fun x => x.number ≠ n
       oversold := count },
     if t.oversold ∧ count = 0 then [.condition (.ends .oversold)] else [])

/-- The seat unit takes the event at the head of the schedule unit's queue, where `act` acts on it. -/
def State.takeSeatEvent (s : State) (act : ScheduleEvent → Option (SeatUnit × List SeatEvent)) : State :=
  match s.mail.scheduleToSeat with
  | [] => s
  | e :: rest =>
    match act e with
    | none => s
    | some x => ({ s with mail := { s.mail with scheduleToSeat := rest } } : State).withSeat x

/-- SCREENING_ADDED (R64). -/
def execScreeningAdded (s : State) : Result :=
  .next <| s.takeSeatEvent fun e => match e with | .added n c => some (s.seat.added n c) | _ => none

/-- CAPACITY_CHANGED (R65). -/
def execCapacityChanged (s : State) : Result :=
  .next <| s.takeSeatEvent fun e => match e with | .capacityChanged n c => some (s.seat.takeCapacity n c) | _ => none

/-- SEAT_PHASE_CHANGED (R66). -/
def execSeatPhaseChanged (s : State) : Result :=
  .next <| s.takeSeatEvent fun e => match e with | .phaseChanged n p => some (s.seat.phaseChanged n p) | _ => none

/-- SEAT_SCREENING_REMOVED (R67). -/
def execSeatScreeningRemoved (s : State) : Result :=
  .next <| s.takeSeatEvent fun e => match e with | .removed n => some (s.seat.removed n) | _ => none

/-! ### Tally messages -/

/-- R68: the presence and phase checks of a screening, giving its tally or the outcome they refuse with. -/
def State.checkScreening (s : State) (n : Nat) : Except OutcomeCode Tally :=
  match findScreening s.schedule.table n, findTally s.seat.tallies n with
  | some r, some t => if r.phase = .closed ∨ r.phase = .cancelled then .error .tooLate else .ok t
  | _, _ => .error .noSuch

/-- R68: a message that passes its checks: the unit runs the computation for the changed tally and answers. -/
def countTally (s : State) (u : SeatUnit) (t : Tally) (o : OutcomeCode) : State × Reply :=
  (s.withSeat (u.compute t), ⟨o, []⟩)

/-- R69: SELL. -/
def sell (scr n : Nat) (s : State) : State × Reply :=
  if scr = 0 ∨ n < 1 ∨ 50 < n then refuse s .outOfRange
  else
    match s.checkScreening scr with
    | .error o => refuse s o
    | .ok t =>
      countTally s s.seat { t with sold := min (t.sold + n) 999 } (if 999 < t.sold + n then .doneClamped else .done)

/-- SELL (R69). -/
def execSell (p : Port) (s : State) : Result :=
  .next <| s.takeAndAnswer .seat p (fun d => match d with | .sell scr n => some (scr, n) | _ => none)
    fun (scr, n) s => sell scr n s

/-- R70: REFUND. -/
def refund (scr n : Nat) (s : State) : State × Reply :=
  if scr = 0 ∨ n < 1 ∨ 50 < n then refuse s .outOfRange
  else
    match s.checkScreening scr with
    | .error o => refuse s o
    | .ok t =>
      if t.sold < n then
        countTally (s.sendCondition .seat (.raise .tallyUnderflow)) s.seat { t with sold := 0 } .doneClamped
      else countTally s s.seat { t with sold := t.sold - n } .done

/-- REFUND (R70). -/
def execRefund (p : Port) (s : State) : Result :=
  .next <| s.takeAndAnswer .seat p (fun d => match d with | .refund scr n => some (scr, n) | _ => none)
    fun (scr, n) s => refund scr n s

/-- R71: SET SOLD. -/
def setSold (scr sold blocked : Nat) (s : State) : State × Reply :=
  if scr = 0 ∨ 999 < sold ∨ 999 < blocked then refuse s .outOfRange
  else
    match s.checkScreening scr with
    | .error o => refuse s o
    | .ok t => countTally s s.seat { t with sold := sold, blocked := blocked } .done

/-- SET_SOLD (R71). -/
def execSetSold (p : Port) (s : State) : Result :=
  .next <| s.takeAndAnswer .seat p (fun d => match d with | .setSold scr a b => some (scr, a, b) | _ => none)
    fun (scr, a, b) s => setSold scr a b s

/-! ### Holds -/

/-- R72: a new hold goes after every hold whose expiry is at or before its own, before every later one. -/
def insertHold (h : Hold) : List Hold → List Hold
  | [] => [h]
  | x :: rest => if x.expiry ≤ h.expiry then x :: insertHold h rest else h :: x :: rest

/-- The hold with an id. -/
def findHold (hs : List Hold) (id : Nat) : Option Hold := hs.find? fun h => h.id = id

/-- Take a hold id out of the list. -/
def removeHold (id : Nat) (hs : List Hold) : List Hold := hs.filter fun h => h.id ≠ id

/-- R73: HOLD. -/
def hold (scr id seats minutes : Nat) (s : State) : State × Reply :=
  if scr = 0 ∨ id = 0 ∨ seats < 1 ∨ 20 < seats ∨ minutes < 1 ∨ 30 < minutes then refuse s .outOfRange
  else
    match s.checkScreening scr with
    | .error o => refuse s o
    | .ok t =>
      if (findHold s.seat.holds id).isSome then refuse s .duplicate
      else if 64 ≤ s.seat.holds.length then refuse (s.sendCondition .seat (.raise .holdsFull)) .full
      else if 999 < t.held + seats then refuse s .full
      else
        let h : Hold := ⟨id, scr, seats, addTime s.clock.runTime (60 * minutes)⟩
        countTally s { s.seat with holds := insertHold h s.seat.holds } { t with held := t.held + seats } .done

/-- HOLD (R73). -/
def execHold (p : Port) (s : State) : Result :=
  .next <| s.takeAndAnswer .seat p (fun d => match d with | .hold scr id n m => some (scr, id, n, m) | _ => none)
    fun (scr, id, n, m) s => hold scr id n m s

/-- R74, R75: the checks of CONFIRM and RELEASE, giving the hold and its tally or the outcome they refuse with. -/
def State.checkHold (s : State) (id : Nat) : Except OutcomeCode (Hold × Tally) :=
  if id = 0 then .error .outOfRange
  else
    match findHold s.seat.holds id with
    | none => .error .noSuch
    | some h =>
      match s.checkScreening h.screening with
      | .error o => .error o
      | .ok t => .ok (h, t)

/-- R74: CONFIRM. -/
def confirm (id : Nat) (s : State) : State × Reply :=
  match s.checkHold id with
  | .error o => refuse s o
  | .ok (h, t) =>
    countTally s { s.seat with holds := removeHold id s.seat.holds }
      { t with held := t.held - h.seats, sold := min (t.sold + h.seats) 999 }
      (if 999 < t.sold + h.seats then .doneClamped else .done)

/-- CONFIRM (R74). -/
def execConfirm (p : Port) (s : State) : Result :=
  .next <| s.takeAndAnswer .seat p (fun d => match d with | .confirm id => some id | _ => none) confirm

/-- R75: RELEASE. -/
def release (id : Nat) (s : State) : State × Reply :=
  match s.checkHold id with
  | .error o => refuse s o
  | .ok (h, t) =>
    countTally s { s.seat with holds := removeHold id s.seat.holds } { t with held := t.held - h.seats } .done

/-- RELEASE (R75). -/
def execRelease (p : Port) (s : State) : Result :=
  .next <| s.takeAndAnswer .seat p (fun d => match d with | .release id => some id | _ => none) release

/-- The seats of a screening's holds in a list (R72). -/
def heldSeats (hs : List Hold) (n : Nat) : Nat := ((hs.filter fun h => h.screening = n).map Hold.seats).sum

/-- R76: the holds at the head whose expiry is at or before the run time leave the list; then each tally that lost a hold is
computed once, in ascending screening number. -/
def SeatUnit.expire (u : SeatUnit) (t : Nat) : SeatUnit × List SeatEvent :=
  let gone := u.holds.takeWhile fun h => h.expiry ≤ t
  let u := { u with holds := u.holds.dropWhile fun h => h.expiry ≤ t }
  u.computeAll ((u.tallies.filter fun x => gone.any fun h => h.screening = x.number).map fun x =>
    { x with held := x.held - heldSeats gone x.number })

/-- HOLD_EXPIRY (R76). -/
def execHoldExpiry (s : State) : Result :=
  .next <|
    match s.nextSecond .seat with
    | none => s
    | some t => (s.dropSecond .seat).withSeat (s.seat.expire t)

/-! ### Band settings and queries -/

/-- R84: the ranges of the band settings and the order of the fills. -/
def BandSettings.valid (b : BandSettings) : Bool :=
  1 ≤ b.fewSeats && b.fewSeats ≤ 99 && 500 ≤ b.fewFill && b.fewFill ≤ 1000 && 100 ≤ b.fillingFill && b.fillingFill ≤ 900
    && b.marginSeats ≤ 20 && b.marginFill ≤ 100 && 1 ≤ b.reopenSeats && b.reopenSeats ≤ 20 && b.fillingFill < b.fewFill

/-- R84: SET BANDS. -/
def setBands (b : BandSettings) (s : State) : State × Reply :=
  if b.valid then done (s.withSeat (({ s.seat with bands := b } : SeatUnit).computeAll s.seat.tallies))
  else refuse s .outOfRange

/-- SET_BANDS (R84). -/
def execSetBands (p : Port) (s : State) : Result :=
  .next <| s.takeAndAnswer .seat p (fun d => match d with | .setBands b => some b | _ => none) setBands

/-- The TALLY record (R63, R85). -/
def Tally.record (t : Tally) : List Byte :=
  put2 t.number ++ put2 t.capacity ++ put2 t.sold ++ put2 t.held ++ put2 t.blocked ++ put2 t.left ++ put2 t.fill
    ++ put2 t.band.number ++ put2OrNone t.figure ++ putFlag t.oversold

/-- The answer to QUERY TALLY (R85). -/
def tallyReply (n : Nat) (s : State) : Reply :=
  if n = 0 then ⟨.outOfRange, []⟩
  else
    match findTally s.seat.tallies n with
    | none => ⟨.noSuch, []⟩
    | some t => ⟨.done, t.record⟩

/-- QUERY_TALLY (R85). -/
def execQueryTally (p : Port) (s : State) : Result := .next <| s.takeQuery .seat p 4 tallyReply

/-- The HOLD record (R72). -/
def Hold.record (h : Hold) : List Byte := put2 h.id ++ put2 h.screening ++ put2 h.seats ++ put4 h.expiry

/-- The answer to QUERY HOLD (R85). -/
def holdReply (id : Nat) (s : State) : Reply :=
  if id = 0 then ⟨.outOfRange, []⟩
  else
    match findHold s.seat.holds id with
    | none => ⟨.noSuch, []⟩
    | some h => ⟨.done, h.record⟩

/-- QUERY_HOLD (R85). -/
def execQueryHold (p : Port) (s : State) : Result := .next <| s.takeQuery .seat p 5 holdReply

/-- The BANDS record (R84). -/
def BandSettings.record (b : BandSettings) : List Byte :=
  put2 b.fewSeats ++ put2 b.fewFill ++ put2 b.fillingFill ++ put2 b.marginSeats ++ put2 b.marginFill ++ put2 b.reopenSeats

/-- QUERY_BANDS (R85). -/
def execQueryBands (p : Port) (s : State) : Result :=
  .next <| s.takeQuery .seat p 6 fun _ s => ⟨.done, s.seat.bands.record⟩

end Sys2Proof.Machine
end

