-- ==== Sys2Proof/Machine/Boards.lean ====
section
/-! DEFINITION. Chapter 5: the board builder. Definitions, row lists, pages, and the redraws it asks for. The unit's own
operations change `BuilderUnit` and give the requests they send to the render unit, in order. -/

namespace Sys2Proof.Machine

open Sys2Proof

/-- The board builder becomes `x.1` and asks the render unit for `x.2` (R104). -/
def State.withBuilder (s : State) (x : BuilderUnit × List TileRequest) : State :=
  ({ s with builder := x.1 } : State).requestTiles .builder x.2

/-! ### Row lists -/

/-- Whether a screening record is admitted to a board's row list (R91). -/
def BoardDef.admits (d : BoardDef) (viewDay : Nat) (viewMinute : Option Nat) (r : Screening) : Bool :=
  (match d.auditoriums with | none => true | some xs => xs.contains r.auditorium)
    && (match d.title with | none => true | some t => t = r.title)
    && (match r.phase with
        | .listed | .boarding | .running => true
        | .cancelled => d.showCancelled && viewMinute.isSome && r.day = viewDay
        | .pending | .closed => false)

/-- The copies a row list entry holds of its record (R92). -/
def Screening.rowEntry (r : Screening) : RowEntry := ⟨r.number, r.auditorium, r.title, r.start, r.phase⟩

/-- The three keys a sort order compares by (R87). -/
def RowEntry.keys (e : RowEntry) : SortOrder → Nat × Nat × Nat
  | .byTime => (e.start, e.auditorium, e.screening)
  | .byScreen => (e.auditorium, e.start, e.screening)

/-- R87: the keys are compared in turn, the smaller value first. -/
def keysLE (a b : Nat × Nat × Nat) : Bool :=
  a.1 < b.1 || (a.1 = b.1 && (a.2.1 < b.2.1 || (a.2.1 = b.2.1 && a.2.2 ≤ b.2.2)))

/-- Whether an entry stands at or before another in a sort order (R87). -/
def rowLE (o : SortOrder) (a b : RowEntry) : Bool := keysLE (a.keys o) (b.keys o)

/-- R92: the row list a rebuild gives: the admitted records in the board's sort order, the first 32 of them. -/
def BoardDef.rowList (d : BoardDef) (viewDay : Nat) (viewMinute : Option Nat) (table : List Screening) : List RowEntry :=
  (((table.filter (d.admits viewDay viewMinute)).map Screening.rowEntry).insertionSort (fun a b => rowLE d.sort a b = true)).take 32

/-! ### Pages and slots -/

/-- R93: the page count of `n` entries. -/
def pageCount (n rowsPerPage : Nat) : Nat := max 1 ((n + rowsPerPage - 1) / rowsPerPage)

/-- The full dwell of a board, in tenth-ticks (R88). -/
def BoardDef.fullDwell (d : BoardDef) : Nat := 10 * d.pageDwell

/-- R95: the occupant of a row slot. -/
def Board.occupant (b : Board) (d : BoardDef) (r : Nat) : Option RowEntry :=
  if r < d.rowsPerPage then b.rows[b.page * d.rowsPerPage + r]? else none

/-- R92, R93: a board with a new row list; a page index past the new last page is clamped and the dwell restarts. -/
def Board.withRows (b : Board) (d : BoardDef) (rows : List RowEntry) : Board :=
  let last := pageCount rows.length d.rowsPerPage - 1
  if last < b.page then { b with rows := rows, page := last, dwell := some d.fullDwell } else { b with rows := rows }

/-- A redraw request of the board builder: tile 16b + r, NORMAL lane (R95, R104). -/
def slotRedraw (board r : Nat) : TileRequest := .redraw (16 * board + r) .normal

/-- The redraws of the slots 0 to rows per page − 1 that satisfy a test, in ascending tile number. -/
def slotRedraws (board : Nat) (d : BoardDef) (test : Nat → Bool) : List TileRequest :=
  ((List.range d.rowsPerPage).filter test).map (slotRedraw board)

/-- R96: whether a slot is asked for redraw after a rebuild: its occupant has changed, or is the screening the event named. -/
def slotChanged (old new : Board) (d : BoardDef) (named : Option Nat) (r : Nat) : Bool :=
  let before := (old.occupant d r).map RowEntry.screening
  let after := (new.occupant d r).map RowEntry.screening
  before ≠ after || (after.isSome && after = named)

/-- A change of one defined board, with the requests it brings; an undefined board is left alone. -/
def BuilderUnit.changeBoard (u : BuilderUnit) (i : Nat) (f : Board → BoardDef → Board × List TileRequest) :
    BuilderUnit × List TileRequest :=
  match u.boards[i]? with
  | none => (u, [])
  | some b =>
    match b.defn with
    | none => (u, [])
    | some d => ({ u with boards := u.boards.setIfInBounds i (f b d).1 }, (f b d).2)

/-- The defined boards are changed in ascending board number, each with the requests it brings. -/
def BuilderUnit.changeAll (u : BuilderUnit) (f : Nat → Board → BoardDef → Board × List TileRequest) :
    BuilderUnit × List TileRequest :=
  (List.range 8).foldl (fun x i =>
    let y := x.1.changeBoard i (f i)
    (y.1, x.2 ++ y.2)) (u, [])

/-- R92, R93, R96: the rebuild of every defined board, each followed by its redraws; `named` is the screening of the event. -/
def BuilderUnit.rebuildAll (u : BuilderUnit) (table : List Screening) (named : Option Nat) : BuilderUnit × List TileRequest :=
  u.changeAll fun i b d =>
    let new := b.withRows d (d.rowList u.viewDay u.viewMinute table)
    (new, slotRedraws i d (slotChanged b new d named))

/-- The redraws of the occupied slots whose entry satisfies a test, on every defined board; no board changes. -/
def BuilderUnit.redrawWhere (u : BuilderUnit) (test : RowEntry → Bool) : List TileRequest :=
  (u.changeAll fun i b d => (b, slotRedraws i d fun r => (b.occupant d r).any test)).2

/-! ### Events -/

/-- The board builder takes the event at the head of the board clock's queue, where `act` acts on it. -/
def State.takeBuilderClock (s : State) (act : BuilderEvent → Option (BuilderUnit × List TileRequest)) : State :=
  match s.mail.clockToBuilder with
  | [] => s
  | e :: rest =>
    match act e with
    | none => s
    | some x =>
      if s.builder.settled then ({ s with mail := { s.mail with clockToBuilder := rest } } : State).withBuilder x else s

/-- The board builder takes the event at the head of the schedule unit's queue, where `act` acts on it. -/
def State.takeBuilderSchedule (s : State) (act : ScheduleEvent → Option (BuilderUnit × List TileRequest)) : State :=
  match s.mail.scheduleToBuilder with
  | [] => s
  | e :: rest =>
    match act e with
    | none => s
    | some x =>
      if s.builder.settled then ({ s with mail := { s.mail with scheduleToBuilder := rest } } : State).withBuilder x else s

/-- BUILDER_PHASE_CHANGED (R92, R96). -/
def execBuilderPhaseChanged (s : State) : Result :=
  .next <| s.takeBuilderSchedule fun e =>
    match e with | .phaseChanged n _ => some (s.builder.rebuildAll s.schedule.table (some n)) | _ => none

/-- BUILDER_SCREENING_REMOVED (R92, R96). -/
def execBuilderScreeningRemoved (s : State) : Result :=
  .next <| s.takeBuilderSchedule fun e =>
    match e with | .removed _ => some (s.builder.rebuildAll s.schedule.table none) | _ => none

/-- SCREENING_CHANGED (R92, R96). -/
def execScreeningChanged (s : State) : Result :=
  .next <| s.takeBuilderSchedule fun e =>
    match e with | .changed n => some (s.builder.rebuildAll s.schedule.table (some n)) | _ => none

/-- TITLE_CHANGED (R103). -/
def execTitleChanged (s : State) : Result :=
  .next <| s.takeBuilderSchedule fun e =>
    match e with | .titleChanged t => some (s.builder, s.builder.redrawWhere fun x => x.title = t) | _ => none

/-- BUILDER_ROLLOVER (R90, R92). -/
def execBuilderRollover (s : State) : Result :=
  .next <| s.takeBuilderClock fun e =>
    match e with
    | .rollover day =>
      some (({ s.builder with viewDay := day, viewMinute := some 0 } : BuilderUnit).rebuildAll s.schedule.table none)
    | _ => none

/-- R102: whether E − n lies in 1 to K. -/
def countsDown (e n k : Nat) : Bool := n + 1 ≤ e && e ≤ n + k

/-- R102: whether an entry's row is redrawn at a minute event, from the old view minute and the new. -/
def RowEntry.countdownMoves (x : RowEntry) (old : Option Nat) (new k : Nat) : Bool :=
  (x.phase = .listed || x.phase = .boarding)
    && (countsDown x.start new k || (match old with | some m => countsDown x.start m k | none => false))

/-- BUILDER_MINUTE_EVENT (R90, R102). -/
def execBuilderMinuteEvent (s : State) : Result :=
  .next <| s.takeBuilderClock fun e =>
    match e with
    | .minute n =>
      some ({ s.builder with viewMinute := some n },
        s.builder.redrawWhere fun x => x.countdownMoves s.builder.viewMinute n s.schedule.settings.countdown)
    | _ => none

/-- HOUR_FORMAT_CHANGED (R103). -/
def execHourFormatChanged (s : State) : Result :=
  .next <| s.takeBuilderClock fun e =>
    match e with | .hourFormatChanged => some (s.builder, s.builder.redrawWhere fun _ => true) | _ => none

/-- FIGURE_CHANGED (R101). -/
def execFigureChanged (s : State) : Result :=
  .next <|
    match s.mail.figuresToBuilder with
    | [] => s
    | n :: rest =>
      if s.builder.settled then
        ({ s with mail := { s.mail with figuresToBuilder := rest } } : State).withBuilder
          (s.builder, s.builder.redrawWhere fun x => x.screening = n)
      else s

/-- BUILDER_TENTH_TICK (R94): the dwell remaining of every defined board goes down by 1. A board that reaches 0 has its expiry
still to come within the tick (PAGE_DWELL_EXPIRY), and the builder takes nothing else before it (DESIGN CHOICE, assumption 5). -/
def execBuilderTenthTick (s : State) : Result :=
  .next <| s.takeBuilderClock fun e =>
    match e with
    | .tick => some (s.builder.changeAll fun _ b _ => ({ b with dwell := b.dwell.map (· - 1) }, []))
    | _ => none

/-- R94: a board's dwell expires: the dwell restarts, and where there is more than one page the next is shown and every slot
drawn again. -/
def Board.expire (i : Nat) (b : Board) (d : BoardDef) : Board × List TileRequest :=
  let p := pageCount b.rows.length d.rowsPerPage
  if b.dwell ≠ some 0 then (b, [])
  else if p = 1 then ({ b with dwell := some d.fullDwell }, [])
  else ({ b with dwell := some d.fullDwell, page := (b.page + 1) % p }, slotRedraws i d fun _ => true)

/-- PAGE_DWELL_EXPIRY (R94). -/
def execPageDwellExpiry (board : Nat) (s : State) : Result :=
  .next <| s.withBuilder (s.builder.changeBoard board (Board.expire board))

/-- BOARD_RESTART (R107). -/
def execBoardRestart (s : State) : Result :=
  .next <|
    if s.mail.restarts[Block.builder.index] = 0 ∨ s.builder.settled = false then s
    else
      (s.dropRestart .builder).withBuilder
        (s.builder.changeAll fun i b d => ({ b with dwell := some d.fullDwell }, slotRedraws i d fun _ => true))

/-! ### Directives and queries -/

/-- The sort order a number stands for (R87). -/
def sortOf : Nat → Option SortOrder
  | 1 => some .byTime
  | 2 => some .byScreen
  | _ => none

/-- R88 step 1: the definition a DEFINE BOARD carries, where its fields are in range. -/
def BoardFields.definition (f : BoardFields) : Option BoardDef :=
  let filterOk : Bool :=
    match f.auditoriums with
    | none => true
    | some xs => !xs.isEmpty && xs.all (fun a => 1 ≤ a && a ≤ 24) && !hasRepeat xs
  if filterOk && (f.title ≤ 127 || f.title = 65535) && 1 ≤ f.rowsPerPage && f.rowsPerPage ≤ 16
      && 2 ≤ f.pageDwell && f.pageDwell ≤ 60 && 27 ≤ f.rowWidth && f.rowWidth ≤ 48 && f.showCancelled ≤ 1 then
    (sortOf f.sort).map fun o =>
      ⟨f.auditoriums, if f.title = 65535 then none else some f.title, o, f.rowsPerPage, f.pageDwell, f.showCancelled = 1,
        f.rowWidth⟩
  else none

/-- R88 step 4: the size requests of a board's row tiles, then the empty requests of those no longer used. -/
def rowTiles (board oldRows : Nat) (d : BoardDef) : List TileRequest :=
  ((List.range d.rowsPerPage).map fun r => TileRequest.size (16 * board + r) d.rowWidth 1)
    ++ (List.range' d.rowsPerPage (oldRows - d.rowsPerPage)).map fun r => TileRequest.empty (16 * board + r)

/-- R88: DEFINE BOARD. -/
def defineBoard (board : Nat) (f : BoardFields) (s : State) : State × Reply :=
  match f.definition with
  | none => refuse s .outOfRange
  | some d =>
    if h : board < 8 then
      let oldRows := match s.builder.boards[board].defn with | some o => o.rowsPerPage | none => 0
      let rows := d.rowList s.builder.viewDay s.builder.viewMinute s.schedule.table
      done (s.withBuilder
        ({ s.builder with boards := s.builder.boards.set board ⟨some d, rows, 0, some d.fullDwell⟩ h },
          rowTiles board oldRows d ++ slotRedraws board d fun _ => true))
    else refuse s .outOfRange

/-- DEFINE_BOARD (R88). -/
def execDefineBoard (p : Port) (s : State) : Result :=
  .next <| s.takeAndAnswer .builder p (fun d => match d with | .defineBoard b f => some (b, f) | _ => none)
    fun (b, f) s => defineBoard b f s

/-- R89: CLEAR BOARD. -/
def clearBoard (board : Nat) (s : State) : State × Reply :=
  if h : board < 8 then
    match s.builder.boards[board].defn with
    | none => refuse s .noSuch
    | some d =>
      done (s.withBuilder ({ s.builder with boards := s.builder.boards.set board ⟨none, [], 0, none⟩ h },
        (List.range d.rowsPerPage).map fun r => .empty (16 * board + r)))
  else refuse s .outOfRange

/-- CLEAR_BOARD (R89). -/
def execClearBoard (p : Port) (s : State) : Result :=
  .next <| s.takeAndAnswer .builder p (fun d => match d with | .clearBoard b => some b | _ => none) clearBoard

/-- The number a sort order is carried as (R87). -/
def SortOrder.number : SortOrder → Nat
  | .byTime => 1
  | .byScreen => 2

/-- The auditorium filter as DEFINE BOARD carries it: a count byte of 255 for ALL (R87). -/
def putFilter : Option (List Nat) → List Byte
  | none => put1 255
  | some xs => putSet xs

/-- The definition fields as DEFINE BOARD carries them (R87). -/
def BoardDef.record (d : BoardDef) : List Byte :=
  putFilter d.auditoriums ++ put2OrNone d.title ++ put2 d.sort.number ++ put2 d.rowsPerPage ++ put2 d.pageDwell
    ++ putFlag d.showCancelled ++ put2 d.rowWidth

/-- The BOARD record (R105). -/
def Board.record (b : Board) (d : BoardDef) : List Byte :=
  d.record ++ put2 b.rows.length ++ put2 (pageCount b.rows.length d.rowsPerPage) ++ put2 b.page ++ put2OrNone b.dwell
    ++ putSet (b.rows.map RowEntry.screening)

/-- The answer to QUERY BOARD (R105). -/
def boardReply (board : Nat) (s : State) : Reply :=
  match s.builder.boards[board]? with
  | none => ⟨.outOfRange, []⟩
  | some b =>
    match b.defn with
    | none => ⟨.noSuch, []⟩
    | some d => ⟨.done, b.record d⟩

/-- QUERY_BOARD (R105). -/
def execQueryBoard (p : Port) (s : State) : Result := .next <| s.takeQuery .builder p 7 boardReply

end Sys2Proof.Machine
end

