-- ==== Sys2Proof/Machine/Notices.lean ====
section
/-! DEFINITION. Chapter 6: the notice unit. Posting and withdrawing, binding to a screening, urgent lists and the shown urgent
notice, and the notice style. The unit's own operations change `NoticeUnit` and give the requests they send to the render unit. -/

namespace Sys2Proof.Machine

open Sys2Proof

/-- The notice unit becomes `x.1` and asks the render unit for `x.2`. -/
def State.withNotice (s : State) (x : NoticeUnit × List TileRequest) : State :=
  ({ s with notice := x.1 } : State).requestTiles .notice x.2

/-- The live notice with a number (R108). -/
def findNotice (ns : List Notice) (n : Nat) : Option Notice := ns.find? fun x => x.number = n

/-- The live notice in a slot (R108). -/
def noticeInSlot (ns : List Notice) (slot : Nat) : Option Notice := ns.find? fun x => x.slot = slot

/-- The tile of a notice: 224 + its slot (R108). -/
def Notice.tile (n : Notice) : Nat := 224 + n.slot

/-- The lane a notice's redraw goes to (R110). -/
def NoticeClass.lane : NoticeClass → Lane
  | .urgent => .urgent
  | .service => .normal
  | .promo => .normal

/-! ### Urgent lists and the shown notice (R114, R115) -/

/-- The notice that follows another in a list, or the head after the last. -/
def following (list : List Nat) (n : Nat) : Option Nat :=
  match (list.dropWhile (· ≠ n)).drop 1 with
  | m :: _ => some m
  | [] => list.head?

/-- R115: a notice leaves a panel's urgent list; a dwell still counted stays when one notice is left (DEDUCED, assumption 24). -/
def UrgentState.leave (x : UrgentState) (n dwell : Nat) : UrgentState :=
  if x.list.contains n = false then x
  else
    let list := x.list.filter (· ≠ n)
    if list = [] then ⟨[], none, none⟩
    else if x.shown = some n then ⟨list, following x.list n, some dwell⟩
    else ⟨list, x.shown, x.dwell⟩

/-- R115: a notice joins a panel's urgent list at the tail. -/
def UrgentState.join (x : UrgentState) (n dwell : Nat) : UrgentState :=
  if x.list = [] then ⟨[n], some n, some dwell⟩ else { x with list := x.list ++ [n] }

/-- R114: a notice on the list moves to the tail. -/
def UrgentState.toTail (x : UrgentState) (n : Nat) : UrgentState := { x with list := x.list.filter (· ≠ n) ++ [n] }

/-- The urgent state of a panel. -/
def NoticeUnit.urgentOf (u : NoticeUnit) (panel : Nat) : UrgentState := u.urgent[panel]?.getD ⟨[], none, none⟩

/-- Change the urgent state of a panel. -/
def NoticeUnit.putUrgent (u : NoticeUnit) (panel : Nat) (x : UrgentState) : NoticeUnit :=
  { u with urgent := u.urgent.setIfInBounds panel x }

/-! ### Withdrawal (R111) -/

/-- R111: a live notice is withdrawn: it leaves every urgent list, its slot is freed, and its tile is emptied. -/
def NoticeUnit.withdraw (u : NoticeUnit) (n : Nat) : NoticeUnit × List TileRequest :=
  match findNotice u.notices n with
  | none => (u, [])
  | some x =>
    ({ u with
       urgent := mapAll (fun p => p.leave n u.style.urgentDwell) u.urgent
       notices := u.notices.filter fun (y : Notice) => y.number ≠ n }, [.empty x.tile])

/-- Several notices are withdrawn one after another. -/
def NoticeUnit.withdrawAll (u : NoticeUnit) (ns : List Nat) : NoticeUnit × List TileRequest :=
  ns.foldl (fun x n =>
    let y := x.1.withdraw n
    (y.1, x.2 ++ y.2)) (u, [])

/-- The numbers of the live notices that satisfy a test, ascending. -/
def NoticeUnit.numbersWhere (u : NoticeUnit) (test : Notice → Bool) : List Nat :=
  ((u.notices.filter test).map Notice.number).insertionSort (· ≤ ·)

/-! ### Posting (R109, R110, R114) -/

/-- R114: the head of a full list is pushed out: it leaves the list and loses the panel from its target set. -/
def NoticeUnit.pushOut (u : NoticeUnit) (panel : Nat) : NoticeUnit × Option Nat :=
  let x := u.urgentOf panel
  match x.list with
  | [] => (u, none)
  | head :: _ =>
    let u : NoticeUnit := { u with
      notices := u.notices.map fun (y : Notice) => if y.number = head then { y with targets := y.targets.filter (· ≠ panel) } else y }
    (u.putUrgent panel (x.leave head u.style.urgentDwell), some head)

/-- R114: a notice that has lost its last target panel is withdrawn. -/
def NoticeUnit.withdrawIfTargetless (u : NoticeUnit) (n : Nat) : NoticeUnit × List TileRequest :=
  match findNotice u.notices n with
  | none => (u, [])
  | some x => if x.targets = [] then u.withdraw n else (u, [])

/-- R114: one panel's urgent list is brought into step with a notice. -/
def NoticeUnit.stepPanel (u : NoticeUnit) (n : Notice) (panel : Nat) : NoticeUnit × List TileRequest :=
  let x := u.urgentOf panel
  if n.cls = .urgent ∧ n.targets.contains panel then
    if x.list.contains n.number then (u.putUrgent panel (x.toTail n.number), [])
    else if x.list.length < 4 then (u.putUrgent panel (x.join n.number u.style.urgentDwell), [])
    else
      let (v, out) := u.pushOut panel
      let v := v.putUrgent panel ((v.urgentOf panel).join n.number u.style.urgentDwell)
      match out with
      | some m => v.withdrawIfTargetless m
      | none => (v, [])
  else (u.putUrgent panel (x.leave n.number u.style.urgentDwell), [])

/-- R114: every panel's urgent list is brought into step with a notice, in ascending panel number. -/
def NoticeUnit.stepPanels (u : NoticeUnit) (n : Notice) : NoticeUnit × List TileRequest :=
  (List.range 12).foldl (fun x panel =>
    let y := x.1.stepPanel n panel
    (y.1, x.2 ++ y.2)) (u, [])

/-- The lowest-numbered free slot (R110). -/
def NoticeUnit.freeSlot (u : NoticeUnit) : Option Nat := (List.range 32).find? fun i => (noticeInSlot u.notices i).isNone

/-- The slot a posting takes: its own where the number is live, otherwise the lowest free one (R110). -/
def NoticeUnit.slotFor (u : NoticeUnit) (n : Nat) : Option Nat :=
  match findNotice u.notices n with
  | some x => some x.slot
  | none => u.freeSlot

/-- The tile size of a class (R110). -/
def NoticeStyle.size (st : NoticeStyle) (c : NoticeClass) : Nat × Nat :=
  match c with
  | .urgent => (st.urgentWidth, st.urgentHeight)
  | .service | .promo => (st.normalWidth, st.normalHeight)

/-- The "notice tile size" and redraw requests of a notice (R110, R119). -/
def NoticeStyle.requests (st : NoticeStyle) (n : Notice) : List TileRequest :=
  [.size n.tile (st.size n.cls).1 (st.size n.cls).2, .redraw n.tile n.cls.lane]

/-- The class a number stands for (R108). -/
def classOf : Nat → Option NoticeClass
  | 1 => some .urgent
  | 2 => some .service
  | 3 => some .promo
  | _ => none

/-- R109: a PROMO notice posted without a lifetime takes one of 720 minutes. -/
def lifetimeOf (c : NoticeClass) (l : Option Nat) : Option Nat := if c = .promo ∧ l = none then some 720 else l

/-- R109 step 1: the class of a POST NOTICE whose fields are in range. -/
def NoticeFields.inRange (f : NoticeFields) : Option NoticeClass :=
  if 1 ≤ f.number && f.number ≤ 255 && 1 ≤ f.text.length && f.text.length ≤ 120 && validSet f.targets
      && f.bound.all (· ≠ 0) && f.lifetime.all (fun m => 1 ≤ m && m ≤ 720) then classOf f.cls
  else none

/-- R109 step 2: the outcome a binding is refused with, if any. -/
def bindingRefusal (table : List Screening) : Option Nat → Option OutcomeCode
  | none => none
  | some n =>
    match findScreening table n with
    | none => some .noSuch
    | some r => if r.phase = .closed ∨ r.phase = .cancelled then some .tooLate else none

/-- The notice a posting makes (R110). -/
def NoticeFields.notice (f : NoticeFields) (c : NoticeClass) (runTime slot : Nat) : Notice :=
  ⟨f.number, c, f.text, f.targets, f.bound, lifetimeOf c f.lifetime,
    (lifetimeOf c f.lifetime).map fun m => addTime runTime (60 * m), runTime, slot⟩

/-- R110: a notice is posted, or replaced in its own slot, at the end of the posting order. -/
def NoticeUnit.post (u : NoticeUnit) (n : Notice) : NoticeUnit × List TileRequest :=
  let v : NoticeUnit := { u with notices := u.notices.filter (fun (y : Notice) => y.number ≠ n.number) ++ [n] }
  let x := v.stepPanels n
  (x.1, x.2 ++ u.style.requests n)

/-- R109: POST NOTICE. -/
def postNotice (f : NoticeFields) (s : State) : State × Reply :=
  match f.inRange with
  | none => refuse s .outOfRange
  | some c =>
    match bindingRefusal s.schedule.table f.bound with
    | some o => refuse s o
    | none =>
      match s.notice.slotFor f.number with
      | none => refuse s .full
      | some slot => done (s.withNotice (s.notice.post (f.notice c s.clock.runTime slot)))

/-- POST_NOTICE (R109, R110). -/
def execPostNotice (p : Port) (s : State) : Result :=
  .next <| s.takeAndAnswer .notice p (fun d => match d with | .postNotice f => some f | _ => none) postNotice

/-- R111: WITHDRAW NOTICE. -/
def withdrawNotice (n : Nat) (s : State) : State × Reply :=
  if n = 0 ∨ 255 < n then refuse s .outOfRange
  else
    match findNotice s.notice.notices n with
    | none => refuse s .noSuch
    | some _ => done (s.withNotice (s.notice.withdraw n))

/-- WITHDRAW_NOTICE (R111). -/
def execWithdrawNotice (p : Port) (s : State) : Result :=
  .next <| s.takeAndAnswer .notice p (fun d => match d with | .withdrawNotice n => some n | _ => none) withdrawNotice

/-! ### Run-time seconds (R112, R115) -/

/-- R115: a panel whose list holds two or more notices loses 1 from its dwell remaining. -/
def UrgentState.count (x : UrgentState) : UrgentState :=
  if 2 ≤ x.list.length then { x with dwell := x.dwell.map (· - 1) } else x

/-- R112: the notices whose expiry has come are withdrawn in ascending number; then the urgent dwells are counted. -/
def NoticeUnit.second (u : NoticeUnit) (t : Nat) : NoticeUnit × List TileRequest :=
  let x := u.withdrawAll (u.numbersWhere fun n => n.expiry.any (· ≤ t))
  ({ x.1 with urgent := mapAll UrgentState.count x.1.urgent }, x.2)

/-- NOTICE_EXPIRY (R112, R115). A panel whose dwell reaches 0 has its change of shown notice still to come within the second
(URGENT_DWELL_EXPIRY), and the notice unit takes nothing else before it (DESIGN CHOICE, assumption 5). -/
def execNoticeExpiry (s : State) : Result :=
  .next <|
    match s.nextSecond .notice with
    | none => s
    | some t => if s.notice.settled then (s.dropSecond .notice).withNotice (s.notice.second t) else s

/-- R115: a panel whose dwell has run out shows the next notice of its list, for a full dwell. -/
def UrgentState.advance (x : UrgentState) (dwell : Nat) : UrgentState :=
  if x.dwell = some 0 then { x with shown := x.shown.bind (following x.list), dwell := some dwell } else x

/-- URGENT_DWELL_EXPIRY (R115). -/
def execUrgentDwellExpiry (panel : Nat) (s : State) : Result :=
  .next { s with notice := { s.notice with
    urgent := modifyAt s.notice.urgent panel fun x => x.advance s.notice.style.urgentDwell } }

/-! ### Events of the schedule unit and the restart -/

/-- R113: every live notice bound to a screening is withdrawn, in ascending notice number. -/
def NoticeUnit.withdrawBound (u : NoticeUnit) (screening : Nat) : NoticeUnit × List TileRequest :=
  u.withdrawAll (u.numbersWhere fun n => n.bound = some screening)

/-- The notice unit takes the event at the head of the schedule unit's queue, where `act` acts on it. -/
def State.takeNoticeEvent (s : State) (act : ScheduleEvent → Option (NoticeUnit × List TileRequest)) : State :=
  match s.mail.scheduleToNotice with
  | [] => s
  | e :: rest =>
    match act e with
    | none => s
    | some x =>
      if s.notice.settled then ({ s with mail := { s.mail with scheduleToNotice := rest } } : State).withNotice x else s

/-- NOTICE_PHASE_CHANGED (R113). -/
def execNoticePhaseChanged (s : State) : Result :=
  .next <| s.takeNoticeEvent fun e =>
    match e with
    | .phaseChanged n .closed => some (s.notice.withdrawBound n)
    | .phaseChanged _ _ => some (s.notice, [])
    | _ => none

/-- NOTICE_SCREENING_REMOVED (R113). -/
def execNoticeScreeningRemoved (s : State) : Result :=
  .next <| s.takeNoticeEvent fun e => match e with | .removed n => some (s.notice.withdrawBound n) | _ => none

/-- The live notices in ascending slot. -/
def NoticeUnit.bySlot (u : NoticeUnit) : List Notice := (List.range 32).filterMap (noticeInSlot u.notices)

/-- R122: a panel with a non-empty urgent list takes a full dwell. -/
def UrgentState.restart (x : UrgentState) (dwell : Nat) : UrgentState :=
  if x.list = [] then x else { x with dwell := some dwell }

/-- NOTICE_RESTART (R122). -/
def execNoticeRestart (s : State) : Result :=
  .next <|
    if s.mail.restarts[Block.notice.index] = 0 ∨ s.notice.settled = false then s
    else
      (s.dropRestart .notice).withNotice
        ({ s.notice with urgent := mapAll (fun x => x.restart s.notice.style.urgentDwell) s.notice.urgent },
          s.notice.bySlot.map fun n => .redraw n.tile n.cls.lane)

/-! ### Style and queries -/

/-- R119: the ranges of the notice style. -/
def NoticeStyle.valid (st : NoticeStyle) : Bool :=
  3 ≤ st.urgentDwell && st.urgentDwell ≤ 60 && 1 ≤ st.normalWidth && st.normalWidth ≤ 48 && 1 ≤ st.normalHeight
    && st.normalHeight ≤ 48 && 1 ≤ st.urgentWidth && st.urgentWidth ≤ 48 && 2 ≤ st.urgentHeight && st.urgentHeight ≤ 48
    && st.urgentColour ≤ 65535

/-- R119: what taking a style brings. -/
def NoticeUnit.restyle (u : NoticeUnit) (st : NoticeStyle) : NoticeUnit × List TileRequest :=
  let normal := (st.normalWidth, st.normalHeight) ≠ (u.style.normalWidth, u.style.normalHeight)
  let urgent := (st.urgentWidth, st.urgentHeight) ≠ (u.style.urgentWidth, u.style.urgentHeight)
  ({ u with
     style := st
     urgent := mapAll (fun x => if x.list.length = 1 then { x with dwell := some st.urgentDwell } else x) u.urgent },
   (if normal then (u.bySlot.filter fun n => n.cls ≠ .urgent).flatMap st.requests else [])
     ++ (if urgent then (u.bySlot.filter fun n => n.cls = .urgent).flatMap st.requests else []))

/-- R119: SET NOTICE STYLE. -/
def setNoticeStyle (st : NoticeStyle) (s : State) : State × Reply :=
  if st.valid then done (s.withNotice (s.notice.restyle st)) else refuse s .outOfRange

/-- SET_NOTICE_STYLE (R119). -/
def execSetNoticeStyle (p : Port) (s : State) : Result :=
  .next <| s.takeAndAnswer .notice p (fun d => match d with | .setNoticeStyle x => some x | _ => none) setNoticeStyle

/-- The number a class is carried as (R108). -/
def NoticeClass.number : NoticeClass → Nat
  | .urgent => 1
  | .service => 2
  | .promo => 3

/-- The NOTICE record (R121). -/
def Notice.record (n : Notice) : List Byte :=
  put2 n.number ++ put2 n.cls.number ++ putText n.text ++ putSet n.targets ++ putOpt put2 n.bound ++ putOpt put2 n.lifetime
    ++ putOpt put4 n.expiry ++ put4 n.postOrder ++ put2 n.slot

/-- The answer to QUERY NOTICE (R121). -/
def noticeReply (n : Nat) (s : State) : Reply :=
  if n = 0 ∨ 255 < n then ⟨.outOfRange, []⟩
  else
    match findNotice s.notice.notices n with
    | none => ⟨.noSuch, []⟩
    | some x => ⟨.done, x.record⟩

/-- QUERY_NOTICE (R121). -/
def execQueryNotice (p : Port) (s : State) : Result := .next <| s.takeQuery .notice p 8 noticeReply

/-- The answer to QUERY URGENT LIST (R121). -/
def urgentReply (panel : Nat) (s : State) : Reply :=
  match s.notice.urgent[panel]? with
  | none => ⟨.outOfRange, []⟩
  | some x => ⟨.done, putSet x.list ++ put2OrNone x.shown ++ put2OrNone x.dwell ++ put2 s.notice.style.urgentDwell⟩

/-- QUERY_URGENT_LIST (R121). -/
def execQueryUrgentList (p : Port) (s : State) : Result := .next <| s.takeQuery .notice p 9 urgentReply

end Sys2Proof.Machine
end

