-- ==== Sys2Proof/Machine/Carousels.lean ====
section
/-! DEFINITION. Chapter 7: the rotation unit. Carousel lists and periods, cycles, quiet, starting and stopping, and sync groups. -/

namespace Sys2Proof.Machine

open Sys2Proof

/-! ### A carousel's lists, cursors and periods -/

/-- One of the two lists (R123). -/
def CarouselContent.list (c : CarouselContent) : ListChoice → List Item
  | .primary => c.primary
  | .secondary => c.secondary

/-- The list the current cycle is from (R123). -/
def Carousel.items (c : Carousel) : List Item := c.content.list c.choice

/-- The cursor of the list the current cycle is from (R123). -/
def Carousel.cursor (c : Carousel) : Nat :=
  match c.choice with
  | .primary => c.primaryCursor
  | .secondary => c.secondaryCursor

/-- Move the cursor of the list the current cycle is from. -/
def Carousel.setCursor (c : Carousel) (k : Nat) : Carousel :=
  match c.choice with
  | .primary => { c with primaryCursor := k }
  | .secondary => { c with secondaryCursor := k }

/-- The active mark of the current list (R127). -/
def Carousel.activeMark (c : Carousel) : Nat :=
  match c.choice with
  | .primary => c.active.primaryMark
  | .secondary => c.active.secondaryMark

/-- The active space of the current list (R127). -/
def Carousel.activeSpace (c : Carousel) : Nat :=
  match c.choice with
  | .primary => c.active.primarySpace
  | .secondary => c.active.secondarySpace

/-- R126: the expansion of a NOTICES item for a panel: its live SERVICE and PROMO notices in posting order. -/
def expansion (ns : List Notice) (panel : Nat) : List Nat :=
  (ns.filter fun n => n.cls ≠ .urgent && n.targets.contains panel).map Notice.number

/-! ### Cycles -/

/-- What a selection finds: the cursor, the notice step and the shown item. -/
abbrev Selection := Nat × Nat × ShownItem

/-- R126: examine at most `fuel` items, from position `i` with a notice step, wrapping. -/
def examine (items : List Item) (notices : List Nat) : (fuel i step : Nat) → Option Selection
  | 0, _, _ => none
  | fuel + 1, i, step =>
    match items[i]? with
    | none => none
    | some (.stream n) => some (i, 0, .stream n)
    | some (.tile n) => some (i, 0, .tile n)
    | some .notices =>
      match notices[step]? with
      | some n => some (i, step, .notice n)
      | none => examine items notices fuel ((i + 1) % items.length) 0

/-- R126: the carousel selects an item for the cycle that begins; where none is selected the cycle is space-only and the cursor
and notice step stay as they were. -/
def Carousel.select (c : Carousel) (notices : List Nat) : Carousel :=
  match examine c.items notices c.items.length c.cursor c.noticeStep with
  | some (k, step, item) => { c.setCursor k with noticeStep := step, shown := some item }
  | none => { c with shown := none }

/-- R127: the cycle starts: quiet is latched, and the phase and length follow from the active periods of the list. -/
def Carousel.start (c : Carousel) : Carousel :=
  if c.quiet || c.shown.isNone then
    { c with quietInEffect := c.quiet, phase := some .space, remaining := some (c.activeMark + c.activeSpace) }
  else { c with quietInEffect := c.quiet, phase := some .mark, remaining := some c.activeMark }

/-- R126, R127: a new cycle begins. -/
def Carousel.begin (c : Carousel) (notices : List Nat) : Carousel := (c.select notices).start

/-- R129 step 1, for one period: a written pending period becomes active. -/
def PendingPeriod.apply (p : PendingPeriod) (active : Nat) : Nat := if p.written then p.value else active

/-- The written mark of a pending period is cleared. -/
def PendingPeriod.clear (p : PendingPeriod) : PendingPeriod := { p with written := false }

/-- R129 step 1: the written pending periods become active. -/
def Carousel.applyPeriods (c : Carousel) : Carousel :=
  { c with
    active := ⟨c.pending.primaryMark.apply c.active.primaryMark, c.pending.primarySpace.apply c.active.primarySpace,
      c.pending.secondaryMark.apply c.active.secondaryMark, c.pending.secondarySpace.apply c.active.secondarySpace⟩
    pending := ⟨c.pending.primaryMark.clear, c.pending.primarySpace.clear, c.pending.secondaryMark.clear,
      c.pending.secondarySpace.clear⟩ }

/-- R129 step 2: pending content is taken, with the cursors, notice step and list choice set afresh. -/
def Carousel.applyContent (c : Carousel) : Carousel :=
  match c.pendingContent with
  | none => c
  | some x =>
    { c with content := x, pendingContent := none, primaryCursor := 0, secondaryCursor := 0, noticeStep := 0, choice := .primary }

/-- The other list (R129). -/
def ListChoice.other : ListChoice → ListChoice
  | .primary => .secondary
  | .secondary => .primary

/-- The position after the cursor's, wrapping; 0 in an empty list (R129). -/
def Carousel.nextCursor (c : Carousel) : Nat := if c.items = [] then 0 else (c.cursor + 1) % c.items.length

/-- R129 step 3: the carousel moves on from the cycle that ended. -/
def Carousel.advance (c : Carousel) (notices : List Nat) : Carousel :=
  let more : Bool :=
    match c.shown with
    | some (.notice _) => c.noticeStep + 1 < notices.length
    | _ => false
  let c : Carousel := if more then { c with noticeStep := c.noticeStep + 1 } else { c.setCursor c.nextCursor with noticeStep := 0 }
  if c.content.mode = .alternate then { c with choice := c.choice.other } else c

/-- R129: a cycle ends: the pending values, the advance, and the next cycle or the stop. -/
def Carousel.endCycle (c : Carousel) (notices : List Nat) : Carousel :=
  let taken := c.pendingContent.isSome
  let c := c.applyPeriods.applyContent
  let c := if taken then c else c.advance notices
  if c.run = .stopping then { c with run := .stopped, phase := none, remaining := none, shown := none }
  else c.begin notices

/-- R135: a member takes the pending values and the leader's position and begins a new cycle. -/
def Carousel.restartFrom (c leader : Carousel) (notices : List Nat) : Carousel :=
  let c := c.applyPeriods.applyContent
  let c := { c with choice := leader.choice }
  let k := if c.items = [] then 0 else leader.cursor % c.items.length
  let c := { c.setCursor k with noticeStep := leader.noticeStep }
  c.begin notices

/-- Whether a carousel's cycle end is due: its remaining has reached 0 in SPACE, or in MARK with an active space of 0 (R128). -/
def Carousel.endDue (c : Carousel) : Bool :=
  c.remaining = some 0 && (c.phase = some .space || (c.phase = some .mark && c.activeSpace = 0))

/-- Whether a carousel's mark end is due: its remaining has reached 0 in MARK with an active space above 0 (R128). -/
def Carousel.markDue (c : Carousel) : Bool := c.remaining = some 0 && c.phase = some .mark && c.activeSpace ≠ 0

/-- R128: the mark ends and the cycle enters SPACE. -/
def Carousel.endMark (c : Carousel) : Carousel :=
  if c.markDue then { c with phase := some .space, remaining := some c.activeSpace } else c

/-- R128: a carousel in RUNNING or STOPPING is counted. -/
def Carousel.count (c : Carousel) : Carousel :=
  if c.run = .stopped then c else { c with remaining := c.remaining.map (· - 1) }

/-- R135: the running members of a leader's group are restarted, in ascending carousel number. -/
def RotationUnit.restartMembers (r : RotationUnit) (ns : List Notice) (leader group : Nat) : RotationUnit :=
  match r.carousels[leader]? with
  | none => r
  | some l =>
    { r with carousels := r.carousels.mapFinIdx fun j c _ =>
        if j ≠ leader ∧ c.group = some group ∧ c.run = .running then c.restartFrom l (expansion ns j) else c }

/-- R129, R135: the cycle end of a carousel, where it is due; a leader that begins a new cycle restarts its members. A member's own
end taken before its leader's may also move the cursor of its other list, which the leader's end taken first leaves; R136's "same
state in both orders" is read of the list in use (DEDUCED, assumption 30). -/
def RotationUnit.cycleEnd (r : RotationUnit) (ns : List Notice) (i : Nat) : RotationUnit :=
  match r.carousels[i]? with
  | none => r
  | some c =>
    if c.endDue then
      let after := c.endCycle (expansion ns i)
      let r := { r with carousels := r.carousels.setIfInBounds i after }
      match c.group with
      | some g => if r.leaders[g]?.getD none = some i ∧ after.run = .running then r.restartMembers ns i g else r
      | none => r
    else r

/-! ### Ticks -/

/-- CAROUSEL_TENTH_TICK (R128): every carousel in RUNNING or STOPPING is counted. Carousels that reach 0 have their mark end or
cycle end still to come within the tick, and the rotation unit takes nothing else before it (DESIGN CHOICE, assumption 5). -/
def execCarouselTenthTick (s : State) : Result :=
  .next <|
    if s.mail.ticksToRotation = 0 ∨ s.rotation.settled = false then s
    else
      { s with
        mail := { s.mail with ticksToRotation := s.mail.ticksToRotation - 1 }
        rotation := { s.rotation with carousels := mapAll Carousel.count s.rotation.carousels } }

/-- MARK_END (R128). -/
def execMarkEnd (carousel : Nat) (s : State) : Result :=
  .next { s with rotation := { s.rotation with carousels := modifyAt s.rotation.carousels carousel Carousel.endMark } }

/-- CYCLE_END (R129, R135, R136). It reads the notice table as it stands; the notice unit may act between two cycle ends of one
tenth-tick (DESIGN CHOICE, assumption 31). -/
def execCycleEnd (carousel : Nat) (s : State) : Result :=
  .next { s with rotation := s.rotation.cycleEnd s.notice.notices carousel }

/-! ### Directives -/

/-- The item a kind and number byte stand for, where they are in range (R124). -/
def itemOf (x : Coded) : Option Item :=
  match x.kind with
  | 1 => if x.value ≤ 3 then some (.stream x.value) else none
  | 2 => if x.value ≤ 255 then some (.tile x.value) else none
  | 3 => if x.value = 0 then some .notices else none
  | _ => none

/-- A list of at most 8 items, each in range (R124). -/
def itemsOf (xs : List Coded) : Option (List Item) := if xs.length ≤ 8 then xs.mapM itemOf else none

/-- The mode a number stands for (R123). -/
def modeOf : Nat → Option Mode
  | 1 => some .single
  | 2 => some .alternate
  | _ => none

/-- The content a SET CAROUSEL carries, where it is in range (R124). -/
def contentOf (mode : Nat) (primary secondary : List Coded) : Option CarouselContent :=
  match modeOf mode, itemsOf primary, itemsOf secondary with
  | some m, some p, some q => some ⟨m, p, q⟩
  | _, _, _ => none

/-- Change one carousel. -/
def State.changeCarousel (s : State) (i : Nat) (f : Carousel → Carousel) : State :=
  { s with rotation := { s.rotation with carousels := modifyAt s.rotation.carousels i f } }

/-- R124: SET CAROUSEL. -/
def setCarousel (c mode : Nat) (primary secondary : List Coded) (s : State) : State × Reply :=
  match contentOf mode primary secondary with
  | none => refuse s .outOfRange
  | some x =>
    if 11 < c then refuse s .outOfRange
    else done (s.changeCarousel c fun r => { r with pendingContent := some x })

/-- SET_CAROUSEL (R124). -/
def execSetCarousel (p : Port) (s : State) : Result :=
  .next <| s.takeAndAnswer .rotation p (fun d => match d with | .setCarousel c m a b => some (c, m, a, b) | _ => none)
    fun (c, m, a, b) s => setCarousel c m a b s

/-- R125: a present field is written into its pending period. -/
def PendingPeriod.write (p : PendingPeriod) : Option Nat → PendingPeriod
  | none => p
  | some v => ⟨v, true⟩

/-- R125: SET PERIODS. -/
def setPeriods (c : Nat) (pm ps sm ss : Option Nat) (s : State) : State × Reply :=
  let markOk (x : Option Nat) : Bool := x.all fun m => 1 ≤ m && m ≤ 6000
  let spaceOk (x : Option Nat) : Bool := x.all (· ≤ 6000)
  if c ≤ 11 && markOk pm && spaceOk ps && markOk sm && spaceOk ss then
    done (s.changeCarousel c fun r => { r with
      pending := ⟨r.pending.primaryMark.write pm, r.pending.primarySpace.write ps, r.pending.secondaryMark.write sm,
        r.pending.secondarySpace.write ss⟩ })
  else refuse s .outOfRange

/-- SET_PERIODS (R125). -/
def execSetPeriods (p : Port) (s : State) : Result :=
  .next <| s.takeAndAnswer .rotation p (fun d => match d with | .setPeriods c a b x y => some (c, a, b, x, y) | _ => none)
    fun (c, a, b, x, y) s => setPeriods c a b x y s

/-- Change the carousels of a set. -/
def State.changeCarousels (s : State) (set : List Nat) (f : Nat → Carousel → Carousel) : State :=
  { s with rotation := { s.rotation with
    carousels := s.rotation.carousels.mapFinIdx fun i c _ => if set.contains i then f i c else c } }

/-- R131: SET QUIET. -/
def setQuiet (set : List Nat) (value : Nat) (s : State) : State × Reply :=
  if validSet set && value ≤ 1 then done (s.changeCarousels set fun _ c => { c with quiet := value = 1 })
  else refuse s .outOfRange

/-- SET_QUIET (R131). -/
def execSetQuiet (p : Port) (s : State) : Result :=
  .next <| s.takeAndAnswer .rotation p (fun d => match d with | .setQuiet c v => some (c, v) | _ => none)
    fun (c, v) s => setQuiet c v s

/-- CUE_QUIET (R39, R131): a cue's QUIET ON or QUIET OFF is applied as SET QUIET, without answer. -/
def execCueQuiet (s : State) : Result :=
  .next <|
    match s.mail.cuesToRotation with
    | [] => s
    | (on, set) :: rest =>
      if s.rotation.settled then
        (setQuiet set (if on then 1 else 0) { s with mail := { s.mail with cuesToRotation := rest } }).1
      else s

/-- R132: CAROUSEL ON for one carousel. -/
def Carousel.turnOn (c : Carousel) (notices : List Nat) : Carousel :=
  match c.run with
  | .stopped => ({ c.applyPeriods.applyContent with run := .running } : Carousel).begin notices
  | .stopping => { c with run := .running }
  | .running => c

/-- R132: CAROUSEL ON. -/
def carouselOn (set : List Nat) (s : State) : State × Reply :=
  if validSet set then done (s.changeCarousels set fun i c => c.turnOn (expansion s.notice.notices i))
  else refuse s .outOfRange

/-- CAROUSEL_ON (R132). -/
def execCarouselOn (p : Port) (s : State) : Result :=
  .next <| s.takeAndAnswer .rotation p (fun d => match d with | .carouselOn c => some c | _ => none) carouselOn

/-- R133: CAROUSEL OFF for one carousel. -/
def Carousel.turnOff (c : Carousel) : Carousel := if c.run = .running then { c with run := .stopping } else c

/-- R133: CAROUSEL OFF. -/
def carouselOff (set : List Nat) (s : State) : State × Reply :=
  if validSet set then done (s.changeCarousels set fun _ c => c.turnOff) else refuse s .outOfRange

/-- CAROUSEL_OFF (R133). -/
def execCarouselOff (p : Port) (s : State) : Result :=
  .next <| s.takeAndAnswer .rotation p (fun d => match d with | .carouselOff c => some c | _ => none) carouselOff

/-- R134 step 3: the group takes its members and leader; a carousel taken from a group it led leaves that group without one. -/
def RotationUnit.setGroup (r : RotationUnit) (g : Nat) (leader : Option Nat) (members : List Nat) : RotationUnit :=
  { carousels := r.carousels.mapFinIdx fun i c _ =>
      if members.contains i then { c with group := some g }
      else if c.group = some g then { c with group := none } else c
    leaders := r.leaders.mapFinIdx fun h l _ =>
      if h = g then leader
      else
        match l with
        | some c => if members.contains c then none else l
        | none => none }

/-- R134: SET SYNC GROUP; a leader of 255 is none. -/
def setSyncGroup (g leader : Nat) (members : List Nat) (s : State) : State × Reply :=
  if 3 < g ∨ (11 < leader ∧ leader ≠ 255) ∨ members.all (· ≤ 11) = false ∨ hasRepeat members then refuse s .outOfRange
  else if members = [] then
    if leader = 255 then done { s with rotation := s.rotation.setGroup g none [] } else refuse s .outOfRange
  else if members.contains leader then done { s with rotation := s.rotation.setGroup g (some leader) members }
  else refuse s .outOfRange

/-- SET_SYNC_GROUP (R134). -/
def execSetSyncGroup (p : Port) (s : State) : Result :=
  .next <| s.takeAndAnswer .rotation p (fun d => match d with | .setSyncGroup g l m => some (g, l, m) | _ => none)
    fun (g, l, m) s => setSyncGroup g l m s

/-! ### Queries -/

/-- An item as SET CAROUSEL carries it (R124). -/
def Item.bytes : Item → List Byte
  | .stream n => put1 1 ++ put1 n
  | .tile n => put1 2 ++ put1 n
  | .notices => put1 3 ++ put1 0

/-- A list of items as SET CAROUSEL carries it (R124). -/
def putItems (xs : List Item) : List Byte := byteOf xs.length :: xs.flatMap Item.bytes

/-- The number a mode is carried as (R123). -/
def Mode.number : Mode → Nat
  | .single => 1
  | .alternate => 2

/-- A mode and two lists as SET CAROUSEL carries them (R124). -/
def CarouselContent.record (c : CarouselContent) : List Byte := put2 c.mode.number ++ putItems c.primary ++ putItems c.secondary

/-- The shown item: kind and number, kind 0 for none (R138). R138 leaves open how wide the number is and what follows kind 0: here
one byte, as in SET CAROUSEL's items, and a byte 0 (DESIGN CHOICE, assumption 15). -/
def putShown : Option ShownItem → List Byte
  | none => put1 0 ++ put1 0
  | some (.stream n) => put1 1 ++ put1 n
  | some (.tile n) => put1 2 ++ put1 n
  | some (.notice n) => put1 3 ++ put1 n

/-- The number a run state is carried as (R123). -/
def RunState.number : RunState → Nat
  | .stopped => 0
  | .running => 1
  | .stopping => 2

/-- The number a list choice is carried as (R138). -/
def ListChoice.number : ListChoice → Nat
  | .primary => 1
  | .secondary => 2

/-- The number a cycle phase is carried as, 0 for none (R138). -/
def phaseNumber : Option CyclePhase → Nat
  | none => 0
  | some .mark => 1
  | some .space => 2

/-- A pending period followed by its written mark (R138). -/
def PendingPeriod.record (p : PendingPeriod) : List Byte := put2 p.value ++ putFlag p.written

/-- The CAROUSEL record (R123, R138). -/
def Carousel.record (c : Carousel) : List Byte :=
  put2 c.run.number ++ c.content.record ++ put2 c.primaryCursor ++ put2 c.secondaryCursor ++ put2 c.noticeStep
    ++ put2 c.choice.number ++ put2 (phaseNumber c.phase) ++ put2OrNone c.remaining ++ putShown c.shown
    ++ put2 c.active.primaryMark ++ put2 c.active.primarySpace ++ put2 c.active.secondaryMark ++ put2 c.active.secondarySpace
    ++ c.pending.primaryMark.record ++ c.pending.primarySpace.record ++ c.pending.secondaryMark.record
    ++ c.pending.secondarySpace.record ++ putOpt CarouselContent.record c.pendingContent ++ putFlag c.quiet
    ++ putFlag c.quietInEffect ++ put2OrNone c.group

/-- The answer to QUERY CAROUSEL (R138). -/
def carouselReply (c : Nat) (s : State) : Reply :=
  match s.rotation.carousels[c]? with
  | none => ⟨.outOfRange, []⟩
  | some x => ⟨.done, x.record⟩

/-- QUERY_CAROUSEL (R138). -/
def execQueryCarousel (p : Port) (s : State) : Result := .next <| s.takeQuery .rotation p 12 carouselReply

/-- The carousels of a sync group, leader included (R138). R138 gives a set without an order: here ascending (DESIGN CHOICE,
assumption 15). -/
def RotationUnit.groupMembers (r : RotationUnit) (g : Nat) : List Nat :=
  (List.range 12).filter fun i => match r.carousels[i]? with | some c => c.group = some g | none => false

/-- The answer to QUERY SYNC GROUP (R138): the leader, none as 255, and the set of its carousels. -/
def syncGroupReply (g : Nat) (s : State) : Reply :=
  match s.rotation.leaders[g]? with
  | none => ⟨.outOfRange, []⟩
  | some l => ⟨.done, put1OrNone l ++ putSet (s.rotation.groupMembers g)⟩

/-- QUERY_SYNC_GROUP (R138). -/
def execQuerySyncGroup (p : Port) (s : State) : Result := .next <| s.takeQuery .rotation p 13 syncGroupReply

end Sys2Proof.Machine
end

