-- ==== Sys2Proof/Machine/Text.lean ====
section
/-! DEFINITION. What render jobs draw (R36, R40, R82, R97 to R100, R117, R118, R144, R150, R151): the texts of board rows, clock
tiles, notices and TEXT tiles as lines of glyphs, read from the records as they stand. -/

namespace Sys2Proof.Machine

open Sys2Proof

/-! ### Glyphs -/

/-- A line of glyphs. -/
abbrev Line := List Glyph

/-- R151: the glyph a character value is drawn as: itself for 32..126 and 160..255, otherwise a hollow box. -/
def glyphOf (b : Byte) : Glyph :=
  if (32 ≤ b.toNat ∧ b.toNat ≤ 126) ∨ 160 ≤ b.toNat then .char b else .box

/-- The glyphs of a text. -/
def glyphs (t : List Byte) : Line := t.map glyphOf

/-- The characters of a word of the part's own. -/
def ascii (t : String) : List Byte := t.toList.map fun c => byteOf c.toNat

/-- A number in decimal. -/
def decimal (n : Nat) : List Byte := (Nat.toDigits 10 n).map fun c => byteOf c.toNat

/-- A number below 100 in two digits. -/
def twoDigits (n : Nat) : List Byte := (if n < 10 then ascii "0" else []) ++ decimal n

/-! ### Times (R36) -/

/-- R36: a time of day in minutes, in the house time format. -/
def timeText (f : HourFormat) (minutes : Nat) : List Byte :=
  let hour := minutes / 60
  let minute := minutes % 60
  match f with
  | .h24 => twoDigits hour ++ ascii ":" ++ twoDigits minute
  | .h12 =>
    decimal (if hour % 12 = 0 then 12 else hour % 12) ++ ascii ":" ++ twoDigits minute
      ++ (if hour < 12 then ascii " AM" else ascii " PM")

/-- R40: the text of a clock tile. -/
def Clock.tileText (c : Clock) : List Byte :=
  if c.state = .unset then ascii "--:--" else timeText c.hourFormat (c.hour * 60 + c.minute)

/-! ### Board rows (R97 to R100) -/

/-- R97: a text written into a column of `c` characters: followed by spaces, or cut to its first c − 1 characters and "…". -/
def column (c : Nat) (t : Line) : Line :=
  if t.length ≤ c then t ++ List.replicate (c - t.length) (.char 32) else t.take (c - 1) ++ [.ellipsis]

/-- R98: the text of the time column. -/
def timeColumn (r : Screening) (viewMinute : Option Nat) (k : Nat) (clock : Clock) : List Byte :=
  let time := timeText clock.hourFormat (timeOfDay clock.dayStart r.start)
  match r.phase with
  | .cancelled => ascii "Cancelled"
  | .running => ascii "Started"
  | .listed | .boarding =>
    match viewMinute with
    | some n =>
      if n + 1 ≤ r.start ∧ r.start ≤ n + k then ascii "in " ++ decimal (r.start - n) ++ ascii " min" else time
    | none => time
  | .pending | .closed => time

/-- R97: the text of the title column; a title entry that is empty leaves it blank (R151). -/
def titleColumn : Option Title → List Byte
  | none => []
  | some t => t.text ++ (if t.rating = [] then [] else ascii " " ++ t.rating)

/-- R99: the label of a badge code. -/
def badgeLabel : Nat → List Byte
  | 1 => ascii "3D"
  | 2 => ascii "Sub"
  | 3 => ascii "AD"
  | 4 => ascii "Relaxed"
  | 5 => ascii "Premium"
  | 6 => ascii "Late"
  | _ => []

/-- R99: the parts of the badges column, joined by single spaces. Two badge labels within the third part are joined by a single
space too, which R99 leaves open (DESIGN CHOICE, assumption 16). -/
def badgesColumn (r : Screening) : List Byte :=
  let doors := if r.phase = .boarding then [ascii "Doors open"] else []
  let delayed :=
    if 0 < r.delay ∧ (r.phase = .pending ∨ r.phase = .listed ∨ r.phase = .boarding) then [ascii "Delayed"] else []
  let tail := match r.note with | some t => [t] | none => r.badges.map badgeLabel
  List.intercalate (ascii " ") (doors ++ delayed ++ tail)

/-- R82: the seats text of a shown pair. -/
def seatsText (band : Band) (figure : Option Nat) : List Byte :=
  match band, figure with
  | .plenty, _ => ascii "Available"
  | .soldOut, _ => ascii "Sold out"
  | .filling, some f => if 10 ≤ f then decimal f ++ ascii "+" else decimal f ++ ascii " left"
  | .few, some f => decimal f ++ ascii " left"
  | .filling, none | .few, none => []

/-- R100, R151: the text of the seats column: blank in CANCELLED and where there is no tally. -/
def seatsColumn (r : Screening) : Option Tally → List Byte
  | none => []
  | some t => if r.phase = .cancelled then [] else seatsText t.band t.figure

/-- R97: a row of 2w characters from the texts of its five columns. -/
def rowLine (w : Nat) (time title auditorium badges seats : List Byte) : Line :=
  let gap : Line := [.char 32]
  column 9 (glyphs time) ++ gap ++ column (2 * w - 47) (glyphs title) ++ gap ++ column 9 (glyphs auditorium) ++ gap
    ++ column 16 (glyphs badges) ++ gap ++ column 9 (glyphs seats)

/-- R97: a row of spaces in every column (DEDUCED, assumption 16). -/
def blankRow (w : Nat) : Line := rowLine w [] [] [] [] []

/-- R97 to R100: the row of a screening record. -/
def screeningRow (s : State) (w : Nat) (r : Screening) : Line :=
  rowLine w
    (timeColumn r s.schedule.viewMinute s.schedule.settings.countdown s.clock)
    (titleColumn (s.schedule.titles[r.title]?.getD none))
    (ascii "Screen " ++ decimal r.auditorium)
    (badgesColumn r)
    (seatsColumn r (findTally s.seat.tallies r.number))

/-- R95, R151: the lines of row slot `r` of board `b` at width `w`: none where the board is undefined or the slot unused, a blank
row where the slot has no occupant or its record is gone. -/
def boardRowLines (s : State) (b r w : Nat) : List Line :=
  match s.builder.boards[b]? with
  | none => []
  | some board =>
    match board.defn with
    | none => []
    | some d =>
      if r < d.rowsPerPage then
        match board.occupant d r with
        | none => [blankRow w]
        | some e =>
          match findScreening s.schedule.table e.screening with
          | none => [blankRow w]
          | some scr => [screeningRow s w scr]
      else []

/-! ### Wrapped texts (R117, R118, R144) -/

/-- A text cut at every byte of one value. -/
def splitOn (sep : Byte) : List Byte → List (List Byte)
  | [] => [[]]
  | b :: rest =>
    match splitOn sep rest with
    | [] => [[b]]
    | part :: parts => if b = sep then [] :: part :: parts else (b :: part) :: parts

/-- R118 step 1: the words of a text without line breaks. -/
def words (t : List Byte) : List (List Byte) := (splitOn 32 t).filter fun w => w ≠ []

/-- R118 step 3: a long word broken after each `c` characters; `fuel` bounds the pieces. -/
def breakWord (c : Nat) : (fuel : Nat) → List Byte → List (List Byte)
  | 0, _ => []
  | _ + 1, [] => []
  | fuel + 1, b :: rest => (b :: rest).take c :: breakWord c fuel ((b :: rest).drop c)

/-- R118 steps 2 and 3: words placed into lines of `c` characters; the first argument is the line being filled. -/
def fillLines (c : Nat) : Option (List Byte) → List (List Byte) → List (List Byte)
  | line, [] => line.toList
  | line, w :: rest =>
    if c < w.length then line.toList ++ breakWord c w.length w ++ fillLines c none rest
    else
      match line with
      | none => fillLines c (some w) rest
      | some l => if l.length + 1 + w.length ≤ c then fillLines c (some (l ++ 32 :: w)) rest else l :: fillLines c (some w) rest

/-- R118 step 4: the lines of the runs between line breaks; a run without words is an empty line only where a break ends it
(DEDUCED, assumption 16). -/
def wrapRuns (c : Nat) : List (List Byte) → List (List Byte)
  | [] => []
  | [run] => fillLines c none (words run)
  | run :: rest => (if words run = [] then [[]] else fillLines c none (words run)) ++ wrapRuns c rest

/-- R118: a text wrapped into lines of `c` characters. A line break is the character of value 10. -/
def wrap (c : Nat) (t : List Byte) : List (List Byte) := wrapRuns c (splitOn 10 t)

/-- R118: the last kept line of a text that is cut. -/
def cutLine (c : Nat) (l : List Byte) : Line :=
  if l.length + 1 ≤ c then glyphs l ++ [.ellipsis] else glyphs (l.take (c - 1)) ++ [.ellipsis]

/-- R118: the lines drawn in a tile that holds `n` lines of `c` characters. -/
def keepLines (c n : Nat) (ls : List (List Byte)) : List Line :=
  if ls.length ≤ n then ls.map glyphs
  else (ls.take (n - 1)).map glyphs ++ ((ls.take n).drop (n - 1)).map (cutLine c)

/-- R117: the characters a line of a tile of width `w` holds. -/
def GlyphSet.columns (g : GlyphSet) (w : Nat) : Nat :=
  match g with
  | .small => 2 * w
  | .large => w

/-- R117: the lines a tile of height `h` holds. -/
def GlyphSet.lines (g : GlyphSet) (h : Nat) : Nat :=
  match g with
  | .small => h
  | .large => h / 2

/-- R117, R118, R144: a text laid out in a tile of a size and glyph set. -/
def layOut (g : GlyphSet) (w h : Nat) (t : List Byte) : List Line := keepLines (g.columns w) (g.lines h) (wrap (g.columns w) t)

/-- R117: the glyph set of a notice's class. -/
def NoticeClass.glyphSet : NoticeClass → GlyphSet
  | .urgent => .large
  | .service | .promo => .small

/-! ### The image a render job draws (R150, R151) -/

/-- R141: the glyph set of a clock tile. -/
def clockGlyphs (t : Nat) : GlyphSet := if t ≤ 195 then .large else .small

/-- R150, R151: the image drawn for a tile at the size its job noted, read from the records as they stand. -/
def drawTile (s : State) (t w h : Nat) : Image :=
  if t ≤ 127 then .text w h .small (boardRowLines s (t / 16) (t % 16) w)
  else if 192 ≤ t ∧ t ≤ 199 then .text w h (clockGlyphs t) [glyphs s.clock.tileText]
  else if 200 ≤ t ∧ t ≤ 223 then
    match s.render.tiles[t]? with
    | none => .text w h .small []
    | some x => .text w h x.glyphSet (layOut x.glyphSet w h x.text)
  else
    match noticeInSlot s.notice.notices (t - 224) with
    | none => .text w h .small []
    | some n => .text w h n.cls.glyphSet (layOut n.cls.glyphSet w h n.text)

end Sys2Proof.Machine
end

