-- ==== Sys2Proof/Machine/Channels.lean ====
section
/-! DEFINITION. The memory channels (R173): the work their owners give them and take back, and the reports they send. -/

namespace Sys2Proof.Machine

open Sys2Proof

/-- R173, R174: a channel is given its owner's work of `n` transfer units; a HALTED channel keeps it waiting. -/
def Channel.give (c : Channel) (n : Nat) : Channel :=
  { c with
    remaining := n
    hasWork := true
    state := match c.state with | .halted => .halted | _ => .preempted }

/-- A channel whose work is gone: its units not yet granted are dropped. -/
def Channel.drop (c : Channel) : Channel :=
  { c with
    remaining := 0
    hasWork := false
    state := match c.state with | .halted => .halted | _ => .idle }

/-- R173: a unit in flight on a channel finishes, and its report is ignored by its owner. -/
def ignoreUnit (name : ChannelName) (u : UnitInFlight) : UnitInFlight :=
  if u.channel = name then { u with ignored := true } else u

/-- The channel with a name. -/
def MemoryUnit.channel (m : MemoryUnit) : ChannelName → Channel
  | .ingest => m.ingest
  | .compose => m.compose
  | .render => m.render

/-- Replace the channel with a name. -/
def MemoryUnit.putChannel (m : MemoryUnit) (name : ChannelName) (c : Channel) : MemoryUnit :=
  match name with
  | .ingest => { m with ingest := c }
  | .compose => { m with compose := c }
  | .render => { m with render := c }

/-- R173: an owner cancels the work of its channel. -/
def MemoryUnit.cancel (m : MemoryUnit) (name : ChannelName) : MemoryUnit :=
  { m.putChannel name (m.channel name).drop with inFlight := m.inFlight.map (ignoreUnit name) }

/-- R173: the composer or the render unit gives its channel work. -/
def State.giveWork (s : State) (name : ChannelName) (n : Nat) : State :=
  { s with memory := s.memory.putChannel name ((s.memory.channel name).give n) }

/-- R173: an owner cancels its work; a report of that work already under way is ignored
(DEDUCED, assumption 20). -/
def State.cancelWork (s : State) (name : ChannelName) : State :=
  { s with
    memory := s.memory.cancel name
    mail := match name with
      | .ingest => s.mail
      | .compose => { s.mail with memoryToComposer := [] }
      | .render => { s.mail with memoryToRender := [] } }

/-- The frame memory unit reports on the work of a channel to its owner; INGEST work has no owner to report to. -/
def State.reportWork (s : State) (name : ChannelName) (r : WorkReport) : State :=
  match name with
  | .ingest => s
  | .compose => { s with mail := { s.mail with memoryToComposer := s.mail.memoryToComposer ++ [r] } }
  | .render => { s with mail := { s.mail with memoryToRender := s.mail.memoryToRender ++ [r] } }

end Sys2Proof.Machine
end

