-- ==== Sys2Proof/Machine/Tiles.lean ====
section
/-! DEFINITION. Chapter 8: the render unit. The tile table, loaded tiles, sizes and emptying, the two-lane redraw queue, piece
writes and render jobs. -/

namespace Sys2Proof.Machine

open Sys2Proof

/-! ### The tile table and the lanes -/

/-- Whether a tile is an IMAGE tile, 128..191. -/
def isImageTile (t : Nat) : Bool := 128 ≤ t && t ≤ 191

/-- Whether a tile is a TEXT tile, 200..223. -/
def isTextTile (t : Nat) : Bool := 200 ≤ t && t ≤ 223

/-- Replace a tile record. -/
def RenderUnit.putTile (u : RenderUnit) (t : Nat) (x : Tile) : RenderUnit := { u with tiles := u.tiles.setIfInBounds t x }

/-- A tile joins the tail of a lane. -/
def RenderUnit.joinLane (u : RenderUnit) (t : Nat) : Lane → RenderUnit
  | .urgent => { u with urgentLane := u.urgentLane ++ [t] }
  | .normal => { u with normalLane := u.normalLane ++ [t] }

/-- A tile leaves the redraw queue. -/
def RenderUnit.leaveLanes (u : RenderUnit) (t : Nat) : RenderUnit :=
  { u with urgentLane := u.urgentLane.filter (· ≠ t), normalLane := u.normalLane.filter (· ≠ t) }

/-- R148: the lane of a tile whose job is running, after a request that names a lane. -/
def laneAfter (present named : Lane) : Lane :=
  match named with
  | .urgent => .urgent
  | .normal => present

/-- R148: a redraw request for a tile and a lane. -/
def RenderUnit.redraw (u : RenderUnit) (t : Nat) (lane : Lane) : RenderUnit :=
  match u.tiles[t]? with
  | none => u
  | some x =>
    if x.size = none ∨ isImageTile t then u
    else
      match x.state with
      | .empty | .clean => (u.putTile t { x with state := .queued, lane := lane }).joinLane t lane
      | .queued =>
        if x.lane = .normal ∧ lane = .urgent then ((u.leaveLanes t).putTile t { x with lane := .urgent }).joinLane t .urgent
        else u
      | .rendering | .renderingStale =>
        u.putTile t { x with state := .renderingStale, lane := laneAfter x.lane lane }
      | .loading => u

/-- R146: a tile's state after a change of size. -/
def TileState.resized : TileState → TileState
  | .empty => .empty
  | .clean => .empty
  | .queued => .queued
  | .rendering => .renderingStale
  | .renderingStale => .renderingStale
  | .loading => .loading

/-- R146: a size request. -/
def RenderUnit.resize (u : RenderUnit) (t w h : Nat) : RenderUnit :=
  match u.tiles[t]? with
  | none => u
  | some x =>
    if x.size = some (w, h) then u
    else u.putTile t { x with size := some (w, h), image := none, state := x.state.resized }

/-- R147: a tile is emptied: it leaves its lane; a job in flight runs on. -/
def RenderUnit.empty (u : RenderUnit) (t : Nat) : RenderUnit :=
  match u.tiles[t]? with
  | none => u
  | some x => (u.leaveLanes t).putTile t { x with size := none, image := none, state := .empty, loadData := [] }

/-- The render unit takes the request at the head of a block's queue, where `act` acts on it. -/
def State.takeTileRequest (s : State) (b : Block) (act : TileRequest → Option RenderUnit) : State :=
  match s.mail.tiles[b.index] with
  | [] => s
  | r :: rest =>
    match act r with
    | none => s
    | some u => { s with render := u, mail := { s.mail with tiles := put s.mail.tiles b.index rest } }

/-- REDRAW_REQUEST (R148). -/
def execRedrawRequest (b : Block) (s : State) : Result :=
  .next <| s.takeTileRequest b fun r => match r with | .redraw t lane => some (s.render.redraw t lane) | _ => none

/-- SIZE_REQUEST (R146). -/
def execSizeRequest (b : Block) (s : State) : Result :=
  .next <| s.takeTileRequest b fun r => match r with | .size t w h => some (s.render.resize t w h) | _ => none

/-- EMPTY_TILE (R147). -/
def execEmptyTile (b : Block) (s : State) : Result :=
  .next <| s.takeTileRequest b fun r => match r with | .empty t => some (s.render.empty t) | _ => none

/-! ### Loaded tiles -/

/-- Whether a width and height are those of a tile, 1..48 each (R140). -/
def tileSizeOk (w h : Nat) : Bool := 1 ≤ w && w ≤ 48 && 1 ≤ h && h ≤ 48

/-- R142: LOAD IMAGE. -/
def loadImage (t w h total : Nat) (s : State) : State × Reply :=
  if isImageTile t && tileSizeOk w h && total = 3200 * w * h then
    done { s with render := { s.render with tiles := modifyAt s.render.tiles t fun x =>
      { x with size := some (w, h), byteTotal := total, bytesReceived := 0, loadData := [], image := none, state := .loading } } }
  else refuse s .outOfRange

/-- LOAD_IMAGE (R142). -/
def execLoadImage (p : Port) (s : State) : Result :=
  .next <| s.takeAndAnswer .render p (fun d => match d with | .loadImage t w h g => some (t, w, h, g) | _ => none)
    fun (t, w, h, g) s => loadImage t w h g s

/-- R143: the checks of IMAGE PIECE: the outcome they answer with at once, or `none` for a piece to be written. -/
def pieceOutcome (u : RenderUnit) (t offset : Nat) (piece : List Byte) : Option OutcomeCode :=
  match u.tiles[t]? with
  | none => some .outOfRange
  | some x =>
    if isImageTile t = false ∨ x.state ≠ .loading then some .outOfRange
    else if x.byteTotal < offset + piece.length then some .outOfRange
    else if offset + piece.length ≤ x.bytesReceived then some .done
    else if offset ≠ x.bytesReceived then some .outOfRange
    else none

/-- R143, R8: a piece that fails its checks is answered at once; otherwise its place in the answer queue is reserved and it
becomes the waiting piece write. -/
def takePiece (p : Port) (q : Packet) (t offset : Nat) (piece : List Byte) (s : State) : State :=
  match pieceOutcome s.render t offset piece with
  | some o => s.issue p (q.answer ⟨o, []⟩)
  | none => { s.reserve p with render := { s.render with waiting := some ⟨t, piece, p, q.tag, q.code⟩ } }

/-- IMAGE_PIECE (R143). -/
def execImagePiece (p : Port) (s : State) : Result :=
  .next <| s.take .render p (fun d => match d with | .imagePiece t o x => some (t, o, x) | _ => none)
    fun q (t, o, x) s => takePiece p q t o x s

/-- The glyph set a number stands for (R140). -/
def glyphSetOf : Nat → Option GlyphSet
  | 1 => some .small
  | 2 => some .large
  | _ => none

/-- R144: a TEXT tile takes its glyph set, text and size, and asks for its own redraw. -/
def RenderUnit.loadText (u : RenderUnit) (t w h : Nat) (g : GlyphSet) (text : List Byte) : RenderUnit :=
  (({ u with tiles := modifyAt u.tiles t fun x => { x with glyphSet := g, text := text } } : RenderUnit).resize t w h).redraw
    t .normal

/-- R144: LOAD TEXT TILE. -/
def loadTextTile (t w h glyph : Nat) (text : List Byte) (s : State) : State × Reply :=
  match glyphSetOf glyph with
  | none => refuse s .outOfRange
  | some g =>
    if isTextTile t = false ∨ tileSizeOk w h = false ∨ (g = .large ∧ h = 1) then refuse s .outOfRange
    else done { s with render := s.render.loadText t w h g text }

/-- LOAD_TEXT_TILE (R144). -/
def execLoadTextTile (p : Port) (s : State) : Result :=
  .next <| s.takeAndAnswer .render p
    (fun d => match d with | .loadTextTile t w h g x => some (t, w, h, g, x) | _ => none)
    fun (t, w, h, g, x) s => loadTextTile t w h g x s

/-- R145: the effect of CLEAR TILE on a loaded tile; an EMPTY one is left as it is. -/
def RenderUnit.clearLoaded (u : RenderUnit) (t : Nat) : RenderUnit :=
  match u.tiles[t]? with
  | none => u
  | some x =>
    if x.state = .empty then u
    else if isTextTile t then
      let v := u.empty t
      { v with tiles := modifyAt v.tiles t fun y => { y with glyphSet := .small, text := [] } }
    else u.empty t

/-- R145: CLEAR TILE. -/
def clearTile (t : Nat) (s : State) : State × Reply :=
  if isImageTile t || isTextTile t then done { s with render := s.render.clearLoaded t } else refuse s .outOfRange

/-- CLEAR_TILE (R145). -/
def execClearTile (p : Port) (s : State) : Result :=
  .next <| s.takeAndAnswer .render p (fun d => match d with | .clearTile t => some t | _ => none) clearTile

/-! ### The render engine: piece writes -/

/-- PIECE_WRITE_START (R149, R143): an idle engine starts the waiting piece write, one transfer unit of the RENDER channel. -/
def execPieceWriteStart (s : State) : Result :=
  .next <|
    match s.render.engine, s.render.waiting with
    | .idle, some w => ({ s with render := { s.render with engine := .piece w, waiting := none } } : State).giveWork .render 1
    | _, _ => s

/-- R143: a tile whose piece has been written; the last piece makes its image present. -/
def Tile.receive (x : Tile) (piece : List Byte) : Tile :=
  let data := x.loadData ++ piece
  let received := x.bytesReceived + piece.length
  if received = x.byteTotal then
    { x with
      bytesReceived := received
      loadData := []
      state := .clean
      image := x.size.map fun (w, h) => .picture w h data }
  else { x with bytesReceived := received, loadData := data }

/-- The answer to the IMAGE PIECE of a piece write. -/
def PieceWrite.answer (w : PieceWrite) (o : OutcomeCode) : Answer := ⟨w.tag, w.code, o, []⟩

/-- The head of the reports from the frame memory unit to the render unit is taken. -/
def State.dropRenderReport (s : State) : State :=
  { s with mail := { s.mail with memoryToRender := s.mail.memoryToRender.tail } }

/-- PIECE_WRITE_COMPLETE (R143): the piece counts as received and is answered DONE. -/
def execPieceWriteComplete (s : State) : Result :=
  .next <|
    match s.render.engine, s.mail.memoryToRender with
    | .piece w, .complete :: _ =>
      ({ s.dropRenderReport with render := { s.render with
          engine := .idle
          tiles := modifyAt s.render.tiles w.tile fun x => x.receive w.piece } } : State).issueReserved w.port (w.answer .done)
    | _, _ => s

/-- PIECE_WRITE_ENDED (R143): the write has ended without completing; the IMAGE PIECE is answered REFUSED_STATE. -/
def execPieceWriteEnded (s : State) : Result :=
  .next <|
    match s.render.engine, s.mail.memoryToRender with
    | .piece w, .ended :: _ =>
      ({ s.dropRenderReport with render := { s.render with engine := .idle } } : State).issueReserved w.port
        (w.answer .refusedState)
    | _, _ => s

/-! ### The render engine: render jobs -/

/-- R149: the tile whose job is next: the head of URGENT, or else the head of NORMAL. -/
def RenderUnit.nextTile (u : RenderUnit) : Option Nat :=
  match u.urgentLane with
  | t :: _ => some t
  | [] => u.normalLane.head?

/-- R152: the transfer units of a job: one for each band of 8 cell rows. -/
def bandUnits (h : Nat) : Nat := (h + 7) / 8

/-- R150: the engine starts the job of a tile: the tile leaves its lane and becomes RENDERING, and the job notes the size and
reads the sources. -/
def State.startRender (s : State) (t : Nat) (x : Tile) (w h : Nat) : State :=
  ({ s with render := { (s.render.leaveLanes t).putTile t { x with state := .rendering } with
      engine := .job ⟨t, w, h, drawTile s t w h⟩ } } : State).giveWork .render (bandUnits h)

/-- RENDER_JOB_START (R149, R150): an idle engine with no waiting piece write starts the job of the next tile. -/
def execRenderJobStart (s : State) : Result :=
  .next <|
    match s.render.engine, s.render.waiting, s.render.nextTile with
    | .idle, none, some t =>
      match s.render.tiles[t]? with
      | some x =>
        match x.size with
        | some (w, h) => s.startRender t x w h
        | none => s
      | none => s
    | _, _, _ => s

/-- R152, R153: a tile goes to the tail of the lane in its lane field (DEDUCED, assumption 17). -/
def RenderUnit.requeue (u : RenderUnit) (t : Nat) (x : Tile) : RenderUnit :=
  (u.putTile t { x with state := .queued }).joinLane t x.lane

/-- R152: the completion of a job. -/
def RenderUnit.finish (u : RenderUnit) (j : RenderJob) : RenderUnit :=
  match u.tiles[j.tile]? with
  | none => u
  | some x =>
    let image := if x.size = some (j.width, j.height) then some j.image else x.image
    match x.state with
    | .rendering => u.putTile j.tile { x with image := image, state := .clean }
    | .renderingStale => u.requeue j.tile { x with image := image }
    | .empty | .loading | .queued | .clean => u

/-- R153: a job ends without completion; its tile is drawn again, unless it was emptied meanwhile. -/
def RenderUnit.abandon (u : RenderUnit) (j : RenderJob) : RenderUnit :=
  match u.tiles[j.tile]? with
  | none => u
  | some x =>
    match x.state with
    | .rendering | .renderingStale => u.requeue j.tile x
    | .empty | .loading | .queued | .clean => u

/-- RENDER_JOB_COMPLETE (R152): the channel has reported the last unit complete. -/
def execRenderJobComplete (s : State) : Result :=
  .next <|
    match s.render.engine, s.mail.memoryToRender with
    | .job j, .complete :: _ => { s.dropRenderReport with render := { s.render with engine := .idle }.finish j }
    | _, _ => s

/-- RENDER_JOB_ABANDON (R153): the channel has reported the job ended without completion. -/
def execRenderJobAbandon (s : State) : Result :=
  .next <|
    match s.render.engine, s.mail.memoryToRender with
    | .job j, .ended :: _ => { s.dropRenderReport with render := { s.render with engine := .idle }.abandon j }
    | _, _ => s

/-! ### The restart and the query -/

/-- R156 step 1: the piece write the render unit holds, in flight or waiting. -/
def RenderUnit.heldPiece (u : RenderUnit) : Option PieceWrite :=
  match u.engine with
  | .piece w => some w
  | _ => u.waiting

/-- R156 step 3: whether a tile is a row, clock or notice tile with a size. One that is EMPTY counts, as step 3 says "whatever its
state was"; that EMPTY tiles are left as they are is read of the others (DEDUCED, assumption 29). -/
def RenderUnit.rendersAgain (u : RenderUnit) (t : Nat) : Bool :=
  match u.tiles[t]? with
  | none => false
  | some x => x.size.isSome && !isImageTile t && !isTextTile t

/-- R156 step 4: whether a tile is a TEXT tile waiting for its image. -/
def RenderUnit.textPending (u : RenderUnit) (t : Nat) : Bool :=
  match u.tiles[t]? with
  | none => false
  | some x => isTextTile t && (x.state = .queued || x.state = .rendering || x.state = .renderingStale)

/-- The tiles of a lane field, ascending. -/
def RenderUnit.tilesOfLane (u : RenderUnit) (lane : Lane) (test : Nat → Bool) : List Nat :=
  (List.range 256).filter fun t => test t && (match u.tiles[t]? with | some x => x.lane = lane | none => false)

/-- R156 steps 2 to 4: the lanes are emptied and filled anew; every image is kept. -/
def RenderUnit.restartLanes (u : RenderUnit) : RenderUnit :=
  { u with
    tiles := u.tiles.mapFinIdx fun t x _ =>
      if u.rendersAgain t then { x with state := .queued }
      else if u.textPending t then { x with state := .queued, lane := .normal } else x
    urgentLane := u.tilesOfLane .urgent u.rendersAgain
    normalLane := u.tilesOfLane .normal u.rendersAgain ++ (List.range 256).filter u.textPending }

/-- R156 step 1: the work in flight is cancelled, and a held piece write is answered REFUSED_STATE. -/
def State.cancelRender (s : State) : State :=
  let piece := s.render.heldPiece
  let s := ({ s with render := { s.render with engine := .idle, waiting := none } } : State).cancelWork .render
  match piece with
  | none => s
  | some w => s.issueReserved w.port (w.answer .refusedState)

/-- RENDER_RESTART (R156). -/
def execRenderRestart (s : State) : Result :=
  .next <|
    if s.mail.restarts[Block.render.index] = 0 then s
    else
      let s := (s.dropRestart .render).cancelRender
      { s with render := s.render.restartLanes }

/-- The number a tile state is carried as (R140). -/
def TileState.number : TileState → Nat
  | .empty => 0
  | .loading => 1
  | .queued => 2
  | .rendering => 3
  | .renderingStale => 4
  | .clean => 5

/-- The number a lane is carried as (R140). -/
def Lane.number : Lane → Nat
  | .urgent => 1
  | .normal => 2

/-- The number a glyph set is carried as (R140). -/
def GlyphSet.number : GlyphSet → Nat
  | .small => 1
  | .large => 2

/-- The TILE record (R140, R154): a size of none is 255 and 255, one byte each. -/
def Tile.record (x : Tile) : List Byte :=
  put1OrNone (x.size.map Prod.fst) ++ put1OrNone (x.size.map Prod.snd) ++ put2 x.state.number ++ put2 x.lane.number
    ++ putFlag x.image.isSome ++ put4 x.byteTotal ++ put4 x.bytesReceived ++ put2 x.glyphSet.number ++ putText x.text

/-- The answer to QUERY TILE (R154). -/
def tileReply (t : Nat) (s : State) : Reply :=
  match s.render.tiles[t]? with
  | none => ⟨.outOfRange, []⟩
  | some x => ⟨.done, x.record⟩

/-- QUERY_TILE (R154). -/
def execQueryTile (p : Port) (s : State) : Result := .next <| s.takeQuery .render p 14 tileReply

end Sys2Proof.Machine
end

