-- ==== Sys2Proof/Machine/Frames.lean ====
section
/-! DEFINITION. The picture of a frame (chapter 9): what a compose job draws, in drawing order (R116, R120, R130, R158, R164),
and the colour of each pixel of a frame. -/

namespace Sys2Proof.Machine

open Sys2Proof

/-! ### Panels and rectangles -/

/-- The whole panel of an orientation, in cells (00_scope 5.2). -/
def Orientation.panelRect : Orientation → Rect
  | .landscape => ⟨0, 0, 48, 27⟩
  | .portrait => ⟨0, 0, 27, 48⟩

/-- The output record of a panel; a number above 11 names no panel. -/
def State.outputOf (s : State) (p : Nat) : Option Output := s.output.panels[p]?

/-- The orientation the panel output holds for a panel. -/
def State.orientationOf (s : State) (p : Nat) : Orientation :=
  match s.outputOf p with
  | some o => o.orientation
  | none => .landscape

/-! ### The binding guard (R120) -/

/-- R120: a notice is guarded out when its bound screening is absent, CLOSED, or past its cancel linger. -/
def State.guardedOut (s : State) (n : Notice) : Bool :=
  match n.bound with
  | none => false
  | some scr =>
    match findScreening s.schedule.table scr with
    | none => true
    | some r => r.phase = .closed || r.lingerOver s.schedule.settings.linger s.clock.runTime

/-- R111, R147: whether the notice unit's request to empty a tile, sent at a withdrawal, is still under way. -/
def State.emptyUnderWay (s : State) (t : Nat) : Bool := TileRequest.empty t ∈ s.mail.tiles[Block.notice.index]

/-- R120: whether a tile's image is kept out of a frame: the tile of a live notice that is guarded out, and the tile of a
withdrawn notice until its empty request is taken, since a withdrawn notice's text never reaches a frame (R147, L8; DEDUCED,
assumption 26). -/
def State.tileGuarded (s : State) (t : Nat) : Bool :=
  224 ≤ t &&
    (s.emptyUnderWay t ||
      match noticeInSlot s.notice.notices (t - 224) with
      | none => false
      | some n => s.guardedOut n)

/-- R158, R120: the image a job reads for a tile. -/
def State.tileImage (s : State) (t : Nat) : Option Image :=
  if s.tileGuarded t then none
  else
    match s.render.tiles[t]? with
    | none => none
    | some x => x.image

/-! ### Layers -/

/-- R158: a tile drawn from the top left of a rectangle; a tile with no image draws nothing. -/
def State.tileLayers (s : State) (rect : Rect) (origin : Origin) (t : Nat) : List Layer :=
  match s.tileImage t with
  | none => []
  | some i => [⟨rect, .image i, origin, some t⟩]

/-- R157, R158: a fill drawn over a rectangle. -/
def State.fillLayers (s : State) (rect : Rect) (origin : Origin) : Fill → List Layer
  | .colour c => [⟨rect, .colour c, origin, none⟩]
  | .stream n => [⟨rect, .stream n, origin, none⟩]
  | .tile t => s.tileLayers rect origin t

/-- R158, R95: the rows of a board, stacked one cell apart from the top of a rectangle, each clipped to it. -/
def State.boardLayers (s : State) (rect : Rect) (b : Nat) : List Layer :=
  match s.builder.boards[b]? with
  | none => []
  | some board =>
    match board.defn with
    | none => []
    | some d =>
      (List.range (min d.rowsPerPage rect.height)).flatMap fun r =>
        s.tileLayers ⟨rect.col, rect.row + r, rect.width, rect.height - r⟩ .region (16 * b + r)

/-- R116: whether a panel is in takeover. -/
def State.inTakeover (s : State) (p : Nat) : Bool := (s.notice.urgentOf p).list ≠ []

/-- R120: an urgent list in the order the guard steps through it: from the shown notice, wrapping. -/
def UrgentState.fromShown (x : UrgentState) : List Nat :=
  match x.shown with
  | none => x.list
  | some n => x.list.dropWhile (· ≠ n) ++ x.list.takeWhile (· ≠ n)

/-- R116, R120: the urgent notice a job draws for a panel in takeover: the first from the shown one on that is not guarded out. -/
def State.urgentNotice (s : State) (p : Nat) : Option Notice :=
  ((s.notice.urgentOf p).fromShown.filterMap (findNotice s.notice.notices)).find? fun n => !s.guardedOut n

/-- R164: the urgent content drawn in a rectangle: the notice's tile, or the urgent colour over the whole of it. -/
def State.urgentLayers (s : State) (p : Nat) (rect : Rect) : List Layer :=
  match s.urgentNotice p with
  | some n => s.tileLayers rect .urgent n.tile
  | none => [⟨rect, .colour s.notice.style.urgentColour, .urgent, none⟩]

/-- What a carousel shows (R130). -/
inductive ShownContent where
  | spaceFill
  | stream (n : Nat)
  | tile (t : Nat)
  deriving DecidableEq, Repr

/-- R130, R120: the shown content of a panel's carousel; a notice that is guarded out gives the space fill. -/
def State.shownContent (s : State) (p : Nat) : ShownContent :=
  match s.rotation.carousels[p]? with
  | none => .spaceFill
  | some c =>
    if c.run = .stopped then .spaceFill
    else
      match c.phase, c.shown with
      | some .mark, some (.stream n) => .stream n
      | some .mark, some (.tile t) => .tile t
      | some .mark, some (.notice n) =>
        match findNotice s.notice.notices n with
        | none => .spaceFill
        | some x => if x.cls ≠ .urgent ∧ x.targets.contains p ∧ s.guardedOut x = false then .tile x.tile else .spaceFill
      | _, _ => .spaceFill

/-- R158: the carousel's shown content drawn in a FEATURE region. -/
def State.carouselLayers (s : State) (p : Nat) (l : Layout) (rect : Rect) : List Layer :=
  match s.shownContent p with
  | .spaceFill => s.fillLayers rect .spaceFill l.spaceFill
  | .stream n => [⟨rect, .stream n, .carousel, none⟩]
  | .tile t => s.tileLayers rect .carousel t

/-- R158: a region drawn for a panel. -/
def State.regionLayers (s : State) (p : Nat) (l : Layout) (r : Region) : List Layer :=
  match r.content with
  | .stream n => [⟨r.rect, .stream n, .region, none⟩]
  | .tile t => s.tileLayers r.rect .region t
  | .board b => s.boardLayers r.rect b
  | .feature => if s.inTakeover p then s.urgentLayers p r.rect else s.carouselLayers p l r.rect
  | .clock c => s.tileLayers r.rect .region (192 + c)

/-- R158: a layout drawn for a panel: the background over the whole panel, then each region in list order. -/
def State.layoutLayers (s : State) (p : Nat) (l : Layout) : List Layer :=
  s.fillLayers l.orientation.panelRect .background l.background ++ l.regions.flatMap (s.regionLayers p l)

/-- R164: the default takeover: the urgent colour over the whole panel, then the urgent content from its top left. -/
def State.defaultTakeover (s : State) (p : Nat) (o : Orientation) : Frame where
  orientation := o
  basis := .defaultTakeover
  layers := ⟨o.panelRect, .colour s.notice.style.urgentColour, .urgent, none⟩ :: s.urgentLayers p o.panelRect

/-- The loaded layout with a number. -/
def State.layoutOf (s : State) (n : Nat) : Option Layout := s.composer.layouts[n]?.getD none

/-- R164: the layout with a number, where it is loaded and has the panel's orientation. -/
def State.fittingLayout (s : State) (o : Orientation) (n : Option Nat) : Option (Nat × Layout) :=
  match n with
  | none => none
  | some k =>
    match s.layoutOf k with
    | none => none
    | some l => if l.orientation = o then some (k, l) else none

/-- R164: the frame of a job and its transfer units (R165). -/
def State.frameFor (s : State) (p : Nat) (x : Panel) : Frame × Nat :=
  let o := s.orientationOf p
  if s.inTakeover p then
    match s.fittingLayout o x.override with
    | some (k, l) => (⟨o, .override k, s.layoutLayers p l⟩, 1 + l.regions.length)
    | none => (s.defaultTakeover p o, 2)
  else
    match s.fittingLayout o x.current with
    | some (k, l) => (⟨o, .current k, s.layoutLayers p l⟩, 1 + l.regions.length)
    | none => (.black o, 1)

/-- R163: the streams a frame draws, each once. -/
def Frame.streams (f : Frame) : List Nat :=
  (f.layers.filterMap fun l => match l.paint with | .stream n => some n | _ => none).eraseDups

/-! ### Stream pictures -/

/-- R171: the store of a stream that the job in the engine has pinned. -/
def MemoryUnit.pinnedStore (m : MemoryUnit) (n : Nat) : Option Store :=
  match m.streams[n]? with
  | none => none
  | some x => x.stores.toList.find? fun y => y.pinned

/-- R158: a layer with its stream's picture in it; a stream with no pinned store draws nothing. -/
def Layer.resolve (m : MemoryUnit) (l : Layer) : Option Layer :=
  match l.paint with
  | .stream n => (m.pinnedStore n).map fun y => { l with paint := .image (.picture y.width y.height y.data) }
  | .colour _ | .image _ => some l

/-- R158: a frame whose streams have been drawn from their pinned stores. -/
def Frame.resolve (f : Frame) (m : MemoryUnit) : Frame := { f with layers := f.layers.filterMap (Layer.resolve m) }

/-! ### Pixels -/

/-- The code `Config.glyphPixel` knows a glyph by. -/
def Glyph.code : Glyph → Nat
  | .char c => c.toNat
  | .box => 256
  | .ellipsis => 257

/-- The pixels of a glyph (R117, R151): its shape is free, but a space is blank. -/
def Glyph.pixel (g : GlyphSet) (x : Glyph) (px py : Nat) : Bool :=
  x ≠ .char 32 && Config.glyphPixel (g = .large) x.code px py

/-- The width of a glyph in pixels (R117). -/
def GlyphSet.pixelWidth : GlyphSet → Nat
  | .small => 20
  | .large => 40

/-- The height of a glyph in pixels (R117). -/
def GlyphSet.pixelHeight : GlyphSet → Nat
  | .small => 40
  | .large => 80

/-- White, the house text colour (R140, R157). -/
abbrev white : Nat := 65535

/-- The colour of a pixel of an image, or `none` where it is clear or outside the image (R140, R142). -/
def Image.pixel (i : Image) (px py : Nat) : Option Nat :=
  match i with
  | .text w h g lines =>
    if px < 40 * w ∧ py < 40 * h then
      match (lines[py / g.pixelHeight]?.getD [])[px / g.pixelWidth]? with
      | none => none
      | some x => if x.pixel g (px % g.pixelWidth) (py % g.pixelHeight) then some white else none
    else none
  | .picture w h data =>
    if px < 40 * w ∧ py < 40 * h then
      let k := 2 * (py * (40 * w) + px)
      match data[k]?, data[k + 1]? with
      | some hi, some lo => some (hi.toNat * 256 + lo.toNat)
      | _, _ => none
    else none

/-- The colour a layer gives a pixel of the panel, or `none` where it leaves what lies beneath (R158). A stream that has not
been drawn gives nothing. -/
def Layer.pixel (l : Layer) (px py : Nat) : Option Nat :=
  if 40 * l.rect.col ≤ px ∧ px < 40 * (l.rect.col + l.rect.width) ∧ 40 * l.rect.row ≤ py
      ∧ py < 40 * (l.rect.row + l.rect.height) then
    match l.paint with
    | .colour c => some c
    | .image i => i.pixel (px - 40 * l.rect.col) (py - 40 * l.rect.row)
    | .stream _ => none
  else none

/-- The colour of a pixel of a frame: that of the last layer that draws it, over black (R158). -/
def Frame.pixel (f : Frame) (px py : Nat) : Nat := f.layers.foldl (fun c l => (l.pixel px py).getD c) 0

/-- R157: the parts of a colour: red the number divided by 2048, green the number divided by 32 modulo 64, blue the number
modulo 32. -/
def rgbOf (c : Nat) : Rgb := ⟨c / 2048, c / 32 % 64, c % 32⟩

/-- R157, R158: the colour of a pixel of a frame, in its parts. -/
def Frame.colour (f : Frame) (px py : Nat) : Rgb := rgbOf (f.pixel px py)

/-! ### What a panel link sends -/

/-- The buffer in a role, if there is one. -/
def Panel.buffer (x : Panel) (r : BufferRole) : Option Buffer :=
  if x.bufA.role = r then some x.bufA else if x.bufB.role = r then some x.bufB else none

/-- R161, R176: what a panel's link sends: its FRONT buffer, or a black frame when it has none. -/
def State.panelSends (s : State) (p : Nat) : Frame :=
  match s.composer.panels[p]? with
  | none => .black (s.orientationOf p)
  | some x =>
    match x.buffer .front with
    | some b => b.frame
    | none => .black (s.orientationOf p)

end Sys2Proof.Machine
end

