-- ==== Sys2Proof/Machine/Composer.lean ====
section
/-! DEFINITION. Chapter 9: the composer. Layouts, panel records and their buffers, frame slots, the compose request queue, and
compose jobs. -/

namespace Sys2Proof.Machine

open Sys2Proof

/-! ### Layouts -/

/-- The orientation a number stands for (R157). -/
def orientationOfNumber : Nat → Option Orientation
  | 1 => some .landscape
  | 2 => some .portrait
  | _ => none

/-- The fill a kind and value stand for, where they are in range (R157). -/
def fillOfCoded (x : Coded) : Option Fill :=
  match x.kind with
  | 1 => some (.colour x.value)
  | 2 => if x.value ≤ 3 then some (.stream x.value) else none
  | 3 => if x.value ≤ 255 then some (.tile x.value) else none
  | _ => none

/-- The background a kind and value stand for: a colour or a STREAM (R157). -/
def backgroundOf (x : Coded) : Option Fill := if x.kind = 3 then none else fillOfCoded x

/-- The content a kind and number stand for, where they are in range (R157). -/
def contentOfCoded (x : Coded) : Option Content :=
  match x.kind with
  | 1 => if x.value ≤ 3 then some (.stream x.value) else none
  | 2 => if x.value ≤ 255 then some (.tile x.value) else none
  | 3 => if x.value ≤ 7 then some (.board x.value) else none
  | 4 => if x.value = 0 then some .feature else none
  | 5 => if x.value ≤ 7 then some (.clock x.value) else none
  | _ => none

/-- A region as carried, where its rectangle lies in the grid and its content is in range (R157). -/
def RegionFields.region (f : RegionFields) (o : Orientation) : Option Region :=
  if f.width ≠ 0 ∧ f.height ≠ 0 ∧ f.col + f.width ≤ o.panelRect.width ∧ f.row + f.height ≤ o.panelRect.height then
    (contentOfCoded f.content).map fun c => ⟨⟨f.col, f.row, f.width, f.height⟩, c⟩
  else none

/-- Whether at most one region is the FEATURE region (R157). -/
def oneFeature (rs : List Region) : Bool := (rs.filter fun r => r.content = .feature).length ≤ 1

/-- The layout LOAD LAYOUT carries, where its fields are in range (R157). -/
def LayoutFields.layout (f : LayoutFields) : Option Layout :=
  match orientationOfNumber f.orientation, backgroundOf f.background, fillOfCoded f.spaceFill with
  | some o, some bg, some sp =>
    match f.regions.mapM fun r => r.region o with
    | none => none
    | some rs => if 1 ≤ rs.length ∧ rs.length ≤ 12 ∧ oneFeature rs then some ⟨o, bg, sp, rs⟩ else none
  | _, _, _ => none

/-- R157: LOAD LAYOUT. -/
def loadLayout (n : Nat) (f : LayoutFields) (s : State) : State × Reply :=
  match f.layout with
  | none => refuse s .outOfRange
  | some l =>
    if h : n < 32 then done { s with composer := { s.composer with layouts := s.composer.layouts.set n (some l) h } }
    else refuse s .outOfRange

/-- LOAD_LAYOUT (R157). -/
def execLoadLayout (p : Port) (s : State) : Result :=
  .next <| s.takeAndAnswer .composer p (fun d => match d with | .loadLayout n f => some (n, f) | _ => none)
    fun (n, f) s => loadLayout n f s

/-! ### Panel records -/

/-- Change the record of a panel. -/
def State.changePanel (s : State) (p : Nat) (f : Panel → Panel) : State :=
  { s with composer := { s.composer with panels := modifyAt s.composer.panels p f } }

/-- Change the records of a set of panels. -/
def State.changePanels (s : State) (set : List Nat) (f : Panel → Panel) : State :=
  { s with composer := { s.composer with
    panels := s.composer.panels.mapFinIdx fun i x _ => if set.contains i then f x else x } }

/-- R160 steps 2 and 3: the outcome a layout and a panel set are refused with, if any. -/
def State.layoutRefusal (s : State) (n : Nat) (set : List Nat) : Option OutcomeCode :=
  match s.layoutOf n with
  | none => some .noSuch
  | some l => if set.all fun p => s.orientationOf p = l.orientation then none else some .refusedState

/-- R160: APPLY LAYOUT. -/
def applyLayout (n : Nat) (set : List Nat) (s : State) : State × Reply :=
  if 31 < n ∨ validSet set = false then refuse s .outOfRange
  else
    match s.layoutRefusal n set with
    | some o => refuse s o
    | none => done (s.changePanels set fun x => { x with pendingLayout := some n })

/-- APPLY_LAYOUT (R160). -/
def execApplyLayout (p : Port) (s : State) : Result :=
  .next <| s.takeAndAnswer .composer p (fun d => match d with | .applyLayout n x => some (n, x) | _ => none)
    fun (n, x) s => applyLayout n x s

/-- R160: SET OVERRIDE; a layout of 255 is none. -/
def setOverride (n : Nat) (set : List Nat) (s : State) : State × Reply :=
  if (31 < n ∧ n ≠ 255) ∨ validSet set = false then refuse s .outOfRange
  else if n = 255 then done (s.changePanels set fun x => { x with override := none })
  else
    match s.layoutRefusal n set with
    | some o => refuse s o
    | none => done (s.changePanels set fun x => { x with override := some n })

/-- SET_OVERRIDE (R160). -/
def execSetOverride (p : Port) (s : State) : Result :=
  .next <| s.takeAndAnswer .composer p (fun d => match d with | .setOverride n x => some (n, x) | _ => none)
    fun (n, x) s => setOverride n x s

/-- CUE_APPLY_LAYOUT (R39, R160): a cue's APPLY LAYOUT is applied as the directive, without answer. -/
def execCueApplyLayout (s : State) : Result :=
  .next <|
    match s.mail.cuesToComposer with
    | [] => s
    | (n, set) :: rest => (applyLayout n set { s with mail := { s.mail with cuesToComposer := rest } }).1

/-! ### Events of the panel output -/

/-- The composer takes the event at the head of the panel output's queue, where `act` acts on it. -/
def State.takePanelEvent (s : State) (act : PanelEvent → Option (State → State)) : State :=
  match s.mail.outputToComposer with
  | [] => s
  | e :: rest =>
    match act e with
    | none => s
    | some f => f { s with mail := { s.mail with outputToComposer := rest } }

/-- PANEL_LIVE (R159). -/
def execPanelLive (s : State) : Result :=
  .next <| s.takePanelEvent fun e =>
    match e with | .live p => some fun s => s.changePanel p fun x => { x with state := .live } | _ => none

/-- PANEL_STANDBY_EVENT (R159). -/
def execPanelStandbyEvent (s : State) : Result :=
  .next <| s.takePanelEvent fun e =>
    match e with | .standby p => some fun s => s.changePanel p fun x => { x with state := .standby } | _ => none

/-- R159: a buffer of a panel that goes DARK. -/
def Buffer.darken (b : Buffer) : Buffer :=
  match b.role with
  | .front | .ready => { b with role := .free }
  | .free | .composing => b

/-- R159: a panel that goes DARK; a request that is QUEUED becomes NONE. -/
def Panel.darken (x : Panel) : Panel :=
  { x with
    state := .dark
    bufA := x.bufA.darken
    bufB := x.bufB.darken
    request := match x.request with | .queued => .none | r => r }

/-- R159: "panel dark". -/
def State.panelDark (s : State) (p : Nat) : State :=
  let s := s.changePanel p Panel.darken
  { s with composer := { s.composer with queue := s.composer.queue.filter (· ≠ p) } }

/-- PANEL_DARK (R159). -/
def execPanelDark (s : State) : Result :=
  .next <| s.takePanelEvent fun e => match e with | .dark p => some fun s => s.panelDark p | _ => none

/-- A 32-bit count that saturates goes up by 1 (R159). -/
def saturate32 (n : Nat) : Nat := min (n + 1) maxCount32

/-- R161 step 1, for one buffer: READY becomes FRONT, and the old FRONT becomes FREE. -/
def Buffer.swap (b : Buffer) : Buffer :=
  match b.role with
  | .ready => { b with role := .front }
  | .front => { b with role := .free }
  | .free | .composing => b

/-- Whether a panel has a buffer in a role. -/
def Panel.has (x : Panel) (r : BufferRole) : Bool := x.bufA.role = r || x.bufB.role = r

/-- R161 step 1: the swap. -/
def Panel.swap (x : Panel) : Panel :=
  if x.has .ready then { x with bufA := x.bufA.swap, bufB := x.bufB.swap, shown := saturate32 x.shown }
  else if x.has .front then { x with repeated := saturate32 x.repeated }
  else x

/-- R161 step 2: a pending layout becomes current. -/
def Panel.takeLayout (x : Panel) : Panel :=
  match x.pendingLayout with
  | none => x
  | some n => { x with current := some n, pendingLayout := none }

/-- R161 step 3: the panel joins the compose request queue, or FRAME_LATE is raised. -/
def State.requestFrame (s : State) (p : Nat) (x : Panel) : State :=
  match x.request with
  | .none =>
    let s := s.changePanel p fun _ => { x with request := .queued }
    { s with composer := { s.composer with queue := s.composer.queue ++ [p] } }
  | .queued | .composing => (s.changePanel p fun _ => x).sendCondition .composer (.raise .frameLate)

/-- R161: a frame slot; it is ignored unless the panel is LIVE. -/
def State.frameSlot (s : State) (p : Nat) : State :=
  match s.composer.panels[p]? with
  | none => s
  | some x => if x.state = .live then s.requestFrame p x.swap.takeLayout else s

/-- FRAME_SLOT (R161). -/
def execFrameSlot (s : State) : Result :=
  .next <| s.takePanelEvent fun e => match e with | .slot p => some fun s => s.frameSlot p | _ => none

/-! ### Compose jobs -/

/-- A panel's buffer by its name. -/
def Panel.bufferNamed (x : Panel) : BufferName → Buffer
  | .a => x.bufA
  | .b => x.bufB

/-- Replace a panel's buffer. -/
def Panel.putBuffer (x : Panel) (n : BufferName) (b : Buffer) : Panel :=
  match n with
  | .a => { x with bufA := b }
  | .b => { x with bufB := b }

/-- R163 step 2: the FREE buffer a job takes. Where both are FREE the manual says only "a FREE buffer", and `choice` decides
(DESIGN CHOICE, assumption 12). -/
def Panel.freeBuffer (x : Panel) (choice : Bool) : Option BufferName :=
  match x.bufA.role, x.bufB.role with
  | .free, .free => some (if choice then .a else .b)
  | .free, _ => some .a
  | _, .free => some .b
  | _, _ => none

/-- The sequence after one (R159): from 65535 it returns to 1. -/
def nextSequence (n : Nat) : Nat := if n = 65535 then 1 else n + 1

/-- R163 steps 1 and 2: a panel whose job starts on a buffer. -/
def Panel.claim (x : Panel) (n : BufferName) : Panel :=
  { x.putBuffer n { x.bufferNamed n with role := .composing, seq := x.nextSeq } with
    nextSeq := nextSequence x.nextSeq
    request := .composing }

/-- R163, R171: the pin requests of a job. -/
def State.requestPins (s : State) (streams : List Nat) (live : Bool) : State :=
  { s with mail := { s.mail with composerToMemory := s.mail.composerToMemory ++ streams.map fun n => .pin n live } }

/-- R171: the release of a job's pins. -/
def State.releasePins (s : State) : State :=
  { s with mail := { s.mail with composerToMemory := s.mail.composerToMemory ++ [.release] } }

/-- R163: the engine starts the job of the panel at the head of the queue, on a buffer. -/
def State.startCompose (s : State) (p : Nat) (rest : List Nat) (x : Panel) (n : BufferName) : State :=
  let f := s.frameFor p x
  let s := s.changePanel p fun _ => x.claim n
  let s := { s with composer := { s.composer with queue := rest, engine := some ⟨p, n, f.1⟩ }, choices := s.choices + 1 }
  (s.requestPins f.1.streams (x.state = .live)).giveWork .compose f.2

/-- COMPOSE_JOB_START (R162, R163). The job reads the carousels and the urgent lists of a tick or second that the rotation unit
and the notice unit have taken whole (DESIGN CHOICE, assumption 5). -/
def execComposeJobStart (s : State) : Result :=
  .next <|
    match s.composer.engine, s.composer.queue with
    | none, p :: rest =>
      if s.rotation.settled ∧ s.notice.settled then
        match s.composer.panels[p]? with
        | none => s
        | some x =>
          match x.freeBuffer (Config.freeChoice s.choices) with
          | none => s
          | some n => s.startCompose p rest x n
      else s
    | _, _ => s

/-- R165: a panel at the completion of its job. -/
def Panel.complete (x : Panel) (n : BufferName) (f : Frame) : Panel :=
  let b := { x.bufferNamed n with frame := f }
  match x.state with
  | .dark => { x.putBuffer n { b with role := .free } with request := .none }
  | .live | .standby =>
    if x.has .front then { x.putBuffer n { b with role := .ready } with request := .none }
    else { x.putBuffer n { b with role := .front } with request := .none, shown := saturate32 x.shown }

/-- The composer's engine becomes idle, its job's pins are released, and the head of the reports is taken. -/
def State.endCompose (s : State) : State :=
  ({ s with
    composer := { s.composer with engine := none }
    mail := { s.mail with memoryToComposer := s.mail.memoryToComposer.tail } } : State).releasePins

/-- COMPOSE_JOB_COMPLETE (R165): the channel has reported the last unit complete. -/
def execComposeJobComplete (s : State) : Result :=
  .next <|
    match s.composer.engine, s.mail.memoryToComposer with
    | some j, .complete :: _ => s.endCompose.changePanel j.panel fun x => x.complete j.buffer j.frame
    | _, _ => s

/-- R166: a panel whose job was abandoned: its buffer is freed, and unless it is DARK it is queued again. -/
def Panel.abandon (x : Panel) (n : BufferName) : Panel :=
  { x.putBuffer n { x.bufferNamed n with role := .free } with request := if x.state = .dark then .none else .queued }

/-- R166: the job of the engine is abandoned. -/
def State.abandonCompose (s : State) (j : ComposeJob) : State :=
  match s.composer.panels[j.panel]? with
  | none => s.endCompose
  | some x =>
    let s := s.endCompose.changePanel j.panel fun _ => x.abandon j.buffer
    if x.state = .dark then s else { s with composer := { s.composer with queue := s.composer.queue ++ [j.panel] } }

/-- COMPOSE_JOB_ABANDON (R166): the channel has reported the job ended without completion. -/
def execComposeJobAbandon (s : State) : Result :=
  .next <|
    match s.composer.engine, s.mail.memoryToComposer with
    | some j, .ended :: _ => s.abandonCompose j
    | _, _ => s

/-- R169 step 3: a panel at the restart. -/
def Panel.restart (x : Panel) : Panel :=
  { x with bufA := { x.bufA with role := .free }, bufB := { x.bufB with role := .free }, request := .none }

/-- R169: the composer's restart. -/
def State.restartComposer (s : State) : State :=
  let held := s.composer.engine.isSome
  let s := s.cancelWork .compose
  let s := if held then s.releasePins else s
  { s with composer := { s.composer with engine := none, queue := [], panels := mapAll Panel.restart s.composer.panels } }

/-- COMPOSER_RESTART (R169). -/
def execComposerRestart (s : State) : Result :=
  .next <| if s.mail.restarts[Block.composer.index] = 0 then s else (s.dropRestart .composer).restartComposer

/-! ### Queries -/

/-- The number an orientation is carried as (R157). -/
def Orientation.number : Orientation → Nat
  | .landscape => 1
  | .portrait => 2

/-- A fill as LOAD LAYOUT carries it (R157). -/
def Fill.bytes : Fill → List Byte
  | .colour c => put1 1 ++ put2 c
  | .stream n => put1 2 ++ put2 n
  | .tile t => put1 3 ++ put2 t

/-- A content as LOAD LAYOUT carries it (R157). -/
def Content.bytes : Content → List Byte
  | .stream n => put1 1 ++ put1 n
  | .tile t => put1 2 ++ put1 t
  | .board b => put1 3 ++ put1 b
  | .feature => put1 4 ++ put1 0
  | .clock c => put1 5 ++ put1 c

/-- A region as LOAD LAYOUT carries it (R157). -/
def Region.bytes (r : Region) : List Byte :=
  put2 r.rect.col ++ put2 r.rect.row ++ put2 r.rect.width ++ put2 r.rect.height ++ r.content.bytes

/-- The LAYOUT record (R157, R167). -/
def Layout.record (l : Layout) : List Byte :=
  put2 l.orientation.number ++ l.background.bytes ++ l.spaceFill.bytes ++ byteOf l.regions.length
    :: l.regions.flatMap Region.bytes

/-- The answer to QUERY LAYOUT (R167). -/
def layoutReply (n : Nat) (s : State) : Reply :=
  match s.composer.layouts[n]? with
  | none => ⟨.outOfRange, []⟩
  | some none => ⟨.noSuch, []⟩
  | some (some l) => ⟨.done, l.record⟩

/-- QUERY_LAYOUT (R167). -/
def execQueryLayout (p : Port) (s : State) : Result := .next <| s.takeQuery .composer p 15 layoutReply

/-- The number a panel state is carried as (R159, R179). -/
def PanelState.number : PanelState → Nat
  | .dark => 0
  | .standby => 1
  | .live => 2

/-- The number a buffer role is carried as (R159). -/
def BufferRole.number : BufferRole → Nat
  | .front => 1
  | .ready => 2
  | .free => 3
  | .composing => 4

/-- The number a request state is carried as (R159). -/
def RequestState.number : RequestState → Nat
  | .none => 0
  | .queued => 1
  | .composing => 2

/-- A buffer in the PANEL record (R159). -/
def Buffer.record (b : Buffer) : List Byte := put2 b.role.number ++ put2 b.seq

/-- The PANEL record (R159, R167): a layout of none is 255 in one byte, each count four bytes. -/
def Panel.record (x : Panel) : List Byte :=
  put2 x.state.number ++ put1OrNone x.current ++ put1OrNone x.pendingLayout ++ put1OrNone x.override ++ x.bufA.record
    ++ x.bufB.record ++ put2 x.nextSeq ++ put2 x.request.number ++ put4 x.shown ++ put4 x.repeated

/-- The answer to QUERY PANEL (R167). -/
def panelReply (p : Nat) (s : State) : Reply :=
  match s.composer.panels[p]? with
  | none => ⟨.outOfRange, []⟩
  | some x => ⟨.done, x.record⟩

/-- QUERY_PANEL (R167). -/
def execQueryPanel (p : Port) (s : State) : Result := .next <| s.takeQuery .composer p 16 panelReply

end Sys2Proof.Machine
end

