-- ==== Sys2Proof/Machine/Memory.lean ====
section
/-! DEFINITION. Chapter 10, first part: the frame memory unit. Stream segments and stores, pins, the stream watch, the grant of
the memory to the three channels, faults, and the restart. -/

namespace Sys2Proof.Machine

open Sys2Proof

/-! ### Segments -/

/-- The fields of a stream segment (R170). -/
structure Segment where
  stream : Nat
  frameNumber : Nat
  index : Nat
  last : Nat
  width : Nat
  height : Nat
  data : List Byte
  deriving DecidableEq, Repr

/-- R170: the six numbers of a segment's body and the pixel bytes after them; `none` where the body is too short for them
(DESIGN CHOICE, assumption 21). -/
def readSegment (bs : List Byte) : Option Segment := do
  let (stream, bs) ← get2 bs
  let (number, bs) ← get2 bs
  let (index, bs) ← get2 bs
  let (last, bs) ← get2 bs
  let (w, bs) ← get2 bs
  let (h, bs) ← get2 bs
  return ⟨stream, number, index, last, w, h, bs⟩

/-- R173: the INGEST channel counts the segments of its queue and its unit in flight. -/
def MemoryUnit.countIngest (m : MemoryUnit) : MemoryUnit :=
  let flying : Bool := match m.inFlight with | some u => u.channel = .ingest && !u.ignored | none => false
  let n := m.ingestQueue.length + (if flying then 1 else 0)
  { m with ingest := { m.ingest with
      remaining := n
      hasWork := 0 < n
      state := match m.ingest.state with
        | .halted => .halted
        | _ => if flying then .active else if n = 0 then .idle else .preempted } }

/-- Change one stream. -/
def MemoryUnit.changeStream (m : MemoryUnit) (n : Nat) (f : Stream → Stream) : MemoryUnit :=
  { m with streams := modifyAt m.streams n f }

/-- Whether a segment write is bound to a frame (R170). -/
def SegmentWrite.boundTo (w : SegmentWrite) (stream frameId : Nat) : Bool := w.stream = stream && w.frameId = frameId

/-- R170: reception becomes idle if it is receiving the frame. -/
def Stream.stopReceiving (x : Stream) (frameId : Nat) : Stream :=
  match x.reception with
  | none => x
  | some r => if r.frameId = frameId then { x with reception := none } else x

/-- R170: a write in flight of an abandoned frame completes no frame. -/
def UnitInFlight.abandonFrame (u : UnitInFlight) (stream frameId : Nat) : UnitInFlight :=
  match u.write with
  | none => u
  | some w => if w.boundTo stream frameId then { u with abandoned := true } else u

/-- R170: a frame is abandoned. -/
def MemoryUnit.abandonFrame (m : MemoryUnit) (stream frameId : Nat) : MemoryUnit :=
  ({ m.changeStream stream fun x => x.stopReceiving frameId with
    ingestQueue := m.ingestQueue.filter fun w => !w.boundTo stream frameId
    inFlight := m.inFlight.map fun u => u.abandonFrame stream frameId } : MemoryUnit).countIngest

/-- R170: the frame a stream has in reception, if any, is abandoned. -/
def MemoryUnit.abandonReception (m : MemoryUnit) (stream : Nat) : MemoryUnit :=
  match m.streams[stream]? with
  | none => m
  | some x =>
    match x.reception with
    | none => m
    | some r => m.abandonFrame stream r.frameId

/-- The bytes of a frame of a size (R170). -/
def frameBytes (w h : Nat) : Nat := 3200 * w * h

/-- R170: reception begins the frame of a segment of index 0. -/
def Stream.beginFrame (x : Stream) (g : Segment) : Stream :=
  { x with
    reception := some ⟨x.nextFrameId, g.frameNumber, g.width, g.height, 0, 0⟩
    nextFrameId := x.nextFrameId + 1 }

/-- R170: whether a segment is the next one of the frame in reception. -/
def Reception.accepts (r : Reception) (g : Segment) : Bool :=
  g.index = r.nextIndex && g.frameNumber = r.frameNumber && g.width = r.width && g.height = r.height
    && r.bytes + g.data.length ≤ frameBytes r.width r.height

/-- The segment write an accepted segment makes, bound to its frame (R170). -/
def Segment.write (g : Segment) (frameId : Nat) : SegmentWrite :=
  ⟨g.stream, frameId, g.frameNumber, g.width, g.height, g.index = 0, g.last = 1, g.data⟩

/-- R170, R174: an accepted segment joins the ingest queue. Where the queue holds 4, or the channels are HALTED, it is dropped and
its frame is abandoned; so is a frame whose last segment leaves it short. -/
def MemoryUnit.accept (m : MemoryUnit) (g : Segment) (r : Reception) : MemoryUnit :=
  if m.ingest.state = .halted ∨ 4 ≤ m.ingestQueue.length then m.abandonFrame g.stream r.frameId
  else
    let bytes := r.bytes + g.data.length
    let m := ({ m with ingestQueue := m.ingestQueue ++ [g.write r.frameId] } : MemoryUnit).countIngest
    if g.last = 1 then
      if bytes < frameBytes r.width r.height then m.abandonFrame g.stream r.frameId
      else m.changeStream g.stream fun x => { x with reception := none }
    else m.changeStream g.stream fun x => { x with reception := some { r with nextIndex := r.nextIndex + 1, bytes := bytes } }

/-- R170: a segment tested against its stream's reception. -/
def MemoryUnit.testSegment (m : MemoryUnit) (g : Segment) : MemoryUnit :=
  match m.streams[g.stream]? with
  | none => m
  | some x =>
    match x.reception with
    | none => m
    | some r => if r.accepts g then m.accept g r else m.abandonFrame g.stream r.frameId

/-- R170: a segment is taken. -/
def MemoryUnit.takeSegment (m : MemoryUnit) (g : Segment) : MemoryUnit :=
  if 3 < g.stream then m
  else if 1 < g.last ∨ g.width < 1 ∨ 48 < g.width ∨ g.height < 1 ∨ 48 < g.height then m.abandonReception g.stream
  else if g.index = 0 then
    ((m.abandonReception g.stream).changeStream g.stream fun x => x.beginFrame g).testSegment g
  else m.testSegment g

/-- SEGMENT (R170). -/
def execSegment (s : State) : Result :=
  .next <|
    match s.mail.segments with
    | [] => s
    | body :: rest =>
      let s := { s with mail := { s.mail with segments := rest } }
      match readSegment body with
      | none => s
      | some g => { s with memory := s.memory.takeSegment g }

/-! ### Stores and pins -/

/-- R171: the LATEST store takes the pin mark. -/
def Store.pin (y : Store) : Store := if y.role = .latest then { y with pinned := true } else y

/-- R171: a store loses its pin mark; a HELD store becomes FREE. -/
def Store.release (y : Store) : Store :=
  { y with pinned := false, role := if y.role = .held then .free else y.role }

/-- R171, R172: a pin request for a stream, from a job for a LIVE panel or another. -/
def MemoryUnit.pinStream (m : MemoryUnit) (n : Nat) (live : Bool) (runTime : Nat) : MemoryUnit :=
  m.changeStream n fun x =>
    { x with stores := mapAll Store.pin x.stores, lastUse := if live then some runTime else x.lastUse }

/-- PIN_REQUEST (R171, R172). -/
def execPinRequest (s : State) : Result :=
  .next <|
    match s.mail.composerToMemory with
    | .pin n live :: rest =>
      { s with
        memory := s.memory.pinStream n live s.clock.runTime
        mail := { s.mail with composerToMemory := rest } }
    | _ => s

/-- R171: the pins of a job are released. -/
def MemoryUnit.releaseAll (m : MemoryUnit) : MemoryUnit :=
  { m with streams := mapAll (fun x => { x with stores := mapAll Store.release x.stores }) m.streams }

/-- PIN_RELEASE (R171). -/
def execPinRelease (s : State) : Result :=
  .next <|
    match s.mail.composerToMemory with
    | .release :: rest => { s with memory := s.memory.releaseAll, mail := { s.mail with composerToMemory := rest } }
    | _ => s

/-- R170: a store at the completion of a frame: RECEIVING becomes LATEST with the frame's number and size, the old LATEST
becomes FREE or, when pinned, HELD. -/
def Store.turn (y : Store) (w : SegmentWrite) : Store :=
  match y.role with
  | .receiving => { y with role := .latest, frameNumber := w.frameNumber, width := w.width, height := w.height }
  | .latest => { y with role := if y.pinned then .held else .free }
  | .free | .held => y

/-- R170 step 3: the FREE store that becomes RECEIVING. Where there are two the manual says only "a FREE store", and `choice`
decides (DESIGN CHOICE, assumption 12). -/
def freeStore (stores : Vector Store 3) (choice : Bool) : Option Nat :=
  match (List.range 3).filter fun i => match stores[i]? with | some y => y.role = .free | none => false with
  | [] => none
  | [i] => some i
  | i :: j :: _ => some (if choice then i else j)

/-- R170 steps 1 to 3: a stream's stores at the completion of a frame. -/
def turnStores (stores : Vector Store 3) (w : SegmentWrite) (choice : Bool) : Vector Store 3 :=
  let v := mapAll (fun y => y.turn w) stores
  match freeStore v choice with
  | none => v
  | some i => modifyAt v i fun y => { y with role := .receiving }

/-- R170: a segment's bytes are written into the RECEIVING store; the first of a frame begins it afresh. -/
def Store.write (y : Store) (w : SegmentWrite) : Store :=
  if y.role = .receiving then { y with data := if w.first then w.data else y.data ++ w.data } else y

/-- R170, R172: a segment's write completes in its stream; the last write of a frame completes the frame. -/
def Stream.written (x : Stream) (w : SegmentWrite) (runTime : Nat) (choice : Bool) : Stream :=
  let x := { x with stores := mapAll (fun y => y.write w) x.stores }
  if w.last then { x with stores := turnStores x.stores w choice, lastFrame := runTime, lost := false } else x

/-- Whether any stream is lost (R172). -/
def MemoryUnit.anyLost (m : MemoryUnit) : Bool := m.streams.toList.any Stream.lost

/-- Whether a stream is lost. -/
def MemoryUnit.isLost (m : MemoryUnit) (n : Nat) : Bool := match m.streams[n]? with | some x => x.lost | none => false

/-- R170, R172: a segment write that counts completes; STREAM_LOST ends when the last lost stream is lost no more. -/
def State.segmentWritten (s : State) (w : SegmentWrite) : State :=
  let was := s.memory.isLost w.stream
  let s := { s with
    memory := s.memory.changeStream w.stream fun x => x.written w s.clock.runTime (Config.freeChoice s.choices)
    choices := s.choices + 1 }
  if was && !s.memory.anyLost then s.sendCondition .memory (.ends .streamLost) else s

/-! ### The stream watch -/

/-- R172: whether a stream becomes lost at a run-time second, by the run time the second carries (DEDUCED, assumption 22). -/
def Stream.losesAt (x : Stream) (t : Nat) : Bool :=
  !x.lost && x.lastUse.any (fun u => t < u + 2) && x.lastFrame + 2 ≤ t

/-- STREAM_WATCH (R172). -/
def execStreamWatch (s : State) : Result :=
  .next <|
    match s.nextSecond .memory with
    | none => s
    | some t =>
      let s := s.dropSecond .memory
      let lost := (s.memory.streams.toList.filter fun x => x.losesAt t).length
      let s := { s with memory := { s.memory with
        streams := mapAll (fun x => if x.losesAt t then { x with lost := true } else x) s.memory.streams } }
      (List.range lost).foldl (fun s _ => s.sendCondition .memory (.raise .streamLost)) s

/-! ### Granting the memory -/

/-- Whether a pin request of the composer has not been taken yet. A compose job pins at its start, so its units wait for it
(DEDUCED, assumption 11). -/
def State.pinsOutstanding (s : State) : Bool :=
  s.mail.composerToMemory.any fun e => match e with | .pin _ _ => true | .release => false

/-- Whether a channel is not HALTED and has a unit to grant (R173). -/
def Channel.waits (c : Channel) : Bool := c.state ≠ .halted && c.hasWork && 0 < c.remaining

/-- A unit of the COMPOSE or RENDER channel in flight. -/
def UnitInFlight.plain (name : ChannelName) : UnitInFlight := ⟨name, false, none, false⟩

/-- R173: the next segment write is granted the memory. -/
def MemoryUnit.grantIngest (m : MemoryUnit) : MemoryUnit :=
  match m.ingestQueue with
  | [] => m
  | w :: rest => ({ m with ingestQueue := rest, inFlight := some ⟨.ingest, false, some w, false⟩ } : MemoryUnit).countIngest

/-- R173: a unit of the COMPOSE or RENDER channel is granted the memory. -/
def MemoryUnit.grant (m : MemoryUnit) (name : ChannelName) : MemoryUnit :=
  { m.putChannel name { m.channel name with state := .active } with inFlight := some (.plain name) }

/-- UNIT_GRANT (R173): with no unit in flight, the memory goes to the highest channel that waits for it, in the order INGEST,
COMPOSE, RENDER. -/
def execUnitGrant (s : State) : Result :=
  .next <|
    match s.memory.inFlight with
    | some _ => s
    | none =>
      if s.memory.ingest.waits then { s with memory := s.memory.grantIngest }
      else if s.memory.compose.waits then
        if s.pinsOutstanding then s else { s with memory := s.memory.grant .compose }
      else if s.memory.render.waits then { s with memory := s.memory.grant .render }
      else s

/-- R173: a channel whose unit has completed: its count is lowered, and with the last unit its work is over. -/
def Channel.lower (c : Channel) : Channel :=
  if c.remaining ≤ 1 then { c with remaining := 0, hasWork := false, state := .idle }
  else { c with remaining := c.remaining - 1, state := .preempted }

/-- R158: with its last unit, the COMPOSE channel has drawn the streams of the job's frame from their pinned stores. -/
def State.drawStreams (s : State) : State :=
  { s with composer := { s.composer with
    engine := s.composer.engine.map fun j => { j with frame := j.frame.resolve s.memory } } }

/-- R173: a unit of the COMPOSE or RENDER channel completes; with the last one the channel reports the work complete. -/
def State.unitDone (s : State) (name : ChannelName) : State :=
  let c := s.memory.channel name
  let s := { s with memory := s.memory.putChannel name c.lower }
  if c.remaining ≤ 1 then (if name = .compose then s.drawStreams else s).reportWork name .complete else s

/-- TRANSFER_UNIT_COMPLETE (R173, R170). -/
def execTransferUnitComplete (s : State) : Result :=
  .next <|
    match s.memory.inFlight with
    | none => s
    | some u =>
      let s := { s with memory := ({ s.memory with inFlight := none } : MemoryUnit).countIngest }
      if u.ignored then s
      else
        match u.channel, u.write with
        | .ingest, some w => if u.abandoned then s else s.segmentWritten w
        | .ingest, none => s
        | .compose, _ => s.unitDone .compose
        | .render, _ => s.unitDone .render

/-! ### Faults -/

/-- R174: a channel whose unit has met an error: its count is lowered, its work kept, and it takes the fault mark. -/
def Channel.faulted (c : Channel) : Channel := { c with remaining := c.remaining - 1, fault := true }

/-- A channel becomes HALTED (R174). -/
def Channel.halt (c : Channel) : Channel := { c with state := .halted }

/-- R174: every channel becomes HALTED, and the segments of the ingest queue are dropped, their frames abandoned. -/
def MemoryUnit.halt (m : MemoryUnit) : MemoryUnit :=
  let m := m.ingestQueue.foldl (fun m w => m.abandonFrame w.stream w.frameId) m
  { m with ingest := m.ingest.halt, compose := m.compose.halt, render := m.render.halt }

/-- R174: the unit in flight has met an uncorrectable error and finished. -/
def MemoryUnit.fault (m : MemoryUnit) (u : UnitInFlight) : MemoryUnit :=
  let m := ({ m with inFlight := none } : MemoryUnit)
  let m :=
    if u.ignored then m
    else
      match u.channel, u.write with
      | .ingest, some w => ({ m with ingest := m.ingest.faulted } : MemoryUnit).abandonFrame w.stream w.frameId
      | .ingest, none => { m with ingest := m.ingest.faulted }
      | .compose, _ => { m with compose := m.compose.faulted }
      | .render, _ => { m with render := m.render.faulted }
  m.halt.countIngest

/-- UNIT_FAULT (R174). -/
def execUnitFault (s : State) : Result :=
  .next <|
    match s.memory.inFlight with
    | none => s
    | some u => ({ s with memory := s.memory.fault u } : State).sendCondition .memory (.raise .memoryFault)

/-- R175 step 1: a channel with the fault mark reports its work ended, and its remaining units are dropped. -/
def State.endFaulted (s : State) (name : ChannelName) : State :=
  let c := s.memory.channel name
  if c.fault then
    let s := if c.hasWork then s.reportWork name .ended else s
    { s with memory := s.memory.putChannel name { c.drop with fault := false } }
  else s

/-- R175 step 2: a channel leaves HALTED. -/
def Channel.leaveHalted (c : Channel) : Channel :=
  match c.state with
  | .halted => { c with state := if c.hasWork then .preempted else .idle }
  | _ => c

/-- R175: the resume. -/
def State.resumeChannels (s : State) : State :=
  let s := ((s.endFaulted .ingest).endFaulted .compose).endFaulted .render
  { s with memory := { s.memory with
      ingest := s.memory.ingest.leaveHalted
      compose := s.memory.compose.leaveHalted
      render := s.memory.render.leaveHalted } }

/-- RESUME (R175). -/
def execResume (s : State) : Result :=
  .next <|
    match s.mail.linkToMemory with
    | .resume :: rest => ({ s with mail := { s.mail with linkToMemory := rest } } : State).resumeChannels
    | _ => s

/-! ### The restart and the query -/

/-- R180: a stream at the restart: as after a full reset, but for its last frame time. -/
def Stream.restart (runTime : Nat) (x : Stream) : Stream :=
  { Stream.atReset with lastFrame := runTime, nextFrameId := x.nextFrameId }

/-- R180: the work of a channel is dropped and reported to its owner as ended. -/
def State.dropWork (s : State) (name : ChannelName) : State :=
  let c := s.memory.channel name
  let s := if c.hasWork then s.reportWork name .ended else s
  { s with memory := s.memory.putChannel name .atReset }

/-- R180: the restart of the frame memory unit. -/
def State.restartMemory (s : State) : State :=
  let s := ((s.dropWork .ingest).dropWork .compose).dropWork .render
  let s := { s with memory := { s.memory with
      streams := mapAll (Stream.restart s.clock.runTime) s.memory.streams
      ingestQueue := []
      inFlight := s.memory.inFlight.map fun (u : UnitInFlight) => { u with ignored := true } } }
  (s.sendCondition .memory (.ends .memoryFault)).sendCondition .memory (.ends .streamLost)

/-- FRAME_MEMORY_RESTART (R180). -/
def execFrameMemoryRestart (s : State) : Result :=
  .next <|
    match s.mail.linkToMemory with
    | .restart :: rest => ({ s with mail := { s.mail with linkToMemory := rest } } : State).restartMemory
    | _ => s

/-- The number a store's role is carried as (R179). -/
def StoreRole.number : StoreRole → Nat
  | .receiving => 1
  | .latest => 2
  | .free => 3
  | .held => 4

/-- A store in the STREAM record (R179). -/
def Store.record (y : Store) : List Byte :=
  put2 y.role.number ++ putFlag y.pinned ++ put2 y.frameNumber ++ put2 y.width ++ put2 y.height

/-- The reception in the STREAM record (R179). -/
def receptionRecord : Option Reception → List Byte
  | none => put2 0
  | some r => put2 1 ++ put2 r.frameNumber ++ put2 r.nextIndex ++ put4 r.bytes

/-- The STREAM record (R179). R179 writes "for each store" without an order: the stores stand in store-number order (DESIGN CHOICE,
assumption 15). -/
def Stream.record (x : Stream) : List Byte :=
  x.stores.toList.flatMap Store.record ++ receptionRecord x.reception ++ put4 x.lastFrame
    ++ put4 (x.lastUse.getD maxCount32) ++ putFlag x.lost

/-- The answer to QUERY STREAM (R179). -/
def streamReply (n : Nat) (s : State) : Reply :=
  match s.memory.streams[n]? with
  | none => ⟨.outOfRange, []⟩
  | some x => ⟨.done, x.record⟩

/-- QUERY_STREAM (R179). -/
def execQueryStream (p : Port) (s : State) : Result := .next <| s.takeQuery .memory p 18 streamReply

end Sys2Proof.Machine
end

