-- ==== Sys2Proof/Machine/Outputs.lean ====
section
/-! DEFINITION. Chapter 10, second part: the panel outputs. Link state, standby, refresh rate, orientation and backlight. -/

namespace Sys2Proof.Machine

open Sys2Proof

/-! ### State events and lost marks -/

/-- The panel output sends the composer an event (R159, R176). -/
def State.sendPanelEvent (s : State) (e : PanelEvent) : State :=
  { s with mail := { s.mail with outputToComposer := s.mail.outputToComposer ++ [e] } }

/-- The state event that matches a state (R159). -/
def stateEvent (p : Nat) : PanelState → PanelEvent
  | .live => .live p
  | .standby => .standby p
  | .dark => .dark p

/-- Whether any panel's lost mark is set (R176). -/
def OutputUnit.anyLost (u : OutputUnit) : Bool := u.panels.toList.any Output.lost

/-- R176: a panel's output record changes. A change of state sends the composer the matching event; a lost mark that becomes set
raises PANEL_LOST, and one that clears ends it when no other remains. -/
def State.changeOutput (s : State) (p : Nat) (f : Output → Output) : State :=
  match s.output.panels[p]? with
  | none => s
  | some old =>
    let new := f old
    let s := { s with output := ⟨s.output.panels.setIfInBounds p new⟩ }
    let s := if old.state = new.state then s else s.sendPanelEvent (stateEvent p new.state)
    if old.lost = new.lost then s
    else if new.lost then s.sendCondition .output (.raise .panelLost)
    else if s.output.anyLost then s
    else s.sendCondition .output (.ends .panelLost)

/-- The panels of a set change one after another. -/
def State.changeOutputs (s : State) (set : List Nat) (f : Output → Output) : State := set.foldl (fun s p => s.changeOutput p f) s

/-! ### Reports of the panel links (R176) -/

/-- R176: link up. -/
def Output.raiseLink (o : Output) : Output :=
  { o with linkUp := true, rateSent := some o.rate, state := if o.standby then .standby else .live, lost := false }

/-- LINK_UP (R176). -/
def execLinkUp (panel : Nat) (s : State) : Result := .next (s.changeOutput panel Output.raiseLink)

/-- R176: link down; the lost mark is set whether or not the link was up (DEDUCED, assumption 23). -/
def Output.dropLink (o : Output) : Output :=
  { o with linkUp := false, state := .dark, lost := if o.standby then o.lost else true }

/-- LINK_DOWN (R176). -/
def execLinkDown (panel : Nat) (s : State) : Result := .next (s.changeOutput panel Output.dropLink)

/-- PANEL_FRAME_SLOT (R176): a slot is passed to the composer when the panel is LIVE, and dropped otherwise. -/
def execPanelFrameSlot (panel : Nat) (s : State) : Result :=
  .next <|
    match s.outputOf panel with
    | none => s
    | some o => if o.state = .live then s.sendPanelEvent (.slot panel) else s

/-! ### Directives and cues (R177) -/

/-- R177: PANEL STANDBY for one panel. -/
def Output.standBy (o : Output) : Output :=
  { o with
    standby := true
    target := 0
    state := match o.state with | .live => .standby | x => x
    lost := false }

/-- R177: PANEL STANDBY. -/
def panelStandby (set : List Nat) (s : State) : State × Reply :=
  if validSet set then done (s.changeOutputs set Output.standBy) else refuse s .outOfRange

/-- PANEL_STANDBY (R177). -/
def execPanelStandby (p : Port) (s : State) : Result :=
  .next <| s.takeAndAnswer .output p (fun d => match d with | .panelStandby x => some x | _ => none) panelStandby

/-- R177: WAKE for one panel. -/
def Output.wake (o : Output) : Output :=
  { o with
    standby := false
    target := o.setLevel
    state := match o.state with | .standby => if o.linkUp then .live else .standby | x => x }

/-- R177: WAKE. -/
def wakePanels (set : List Nat) (s : State) : State × Reply :=
  if validSet set then done (s.changeOutputs set Output.wake) else refuse s .outOfRange

/-- WAKE (R177). -/
def execWake (p : Port) (s : State) : Result :=
  .next <| s.takeAndAnswer .output p (fun d => match d with | .wake x => some x | _ => none) wakePanels

/-- R177: SET BRIGHTNESS for one panel. -/
def Output.setBrightness (level : Nat) (o : Output) : Output :=
  { o with setLevel := level, target := if o.standby then o.target else level }

/-- R177: SET BRIGHTNESS. -/
def setBrightness (level : Nat) (set : List Nat) (s : State) : State × Reply :=
  if level ≤ 15 && validSet set then done (s.changeOutputs set (Output.setBrightness level)) else refuse s .outOfRange

/-- SET_BRIGHTNESS (R177). -/
def execSetBrightness (p : Port) (s : State) : Result :=
  .next <| s.takeAndAnswer .output p (fun d => match d with | .setBrightness n x => some (n, x) | _ => none)
    fun (n, x) s => setBrightness n x s

/-- The refresh rates of R176. -/
def rateOk (rate : Nat) : Bool := rate = 25 || rate = 30 || rate = 50 || rate = 60

/-- R177: SET PANEL for its panel; a changed rate is sent to the panel if its link is up. -/
def Output.setPanel (rate : Nat) (orientation : Orientation) (o : Output) : Output :=
  { o with
    rate := rate
    orientation := orientation
    rateSent := if o.linkUp ∧ o.rate ≠ rate then some rate else o.rateSent }

/-- R177: SET PANEL. -/
def setPanel (panel rate orientation : Nat) (s : State) : State × Reply :=
  match orientationOfNumber orientation with
  | none => refuse s .outOfRange
  | some o =>
    if panel ≤ 11 && rateOk rate then done (s.changeOutput panel (Output.setPanel rate o)) else refuse s .outOfRange

/-- SET_PANEL (R177). -/
def execSetPanel (p : Port) (s : State) : Result :=
  .next <| s.takeAndAnswer .output p (fun d => match d with | .setPanel n r o => some (n, r, o) | _ => none)
    fun (n, r, o) s => setPanel n r o s

/-- The panel output takes the cue action at the head of its queue, where `act` acts on it (R39). -/
def State.takeOutputCue (s : State) (act : OutputCue → Option (State → State × Reply)) : State :=
  match s.mail.cuesToOutput with
  | [] => s
  | e :: rest =>
    match act e with
    | none => s
    | some f => (f { s with mail := { s.mail with cuesToOutput := rest } }).1

/-- CUE_STANDBY (R39, R177). -/
def execCueStandby (s : State) : Result :=
  .next <| s.takeOutputCue fun e => match e with | .standby set => some (panelStandby set) | _ => none

/-- CUE_WAKE (R39, R177). -/
def execCueWake (s : State) : Result :=
  .next <| s.takeOutputCue fun e => match e with | .wake set => some (wakePanels set) | _ => none

/-- CUE_BRIGHTNESS (R39, R177). -/
def execCueBrightness (s : State) : Result :=
  .next <| s.takeOutputCue fun e => match e with | .brightness n set => some (setBrightness n set) | _ => none

/-! ### The backlight (R178) -/

/-- R178: a backlight level moves by 1 toward its target. -/
def Output.stepLevel (o : Output) : Output :=
  { o with level := if o.level < o.target then o.level + 1 else if o.target < o.level then o.level - 1 else o.level }

/-- BACKLIGHT_STEP (R178): at a tenth-tick every panel's level takes a step. -/
def execBacklightStep (s : State) : Result :=
  .next <|
    if s.mail.ticksToOutput = 0 then s
    else
      { s with
        mail := { s.mail with ticksToOutput := s.mail.ticksToOutput - 1 }
        output := ⟨mapAll Output.stepLevel s.output.panels⟩ }

/-- R178: the high count of the backlight drive's pulse. -/
def Output.driveHigh (o : Output) : Nat := o.level * 17

/-- R178: the low count of the backlight drive's pulse. -/
def Output.driveLow (o : Output) : Nat := 255 - o.driveHigh

/-! ### The restart and the query -/

/-- PANEL_OUTPUT_RESTART (R180): the panel output keeps its records. -/
def execPanelOutputRestart (s : State) : Result :=
  .next <| if s.mail.restarts[Block.output.index] = 0 then s else s.dropRestart .output

/-- The OUTPUT record (R176, R179). -/
def Output.record (o : Output) : List Byte :=
  putFlag o.linkUp ++ put2 o.state.number ++ putFlag o.standby ++ putFlag o.lost ++ put2 o.rate ++ put2 o.orientation.number
    ++ put2 o.setLevel ++ put2 o.level ++ put2 o.target

/-- The answer to QUERY OUTPUT (R179). -/
def outputReply (p : Nat) (s : State) : Reply :=
  match s.output.panels[p]? with
  | none => ⟨.outOfRange, []⟩
  | some o => ⟨.done, o.record⟩

/-- QUERY_OUTPUT (R179). -/
def execQueryOutput (p : Port) (s : State) : Result := .next <| s.takeQuery .output p 17 outputReply

end Sys2Proof.Machine
end

