-- ==== Sys2Proof/Machine/Dispatch.lean ====
section
/-! DEFINITION. One arm for each command: its meaning, chapter by chapter. -/

namespace Sys2Proof.Machine

open Sys2Proof

def exec (i : Instr) (s : State) : Host.Outcome State Fault Refusal :=
  match i with
  | .feedFrame frame damaged => Sys2Proof.Machine.execFeedFrame frame damaged s
  | .deskByte value error => Sys2Proof.Machine.execDeskByte value error s
  | .intakeHeadMove port => Sys2Proof.Machine.execIntakeHeadMove port s
  | .answerSent port => Sys2Proof.Machine.execAnswerSent port s
  | .reportSent => Sys2Proof.Machine.execReportSent s
  | .conditionRaise sender => Sys2Proof.Machine.execConditionRaise sender s
  | .conditionEnd sender => Sys2Proof.Machine.execConditionEnd sender s
  | .beaconWatch => Sys2Proof.Machine.execBeaconWatch s
  | .grant port => Sys2Proof.Machine.execGrant port s
  | .setReports port => Sys2Proof.Machine.execSetReports port s
  | .acknowledge port => Sys2Proof.Machine.execAcknowledge port s
  | .reset port => Sys2Proof.Machine.execReset port s
  | .fullReset => Sys2Proof.Machine.execFullReset s
  | .displayRestart port => Sys2Proof.Machine.execDisplayRestart port s
  | .queryLink port => Sys2Proof.Machine.execQueryLink port s
  | .linkUp panel => Sys2Proof.Machine.execLinkUp panel s
  | .linkDown panel => Sys2Proof.Machine.execLinkDown panel s
  | .panelFrameSlot panel => Sys2Proof.Machine.execPanelFrameSlot panel s
  | .tenthTick => Sys2Proof.Machine.execTenthTick s
  | .runTimeSecond => Sys2Proof.Machine.execRunTimeSecond s
  | .beacon => Sys2Proof.Machine.execBeacon s
  | .beaconOverdue => Sys2Proof.Machine.execBeaconOverdue s
  | .setClock port => Sys2Proof.Machine.execSetClock port s
  | .setHouse port => Sys2Proof.Machine.execSetHouse port s
  | .setCue port => Sys2Proof.Machine.execSetCue port s
  | .clearCue port => Sys2Proof.Machine.execClearCue port s
  | .queryClock port => Sys2Proof.Machine.execQueryClock port s
  | .queryCue port => Sys2Proof.Machine.execQueryCue port s
  | .loadTitle port => Sys2Proof.Machine.execLoadTitle port s
  | .loadScreening port => Sys2Proof.Machine.execLoadScreening port s
  | .amendScreening port => Sys2Proof.Machine.execAmendScreening port s
  | .cancelScreening port => Sys2Proof.Machine.execCancelScreening port s
  | .dropScreening port => Sys2Proof.Machine.execDropScreening port s
  | .setPhaseTimes port => Sys2Proof.Machine.execSetPhaseTimes port s
  | .queryTitle port => Sys2Proof.Machine.execQueryTitle port s
  | .queryScreening port => Sys2Proof.Machine.execQueryScreening port s
  | .queryPhaseTimes port => Sys2Proof.Machine.execQueryPhaseTimes port s
  | .scheduleMinuteEvent => Sys2Proof.Machine.execScheduleMinuteEvent s
  | .scheduleRollover => Sys2Proof.Machine.execScheduleRollover s
  | .lingerEnd => Sys2Proof.Machine.execLingerEnd s
  | .screeningAdded => Sys2Proof.Machine.execScreeningAdded s
  | .capacityChanged => Sys2Proof.Machine.execCapacityChanged s
  | .seatPhaseChanged => Sys2Proof.Machine.execSeatPhaseChanged s
  | .seatScreeningRemoved => Sys2Proof.Machine.execSeatScreeningRemoved s
  | .sell port => Sys2Proof.Machine.execSell port s
  | .refund port => Sys2Proof.Machine.execRefund port s
  | .setSold port => Sys2Proof.Machine.execSetSold port s
  | .hold port => Sys2Proof.Machine.execHold port s
  | .confirm port => Sys2Proof.Machine.execConfirm port s
  | .release port => Sys2Proof.Machine.execRelease port s
  | .holdExpiry => Sys2Proof.Machine.execHoldExpiry s
  | .setBands port => Sys2Proof.Machine.execSetBands port s
  | .queryTally port => Sys2Proof.Machine.execQueryTally port s
  | .queryHold port => Sys2Proof.Machine.execQueryHold port s
  | .queryBands port => Sys2Proof.Machine.execQueryBands port s
  | .defineBoard port => Sys2Proof.Machine.execDefineBoard port s
  | .clearBoard port => Sys2Proof.Machine.execClearBoard port s
  | .queryBoard port => Sys2Proof.Machine.execQueryBoard port s
  | .builderPhaseChanged => Sys2Proof.Machine.execBuilderPhaseChanged s
  | .builderScreeningRemoved => Sys2Proof.Machine.execBuilderScreeningRemoved s
  | .screeningChanged => Sys2Proof.Machine.execScreeningChanged s
  | .builderRollover => Sys2Proof.Machine.execBuilderRollover s
  | .builderMinuteEvent => Sys2Proof.Machine.execBuilderMinuteEvent s
  | .figureChanged => Sys2Proof.Machine.execFigureChanged s
  | .titleChanged => Sys2Proof.Machine.execTitleChanged s
  | .hourFormatChanged => Sys2Proof.Machine.execHourFormatChanged s
  | .builderTenthTick => Sys2Proof.Machine.execBuilderTenthTick s
  | .pageDwellExpiry board => Sys2Proof.Machine.execPageDwellExpiry board s
  | .boardRestart => Sys2Proof.Machine.execBoardRestart s
  | .postNotice port => Sys2Proof.Machine.execPostNotice port s
  | .withdrawNotice port => Sys2Proof.Machine.execWithdrawNotice port s
  | .noticeExpiry => Sys2Proof.Machine.execNoticeExpiry s
  | .urgentDwellExpiry panel => Sys2Proof.Machine.execUrgentDwellExpiry panel s
  | .noticePhaseChanged => Sys2Proof.Machine.execNoticePhaseChanged s
  | .noticeScreeningRemoved => Sys2Proof.Machine.execNoticeScreeningRemoved s
  | .setNoticeStyle port => Sys2Proof.Machine.execSetNoticeStyle port s
  | .queryNotice port => Sys2Proof.Machine.execQueryNotice port s
  | .queryUrgentList port => Sys2Proof.Machine.execQueryUrgentList port s
  | .noticeRestart => Sys2Proof.Machine.execNoticeRestart s
  | .setCarousel port => Sys2Proof.Machine.execSetCarousel port s
  | .setPeriods port => Sys2Proof.Machine.execSetPeriods port s
  | .setQuiet port => Sys2Proof.Machine.execSetQuiet port s
  | .carouselOn port => Sys2Proof.Machine.execCarouselOn port s
  | .carouselOff port => Sys2Proof.Machine.execCarouselOff port s
  | .setSyncGroup port => Sys2Proof.Machine.execSetSyncGroup port s
  | .queryCarousel port => Sys2Proof.Machine.execQueryCarousel port s
  | .querySyncGroup port => Sys2Proof.Machine.execQuerySyncGroup port s
  | .carouselTenthTick => Sys2Proof.Machine.execCarouselTenthTick s
  | .markEnd carousel => Sys2Proof.Machine.execMarkEnd carousel s
  | .cycleEnd carousel => Sys2Proof.Machine.execCycleEnd carousel s
  | .cueQuiet => Sys2Proof.Machine.execCueQuiet s
  | .loadImage port => Sys2Proof.Machine.execLoadImage port s
  | .imagePiece port => Sys2Proof.Machine.execImagePiece port s
  | .loadTextTile port => Sys2Proof.Machine.execLoadTextTile port s
  | .clearTile port => Sys2Proof.Machine.execClearTile port s
  | .queryTile port => Sys2Proof.Machine.execQueryTile port s
  | .redrawRequest sender => Sys2Proof.Machine.execRedrawRequest sender s
  | .sizeRequest sender => Sys2Proof.Machine.execSizeRequest sender s
  | .emptyTile sender => Sys2Proof.Machine.execEmptyTile sender s
  | .pieceWriteStart => Sys2Proof.Machine.execPieceWriteStart s
  | .pieceWriteComplete => Sys2Proof.Machine.execPieceWriteComplete s
  | .pieceWriteEnded => Sys2Proof.Machine.execPieceWriteEnded s
  | .renderJobStart => Sys2Proof.Machine.execRenderJobStart s
  | .renderJobComplete => Sys2Proof.Machine.execRenderJobComplete s
  | .renderJobAbandon => Sys2Proof.Machine.execRenderJobAbandon s
  | .renderRestart => Sys2Proof.Machine.execRenderRestart s
  | .loadLayout port => Sys2Proof.Machine.execLoadLayout port s
  | .applyLayout port => Sys2Proof.Machine.execApplyLayout port s
  | .setOverride port => Sys2Proof.Machine.execSetOverride port s
  | .cueApplyLayout => Sys2Proof.Machine.execCueApplyLayout s
  | .queryLayout port => Sys2Proof.Machine.execQueryLayout port s
  | .queryPanel port => Sys2Proof.Machine.execQueryPanel port s
  | .panelLive => Sys2Proof.Machine.execPanelLive s
  | .panelStandbyEvent => Sys2Proof.Machine.execPanelStandbyEvent s
  | .panelDark => Sys2Proof.Machine.execPanelDark s
  | .frameSlot => Sys2Proof.Machine.execFrameSlot s
  | .composeJobStart => Sys2Proof.Machine.execComposeJobStart s
  | .pinRequest => Sys2Proof.Machine.execPinRequest s
  | .pinRelease => Sys2Proof.Machine.execPinRelease s
  | .composeJobComplete => Sys2Proof.Machine.execComposeJobComplete s
  | .composeJobAbandon => Sys2Proof.Machine.execComposeJobAbandon s
  | .composerRestart => Sys2Proof.Machine.execComposerRestart s
  | .segment => Sys2Proof.Machine.execSegment s
  | .unitGrant => Sys2Proof.Machine.execUnitGrant s
  | .transferUnitComplete => Sys2Proof.Machine.execTransferUnitComplete s
  | .unitFault => Sys2Proof.Machine.execUnitFault s
  | .resume => Sys2Proof.Machine.execResume s
  | .streamWatch => Sys2Proof.Machine.execStreamWatch s
  | .queryStream port => Sys2Proof.Machine.execQueryStream port s
  | .frameMemoryRestart => Sys2Proof.Machine.execFrameMemoryRestart s
  | .panelStandby port => Sys2Proof.Machine.execPanelStandby port s
  | .wake port => Sys2Proof.Machine.execWake port s
  | .setBrightness port => Sys2Proof.Machine.execSetBrightness port s
  | .setPanel port => Sys2Proof.Machine.execSetPanel port s
  | .cueStandby => Sys2Proof.Machine.execCueStandby s
  | .cueWake => Sys2Proof.Machine.execCueWake s
  | .cueBrightness => Sys2Proof.Machine.execCueBrightness s
  | .queryOutput port => Sys2Proof.Machine.execQueryOutput port s
  | .backlightStep => Sys2Proof.Machine.execBacklightStep s
  | .panelOutputRestart => Sys2Proof.Machine.execPanelOutputRestart s

end Sys2Proof.Machine
end

