-- ==== Sys2Proof/Safety.lean ====
section
/-! DEFINITION. What counts as a sound state of the part: the laws L1 to L7 of 00_scope 5.7 and the invariants the manual states
of its records, each a predicate that every step keeps; which blocks a command may change; and the terms in which statements speak of a
directive that is taken and answered. -/

namespace Sys2Proof.Machine

open Sys2Proof

/-! ### Chapter 1 -/

/-- The pieces of IMAGE PIECE that hold a reserved place of a port's answer queue (R8, R143). -/
def RenderUnit.piecesOf (u : RenderUnit) (p : Port) : Nat :=
  (match u.engine with | .piece w => if w.port = p then 1 else 0 | _ => 0)
    + (match u.waiting with | some w => if w.port = p then 1 else 0 | none => 0)

/-- The DISPLAY RESTART that holds a reserved place of a port's answer queue (R8, R21). -/
def LinkUnit.restartsOf (l : LinkUnit) (p : Port) : Nat :=
  match l.restartPending with | some r => if r.port = p then 1 else 0 | none => 0

/-- R6, R10: an intake queue holds at most 32, an answer queue at most 16 with its reserved places, and a place is reserved for
each IMAGE PIECE and DISPLAY RESTART not yet answered. -/
def State.PortSound (s : State) (p : Port) : Prop :=
  (s.port p).intake.length ≤ 32 ∧ (s.port p).answers.answers.length + (s.port p).answers.reserved ≤ 16
    ∧ (s.port p).answers.reserved = s.render.piecesOf p + s.link.restartsOf p

/-- R6, R7, R10: the queues of the link unit keep within their capacities (00_scope 5.4). -/
def State.QueuesSound (s : State) : Prop :=
  s.PortSound .feed ∧ s.PortSound .desk ∧ s.render.piecesOf .feed + s.render.piecesOf .desk ≤ 1
    ∧ ∀ x ∈ s.link.handoff.toList, x.feed.length ≤ 8 ∧ x.desk.length ≤ 8

/-! ### Chapter 2 -/

/-- Whether a time's fields are in the ranges R4 and R33 check. -/
def TimeFields.Ok (t : TimeFields) : Prop := 1 ≤ t.weekday ∧ t.weekday ≤ 7 ∧ t.hour ≤ 23 ∧ t.minute ≤ 59 ∧ t.second ≤ 59

/-- The board clock's fields lie in their ranges, a clock that is UNSET has no high-water mark, and the beacons under way to it
have passed the check of R4 (Table 2-1, R25, R38). -/
def State.ClockSound (s : State) : Prop :=
  s.clock.hour ≤ 23 ∧ s.clock.minute ≤ 59 ∧ s.clock.second ≤ 59 ∧ 1 ≤ s.clock.weekday ∧ s.clock.weekday ≤ 7
    ∧ s.clock.dayStart ≤ 23 ∧ s.clock.tenths ≤ 9 ∧ s.clock.runTime ≤ maxCount32 ∧ (∀ m ∈ s.clock.mark, m ≤ 1439)
    ∧ (s.clock.state = .unset → s.clock.mark = none)
    ∧ ∀ e ∈ s.mail.linkToClock, ∀ t, e = .beacon t → t.Ok

/-! ### Chapter 3 -/

/-- R44, R57, R50: the screening table is in ascending screening number, holds at most 96 records, and a record has a cancel time
exactly while it is CANCELLED. -/
def ScheduleUnit.Sound (u : ScheduleUnit) : Prop :=
  u.table.Pairwise (fun a b => a.number < b.number) ∧ u.table.length ≤ 96
    ∧ ∀ r ∈ u.table, (r.cancelTime.isSome = true ↔ r.phase = .cancelled)

/-- L4 (R48): the moves of a phase that no LOAD SCREENING makes. -/
def Phase.movesTo : Phase → Phase → Bool
  | .pending, _ => true
  | .listed, q => q ≠ .pending
  | .boarding, q => q ≠ .pending && q ≠ .listed
  | .running, q => q = .running || q = .closed
  | .closed, q => q = .closed
  | .cancelled, q => q = .cancelled || q = .closed

/-! ### Chapter 4 -/

/-- L1 (R78): every tally's left is C − S − H − B when that is positive, and 0 otherwise. -/
def SeatUnit.LeftRight (u : SeatUnit) : Prop := ∀ t ∈ u.tallies, t.left = seatsLeft t.capacity t.sold t.held t.blocked

/-- L2 (R72): every tally's held count is the sum of the seats of its screening's holds. -/
def SeatUnit.HeldRight (u : SeatUnit) : Prop := ∀ t ∈ u.tallies, t.held = heldSeats u.holds t.number

/-- L3 (R72): at most 64 holds, no two with one id, in order of expiry, earliest first. -/
def SeatUnit.HoldsOrdered (u : SeatUnit) : Prop :=
  u.holds.length ≤ 64 ∧ (u.holds.map Hold.id).Nodup ∧ u.holds.Pairwise (fun a b => a.expiry ≤ b.expiry)

/-- R78, R79: every oversold flag tells whether S + B is above C, and the oversold count counts the flags. -/
def SeatUnit.OversoldRight (u : SeatUnit) : Prop :=
  (∀ t ∈ u.tallies, (t.oversold = true ↔ t.capacity < t.sold + t.blocked))
    ∧ u.oversold = (u.tallies.filter fun t => t.oversold).length

/-- The seat unit's laws, with what they rest on: the tally table is in ascending screening number, and every hold's screening
has a tally (R63, R67). -/
def SeatUnit.Sound (u : SeatUnit) : Prop :=
  u.tallies.Pairwise (fun a b => a.number < b.number) ∧ (∀ h ∈ u.holds, (findTally u.tallies h.screening).isSome = true)
    ∧ u.LeftRight ∧ u.HeldRight ∧ u.HoldsOrdered ∧ u.OversoldRight

/-! ### Chapter 5 -/

/-- L5 (R92), R93, R89: a defined board's row list holds at most 32 entries, no screening twice, in the board's sort order, its
page index is below its page count and it has a dwell remaining; an undefined board has no rows, page 0 and no dwell. -/
def Board.Sound (b : Board) : Prop :=
  match b.defn with
  | none => b.rows = [] ∧ b.page = 0 ∧ b.dwell = none
  | some d =>
    b.rows.length ≤ 32 ∧ (b.rows.map RowEntry.screening).Nodup ∧ b.rows.Pairwise (fun x y => rowLE d.sort x y = true)
      ∧ b.page < pageCount b.rows.length d.rowsPerPage ∧ b.dwell.isSome = true

/-- Every board is sound. -/
def BuilderUnit.Sound (u : BuilderUnit) : Prop := ∀ b ∈ u.boards.toList, b.Sound

/-! ### Chapter 6 -/

/-- R114, R115: a panel's urgent list holds at most 4 notices, none twice: exactly the live URGENT notices that target the panel;
a notice is shown, and a dwell counted, exactly while the list is not empty, and the notice shown is on the list. -/
def NoticeUnit.PanelSound (u : NoticeUnit) (p : Nat) (x : UrgentState) : Prop :=
  x.list.length ≤ 4 ∧ x.list.Nodup
    ∧ (∀ n, n ∈ x.list ↔ ∃ y ∈ u.notices, y.number = n ∧ y.cls = .urgent ∧ p ∈ y.targets)
    ∧ (match x.shown with | none => x.list = [] ∧ x.dwell = none | some n => n ∈ x.list ∧ x.dwell.isSome = true)

/-- R108: the live notices have numbers and slots of their own, every slot is below 32, and each has a target panel; and every
panel's urgent list is sound. -/
def NoticeUnit.Sound (u : NoticeUnit) : Prop :=
  (u.notices.map Notice.number).Nodup ∧ (u.notices.map Notice.slot).Nodup
    ∧ (∀ y ∈ u.notices, y.slot < 32 ∧ y.targets ≠ [])
    ∧ ∀ p (h : p < 12), u.PanelSound p u.urgent[p]

/-! ### Chapter 7 -/

/-- R123, R126, R132: a carousel has a cycle exactly while it is not STOPPED, and each cursor stands inside its list or at 0. -/
def Carousel.Sound (c : Carousel) : Prop :=
  (c.run = .stopped ↔ c.phase = none) ∧ (c.phase = none ↔ c.remaining = none)
    ∧ (c.primaryCursor < c.content.primary.length ∨ c.primaryCursor = 0)
    ∧ (c.secondaryCursor < c.content.secondary.length ∨ c.secondaryCursor = 0)
    ∧ (c.phase = none → c.shown = none)

/-- R134: every carousel is sound, and a group's leader belongs to the group. -/
def RotationUnit.Sound (r : RotationUnit) : Prop :=
  (∀ c ∈ r.carousels.toList, c.Sound)
    ∧ ∀ g (hg : g < 4) c, r.leaders[g] = some c → ∃ h : c < 12, r.carousels[c].group = some g

/-! ### Chapter 8 -/

/-- L7 (R148): a tile is in the redraw queue at most once, in the lane of its lane field, and is there exactly when its state is
QUEUED; a rendered tile without a size is EMPTY (R146, R147, R148); an IMAGE tile never waits for a render job, and the engine's
piece writes are for IMAGE tiles. -/
def RenderUnit.Sound (u : RenderUnit) : Prop :=
  (u.urgentLane ++ u.normalLane).Nodup
    ∧ (∀ t, t ∈ u.urgentLane ↔ ∃ x, u.tiles[t]? = some x ∧ x.state = .queued ∧ x.lane = .urgent)
    ∧ (∀ t, t ∈ u.normalLane ↔ ∃ x, u.tiles[t]? = some x ∧ x.state = .queued ∧ x.lane = .normal)
    ∧ (∀ t x, u.tiles[t]? = some x → isImageTile t = false → x.size = none → x.state = .empty)
    ∧ (∀ t x, u.tiles[t]? = some x → isImageTile t = true → x.state = .empty ∨ x.state = .loading ∨ x.state = .clean)
    ∧ (∀ w, u.engine = .piece w → isImageTile w.tile = true) ∧ (∀ w, u.waiting = some w → isImageTile w.tile = true)
    ∧ ∀ j, u.engine = .job j → isImageTile j.tile = false

/-! ### Chapter 9 -/

/-- Whether the engine's job writes a buffer of a panel. -/
def ComposerUnit.writes (u : ComposerUnit) (p : Nat) (n : BufferName) : Prop :=
  ∃ j, u.engine = some j ∧ j.panel = p ∧ j.buffer = n

/-- L6 (R161), R159, R163: a panel has at most one FRONT and at most one READY buffer; a buffer is COMPOSING exactly while the
engine's job writes it; while the panel has a request, no buffer is READY; and the request tells whether the panel is in the
queue or in the engine. -/
def ComposerUnit.PanelSound (u : ComposerUnit) (p : Nat) (x : Panel) : Prop :=
  ¬(x.bufA.role = .front ∧ x.bufB.role = .front) ∧ ¬(x.bufA.role = .ready ∧ x.bufB.role = .ready)
    ∧ (x.bufA.role = .composing ↔ u.writes p .a) ∧ (x.bufB.role = .composing ↔ u.writes p .b)
    ∧ (x.request ≠ .none → x.bufA.role ≠ .ready ∧ x.bufB.role ≠ .ready)
    ∧ (x.request = .queued ↔ p ∈ u.queue) ∧ (x.request = .composing ↔ ∃ j, u.engine = some j ∧ j.panel = p)

/-- R162: every panel is sound, and the compose request queue names panels, none twice. -/
def ComposerUnit.Sound (u : ComposerUnit) : Prop :=
  (∀ p (h : p < 12), u.PanelSound p u.panels[p]) ∧ u.queue.Nodup ∧ ∀ p ∈ u.queue, p < 12

/-! ### Chapter 10 -/

/-- Whether every job in a queue of pin events asks for each stream at most once; `held` are the streams the first job has asked
for before. -/
def pinsOrdered : (held : List Nat) → List PinEvent → Prop
  | _, [] => True
  | _, .release :: rest => pinsOrdered [] rest
  | held, .pin n _ :: rest => n ∉ held ∧ pinsOrdered (n :: held) rest

/-- Whether a queue of pin events ends with a release, or is empty. -/
def endsReleased (es : List PinEvent) : Prop := es = [] ∨ es.getLast? = some .release

/-- The streams with a pinned store. -/
def MemoryUnit.pinnedStreams (m : MemoryUnit) : List Nat := (List.range 4).filter fun n => (m.pinnedStore n).isSome

/-- R170, R171: a stream has exactly one RECEIVING store, at most one LATEST and at most one pinned; RECEIVING and FREE stores
are not pinned, and a HELD store is. -/
def Stream.StoresSound (x : Stream) : Prop :=
  (x.stores.toList.filter fun y => y.role = .receiving).length = 1
    ∧ (x.stores.toList.filter fun y => y.role = .latest).length ≤ 1
    ∧ (x.stores.toList.filter Store.pinned).length ≤ 1
    ∧ ∀ y ∈ x.stores.toList, (y.pinned = true → y.role = .latest ∨ y.role = .held) ∧ (y.role = .held → y.pinned = true)

/-- R170, R171: every stream's stores are sound, and the pins of one job are released before the next job's are asked for. -/
def State.StoresSound (s : State) : Prop :=
  (∀ x ∈ s.memory.streams.toList, x.StoresSound)
    ∧ pinsOrdered s.memory.pinnedStreams s.mail.composerToMemory
    ∧ (s.composer.engine = none → endsReleased s.mail.composerToMemory
        ∧ (s.mail.composerToMemory = [] → s.memory.pinnedStreams = []))

/-- R170: the ingest queue holds at most 4 segment writes. -/
def MemoryUnit.IngestSound (m : MemoryUnit) : Prop := m.ingestQueue.length ≤ 4

/-- R176: a panel's state follows its link and standby mark, its levels lie in 0..15, and a lost panel's link is down. -/
def Output.Sound (o : Output) : Prop :=
  o.state = (if o.linkUp then (if o.standby then PanelState.standby else .live) else .dark)
    ∧ o.setLevel ≤ 15 ∧ o.level ≤ 15 ∧ o.target ≤ 15 ∧ (o.lost = true → o.linkUp = false ∧ o.standby = false)

/-- Every output record is sound. -/
def OutputUnit.Sound (u : OutputUnit) : Prop := ∀ o ∈ u.panels.toList, o.Sound

/-! ### Whose step a command is -/

/-- Whether a block's own state is the same in two states. -/
def State.sameBlock (s t : State) : Block → Prop
  | .link => s.link = t.link
  | .clock => s.clock = t.clock
  | .schedule => s.schedule = t.schedule
  | .seat => s.seat = t.seat
  | .builder => s.builder = t.builder
  | .notice => s.notice = t.notice
  | .rotation => s.rotation = t.rotation
  | .render => s.render = t.render
  | .composer => s.composer = t.composer
  | .memory => s.memory = t.memory
  | .output => s.output = t.output

end Sys2Proof.Machine

namespace Sys2Proof

/-- The block whose step a command is: the block that takes it (00_scope 3). -/
def Instr.block : Instr → Block
  | .feedFrame _ _ | .deskByte _ _ | .intakeHeadMove _ | .answerSent _ | .reportSent | .conditionRaise _ | .conditionEnd _
  | .beaconWatch | .grant _ | .setReports _ | .acknowledge _ | .reset _ | .fullReset | .displayRestart _ | .queryLink _ => .link
  | .tenthTick | .runTimeSecond | .beacon | .beaconOverdue | .setClock _ | .setHouse _ | .setCue _ | .clearCue _
  | .queryClock _ | .queryCue _ => .clock
  | .loadTitle _ | .loadScreening _ | .amendScreening _ | .cancelScreening _ | .dropScreening _ | .setPhaseTimes _
  | .queryTitle _ | .queryScreening _ | .queryPhaseTimes _ | .scheduleMinuteEvent | .scheduleRollover | .lingerEnd => .schedule
  | .screeningAdded | .capacityChanged | .seatPhaseChanged | .seatScreeningRemoved | .sell _ | .refund _ | .setSold _
  | .hold _ | .confirm _ | .release _ | .holdExpiry | .setBands _ | .queryTally _ | .queryHold _ | .queryBands _ => .seat
  | .defineBoard _ | .clearBoard _ | .queryBoard _ | .builderPhaseChanged | .builderScreeningRemoved | .screeningChanged
  | .builderRollover | .builderMinuteEvent | .figureChanged | .titleChanged | .hourFormatChanged | .builderTenthTick
  | .pageDwellExpiry _ | .boardRestart => .builder
  | .postNotice _ | .withdrawNotice _ | .noticeExpiry | .urgentDwellExpiry _ | .noticePhaseChanged | .noticeScreeningRemoved
  | .setNoticeStyle _ | .queryNotice _ | .queryUrgentList _ | .noticeRestart => .notice
  | .setCarousel _ | .setPeriods _ | .setQuiet _ | .carouselOn _ | .carouselOff _ | .setSyncGroup _ | .queryCarousel _
  | .querySyncGroup _ | .carouselTenthTick | .markEnd _ | .cycleEnd _ | .cueQuiet => .rotation
  | .loadImage _ | .imagePiece _ | .loadTextTile _ | .clearTile _ | .queryTile _ | .redrawRequest _ | .sizeRequest _
  | .emptyTile _ | .pieceWriteStart | .pieceWriteComplete | .pieceWriteEnded | .renderJobStart | .renderJobComplete
  | .renderJobAbandon | .renderRestart => .render
  | .loadLayout _ | .applyLayout _ | .setOverride _ | .cueApplyLayout | .queryLayout _ | .queryPanel _ | .panelLive
  | .panelStandbyEvent | .panelDark | .frameSlot | .composeJobStart | .composeJobComplete | .composeJobAbandon
  | .composerRestart => .composer
  | .pinRequest | .pinRelease | .segment | .unitGrant | .transferUnitComplete | .unitFault | .resume | .streamWatch
  | .queryStream _ | .frameMemoryRestart => .memory
  | .linkUp _ | .linkDown _ | .panelFrameSlot _ | .panelStandby _ | .wake _ | .setBrightness _ | .setPanel _ | .cueStandby
  | .cueWake | .cueBrightness | .queryOutput _ | .backlightStep | .panelOutputRestart => .output

/-- The other blocks whose state a command changes in the same step: the link unit's answer queues for a directive (R8), the
memory channel that a job or a piece write is given or taken from (R173), the frame a completed transfer unit draws (R158), and
every block at a full reset (R20). -/
def Instr.alsoChanges (i : Instr) : List Block :=
  match i with
  | .answerSent _ | .fullReset =>
    [.link, .clock, .schedule, .seat, .builder, .notice, .rotation, .render, .composer, .memory, .output]
  | .pieceWriteStart | .renderJobStart | .renderRestart | .composeJobStart | .composerRestart => [.link, .memory]
  | .transferUnitComplete => [.composer]
  | _ => [.link]

/-- The port a directive's command takes from, and whether it takes a given directive (Table 1-2, R12). -/
def Instr.takes : Instr → Option (Port × (Machine.Directive → Bool))
  | .sell p => some (p, fun d => match d with | .sell .. => true | _ => false)
  | .refund p => some (p, fun d => match d with | .refund .. => true | _ => false)
  | .hold p => some (p, fun d => match d with | .hold .. => true | _ => false)
  | .confirm p => some (p, fun d => match d with | .confirm .. => true | _ => false)
  | .release p => some (p, fun d => match d with | .release .. => true | _ => false)
  | .setSold p => some (p, fun d => match d with | .setSold .. => true | _ => false)
  | .loadTitle p => some (p, fun d => match d with | .loadTitle .. => true | _ => false)
  | .loadScreening p => some (p, fun d => match d with | .loadScreening .. => true | _ => false)
  | .amendScreening p => some (p, fun d => match d with | .amendScreening .. => true | _ => false)
  | .cancelScreening p => some (p, fun d => match d with | .cancelScreening .. => true | _ => false)
  | .dropScreening p => some (p, fun d => match d with | .dropScreening .. => true | _ => false)
  | .defineBoard p => some (p, fun d => match d with | .defineBoard .. => true | _ => false)
  | .clearBoard p => some (p, fun d => match d with | .clearBoard .. => true | _ => false)
  | .postNotice p => some (p, fun d => match d with | .postNotice .. => true | _ => false)
  | .withdrawNotice p => some (p, fun d => match d with | .withdrawNotice .. => true | _ => false)
  | .setCue p => some (p, fun d => match d with | .setCue .. => true | _ => false)
  | .clearCue p => some (p, fun d => match d with | .clearCue .. => true | _ => false)
  | .setNoticeStyle p => some (p, fun d => match d with | .setNoticeStyle .. => true | _ => false)
  | .setCarousel p => some (p, fun d => match d with | .setCarousel .. => true | _ => false)
  | .setPeriods p => some (p, fun d => match d with | .setPeriods .. => true | _ => false)
  | .setQuiet p => some (p, fun d => match d with | .setQuiet .. => true | _ => false)
  | .carouselOn p => some (p, fun d => match d with | .carouselOn .. => true | _ => false)
  | .carouselOff p => some (p, fun d => match d with | .carouselOff .. => true | _ => false)
  | .setSyncGroup p => some (p, fun d => match d with | .setSyncGroup .. => true | _ => false)
  | .loadImage p => some (p, fun d => match d with | .loadImage .. => true | _ => false)
  | .imagePiece p => some (p, fun d => match d with | .imagePiece .. => true | _ => false)
  | .loadTextTile p => some (p, fun d => match d with | .loadTextTile .. => true | _ => false)
  | .clearTile p => some (p, fun d => match d with | .clearTile .. => true | _ => false)
  | .loadLayout p => some (p, fun d => match d with | .loadLayout .. => true | _ => false)
  | .applyLayout p => some (p, fun d => match d with | .applyLayout .. => true | _ => false)
  | .setOverride p => some (p, fun d => match d with | .setOverride .. => true | _ => false)
  | .setPanel p => some (p, fun d => match d with | .setPanel .. => true | _ => false)
  | .panelStandby p => some (p, fun d => match d with | .panelStandby .. => true | _ => false)
  | .wake p => some (p, fun d => match d with | .wake .. => true | _ => false)
  | .setBrightness p => some (p, fun d => match d with | .setBrightness .. => true | _ => false)
  | .setClock p => some (p, fun d => match d with | .setClock .. => true | _ => false)
  | .setHouse p => some (p, fun d => match d with | .setHouse .. => true | _ => false)
  | .setPhaseTimes p => some (p, fun d => match d with | .setPhaseTimes .. => true | _ => false)
  | .setBands p => some (p, fun d => match d with | .setBands .. => true | _ => false)
  | .grant p => some (p, fun d => match d with | .grant .. => true | _ => false)
  | .setReports p => some (p, fun d => match d with | .setReports .. => true | _ => false)
  | .reset p => some (p, fun d => match d with | .reset => true | _ => false)
  | .displayRestart p => some (p, fun d => match d with | .displayRestart => true | _ => false)
  | .acknowledge p => some (p, fun d => match d with | .acknowledge .. => true | _ => false)
  | .queryTitle p => some (p, fun d => match d with | .query 1 _ => true | _ => false)
  | .queryScreening p => some (p, fun d => match d with | .query 2 _ => true | _ => false)
  | .queryPhaseTimes p => some (p, fun d => match d with | .query 3 _ => true | _ => false)
  | .queryTally p => some (p, fun d => match d with | .query 4 _ => true | _ => false)
  | .queryHold p => some (p, fun d => match d with | .query 5 _ => true | _ => false)
  | .queryBands p => some (p, fun d => match d with | .query 6 _ => true | _ => false)
  | .queryBoard p => some (p, fun d => match d with | .query 7 _ => true | _ => false)
  | .queryNotice p => some (p, fun d => match d with | .query 8 _ => true | _ => false)
  | .queryUrgentList p => some (p, fun d => match d with | .query 9 _ => true | _ => false)
  | .queryClock p => some (p, fun d => match d with | .query 10 _ => true | _ => false)
  | .queryCue p => some (p, fun d => match d with | .query 11 _ => true | _ => false)
  | .queryCarousel p => some (p, fun d => match d with | .query 12 _ => true | _ => false)
  | .querySyncGroup p => some (p, fun d => match d with | .query 13 _ => true | _ => false)
  | .queryTile p => some (p, fun d => match d with | .query 14 _ => true | _ => false)
  | .queryLayout p => some (p, fun d => match d with | .query 15 _ => true | _ => false)
  | .queryPanel p => some (p, fun d => match d with | .query 16 _ => true | _ => false)
  | .queryOutput p => some (p, fun d => match d with | .query 17 _ => true | _ => false)
  | .queryStream p => some (p, fun d => match d with | .query 18 _ => true | _ => false)
  | .queryLink p => some (p, fun d => match d with | .query 19 _ => true | _ => false)
  | _ => none

/-- The record kind of a QUERY's command (R12). -/
def Instr.queryKind : Instr → Option Nat
  | .queryTitle _ => some 1
  | .queryScreening _ => some 2
  | .queryPhaseTimes _ => some 3
  | .queryTally _ => some 4
  | .queryHold _ => some 5
  | .queryBands _ => some 6
  | .queryBoard _ => some 7
  | .queryNotice _ => some 8
  | .queryUrgentList _ => some 9
  | .queryClock _ => some 10
  | .queryCue _ => some 11
  | .queryCarousel _ => some 12
  | .querySyncGroup _ => some 13
  | .queryTile _ => some 14
  | .queryLayout _ => some 15
  | .queryPanel _ => some 16
  | .queryOutput _ => some 17
  | .queryStream _ => some 18
  | .queryLink _ => some 19
  | _ => none

namespace Machine

/-- A directive stands at the head of a unit's handoff queue for a port, and the unit may take it and act on it (R8, R9): `t` is
the state in which it has left the queue. -/
abbrev State.Takes (s : State) (u : Block) (p : Port) (q : Packet) (d : Directive) (t : State) : Prop :=
  (s.handoffOf u p).head? = some q ∧ q.directive = some d ∧ s.ready u = true ∧ s.hasRoom p = true ∧ s.mayTake p d = true
    ∧ t = s.putHandoff u p (s.handoffOf u p).tail

/-- A state in which a packet has been answered with an outcome and no record (R10). -/
abbrev State.answered (s : State) (p : Port) (q : Packet) (o : OutcomeCode) : State := s.issue p (q.answer ⟨o, []⟩)

/-- R12: the answer to a QUERY of a record kind and key. -/
def queryAnswer (kind key : Nat) (s : State) : Reply :=
  match kind with
  | 1 => titleReply key s
  | 2 => screeningReply key s
  | 3 => ⟨.done, s.schedule.settings.record⟩
  | 4 => tallyReply key s
  | 5 => holdReply key s
  | 6 => ⟨.done, s.seat.bands.record⟩
  | 7 => boardReply key s
  | 8 => noticeReply key s
  | 9 => urgentReply key s
  | 10 => ⟨.done, s.clock.record⟩
  | 11 => cueReply key s
  | 12 => carouselReply key s
  | 13 => syncGroupReply key s
  | 14 => tileReply key s
  | 15 => layoutReply key s
  | 16 => panelReply key s
  | 17 => outputReply key s
  | 18 => streamReply key s
  | _ => ⟨.done, linkRecord s⟩

/-- The state after commands have taken place one after another. -/
def State.run (s : State) : List Instr → State
  | [] => s
  | i :: rest =>
    match exec i s with
    | .next t => t.run rest
    | .fault _ => s
    | .refused _ => s

end Machine

end Sys2Proof
end

