-- ==== Sys2Proof/Certificates/Slice0/Obligations.lean ====
section
/-! DEFINITION. The statements for the provers, chapter by chapter. A directive that a unit takes and acts on is given by
`State.Takes` (R8, R9), so every statement of a directive's effect says that the command completes, what its unit's state becomes,
what it sends, and which answer it issues; all else is as it was. -/

open Sys2Proof Sys2Proof.Machine

/-! ### The whole part -/

/-- 00_scope 3 and 95: a step is one command, whole. The command at the front of the queue takes place on the state with the queue's
rest; with an empty queue nothing happens (the model's choice: assumption 1). -/
def Obligations.StepRunsTheFrontCommand : Prop :=
  (∀ (s : State) (c : Instr) (rest : List Instr), s.pending = c :: rest → step s = exec c { s with pending := rest })
    ∧ ∀ s : State, s.pending = [] → step s = .next s

/-- 00_scope 3: "A block changes its own state." Every command takes place, in every state (that none stops is the model's choice
where it has nothing to act on: assumption 2), and leaves the queue of waiting commands alone. It changes the state of the block
whose step it is; of the other blocks it changes at most the link unit, where the answer queues are (R8), the channel its work is
given to (R173), the frame a completed unit draws (R158), and every block where a full reset may act (R20). -/
def Obligations.CommandsChangeTheirOwnBlock : Prop :=
  ∀ (i : Instr) (s : State), ∃ t, exec i s = .next t ∧ t.pending = s.pending
    ∧ ∀ b : Block, b ≠ i.block → b ∉ i.alsoChanges → s.sameBlock t b

/-- R8, R9: every directive that its unit takes from a port that does not own its group is answered NOT_OWNER, and nothing else
changes. A unit takes a directive only from the head of its handoff queue, while it is ready for one and the port's answer queue has
a free place that is not reserved; where it cannot, the command leaves everything as it is (the model's choice of what the command
does then: assumption 2). A port may not send a directive exactly when the directive has a group, by Tables 1-2 and 1-3, that
another port owns; a directive's target is the block of Table 1-2, for a QUERY the owner of the record (R12), and the one command
that takes it from a port is that block's. An answer queue has a free place while its answers and reserved places are fewer than 16
(R10), and an answer joins its tail. A unit is ready while it has no expiry to carry out (assumption 5), the render unit while no
IMAGE PIECE is unanswered (R143), the link unit while no DISPLAY RESTART is (R21). -/
def Obligations.DirectivesWaitOrAreRefused : Prop :=
  (∀ (i : Instr) (s : State) (p : Port) (accepts : Directive → Bool) (q : Packet) (rest : List Packet) (d : Directive),
     i.takes = some (p, accepts) → accepts d = true → s.handoffOf i.block p = q :: rest → q.directive = some d →
     s.ready i.block = true → s.hasRoom p = true → s.mayTake p d = false →
     exec i s = .next ((s.putHandoff i.block p rest).answered p q .notOwner))
  ∧ (∀ (i : Instr) (s : State) (p : Port) (accepts : Directive → Bool), i.takes = some (p, accepts) →
       (s.ready i.block = false ∨ s.hasRoom p = false ∨ s.handoffOf i.block p = []
         ∨ ∃ q rest, s.handoffOf i.block p = q :: rest ∧ ∀ d, q.directive = some d → accepts d = false) →
       exec i s = .next s)
  ∧ ((∀ (s : State) (p : Port) (d : Directive) (place : Group → Fin 5),
       place .schedule = 0 → place .tally = 1 → place .notices = 2 → place .display = 3 → place .house = 4 →
       (s.mayTake p d = false ↔ ∃ g, d.group = some g ∧ s.link.owners[place g] ≠ p))
     ∧ ∀ d : Directive, (d.group, d.target) = match d with
       | .loadTitle .. | .loadScreening .. | .amendScreening .. | .cancelScreening .. | .dropScreening .. =>
         (some Group.schedule, Block.schedule)
       | .defineBoard .. | .clearBoard .. => (some .schedule, .builder)
       | .sell .. | .refund .. | .hold .. | .confirm .. | .release .. | .setSold .. => (some .tally, .seat)
       | .postNotice .. | .withdrawNotice .. => (some .notices, .notice)
       | .setCue .. | .clearCue .. => (some .display, .clock)
       | .setNoticeStyle .. => (some .display, .notice)
       | .setCarousel .. | .setPeriods .. | .setQuiet .. | .carouselOn .. | .carouselOff .. | .setSyncGroup .. =>
         (some .display, .rotation)
       | .loadImage .. | .imagePiece .. | .loadTextTile .. | .clearTile .. => (some .display, .render)
       | .loadLayout .. | .applyLayout .. | .setOverride .. => (some .display, .composer)
       | .setPanel .. | .panelStandby .. | .wake .. | .setBrightness .. => (some .display, .output)
       | .setClock .. | .setHouse .. => (some .house, .clock)
       | .setPhaseTimes .. => (some .house, .schedule)
       | .setBands .. => (some .house, .seat)
       | .grant .. | .setReports .. | .reset | .displayRestart => (some .house, .link)
       | .query kind _ => (none, match kind with
         | 0 | 1 | 2 | 3 => .schedule
         | 4 | 5 | 6 => .seat
         | 7 => .builder
         | 8 | 9 => .notice
         | 10 | 11 => .clock
         | 12 | 13 => .rotation
         | 14 => .render
         | 15 | 16 => .composer
         | 17 => .output
         | 18 => .memory
         | _ => .link)
       | .acknowledge .. => (none, .link))
  ∧ ((∀ (i : Instr) (p : Port) (accepts : Directive → Bool) (d : Directive), i.takes = some (p, accepts) → accepts d = true →
       i.block = d.target)
     ∧ ∀ (p : Port) (d : Directive), (∀ kind key, d = .query kind key → 1 ≤ kind ∧ kind ≤ 19) →
       ∃ (i : Instr) (accepts : Directive → Bool), i.takes = some (p, accepts) ∧ accepts d = true
         ∧ ∀ (j : Instr) (a : Directive → Bool), j.takes = some (p, a) → a d = true → j = i)
  ∧ ((∀ (s : State) (p : Port), s.hasRoom p = true ↔ (s.port p).answers.answers.length + (s.port p).answers.reserved < 16)
     ∧ (∀ (s : State) (p : Port) (q : Packet) (o : OutcomeCode), s.answered p q o = s.putPort p { s.port p with
         answers := ⟨(s.port p).answers.answers ++ [⟨q.tag, q.code, o, []⟩], (s.port p).answers.reserved⟩ })
     ∧ (∀ (s : State) (p r : Port) (x : PortState), (s.putPort p x).port r = if r = p then x else s.port r)
     ∧ (∀ (s : State) (b c : Block) (p r : Port) (xs : List Packet),
         (s.putHandoff b p xs).handoffOf c r = if c = b ∧ r = p then xs else s.handoffOf c r)
     ∧ ∀ (s : State) (b : Block), s.ready b = false ↔
         (b = .builder ∧ ∃ k : Fin 8, s.builder.boards[k].dwell = some 0)
         ∨ (b = .notice ∧ ∃ k : Fin 12, s.notice.urgent[k].dwell = some 0)
         ∨ (b = .rotation ∧ ∃ k : Fin 12, s.rotation.carousels[k].remaining = some 0)
         ∨ (b = .render ∧ (s.render.waiting ≠ none ∨ ∃ w, s.render.engine = .piece w))
         ∨ (b = .link ∧ s.link.restartPending ≠ none))

/-- R12: every QUERY that its unit takes is answered from the record as it stands; on the desk port, an answer body of more than 253
bytes gives REFUSED_STATE. Nothing but the handoff and answer queues changes. A key outside its range is OUT_OF_RANGE, a key whose
record is not present is NO_SUCH, and otherwise the answer is DONE with the record's fields in the order its rule gives: R41, R61,
R72, R84, R85, R105, R121, R138, R154, R167, R179. The fields are carried in the bytes of chapter 1's encoding, the named values by
their numbers. (The widths of the fields of a record where its rule does not give them, the order of a set, of the owners and the
ports in the LINK record and of the stores in the STREAM record are the model's choice: assumption 15.) -/
def Obligations.QueriesAnswerFromTheRecord : Prop :=
  (∀ (i : Instr) (s : State) (p : Port) (accepts : Directive → Bool) (kind key : Nat) (q : Packet) (t : State),
    i.takes = some (p, accepts) → i.queryKind = some kind → s.Takes i.block p q (.query kind key) t →
    exec i s = .next (t.issue p
      (q.answer (if p = .desk ∧ 253 < 2 + (queryAnswer kind key s).record.length then ⟨.refusedState, []⟩
        else queryAnswer kind key s))))
  ∧ (∀ (s : State) (kind key : Nat),
      (kind = 1 ∧ 127 < key) ∨ ((kind = 2 ∨ kind = 4 ∨ kind = 5) ∧ key = 0) ∨ (kind = 7 ∧ 7 < key)
        ∨ (kind = 8 ∧ (key = 0 ∨ 255 < key)) ∨ (kind = 11 ∧ 15 < key)
        ∨ ((kind = 9 ∨ kind = 12 ∨ kind = 16 ∨ kind = 17) ∧ 11 < key) ∨ ((kind = 13 ∨ kind = 18) ∧ 3 < key)
        ∨ (kind = 14 ∧ 255 < key) ∨ (kind = 15 ∧ 31 < key) →
      queryAnswer kind key s = ⟨.outOfRange, []⟩)
  ∧ (∀ (s : State) (kind key : Nat),
      (kind = 1 ∧ s.schedule.titles[key]? = some none) ∨ (kind = 2 ∧ 0 < key ∧ ∀ r ∈ s.schedule.table, r.number ≠ key)
        ∨ (kind = 4 ∧ 0 < key ∧ ∀ x ∈ s.seat.tallies, x.number ≠ key) ∨ (kind = 5 ∧ 0 < key ∧ ∀ h ∈ s.seat.holds, h.id ≠ key)
        ∨ (kind = 7 ∧ ∃ b, s.builder.boards[key]? = some b ∧ b.defn = none)
        ∨ (kind = 8 ∧ 1 ≤ key ∧ key ≤ 255 ∧ ∀ x ∈ s.notice.notices, x.number ≠ key)
        ∨ (kind = 11 ∧ s.clock.cues[key]? = some none) ∨ (kind = 15 ∧ s.composer.layouts[key]? = some none) →
      queryAnswer kind key s = ⟨.noSuch, []⟩)
  ∧ ∀ (s : State) (key : Nat),
    (∀ x, s.schedule.titles[key]? = some (some x) →
      queryAnswer 1 key s = ⟨.done, putText x.text ++ putText x.rating ++ put2 x.runtime⟩)
    ∧ (∀ r, 0 < key → findScreening s.schedule.table key = some r →
      queryAnswer 2 key s = ⟨.done, put2 r.number ++ put2 r.day ++ put2 r.auditorium ++ put2 r.title ++ put2 r.showTime
        ++ put2 r.delay ++ put2 r.start ++ put2 r.capacity ++ putSet r.badges ++ putOpt putText r.note ++ put2 r.phase.number
        ++ putOpt put4 r.cancelTime⟩)
    ∧ queryAnswer 3 key s = ⟨.done, put2 s.schedule.settings.doorsLead ++ put2 s.schedule.settings.lateWindow
        ++ put2 s.schedule.settings.horizon ++ put2 s.schedule.settings.linger ++ put2 s.schedule.settings.countdown⟩
    ∧ (∀ x, 0 < key → findTally s.seat.tallies key = some x →
      queryAnswer 4 key s = ⟨.done, put2 x.number ++ put2 x.capacity ++ put2 x.sold ++ put2 x.held ++ put2 x.blocked
        ++ put2 x.left ++ put2 x.fill ++ put2 x.band.number ++ put2OrNone x.figure ++ putFlag x.oversold⟩)
    ∧ (∀ h, 0 < key → findHold s.seat.holds key = some h →
      queryAnswer 5 key s = ⟨.done, put2 h.id ++ put2 h.screening ++ put2 h.seats ++ put4 h.expiry⟩)
    ∧ queryAnswer 6 key s = ⟨.done, put2 s.seat.bands.fewSeats ++ put2 s.seat.bands.fewFill ++ put2 s.seat.bands.fillingFill
        ++ put2 s.seat.bands.marginSeats ++ put2 s.seat.bands.marginFill ++ put2 s.seat.bands.reopenSeats⟩
    ∧ (∀ b d, s.builder.boards[key]? = some b → b.defn = some d →
      queryAnswer 7 key s = ⟨.done, putFilter d.auditoriums ++ put2OrNone d.title ++ put2 d.sort.number ++ put2 d.rowsPerPage
        ++ put2 d.pageDwell ++ putFlag d.showCancelled ++ put2 d.rowWidth ++ put2 b.rows.length
        ++ put2 (pageCount b.rows.length d.rowsPerPage) ++ put2 b.page ++ put2OrNone b.dwell
        ++ putSet (b.rows.map RowEntry.screening)⟩)
    ∧ (∀ x, 1 ≤ key → key ≤ 255 → findNotice s.notice.notices key = some x →
      queryAnswer 8 key s = ⟨.done, put2 x.number ++ put2 x.cls.number ++ putText x.text ++ putSet x.targets
        ++ putOpt put2 x.bound ++ putOpt put2 x.lifetime ++ putOpt put4 x.expiry ++ put4 x.postOrder ++ put2 x.slot⟩)
    ∧ (∀ x, s.notice.urgent[key]? = some x →
      queryAnswer 9 key s = ⟨.done, putSet x.list ++ put2OrNone x.shown ++ put2OrNone x.dwell
        ++ put2 s.notice.style.urgentDwell⟩)
    ∧ queryAnswer 10 key s = ⟨.done, put2 s.clock.state.number ++ put2 s.clock.day ++ put2 s.clock.weekday
        ++ put2 s.clock.hour ++ put2 s.clock.minute ++ put2 s.clock.second ++ put4 s.clock.runTime ++ put2OrNone s.clock.mark
        ++ put2 s.clock.hourFormat.number ++ put2 s.clock.dayStart⟩
    ∧ (∀ x, s.clock.cues[key]? = some (some x) →
      queryAnswer 11 key s = ⟨.done, putFlag x.enabled ++ put2OrNone x.weekday ++ put2OrNone x.hour ++ put2OrNone x.minute
        ++ (match x.action with
            | .applyLayout l ps => put2 1 ++ put2 l ++ putSet ps
            | .quiet on cs => put2 (if on then 2 else 3) ++ putSet cs
            | .standby ps => put2 4 ++ putSet ps
            | .wake ps => put2 5 ++ putSet ps
            | .brightness n ps => put2 6 ++ put2 n ++ putSet ps)⟩)
    ∧ (∀ c, s.rotation.carousels[key]? = some c →
      queryAnswer 12 key s = ⟨.done, put2 c.run.number ++ c.content.record ++ put2 c.primaryCursor ++ put2 c.secondaryCursor
        ++ put2 c.noticeStep ++ put2 c.choice.number ++ put2 (phaseNumber c.phase) ++ put2OrNone c.remaining
        ++ putShown c.shown ++ put2 c.active.primaryMark ++ put2 c.active.primarySpace ++ put2 c.active.secondaryMark
        ++ put2 c.active.secondarySpace ++ c.pending.primaryMark.record ++ c.pending.primarySpace.record
        ++ c.pending.secondaryMark.record ++ c.pending.secondarySpace.record ++ putOpt CarouselContent.record c.pendingContent
        ++ putFlag c.quiet ++ putFlag c.quietInEffect ++ put2OrNone c.group⟩)
    ∧ (∀ leader, s.rotation.leaders[key]? = some leader →
      queryAnswer 13 key s = ⟨.done, put1OrNone leader ++ putSet ((List.range 12).filter fun i =>
        (s.rotation.carousels[i]?.map Carousel.group) == some (some key))⟩)
    ∧ (∀ x, s.render.tiles[key]? = some x →
      queryAnswer 14 key s = ⟨.done, put1OrNone (x.size.map Prod.fst) ++ put1OrNone (x.size.map Prod.snd)
        ++ put2 x.state.number ++ put2 x.lane.number ++ putFlag x.image.isSome ++ put4 x.byteTotal ++ put4 x.bytesReceived
        ++ put2 x.glyphSet.number ++ putText x.text⟩)
    ∧ (∀ l, s.composer.layouts[key]? = some (some l) →
      queryAnswer 15 key s = ⟨.done, put2 l.orientation.number ++ l.background.bytes ++ l.spaceFill.bytes
        ++ put1 l.regions.length ++ l.regions.flatMap Region.bytes⟩)
    ∧ (∀ x, s.composer.panels[key]? = some x →
      queryAnswer 16 key s = ⟨.done, put2 x.state.number ++ put1OrNone x.current ++ put1OrNone x.pendingLayout
        ++ put1OrNone x.override ++ put2 x.bufA.role.number ++ put2 x.bufA.seq ++ put2 x.bufB.role.number ++ put2 x.bufB.seq
        ++ put2 x.nextSeq ++ put2 x.request.number ++ put4 x.shown ++ put4 x.repeated⟩)
    ∧ (∀ o, s.output.panels[key]? = some o →
      queryAnswer 17 key s = ⟨.done, putFlag o.linkUp ++ put2 o.state.number ++ putFlag o.standby ++ putFlag o.lost
        ++ put2 o.rate ++ put2 o.orientation.number ++ put2 o.setLevel ++ put2 o.level ++ put2 o.target⟩)
    ∧ (∀ x, s.memory.streams[key]? = some x →
      queryAnswer 18 key s = ⟨.done, x.stores.toList.flatMap (fun y => put2 y.role.number ++ putFlag y.pinned
          ++ put2 y.frameNumber ++ put2 y.width ++ put2 y.height)
        ++ (match x.reception with
            | none => put2 0
            | some r => put2 1 ++ put2 r.frameNumber ++ put2 r.nextIndex ++ put4 r.bytes)
        ++ put4 x.lastFrame ++ put4 (x.lastUse.getD 4294967295) ++ putFlag x.lost⟩)
    ∧ queryAnswer 19 key s = ⟨.done, s.link.owners.toList.flatMap (fun p => put2 (match p with | .feed => 1 | .desk => 2))
        ++ putSet (setNumbers s.link.flags) ++ putSet (setNumbers s.link.enables)
        ++ put2 (s.port .feed).intake.length ++ put2 (s.port .feed).discards ++ put2 (s.port .feed).lineErrors
        ++ put2 (s.port .desk).intake.length ++ put2 (s.port .desk).discards ++ put2 (s.port .desk).lineErrors
        ++ put4 s.link.watch.last⟩
    ∧ ((∀ n, put1 n = [byteOf n] ∧ put2 n = [byteOf (n / 256), byteOf n] ∧ put4 n = put2 (n / 65536) ++ put2 n
        ∧ put2OrNone (some n) = put2 n ∧ put1OrNone (some n) = put1 n)
      ∧ put2OrNone none = put2 65535 ∧ put1OrNone none = put1 255 ∧ putFlag true = put2 1 ∧ putFlag false = put2 0
      ∧ (∀ t, putText t = put1 t.length ++ t) ∧ (∀ xs, putSet xs = put1 xs.length ++ xs.flatMap put2)
      ∧ (∀ (α : Type) (f : α → List Byte), putOpt f none = put1 0 ∧ ∀ a, putOpt f (some a) = put1 1 ++ f a)
      ∧ putFilter none = put1 255 ∧ (∀ xs, putFilter (some xs) = putSet xs)
      ∧ (∀ n, Item.bytes (.stream n) = put1 1 ++ put1 n ∧ Item.bytes (.tile n) = put1 2 ++ put1 n)
      ∧ Item.bytes .notices = put1 3 ++ put1 0
      ∧ (∀ c : CarouselContent, c.record = put2 c.mode.number ++ (put1 c.primary.length ++ c.primary.flatMap Item.bytes)
        ++ (put1 c.secondary.length ++ c.secondary.flatMap Item.bytes))
      ∧ (∀ x : PendingPeriod, x.record = put2 x.value ++ putFlag x.written)
      ∧ putShown none = put1 0 ++ put1 0 ∧ (∀ n, putShown (some (.stream n)) = put1 1 ++ put1 n
        ∧ putShown (some (.tile n)) = put1 2 ++ put1 n ∧ putShown (some (.notice n)) = put1 3 ++ put1 n)
      ∧ (∀ n, Fill.bytes (.colour n) = put1 1 ++ put2 n ∧ Fill.bytes (.stream n) = put1 2 ++ put2 n
        ∧ Fill.bytes (.tile n) = put1 3 ++ put2 n)
      ∧ ∀ (r : Region) (n : Nat) (x : Content × List Byte),
        x ∈ [(.stream n, put1 1 ++ put1 n), (.tile n, put1 2 ++ put1 n), (.board n, put1 3 ++ put1 n),
          (.feature, put1 4 ++ put1 0), (.clock n, put1 5 ++ put1 n)] → r.content = x.1 →
        r.bytes = put2 r.rect.col ++ put2 r.rect.row ++ put2 r.rect.width ++ put2 r.rect.height ++ x.2)
    ∧ ([Phase.pending, .listed, .boarding, .running, .closed, .cancelled].map Phase.number = [0, 1, 2, 3, 4, 5]
      ∧ [Band.plenty, .filling, .few, .soldOut].map Band.number = [0, 1, 2, 3]
      ∧ [SortOrder.byTime, .byScreen].map SortOrder.number = [1, 2]
      ∧ [NoticeClass.urgent, .service, .promo].map NoticeClass.number = [1, 2, 3]
      ∧ [ClockState.unset, .set, .unconfirmed].map ClockState.number = [0, 1, 2]
      ∧ [HourFormat.h12, .h24].map HourFormat.number = [12, 24]
      ∧ [RunState.stopped, .running, .stopping].map RunState.number = [0, 1, 2]
      ∧ [Mode.single, .alternate].map Mode.number = [1, 2] ∧ [ListChoice.primary, .secondary].map ListChoice.number = [1, 2]
      ∧ [none, some CyclePhase.mark, some .space].map phaseNumber = [0, 1, 2]
      ∧ [TileState.empty, .loading, .queued, .rendering, .renderingStale, .clean].map TileState.number = [0, 1, 2, 3, 4, 5]
      ∧ [Lane.urgent, .normal].map Lane.number = [1, 2] ∧ [GlyphSet.small, .large].map GlyphSet.number = [1, 2]
      ∧ [Orientation.landscape, .portrait].map Orientation.number = [1, 2]
      ∧ [PanelState.dark, .standby, .live].map PanelState.number = [0, 1, 2]
      ∧ [BufferRole.front, .ready, .free, .composing].map BufferRole.number = [1, 2, 3, 4]
      ∧ [RequestState.none, .queued, .composing].map RequestState.number = [0, 1, 2]
      ∧ [StoreRole.receiving, .latest, .free, .held].map StoreRole.number = [1, 2, 3, 4])

/-! ### Chapter 1: links, directives and answers -/

/-- R1, R2, Tables 1-6 and 1-7: a packet put into the feed port's envelope is read as it was sent, whatever its body, and nothing
else is read: a frame that is read is not damaged and is the envelope of what is read from it, its kind 1..3, its length at most
8192. The envelope's check value is the ones'-complement sum of the body: its 16-bit words, high byte first and an odd last byte a
high byte, added from 0 with each carry added back in at the bottom. The bytes of a packet in the desk port's envelope, received one
by one, bring exactly that packet to the desk intake queue, whatever bytes its body holds. A desk packet is read exactly when it is
not spoiled, its sum is right and its kind is TALLY or DIRECTIVE; and the desk receiver takes each byte in each of its states as R2
says, a byte in error or a stray escape spoiling the packet. (The model's choices, assumption 7: what a byte after a stray escape is
unescaped to, an escape before the length byte, and an escape byte in error.) -/
def Obligations.EnvelopesReadAsSent : Prop :=
  (∀ (kind tag : Nat) (body : List Byte), 1 ≤ kind → kind ≤ 3 → tag ≤ 255 → body.length ≤ 8192 →
     readFeedFrame (feedPacket kind tag body) false = some (kind, tag, body)
       ∧ readFeedFrame (feedPacket kind tag body) true = none)
  ∧ (∀ (frame : List Byte) (damaged : Bool) (kind tag : Nat) (body : List Byte),
     readFeedFrame frame damaged = some (kind, tag, body) →
     damaged = false ∧ frame = feedPacket kind tag body ∧ 1 ≤ kind ∧ kind ≤ 3 ∧ tag ≤ 255 ∧ body.length ≤ 8192)
  ∧ (∀ (kind tag : Nat) (body : List Byte) (value : Nat → Nat), (∀ k, value k = ((body[k]?.map BitVec.toNat).getD 0)) →
     feedPacket kind tag body = put1 kind ++ put1 tag ++ put2 body.length ++ body ++ put2 (onesSum body)
       ∧ onesSum body = (List.range ((body.length + 1) / 2)).foldl
           (fun x k => (x + (value (2 * k) * 256 + value (2 * k + 1))) % 65536
             + (x + (value (2 * k) * 256 + value (2 * k + 1))) / 65536) 0)
  ∧ (∀ (n : Nat) (values : List Nat) (spoiled : Bool) (kind tag : Nat) (body : List Byte),
     readDeskPacket n values spoiled = some (kind, tag, body) ↔
       spoiled = false ∧ (kind = 1 ∨ kind = 3) ∧ ∃ (inner : List Nat) (hi lo : Nat), values = kind :: tag :: (inner ++ [hi, lo])
         ∧ n = inner.length + 2 ∧ body = inner.map byteOf ∧ hi * 256 + lo = (n + kind + tag + inner.sum) % 65536)
  ∧ ((∀ (b : Byte) (error : Bool), deskReceive .hunting b error
        = (if b = 0xFE ∧ error = false then .length false else .hunting, .nothing))
     ∧ (∀ r : DeskReceiver, r ≠ .hunting → deskReceive r 0xFE false = (.length false, .discarded))
     ∧ (∀ (escaped : Bool) (b : Byte), deskReceive (.length escaped) b true = (.hunting, .discarded))
     ∧ deskReceive (.length false) 0xFD false = (.length true, .nothing)
     ∧ (∀ (escaped : Bool) (b : Byte) (v : Nat), b ≠ 0xFE → (escaped = false → b ≠ 0xFD) →
        v = (if escaped = false then b.toNat else if b.toNat % 2 = 0 then b.toNat + 1 else b.toNat - 1) →
        deskReceive (.length escaped) b false = if v ≤ 1 then (.hunting, .discarded)
          else (.collecting v [] false (escaped && b != 0xFF && b != 0xFC), .nothing))
     ∧ (∀ (n : Nat) (values : List Nat) (spoiled error : Bool), deskReceive (.collecting n values false spoiled) 0xFD error
        = (.collecting n values true (spoiled || error), .nothing))
     ∧ ∀ (n : Nat) (values : List Nat) (escaped spoiled error bad : Bool) (b : Byte) (v : Nat),
        (b = 0xFE → error = true) → (escaped = false → b ≠ 0xFD) →
        v = (if escaped = false then b.toNat else if b.toNat % 2 = 0 then b.toNat + 1 else b.toNat - 1) →
        bad = (spoiled || error || (escaped && b != 0xFF && b != 0xFC)) →
        deskReceive (.collecting n values escaped spoiled) b error = if values.length = n + 1 then
            (.hunting, .completed n (values ++ [v]) bad)
          else (.collecting n (values ++ [v]) false bad, .nothing))
  ∧ (∀ (s : State) (kind tag : Nat) (body : List Byte), kind = 1 ∨ kind = 3 → tag ≤ 255 → body.length ≤ 253 →
       s.link.deskReceiver = .hunting → s.link.resetPending = none →
       s.run ((deskPacket kind tag body).map fun b => .deskByte b false)
         = s.joinIntake .desk ⟨tag, codeOf body, if kind = 1 then readTallyBody body else readDirective body⟩)

/-- R1 to R6, R19: what the two ports do with what arrives. A checked SEGMENT goes to the frame memory unit, a checked BEACON to the
board clock, restarting the beacon watch, a DIRECTIVE or TALLY to the port's intake queue; a packet that fails a check is discarded:
the port's line-error count goes up by 1 and stays at 65535, and LINE_ERROR is raised. After a RESET has been taken a packet that
completes is dropped without count; one that does not complete is still discarded and counted (the model's choice, assumption 8). An
arrival at an intake queue that holds 32 is discarded, counted, and raises DIRECTIVE_DISCARD. A beacon is read exactly from the six
bytes fields of Table 1-8 within their ranges, a tally message exactly from the bytes of its type in Table 1-9, a directive from the
code of Table 1-11 and its parameters in the encoding of R5; a code that no table gives is malformed. (The model's choices: the
fields of one byte, assumption 15; an unknown cue action, whose parameters are left unread, assumption 19.) -/
def Obligations.PortsReceivePackets : Prop :=
  ((∀ (s : State) (frame : List Byte) (damaged : Bool) (tag : Nat) (body : List Byte), s.link.resetPending = none →
     readFeedFrame frame damaged = some (1, tag, body) →
     exec (.feedFrame frame damaged) s = .next { s with
       link := { s.link with feedReceiver := .idle }
       mail := { s.mail with segments := s.mail.segments ++ [body] } })
   ∧ (∀ (s : State) (frame : List Byte) (damaged : Bool) (tag : Nat) (body : List Byte) (t : TimeFields),
     s.link.resetPending = none → readFeedFrame frame damaged = some (2, tag, body) → readBeacon body = some t →
     exec (.feedFrame frame damaged) s = .next { s with
       link := { s.link with feedReceiver := .idle, watch := ⟨s.clock.runTime, false⟩ }
       mail := { s.mail with linkToClock := s.mail.linkToClock ++ [.beacon t] } })
   ∧ (∀ (s : State) (frame : List Byte) (damaged : Bool) (tag : Nat) (body : List Byte), s.link.resetPending = none →
     readFeedFrame frame damaged = some (3, tag, body) →
     exec (.feedFrame frame damaged) s = .next
       (({ s with link := { s.link with feedReceiver := .idle } } : State).joinIntake .feed
         ⟨tag, codeOf body, readDirective body⟩))
   ∧ (∀ (s : State) (frame : List Byte) (damaged : Bool), s.link.resetPending = none →
     (readFeedFrame frame damaged = none
       ∨ ∃ tag body, readFeedFrame frame damaged = some (2, tag, body) ∧ readBeacon body = none) →
     exec (.feedFrame frame damaged) s = .next
       (({ s with link := { s.link with feedReceiver := .idle } } : State).discardPacket .feed))
   ∧ (∀ (s : State) (b : Byte) (error : Bool) (r : DeskReceiver),
     deskReceive s.link.deskReceiver b error = (r, .nothing) →
     exec (.deskByte b error) s = .next { s with link := { s.link with deskReceiver := r } })
   ∧ (∀ (s : State) (b : Byte) (error : Bool) (r : DeskReceiver) (n : Nat) (values : List Nat) (spoiled : Bool)
     (kind tag : Nat) (body : List Byte), s.link.resetPending = none →
     deskReceive s.link.deskReceiver b error = (r, .completed n values spoiled) →
     readDeskPacket n values spoiled = some (kind, tag, body) →
     exec (.deskByte b error) s = .next
       (({ s with link := { s.link with deskReceiver := r } } : State).joinIntake .desk
         ⟨tag, codeOf body, if kind = 1 then readTallyBody body else readDirective body⟩))
   ∧ (∀ (s : State) (b : Byte) (error : Bool) (r : DeskReceiver) (n : Nat) (values : List Nat) (spoiled : Bool),
     s.link.resetPending = none → deskReceive s.link.deskReceiver b error = (r, .completed n values spoiled) →
     readDeskPacket n values spoiled = none →
     exec (.deskByte b error) s = .next (({ s with link := { s.link with deskReceiver := r } } : State).discardPacket .desk))
   ∧ (∀ (s : State) (b : Byte) (error : Bool) (r : DeskReceiver),
     deskReceive s.link.deskReceiver b error = (r, .discarded) →
     exec (.deskByte b error) s = .next (({ s with link := { s.link with deskReceiver := r } } : State).discardPacket .desk))
   ∧ (∀ (s : State) (frame : List Byte) (e : Bool), s.link.resetPending.isSome = true →
     exec (.feedFrame frame e) s = .next { s with link := { s.link with feedReceiver := .idle } })
   ∧ ∀ (s : State) (b : Byte) (error : Bool) (r : DeskReceiver) (n : Nat) (values : List Nat) (spoiled : Bool),
     s.link.resetPending.isSome = true → deskReceive s.link.deskReceiver b error = (r, .completed n values spoiled) →
     exec (.deskByte b error) s = .next { s with link := { s.link with deskReceiver := r } })
  ∧ (∀ (s : State) (p : Port), ∃ (flags due : Vector Bool 12),
       s.discardPacket p = { s.putPort p { s.port p with lineErrors := min ((s.port p).lineErrors + 1) 65535 } with
         link := { (s.putPort p { s.port p with lineErrors := min ((s.port p).lineErrors + 1) 65535 }).link with
           flags := flags, due := due } }
       ∧ (∀ k : Fin 12, flags[k] = (s.link.flags[k] || k == 4))
       ∧ ∀ k : Fin 12, due[k] = (s.link.due[k] || (k == 4 && !s.link.flags[4] && s.link.enables[4])))
  ∧ (∀ (s : State) (p : Port) (q : Packet),
       ((s.port p).intake.length < 32 →
         s.joinIntake p q = s.putPort p { s.port p with intake := (s.port p).intake ++ [q] })
       ∧ (32 ≤ (s.port p).intake.length →
         ((s.joinIntake p q).port p = { s.port p with discards := min ((s.port p).discards + 1) 65535 }
           ∧ (s.joinIntake p q).link.flags[3] = true
           ∧ (s.joinIntake p q).link.due[3] = (s.link.due[3] || (!s.link.flags[3] && s.link.enables[3]))
           ∧ (s.joinIntake p q).link.handoff = s.link.handoff ∧ (s.joinIntake p q).mail = s.mail)))
  ∧ ((∀ (body : List Byte) (t : TimeFields), readBeacon body = some t ↔ t.Ok ∧ t.serial ≤ 65535
        ∧ body = put2 t.serial ++ put1 t.weekday ++ put1 t.hour ++ put1 t.minute ++ put1 t.second)
     ∧ (∀ (body : List Byte) (d : Directive), readTallyBody body = some d ↔
        ∃ a b e n k : Nat, a ≤ 65535 ∧ b ≤ 65535 ∧ e ≤ 65535 ∧ n ≤ 255 ∧ k ≤ 255
          ∧ (d = .sell a n ∧ body = put1 1 ++ put2 a ++ put1 n ∨ d = .refund a n ∧ body = put1 2 ++ put2 a ++ put1 n
            ∨ d = .hold a b n k ∧ body = put1 3 ++ put2 a ++ put2 b ++ put1 n ++ put1 k
            ∨ d = .confirm a ∧ body = put1 4 ++ put2 a ∨ d = .release a ∧ body = put1 5 ++ put2 a
            ∨ d = .setSold a b e ∧ body = put1 6 ++ put2 a ++ put2 b ++ put2 e))
     ∧ (∀ body : List Byte, codeOf body = ((body.head?.map BitVec.toNat).getD 0))
     ∧ (∀ (code : Byte) (rest : List Byte), code = 0 ∨ 46 ≤ code.toNat → readDirective (code :: rest) = none)
     ∧ (∀ (code : Byte) (rest : List Byte), 1 ≤ code.toNat → code.toNat ≤ 6 →
        readDirective (code :: rest) = readTallyBody (code :: rest))
     ∧ readDirective [] = none ∧ readTallyBody [] = none)
  ∧ (∀ (a b c d e f g n : Nat) (x y z w : Option Nat) (t u : List Byte) (xs ys : List Nat) (os : Option (List Nat))
       (ot : Option (List Byte)) (is js : List Coded) (rs : List RegionFields) (time : TimeFields) (p : List Byte),
     (∀ v ∈ [a, b, c, d, e, f, g], v ≤ 65535) → n ≤ 4294967295 → (∀ v ∈ [x, y, z, w], ∀ m, v = some m → m ≤ 65535) →
     t.length ≤ 255 → u.length ≤ 255 → (xs.length ≤ 255 ∧ ∀ m ∈ xs, m ≤ 65535) → (ys.length ≤ 254 ∧ ∀ m ∈ ys, m ≤ 65535) →
     (∀ v, os = some v → v.length ≤ 255 ∧ ∀ m ∈ v, m ≤ 65535) → (∀ v, ot = some v → v.length ≤ 255) →
     (is.length ≤ 255 ∧ ∀ m ∈ is, m.kind ≤ 255 ∧ m.value ≤ 255) → (js.length ≤ 255 ∧ ∀ m ∈ js, m.kind ≤ 255 ∧ m.value ≤ 255) →
     (rs.length ≤ 255 ∧ ∀ r ∈ rs, r.col ≤ 65535 ∧ r.row ≤ 65535 ∧ r.width ≤ 65535 ∧ r.height ≤ 65535 ∧ r.content.kind ≤ 255
       ∧ r.content.value ≤ 255) →
     (time.serial ≤ 65535 ∧ time.weekday ≤ 255 ∧ time.hour ≤ 255 ∧ time.minute ≤ 255 ∧ time.second ≤ 255) → p ≠ [] →
     ∀ q ∈ [
       (Directive.loadTitle a t u b, put1 7 ++ put2 a ++ putText t ++ putText u ++ put2 b),
       (.loadScreening ⟨a, b, c, d, e, f, g, xs, t⟩, put1 8 ++ put2 a ++ put2 b ++ put2 c ++ put2 d ++ put2 e ++ put2 f ++ put2 g
         ++ putSet xs ++ putText t),
       (.amendScreening a x y os ot, put1 9 ++ put2 a ++ putOpt put2 x ++ putOpt put2 y ++ putOpt putSet os ++ putOpt putText ot),
       (.cancelScreening a, put1 10 ++ put2 a), (.dropScreening a, put1 11 ++ put2 a),
       (.defineBoard a ⟨some ys, b, c, d, e, f, g⟩, put1 12 ++ put2 a ++ putSet ys ++ put2 b ++ put2 c ++ put2 d ++ put2 e ++ put2 f
         ++ put2 g),
       (.defineBoard a ⟨none, b, c, d, e, f, g⟩, put1 12 ++ put2 a ++ put1 255 ++ put2 b ++ put2 c ++ put2 d ++ put2 e ++ put2 f
         ++ put2 g),
       (.clearBoard a, put1 13 ++ put2 a),
       (.postNotice ⟨a, b, t, xs, x, y⟩, put1 14 ++ put2 a ++ put2 b ++ putText t ++ putSet xs ++ putOpt put2 x ++ putOpt put2 y),
       (.withdrawNotice a, put1 15 ++ put2 a), (.clearCue a, put1 17 ++ put2 a),
       (.setNoticeStyle ⟨a, b, c, d, e, f⟩, put1 18 ++ put2 a ++ put2 b ++ put2 c ++ put2 d ++ put2 e ++ put2 f),
       (.setCarousel a b is js, put1 19 ++ put2 a ++ put2 b ++ (put1 is.length ++ is.flatMap fun m => put1 m.kind ++ put1 m.value)
         ++ (put1 js.length ++ js.flatMap fun m => put1 m.kind ++ put1 m.value)),
       (.setPeriods a x y z w, put1 20 ++ put2 a ++ putOpt put2 x ++ putOpt put2 y ++ putOpt put2 z ++ putOpt put2 w),
       (.setQuiet xs a, put1 21 ++ putSet xs ++ put2 a), (.carouselOn xs, put1 22 ++ putSet xs),
       (.carouselOff xs, put1 23 ++ putSet xs),
       (.setSyncGroup a time.hour xs, put1 24 ++ put2 a ++ put1 time.hour ++ putSet xs),
       (.loadImage a b c n, put1 25 ++ put2 a ++ put2 b ++ put2 c ++ put4 n),
       (.imagePiece time.hour n p, put1 26 ++ put1 time.hour ++ put4 n ++ p),
       (.loadTextTile a b c d t, put1 27 ++ put2 a ++ put2 b ++ put2 c ++ put2 d ++ putText t),
       (.clearTile a, put1 28 ++ put2 a),
       (.loadLayout a ⟨b, ⟨time.hour, c⟩, ⟨time.minute, d⟩, rs⟩, put1 29 ++ put2 a ++ put2 b ++ (put1 time.hour ++ put2 c)
         ++ (put1 time.minute ++ put2 d) ++ (put1 rs.length ++ rs.flatMap fun r => put2 r.col ++ put2 r.row ++ put2 r.width
           ++ put2 r.height ++ put1 r.content.kind ++ put1 r.content.value)),
       (.applyLayout a xs, put1 30 ++ put2 a ++ putSet xs), (.setOverride time.hour xs, put1 31 ++ put1 time.hour ++ putSet xs),
       (.setPanel a b c, put1 32 ++ put2 a ++ put2 b ++ put2 c), (.panelStandby xs, put1 33 ++ putSet xs),
       (.wake xs, put1 34 ++ putSet xs), (.setBrightness a xs, put1 35 ++ put2 a ++ putSet xs),
       (.setClock time, put1 36 ++ put2 time.serial ++ put1 time.weekday ++ put1 time.hour ++ put1 time.minute ++ put1 time.second),
       (.setHouse a b, put1 37 ++ put2 a ++ put2 b),
       (.setPhaseTimes ⟨a, b, c, d, e⟩, put1 38 ++ put2 a ++ put2 b ++ put2 c ++ put2 d ++ put2 e),
       (.setBands ⟨a, b, c, d, e, f⟩, put1 39 ++ put2 a ++ put2 b ++ put2 c ++ put2 d ++ put2 e ++ put2 f),
       (.grant a b, put1 40 ++ put2 a ++ put2 b), (.setReports xs, put1 41 ++ putSet xs), (.reset, put1 42),
       (.displayRestart, put1 43), (.acknowledge xs, put1 45 ++ putSet xs)],
     readDirective q.2 = some q.1)
  ∧ (∀ (a b c d e k n : Nat) (xs : List Nat), (∀ v ∈ [a, b, c, d, e, k, n], v ≤ 65535) → xs.length ≤ 255 → (∀ m ∈ xs, m ≤ 65535) →
     (k = 1 ∨ k = 6 → readDirective (put1 16 ++ put2 a ++ put2 b ++ put2 c ++ put2 d ++ put2 e ++ put2 k ++ put2 n ++ putSet xs)
       = some (.setCue a ⟨b, c, d, e, k, n, xs⟩))
     ∧ (2 ≤ k → k ≤ 5 → readDirective (put1 16 ++ put2 a ++ put2 b ++ put2 c ++ put2 d ++ put2 e ++ put2 k ++ putSet xs)
       = some (.setCue a ⟨b, c, d, e, k, 0, xs⟩)))
  ∧ ∀ (kind : Nat) (rest : List Byte) (d : Directive), kind ≤ 255 →
     (readDirective (put1 44 ++ put1 kind ++ rest) = some d ↔ 1 ≤ kind ∧ kind ≤ 19
       ∧ ((kind = 3 ∨ kind = 6 ∨ kind = 10 ∨ kind = 19) ∧ rest = [] ∧ d = .query kind 0
         ∨ (kind ≠ 3 ∧ kind ≠ 6 ∧ kind ≠ 10 ∧ kind ≠ 19) ∧ ∃ key ≤ 65535, rest = put2 key ∧ d = .query kind key))

/-- R7, R10, R13, R14, R19: a malformed head is answered, a well-shaped one moves to its unit's handoff queue while that holds fewer
than 8, and otherwise waits; while a RESET is being carried out, no well-shaped head moves (that a malformed head is still answered
once a RESET has been taken is the model's choice: assumption 8); a sent answer leaves its queue from the head; the lowest-numbered
due report is sent as kind 5 with tag 0, its mark clearing; a raise of a clear flag sets it and makes an enabled report due, a raise
of a set flag does nothing more, and an end clears the flag and leaves the due mark; the two ends that a waiting DISPLAY RESTART
brings are counted toward its DONE (R21). An answer packet carries the byte answered, the outcome as 0 to 9 and the record (Table
1-10), and a condition its number of Table 1-4. (That a report's set is carried ascending is the model's choice: assumption 15.) -/
def Obligations.HeadsAnswersReportsAndConditionsMove : Prop :=
  ((∀ (s : State) (p : Port) (q : Packet) (rest : List Packet), (s.port p).intake = q :: rest → q.directive = none →
     s.hasRoom p = true →
     exec (.intakeHeadMove p) s = .next ((s.putPort p { s.port p with intake := rest }).answered p q .malformed))
   ∧ (∀ (s : State) (p : Port) (q : Packet) (rest : List Packet) (d : Directive), (s.port p).intake = q :: rest →
     q.directive = some d → (s.handoffOf d.target p).length < 8 → s.link.resetPending = none →
     exec (.intakeHeadMove p) s = .next
       ((s.putPort p { s.port p with intake := rest }).putHandoff d.target p (s.handoffOf d.target p ++ [q])))
   ∧ ∀ (s : State) (p : Port) (q : Packet) (rest : List Packet), (s.port p).intake = q :: rest →
     (q.directive = none ∧ s.hasRoom p = false) ∨ (∃ d, q.directive = some d ∧ 8 ≤ (s.handoffOf d.target p).length)
       ∨ (q.directive.isSome = true ∧ s.link.resetPending.isSome = true) →
     exec (.intakeHeadMove p) s = .next s)
  ∧ ((∀ (s : State) (p : Port) (a : Answer) (rest : List Answer), (s.port p).answers.answers = a :: rest →
       s.link.resetPending = none →
       exec (.answerSent p) s = .next
         ((s.putPort p { s.port p with answers := ⟨rest, (s.port p).answers.reserved⟩ }).putLine p (a.packet p)))
     ∧ ∀ (s : State) (c : Fin 12), s.link.due[c] = true → (∀ k : Fin 12, k < c → s.link.due[k] = false) →
       exec .reportSent s = .next { s with
         feedLine := feedPacket 5 0 (put2 c.val ++ put4 s.clock.runTime ++ putSet (setNumbers s.link.flags))
         link := { s.link with due := put s.link.due c false } })
  ∧ ((∀ (s : State) (b : Block) (c : Condition) (rest : List ConditionEvent),
       s.mail.conditions[b.index] = .raise c :: rest → s.link.flags[c.index] = false →
       exec (.conditionRaise b) s = .next { s with
         link := { s.link with
           flags := put s.link.flags c.index true
           due := put s.link.due c.index (s.link.due[c.index] || s.link.enables[c.index]) }
         mail := { s.mail with conditions := put s.mail.conditions b.index rest } })
     ∧ (∀ (s : State) (b : Block) (c : Condition) (rest : List ConditionEvent),
       s.mail.conditions[b.index] = .raise c :: rest → s.link.flags[c.index] = true →
       exec (.conditionRaise b) s = .next { s with
         mail := { s.mail with conditions := put s.mail.conditions b.index rest } })
     ∧ ∀ (s u : State) (b : Block) (c : Condition) (rest : List ConditionEvent),
       s.mail.conditions[b.index] = .ends c :: rest →
       u = { s with
         link := { s.link with flags := put s.link.flags c.index false }
         mail := { s.mail with conditions := put s.mail.conditions b.index rest } } →
       ((∀ r, s.link.restartPending = some r →
           b ≠ .memory ∨ (c ≠ .memoryFault ∧ ¬(c = .streamLost ∧ r.faultEnded = true))) →
         exec (.conditionEnd b) s = .next u)
       ∧ ∀ r, s.link.restartPending = some r → b = .memory →
         (c = .memoryFault → exec (.conditionEnd b) s = .next { u with
           link := { u.link with restartPending := some { r with faultEnded := true } } })
         ∧ (c = .streamLost → r.faultEnded = true → exec (.conditionEnd b) s = .next (({ u with
           link := { u.link with restartPending := none } } : State).issueReserved r.port ⟨r.tag, r.code, .done, []⟩)))
  ∧ (∀ (s : State) (p : Port) (bytes : List Byte), s.putLine p bytes
      = if p = .feed then { s with feedLine := bytes } else { s with deskLine := bytes })
  ∧ (∀ a : Answer, a.packet .feed = feedPacket 4 a.tag (put1 a.code ++ put1 a.outcome.number ++ a.record)
      ∧ a.packet .desk = deskPacket 4 a.tag (put1 a.code ++ put1 a.outcome.number ++ a.record))
  ∧ [OutcomeCode.done, .doneClamped, .notOwner, .noSuch, .full, .outOfRange, .tooLate, .duplicate, .malformed, .refusedState].map
      OutcomeCode.number = [0, 1, 2, 3, 4, 5, 6, 7, 8, 9]
  ∧ [Condition.clockUnset, .clockUnconfirmed, .clockConflict, .directiveDiscard, .lineError, .oversold, .tallyUnderflow, .holdsFull,
      .frameLate, .streamLost, .memoryFault, .panelLost].map Condition.index = [0, 1, 2, 3, 4, 5, 6, 7, 8, 9, 10, 11]
  ∧ (∀ v : Vector Bool 12, (setNumbers v).Pairwise (· < ·) ∧ ∀ n, n ∈ setNumbers v ↔ ∃ k : Fin 12, k.val = n ∧ v[k] = true)
  ∧ ∀ (s : State) (b : Block) (e : ConditionEvent), s.sendCondition b e = { s with
      mail := { s.mail with conditions := put s.mail.conditions b.index (s.mail.conditions[b.index] ++ [e]) } }

/-- R15: SET REPORTS with a member above 11 is OUT_OF_RANGE and changes nothing; otherwise exactly the conditions of the set have
their enable on, an enable that goes off clears the due mark, no due mark is made, and the answer is DONE. The next clear-to-set
change of a flag whose enable is on is reported. SET REPORTS is a HOUSE directive. -/
def Obligations.SetReportsChoosesTheReports : Prop :=
  (∀ members : List Nat, (Directive.setReports members).group = some .house)
  ∧ (∀ (s t : State) (p : Port) (q : Packet) (members : List Nat),
    s.Takes .link p q (.setReports members) t → (∃ m ∈ members, 11 < m) →
    exec (.setReports p) s = .next (t.answered p q .outOfRange))
  ∧ (∀ (s t : State) (p : Port) (q : Packet) (members : List Nat),
    s.Takes .link p q (.setReports members) t → (∀ m ∈ members, m ≤ 11) →
    ∃ enables due : Vector Bool 12,
      exec (.setReports p) s = .next
        (({ t with link := { t.link with enables := enables, due := due } } : State).answered p q .done)
      ∧ (∀ k : Fin 12, enables[k] = members.contains k.val)
      ∧ ∀ k : Fin 12, due[k] = (s.link.due[k] && members.contains k.val))
  ∧ ∀ (l : LinkUnit) (c : Condition), l.flags[c.index] = false → l.enables[c.index] = true →
    (l.raise c).due[c.index] = true

/-- R9, R16, R17, R19, R21: the link unit's other directives and its watch. GRANT gives a grantable group its owner, and refuses
HOUSE, numbers above 4 and owners other than 1 and 2. ACKNOWLEDGE clears the flags named, unless one of them is set and ended only
by its block, and clearing a set MEMORY_FAULT sends a resume. RESET waits for its own answer and for the desk answers issued before
it. DISPLAY RESTART sends the restart to its blocks and reserves the place of its answer; DONE is issued when the link unit has taken
the ends of MEMORY_FAULT and of STREAM_LOST that the frame memory unit's restart sends, so that both flags are clear
(that DONE does not also wait for the other blocks' restarts, and that events are taken meanwhile, is the model's choice: assumption
27). The beacon watch fires once, 600 s after the last beacon, while the clock is SET. The conditions ended only by their block are
those of Table 1-4. -/
def Obligations.LinkUnitTakesItsDirectives : Prop :=
  ((∀ (s t : State) (p : Port) (q : Packet) (g : Fin 5) (n : Nat) (owner : Port),
     s.Takes .link p q (.grant g.val n) t → g ≠ 4 → (n = 1 ∧ owner = .feed ∨ n = 2 ∧ owner = .desk) →
     exec (.grant p) s = .next
       (({ t with link := { t.link with owners := put t.link.owners g owner } } : State).answered p q .done))
   ∧ (∀ (s t : State) (p : Port) (q : Packet) (g n : Nat), s.Takes .link p q (.grant g n) t →
     (4 ≤ g ∨ (n ≠ 1 ∧ n ≠ 2)) → exec (.grant p) s = .next (t.answered p q .outOfRange))
   ∧ (∀ (s t : State) (p : Port) (q : Packet) (members : List Nat),
     s.Takes .link p q (.acknowledge members) t → (∀ m ∈ members, m ≤ 11) →
     (∀ c : Condition, c.endedByBlock = true → c.index.val ∈ members → s.link.flags[c.index] = false) →
     ∃ flags : Vector Bool 12,
       exec (.acknowledge p) s = .next
         (({ t with
             link := { t.link with flags := flags }
             mail := if 10 ∈ members ∧ s.link.flags[10] = true then
               { t.mail with linkToMemory := t.mail.linkToMemory ++ [.resume] } else t.mail } : State).answered p q .done)
       ∧ ∀ k : Fin 12, flags[k] = (s.link.flags[k] && !members.contains k.val))
   ∧ (∀ (s t : State) (p : Port) (q : Packet) (members : List Nat),
     s.Takes .link p q (.acknowledge members) t → (∃ m ∈ members, 11 < m) →
     exec (.acknowledge p) s = .next (t.answered p q .outOfRange))
   ∧ (∀ (s t : State) (p : Port) (q : Packet) (members : List Nat),
     s.Takes .link p q (.acknowledge members) t → (∀ m ∈ members, m ≤ 11) →
     (∃ c : Condition, c.endedByBlock = true ∧ c.index.val ∈ members ∧ s.link.flags[c.index] = true) →
     exec (.acknowledge p) s = .next (t.answered p q .refusedState))
   ∧ (∀ (s t : State) (q : Packet), s.Takes .link .feed q .reset t → s.link.resetPending = none →
     exec (.reset .feed) s = .next
       (({ t with link := { t.link with
           resetPending := some ⟨s.link.ports.feed.answers.answers.length + 1, s.link.ports.desk.answers.answers.length⟩ } } :
         State).answered .feed q .done))
   ∧ ((∀ (s t u : State) (p : Port) (q : Packet), s.Takes .link p q .displayRestart t →
     u = t.putPort p { t.port p with answers := ⟨(t.port p).answers.answers, (t.port p).answers.reserved + 1⟩ } →
     ∃ restarts : Vector Nat 11,
       exec (.displayRestart p) s = .next
         { u with
           link := { u.link with restartPending := some ⟨p, q.tag, q.code, false⟩ }
           mail := { t.mail with restarts := restarts, linkToMemory := t.mail.linkToMemory ++ [.restart] } }
       ∧ ∀ b : Block, restarts[b.index] = s.mail.restarts[b.index]
           + (if b ∈ [Block.builder, .notice, .render, .composer, .output] then 1 else 0))
     ∧ ∀ (s : State) (r : RestartPending) (rest : List ConditionEvent), s.link.restartPending = some r →
       s.mail.conditions[Block.memory.index] = .ends .memoryFault :: .ends .streamLost :: rest →
       ∃ t u : State, exec (.conditionEnd .memory) s = .next t ∧ exec (.conditionEnd .memory) t = .next u
         ∧ (∀ p, t.port p = s.port p) ∧ t.link.flags = put s.link.flags 10 false ∧ t.ready .link = false
         ∧ (∀ p, u.port p = if p = r.port then { s.port p with answers :=
             ⟨(s.port p).answers.answers ++ [⟨r.tag, r.code, .done, []⟩], (s.port p).answers.reserved - 1⟩ } else s.port p)
         ∧ u.link.flags = put (put s.link.flags 10 false) 9 false ∧ u.ready .link = true
         ∧ t.link.handoff = s.link.handoff ∧ u.link.handoff = s.link.handoff ∧ t.link.owners = s.link.owners
         ∧ u.link.owners = s.link.owners ∧ t.link.enables = s.link.enables ∧ u.link.enables = s.link.enables
         ∧ t.link.due = s.link.due ∧ u.link.due = s.link.due ∧ t.link.watch = s.link.watch ∧ u.link.watch = s.link.watch))
  ∧ (∀ (s : State) (t : Nat), s.nextSecond .link = some t →
       (s.link.watch.overdue = false ∧ s.clock.state = .set ∧ s.link.watch.last + 600 ≤ t →
         exec .beaconWatch s = .next (({ s with
           link := { s.link with watch := ⟨s.link.watch.last, true⟩ }
           mail := { s.mail with linkToClock := s.mail.linkToClock ++ [.overdue] } } : State).dropSecond .link))
       ∧ (¬(s.link.watch.overdue = false ∧ s.clock.state = .set ∧ s.link.watch.last + 600 ≤ t) →
         exec .beaconWatch s = .next (s.dropSecond .link)))
  ∧ (∀ c : Condition, c.endedByBlock = true ↔ c = .clockUnset ∨ c = .oversold ∨ c = .streamLost ∨ c = .panelLost)
  ∧ ∀ (s : State) (b : Block), s.dropRestart b = { s with
      mail := { s.mail with restarts := put s.mail.restarts b.index (s.mail.restarts[b.index] - 1) } }

/-- R19, R20: a full reset gives every block its state after a full reset at once, by the table of its chapter: R20 the link unit,
R42 the board clock, R62 the schedule unit, R86 the seat unit, R106 the board builder, R122 the notice unit, R139 the rotation unit,
R155 the render unit, R168 the composer, R180 the frame memory unit and the panel output; nothing is under way between the blocks
but the board clock's requests for its tiles (R42). It happens at the reset pin, and once the last answer that a RESET waits for has
been sent; until then the answers are counted, and an answer behind the RESET's, or issued on the desk port after it, is not sent.
(The model's choices: that the waiting commands, what the lines last carried and the count of free choices stay, assumption 8; a
frame's and a store's contents, assumption 14; that the clock tiles are asked for in ascending number, assumption 28.) -/
def Obligations.FullResetActsOnTheWholePart : Prop :=
  (∀ s : State, ∃ t, exec .fullReset s = .next t
    ∧ t = { State.reset with pending := s.pending, feedLine := s.feedLine, deskLine := s.deskLine, choices := s.choices }
    ∧ t.link.feedReceiver = .idle ∧ t.link.deskReceiver = .hunting
    ∧ (∀ p, t.port p = ⟨[], ⟨[], 0⟩, 0, 0⟩) ∧ (∀ b p, t.handoffOf b p = [])
    ∧ t.link.owners = #v[.feed, .desk, .desk, .feed, .feed]
    ∧ (∀ k : Fin 12, t.link.flags[k] = (k == 0) ∧ t.link.enables[k] = true ∧ t.link.due[k] = (k == 0))
    ∧ t.link.watch = ⟨0, false⟩ ∧ t.link.resetPending = none ∧ t.link.restartPending = none
    ∧ (t.clock.state = .unset ∧ t.clock.hour = 0 ∧ t.clock.minute = 0 ∧ t.clock.second = 0 ∧ t.clock.weekday = 1
      ∧ t.clock.day = 0 ∧ t.clock.tenths = 0 ∧ t.clock.runTime = 0 ∧ t.clock.mark = none ∧ t.clock.hourFormat = .h24
      ∧ t.clock.dayStart = 6 ∧ ∀ k : Fin 16, t.clock.cues[k] = none)
    ∧ ((∀ k : Fin 128, t.schedule.titles[k] = none) ∧ t.schedule.table = [] ∧ t.schedule.settings.doorsLead = 20
      ∧ t.schedule.settings.lateWindow = 15 ∧ t.schedule.settings.horizon = 240 ∧ t.schedule.settings.linger = 10
      ∧ t.schedule.settings.countdown = 15 ∧ t.schedule.viewDay = 0 ∧ t.schedule.viewMinute = none)
    ∧ (t.seat.tallies = [] ∧ t.seat.holds = [] ∧ t.seat.bands.fewSeats = 20 ∧ t.seat.bands.fewFill = 900
      ∧ t.seat.bands.fillingFill = 600 ∧ t.seat.bands.marginSeats = 5 ∧ t.seat.bands.marginFill = 30
      ∧ t.seat.bands.reopenSeats = 2 ∧ t.seat.oversold = 0)
    ∧ ((∀ k : Fin 8, t.builder.boards[k].defn = none ∧ t.builder.boards[k].rows = [] ∧ t.builder.boards[k].page = 0
        ∧ t.builder.boards[k].dwell = none) ∧ t.builder.viewDay = 0 ∧ t.builder.viewMinute = none)
    ∧ (t.notice.notices = [] ∧ (∀ k : Fin 12, t.notice.urgent[k] = ⟨[], none, none⟩) ∧ t.notice.style.urgentDwell = 8
      ∧ t.notice.style.normalWidth = 24 ∧ t.notice.style.normalHeight = 8 ∧ t.notice.style.urgentWidth = 48
      ∧ t.notice.style.urgentHeight = 27 ∧ t.notice.style.urgentColour = 63488)
    ∧ ((∀ k : Fin 12, t.rotation.carousels[k].run = .stopped ∧ t.rotation.carousels[k].content = ⟨.single, [], []⟩
        ∧ t.rotation.carousels[k].primaryCursor = 0 ∧ t.rotation.carousels[k].secondaryCursor = 0
        ∧ t.rotation.carousels[k].noticeStep = 0 ∧ t.rotation.carousels[k].choice = .primary
        ∧ t.rotation.carousels[k].phase = none ∧ t.rotation.carousels[k].remaining = none
        ∧ t.rotation.carousels[k].shown = none ∧ t.rotation.carousels[k].active = ⟨100, 0, 100, 0⟩
        ∧ t.rotation.carousels[k].pending = ⟨⟨100, false⟩, ⟨0, false⟩, ⟨100, false⟩, ⟨0, false⟩⟩
        ∧ t.rotation.carousels[k].pendingContent = none ∧ t.rotation.carousels[k].quiet = false
        ∧ t.rotation.carousels[k].quietInEffect = false ∧ t.rotation.carousels[k].group = none)
      ∧ ∀ g : Fin 4, t.rotation.leaders[g] = none)
    ∧ ((∀ k : Fin 256, t.render.tiles[k].state = .empty ∧ t.render.tiles[k].image = none ∧ t.render.tiles[k].lane = .normal
        ∧ t.render.tiles[k].size = (if 192 ≤ k.val ∧ k.val ≤ 195 then some (8, 2)
            else if 196 ≤ k.val ∧ k.val ≤ 199 then some (4, 1) else none)
        ∧ t.render.tiles[k].byteTotal = 0 ∧ t.render.tiles[k].bytesReceived = 0 ∧ t.render.tiles[k].glyphSet = .small
        ∧ t.render.tiles[k].text = [])
      ∧ t.render.urgentLane = [] ∧ t.render.normalLane = [] ∧ t.render.engine = .idle ∧ t.render.waiting = none)
    ∧ ((∀ k : Fin 32, t.composer.layouts[k] = none)
      ∧ (∀ k : Fin 12, t.composer.panels[k].state = .dark ∧ t.composer.panels[k].current = none
        ∧ t.composer.panels[k].pendingLayout = none ∧ t.composer.panels[k].override = none
        ∧ t.composer.panels[k].bufA.role = .free ∧ t.composer.panels[k].bufA.seq = 0
        ∧ t.composer.panels[k].bufB.role = .free ∧ t.composer.panels[k].bufB.seq = 0 ∧ t.composer.panels[k].nextSeq = 1
        ∧ t.composer.panels[k].request = .none ∧ t.composer.panels[k].shown = 0 ∧ t.composer.panels[k].repeated = 0)
      ∧ t.composer.queue = [] ∧ t.composer.engine = none)
    ∧ ((∀ k : Fin 4, t.memory.streams[k].stores.toList.map (fun y => (y.role, y.pinned))
          = [(.receiving, false), (.free, false), (.free, false)]
        ∧ t.memory.streams[k].reception = none ∧ t.memory.streams[k].lastFrame = 0 ∧ t.memory.streams[k].lastUse = none
        ∧ t.memory.streams[k].lost = false)
      ∧ t.memory.ingestQueue = [] ∧ t.memory.inFlight = none
      ∧ ∀ c ∈ [t.memory.ingest, t.memory.compose, t.memory.render], c.state = .idle ∧ c.remaining = 0 ∧ c.fault = false)
    ∧ (∀ k : Fin 12, t.output.panels[k].linkUp = false ∧ t.output.panels[k].state = .dark
        ∧ t.output.panels[k].standby = false ∧ t.output.panels[k].lost = false ∧ t.output.panels[k].rate = 60
        ∧ t.output.panels[k].orientation = .landscape ∧ t.output.panels[k].setLevel = 15 ∧ t.output.panels[k].level = 0
        ∧ t.output.panels[k].target = 15)
    ∧ (∀ b : Block, t.mail.tiles[b.index]
        = (if b = .clock then (List.range' 192 8).map (fun k => TileRequest.redraw k .normal) else [])))
  ∧ (∀ (s : State) (p : Port) (a : Answer) (rest : List Answer) (r : ResetPending),
    (s.port p).answers.answers = a :: rest → s.link.resetPending = some r →
    (if p = .feed then r.feedLeft = 1 ∧ r.deskLeft = 0 else r.feedLeft = 0 ∧ r.deskLeft = 1) →
    exec (.answerSent p) s = exec .fullReset (s.putLine p (a.packet p)))
  ∧ (∀ (s : State) (p : Port) (r : ResetPending), s.link.resetPending = some r →
    (if p = .feed then r.feedLeft = 0 else r.deskLeft = 0) → exec (.answerSent p) s = .next s)
  ∧ ∀ (s : State) (p : Port) (a : Answer) (rest : List Answer) (r : ResetPending),
    (s.port p).answers.answers = a :: rest → s.link.resetPending = some r →
    (if p = .feed then 1 ≤ r.feedLeft ∧ (1 < r.feedLeft ∨ 0 < r.deskLeft)
      else 1 ≤ r.deskLeft ∧ (0 < r.feedLeft ∨ 1 < r.deskLeft)) →
    ∃ t, exec (.answerSent p) s = .next t ∧ (t.port p).answers.answers = rest
      ∧ t.link.resetPending = some (match p with
          | .feed => ⟨r.feedLeft - 1, r.deskLeft⟩
          | .desk => ⟨r.feedLeft, r.deskLeft - 1⟩)
      ∧ t.link.handoff = s.link.handoff ∧ t.clock = s.clock ∧ t.schedule = s.schedule ∧ t.seat = s.seat
      ∧ t.builder = s.builder ∧ t.notice = s.notice ∧ t.rotation = s.rotation ∧ t.render = s.render
      ∧ t.composer = s.composer ∧ t.memory = s.memory ∧ t.output = s.output ∧ t.mail = s.mail

/-- R6, R7, R8, R10, R21, R143: the intake queues hold at most 32, the handoff queues at most 8, the answer queues at most 16 with
their reserved places, and a place is reserved exactly for an IMAGE PIECE and for a DISPLAY RESTART not yet answered. Every step keeps
it. -/
def Obligations.QueuesKeepTheirCapacities : Prop :=
  ∀ s t : State, s.QueuesSound → step s = .next t → t.QueuesSound

/-! ### Chapter 2: the board clock -/

/-- R22, R23, R25: a tenth-tick goes to the board builder, the rotation unit and the panel output and raises the tenth count; where
the count would pass 9, the run-time second takes place: the count returns to 0, run time goes up by 1, staying at 4,294,967,295,
and is delivered to the five blocks; the wall time counts unless the clock is UNSET, and at second 0 the minute boundary of R26
follows. A block takes the seconds sent to it in the order they were sent. (That the second waits as a command of its own, and no
tick overtakes it, is assumption 4.) -/
def Obligations.TicksAndSecondsKeepTime : Prop :=
  (∀ s : State, s.clock.secondOwed = false → exec .tenthTick s = .next { s with
      clock := if s.clock.tenths < 9 then { s.clock with tenths := s.clock.tenths + 1 }
        else { s.clock with secondOwed := true }
      mail := { s.mail with
        clockToBuilder := s.mail.clockToBuilder ++ [.tick]
        ticksToRotation := s.mail.ticksToRotation + 1
        ticksToOutput := s.mail.ticksToOutput + 1 } })
  ∧ (∀ s : State, s.clock.secondOwed = true → exec .tenthTick s = .next s)
  ∧ (∀ s : State, s.clock.secondOwed = true → ∃ (u : State) (seconds : Vector (List Nat) 11),
    u = { s with
      clock := { s.clock with tenths := 0, secondOwed := false, runTime := min (s.clock.runTime + 1) 4294967295 }
      mail := { s.mail with seconds := seconds } }
    ∧ (∀ b : Block, seconds[b.index] = s.mail.seconds[b.index] ++
        (if b ∈ [Block.seat, .schedule, .notice, .link, .memory] then [u.clock.runTime] else []))
    ∧ exec .runTimeSecond s = .next
        (if s.clock.state = .unset then u
         else if s.clock.second < 59 then { u with clock := { u.clock with second := s.clock.second + 1 } }
         else if s.clock.minute < 59 then
           State.minuteBoundary { u with clock := { u.clock with second := 0, minute := s.clock.minute + 1 } }
         else if s.clock.hour < 23 then
           State.minuteBoundary { u with clock := { u.clock with second := 0, minute := 0, hour := s.clock.hour + 1 } }
         else State.minuteBoundary { u with clock := { u.clock with
           second := 0, minute := 0, hour := 0, weekday := if s.clock.weekday < 7 then s.clock.weekday + 1 else 1 } }))
  ∧ ∀ (s : State) (b : Block), (s.mail.seconds[b.index] = [] → s.nextSecond b = none)
    ∧ ∀ t rest, s.mail.seconds[b.index] = t :: rest → s.nextSecond b = some t
      ∧ s.dropSecond b = { s with mail := { s.mail with seconds := put s.mail.seconds b.index rest } }

/-- R26, R27, R38, R39, R40: at a minute boundary the rollover comes first where the day starts, then one minute event to the
schedule unit and the board builder, then the cues of that minute with the wall clock's weekday, hour and minute, then the redraw of
the clock tiles. Cues evaluated for a minute at or before the high-water mark fire nothing, and a rollover has made the mark none;
otherwise every present, enabled entry that matches fires once, in ascending cue number, to the block R37 names, and the mark
becomes the minute. (That the eight clock tiles are asked for in ascending number is the model's choice: assumption 28.) -/
def Obligations.MinutesAreActedOnInOrder : Prop :=
  (∀ s : State, ∃ (rolls : Bool) (n : Nat) (fired : List CueAction),
     rolls = decide (s.clock.hour = s.clock.dayStart ∧ s.clock.minute = 0)
     ∧ n = (s.clock.hour + 24 - s.clock.dayStart) % 24 * 60 + s.clock.minute
     ∧ s.minuteBoundary.mail.clockToSchedule = s.mail.clockToSchedule
         ++ (if rolls then [.rollover (min (s.clock.day + 1) 65535)] else []) ++ [.minute n]
     ∧ s.minuteBoundary.mail.clockToBuilder = s.mail.clockToBuilder
         ++ (if rolls then [.rollover (min (s.clock.day + 1) 65535)] else []) ++ [.minute n]
     ∧ s.minuteBoundary.clock = { s.clock with
         day := if rolls then min (s.clock.day + 1) 65535 else s.clock.day
         mark := if rolls = false ∧ s.clock.markReaches n = true then s.clock.mark else some n }
     ∧ s.minuteBoundary.mail.tiles[Block.clock.index]
         = s.mail.tiles[Block.clock.index] ++ (List.range' 192 8).map (fun k => TileRequest.redraw k .normal)
     ∧ s.minuteBoundary = State.redrawClockTiles (State.evaluateCues
         (State.sendMinute (if rolls then s.rollover (min (s.clock.day + 1) 65535) else s) n)
         n s.clock.weekday s.clock.hour s.clock.minute)
     ∧ fired = (if rolls = false ∧ s.clock.markReaches n = true then []
         else (s.clock.cues.toList.filterMap id).filterMap (fun c =>
           if c.enabled ∧ (c.weekday = none ∨ c.weekday = some s.clock.weekday) ∧ (c.hour = none ∨ c.hour = some s.clock.hour)
             ∧ (c.minute = none ∨ c.minute = some s.clock.minute) then some c.action else none))
     ∧ s.minuteBoundary.mail.cuesToComposer = s.mail.cuesToComposer ++ fired.filterMap (fun a =>
         match a with | .applyLayout l ps => some (l, ps) | _ => none)
     ∧ s.minuteBoundary.mail.cuesToRotation = s.mail.cuesToRotation ++ fired.filterMap (fun a =>
         match a with | .quiet on cs => some (on, cs) | _ => none)
     ∧ s.minuteBoundary.mail.cuesToOutput = s.mail.cuesToOutput ++ fired.filterMap (fun a =>
         match a with
         | .standby ps => some (.standby ps)
         | .wake ps => some (.wake ps)
         | .brightness l ps => some (.brightness l ps)
         | _ => none))
  ∧ ((∀ (s : State) (x weekday hour minute m : Nat), s.clock.mark = some m → x ≤ m →
       s.evaluateCues x weekday hour minute = s)
     ∧ ∀ (s : State) (x weekday hour minute : Nat) (actions : List CueAction), (∀ m, s.clock.mark = some m → m < x) →
       actions = (s.clock.cues.toList.filterMap id).filterMap (fun c =>
         if c.enabled ∧ (c.weekday = none ∨ c.weekday = some weekday) ∧ (c.hour = none ∨ c.hour = some hour)
           ∧ (c.minute = none ∨ c.minute = some minute) then some c.action else none) →
       s.evaluateCues x weekday hour minute = { s with
         clock := { s.clock with mark := some x }
         mail := { s.mail with
           cuesToComposer := s.mail.cuesToComposer ++ actions.filterMap fun a =>
             match a with | .applyLayout l ps => some (l, ps) | _ => none
           cuesToRotation := s.mail.cuesToRotation ++ actions.filterMap fun a =>
             match a with | .quiet on cs => some (on, cs) | _ => none
           cuesToOutput := s.mail.cuesToOutput ++ actions.filterMap fun a =>
             match a with
             | .standby ps => some (.standby ps)
             | .wake ps => some (.wake ps)
             | .brightness l ps => some (.brightness l ps)
             | _ => none } })
  ∧ (∀ (c : Clock) (n : Nat), c.markReaches n = true ↔ ∃ m, c.mark = some m ∧ n ≤ m)
  ∧ (∀ (s : State) (n : Nat), s.sendMinute n = { s with mail := { s.mail with
      clockToSchedule := s.mail.clockToSchedule ++ [.minute n]
      clockToBuilder := s.mail.clockToBuilder ++ [.minute n] } })
  ∧ (∀ (s : State) (day : Nat), s.rollover day = { s with
      clock := { s.clock with day := day, mark := none }
      mail := { s.mail with
        clockToSchedule := s.mail.clockToSchedule ++ [.rollover day]
        clockToBuilder := s.mail.clockToBuilder ++ [.rollover day] } })
  ∧ (∀ s : State, s.redrawClockTiles = s.requestTiles .clock ((List.range' 192 8).map fun k => .redraw k .normal))
  ∧ ∀ (s : State) (b : Block) (rs : List TileRequest), s.requestTiles b rs = { s with
      mail := { s.mail with tiles := put s.mail.tiles b.index (s.mail.tiles[b.index] ++ rs) } }

/-- R24, R29, R34: BEACON takes the beacon at the head of the events from the link unit. In UNSET it sets the clock: SET,
CLOCK_UNSET ended, its time taken, a rollover event where its business day is later than the one held, the mark on its minute, one
minute event and the clock tiles. In SET it is applied by R30; in UNCONFIRMED too, after the return to SET and the end of
CLOCK_UNCONFIRMED. "Beacon overdue" makes SET UNCONFIRMED and is ignored otherwise. (The business day and minute of the beacon's
time are as BeaconTimeIsAppliedByPosition gives. That the clock tiles are asked for in ascending number is the model's choice:
assumption 28.) -/
def Obligations.BeaconsActOnTheClockState : Prop :=
  (∀ (s u : State) (t : TimeFields) (rest : List LinkClockEvent), s.mail.linkToClock = .beacon t :: rest →
    u = { s with mail := { s.mail with linkToClock := rest } } →
    (s.clock.state = .set → exec .beacon s = .next (u.applyTime t))
    ∧ (s.clock.state = .unconfirmed → exec .beacon s = .next
        (State.applyTime (State.sendCondition { u with clock := { u.clock with state := .set } } .clock
          (.ends .clockUnconfirmed)) t))
    ∧ (s.clock.state = .unset → ∃ v, exec .beacon s = .next v
        ∧ v.clock = { s.clock with
            state := .set, hour := t.hour, minute := t.minute, second := t.second, weekday := t.weekday
            day := s.clock.dayOf t, mark := some (s.clock.minuteOf t) }
        ∧ v.mail.conditions[Block.clock.index] = s.mail.conditions[Block.clock.index] ++ [.ends .clockUnset]
        ∧ v.mail.clockToSchedule = s.mail.clockToSchedule
            ++ (if s.clock.day < s.clock.dayOf t then [.rollover (s.clock.dayOf t)] else []) ++ [.minute (s.clock.minuteOf t)]
        ∧ v.mail.clockToBuilder = s.mail.clockToBuilder
            ++ (if s.clock.day < s.clock.dayOf t then [.rollover (s.clock.dayOf t)] else []) ++ [.minute (s.clock.minuteOf t)]
        ∧ v.mail.tiles[Block.clock.index]
            = s.mail.tiles[Block.clock.index] ++ (List.range' 192 8).map (fun k => TileRequest.redraw k .normal)
        ∧ v.mail.cuesToComposer = s.mail.cuesToComposer ∧ v.mail.cuesToRotation = s.mail.cuesToRotation
        ∧ v.mail.cuesToOutput = s.mail.cuesToOutput ∧ v.mail.linkToClock = rest))
  ∧ ∀ (s u : State) (rest : List LinkClockEvent), s.mail.linkToClock = .overdue :: rest →
    u = { s with mail := { s.mail with linkToClock := rest } } →
    exec .beaconOverdue s = .next
      (if s.clock.state = .set then
        State.sendCondition { u with clock := { u.clock with state := .unconfirmed } } .clock (.raise .clockUnconfirmed)
       else u)

/-- R28, R30, R31, R32: how a beacon's time is applied in SET or UNCONFIRMED. The business day of its fields is the day serial, or
the serial minus 1, and 0 for a serial of 0, before the day-start hour; the business second is counted from the day start, and the
business minute is that divided by 60; positions are in order of business day and then of business second. An earlier business day
raises CLOCK_CONFLICT and nothing else; d = 0 takes the weekday; a backward set takes the time, keeps the mark, and sends a minute
event if the minute changes; a forward set takes the time, and where it crosses a minute, sends the rollover of a later day and one
minute event, and leaves the mark on the beacon's minute unless it stands later in the same day. Past 600 s no cue fires; up to 600
s the cues of every crossed minute that the mark has not reached fire, the minutes in ascending order, each with its own hour,
minute and weekday (a minute later in the day than the beacon's belongs to the weekday before the beacon's: assumption 9; that the
clock tiles are asked for in ascending number is the model's choice too: assumption 28). -/
def Obligations.BeaconTimeIsAppliedByPosition : Prop :=
  (∀ (c : Clock) (t : TimeFields) (x y : Nat), c.dayStart ≤ 23 → t.Ok → c.hour ≤ 23 → c.minute ≤ 59 → c.second ≤ 59 →
    x = (if c.dayStart ≤ t.hour then t.hour - c.dayStart else t.hour + 24 - c.dayStart) * 3600 + t.minute * 60 + t.second →
    y = (if c.dayStart ≤ c.hour then c.hour - c.dayStart else c.hour + 24 - c.dayStart) * 3600 + c.minute * 60 + c.second →
    c.dayOf t = (if c.dayStart ≤ t.hour then t.serial else if t.serial = 0 then 0 else t.serial - 1)
    ∧ c.minuteOf t = x / 60 ∧ c.minuteOf t = (t.hour * 60 + t.minute + 1440 - c.dayStart * 60) % 1440
    ∧ c.businessMinute = y / 60 ∧ c.businessMinute = (c.hour * 60 + c.minute + 1440 - c.dayStart * 60) % 1440
    ∧ (c.position < c.positionOf t ↔ c.day < c.dayOf t ∨ c.day = c.dayOf t ∧ y < x)
    ∧ (c.positionOf t < c.position ↔ c.dayOf t < c.day ∨ c.dayOf t = c.day ∧ x < y)
    ∧ ((c.positionOf t : Int) - c.position = ((c.dayOf t : Int) - c.day) * 86400 + ((x : Int) - y))
    ∧ c.takeTime t = { c with
        hour := t.hour, minute := t.minute, second := t.second, weekday := t.weekday, day := c.dayOf t })
  ∧ ∀ (s : State) (t : TimeFields), s.ClockSound → t.Ok →
    ((s.clock.dayOf t < s.clock.day → s.applyTime t = s.sendCondition .clock (.raise .clockConflict))
    ∧ (s.clock.positionOf t = s.clock.position →
      s.applyTime t = { s with clock := { s.clock with weekday := t.weekday } })
    ∧ (s.clock.day = s.clock.dayOf t → s.clock.positionOf t < s.clock.position →
      s.applyTime t = State.redrawClockTiles
        (if s.clock.minuteOf t = s.clock.businessMinute then { s with clock := s.clock.takeTime t }
         else State.sendMinute { s with clock := s.clock.takeTime t } (s.clock.minuteOf t)))
    ∧ (s.clock.position < s.clock.positionOf t → s.clock.day = s.clock.dayOf t → s.clock.minuteOf t = s.clock.businessMinute →
      s.applyTime t = State.redrawClockTiles { s with clock := s.clock.takeTime t })
    ∧ (s.clock.day ≤ s.clock.dayOf t → s.clock.position < s.clock.positionOf t →
      (s.clock.day < s.clock.dayOf t ∨ s.clock.businessMinute < s.clock.minuteOf t) →
      ∃ later : Bool, later = decide (s.clock.day < s.clock.dayOf t)
        ∧ (s.applyTime t).clock = { s.clock.takeTime t with
            mark := if later = false ∧ s.clock.markReaches (s.clock.minuteOf t) = true then s.clock.mark
              else some (s.clock.minuteOf t) }
        ∧ (s.applyTime t).mail.clockToSchedule = s.mail.clockToSchedule
            ++ (if later then [.rollover (s.clock.dayOf t)] else []) ++ [.minute (s.clock.minuteOf t)]
        ∧ (s.applyTime t).mail.clockToBuilder = s.mail.clockToBuilder
            ++ (if later then [.rollover (s.clock.dayOf t)] else []) ++ [.minute (s.clock.minuteOf t)]
        ∧ (s.applyTime t).mail.tiles[Block.clock.index]
            = s.mail.tiles[Block.clock.index] ++ (List.range' 192 8).map (fun k => TileRequest.redraw k .normal)
        ∧ (s.clock.position + 600 < s.clock.positionOf t →
            (s.applyTime t).mail.cuesToComposer = s.mail.cuesToComposer
            ∧ (s.applyTime t).mail.cuesToRotation = s.mail.cuesToRotation
            ∧ (s.applyTime t).mail.cuesToOutput = s.mail.cuesToOutput)
        ∧ (s.clock.positionOf t ≤ s.clock.position + 600 → ∃ fired : List CueAction,
            fired = (List.range' (s.clock.position / 60 + 1) (s.clock.positionOf t / 60 - s.clock.position / 60)).flatMap (fun k =>
              if k / 1440 = s.clock.day ∧ s.clock.markReaches (k % 1440) = true then []
              else (s.clock.cues.toList.filterMap id).filterMap (fun c =>
                if c.enabled
                    ∧ (c.weekday = none ∨ c.weekday = some (
                        if (s.clock.dayStart * 60 + k) % 1440 ≤ t.hour * 60 + t.minute then t.weekday
                        else if t.weekday = 1 then 7 else t.weekday - 1))
                    ∧ (c.hour = none ∨ c.hour = some ((s.clock.dayStart * 60 + k) % 1440 / 60))
                    ∧ (c.minute = none ∨ c.minute = some ((s.clock.dayStart * 60 + k) % 1440 % 60))
                then some c.action else none))
            ∧ (s.applyTime t).mail.cuesToComposer = s.mail.cuesToComposer ++ fired.filterMap (fun a =>
                match a with | .applyLayout l ps => some (l, ps) | _ => none)
            ∧ (s.applyTime t).mail.cuesToRotation = s.mail.cuesToRotation ++ fired.filterMap (fun a =>
                match a with | .quiet on cs => some (on, cs) | _ => none)
            ∧ (s.applyTime t).mail.cuesToOutput = s.mail.cuesToOutput ++ fired.filterMap (fun a =>
                match a with
                | .standby ps => some (.standby ps)
                | .wake ps => some (.wake ps)
                | .brightness l ps => some (.brightness l ps)
                | _ => none))))

/-- R17, R33, R35, R37: the board clock's directives, their checks in order, and what each answer leaves. (That the clock tiles are
asked for in ascending number is the model's choice: assumption 28.) -/
def Obligations.ClockDirectivesAreChecked : Prop :=
  (∀ (s u : State) (p : Port) (q : Packet) (t : TimeFields), s.Takes .clock p q (.setClock t) u →
    (¬t.Ok → exec (.setClock p) s = .next (u.answered p q .outOfRange))
    ∧ (t.Ok → s.clock.state ≠ .unset → s.clock.dayOf t < s.clock.day →
      exec (.setClock p) s = .next ((u.sendCondition .clock (.raise .clockConflict)).answered p q .refusedState))
    ∧ (t.Ok → (s.clock.state = .unset ∨ s.clock.day ≤ s.clock.dayOf t) → ∃ v,
      exec .beacon { u with mail := { u.mail with linkToClock := .beacon t :: u.mail.linkToClock } } = .next v
      ∧ exec (.setClock p) s = .next (State.answered { v with link := { v.link with watch := ⟨s.clock.runTime, false⟩ } }
        p q .done)))
  ∧ (∀ (s u : State) (p : Port) (q : Packet) (f d : Nat), s.Takes .clock p q (.setHouse f d) u →
    ((f ≠ 12 ∧ f ≠ 24) ∨ 23 < d → exec (.setHouse p) s = .next (u.answered p q .outOfRange))
    ∧ ((f = 12 ∨ f = 24) → d ≤ 23 → s.clock.state ≠ .unset → d ≠ s.clock.dayStart →
      exec (.setHouse p) s = .next (u.answered p q .refusedState))
    ∧ ∀ format : HourFormat, format.number = f → d ≤ 23 → (s.clock.state = .unset ∨ d = s.clock.dayStart) →
      exec (.setHouse p) s = .next (State.answered
        (if s.clock.hourFormat = format then { u with clock := { u.clock with dayStart := d } }
         else State.redrawClockTiles { u with
           clock := { u.clock with hourFormat := format, dayStart := d }
           mail := { u.mail with clockToBuilder := u.mail.clockToBuilder ++ [.hourFormatChanged] } }) p q .done))
  ∧ (∀ (s u : State) (p : Port) (q : Packet) (n : Nat) (f : CueFields), s.Takes .clock p q (.setCue n f) u →
    (15 < n ∨ (f.weekday ≠ 65535 ∧ ¬(1 ≤ f.weekday ∧ f.weekday ≤ 7)) ∨ (f.hour ≠ 65535 ∧ 23 < f.hour)
        ∨ (f.minute ≠ 65535 ∧ 59 < f.minute) ∨ f.kind < 1 ∨ 6 < f.kind ∨ f.members = [] ∨ (∃ m ∈ f.members, 11 < m)
        ∨ (f.kind = 1 ∧ 31 < f.arg) ∨ (f.kind = 6 ∧ 15 < f.arg) →
      exec (.setCue p) s = .next (u.answered p q .outOfRange))
    ∧ ∀ (e : Cue) (h : n < 16), f.enabled ≤ 1 → e.enabled = decide (f.enabled = 1) →
      (f.weekday = 65535 ∧ e.weekday = none ∨ (1 ≤ f.weekday ∧ f.weekday ≤ 7) ∧ e.weekday = some f.weekday) →
      (f.hour = 65535 ∧ e.hour = none ∨ f.hour ≤ 23 ∧ e.hour = some f.hour) →
      (f.minute = 65535 ∧ e.minute = none ∨ f.minute ≤ 59 ∧ e.minute = some f.minute) →
      f.members ≠ [] → (∀ m ∈ f.members, m ≤ 11) →
      (f.kind = 1 ∧ f.arg ≤ 31 ∧ e.action = .applyLayout f.arg f.members ∨ f.kind = 2 ∧ e.action = .quiet true f.members
        ∨ f.kind = 3 ∧ e.action = .quiet false f.members ∨ f.kind = 4 ∧ e.action = .standby f.members
        ∨ f.kind = 5 ∧ e.action = .wake f.members ∨ f.kind = 6 ∧ f.arg ≤ 15 ∧ e.action = .brightness f.arg f.members) →
      exec (.setCue p) s = .next (State.answered { u with clock := { u.clock with cues := u.clock.cues.set n (some e) h } }
        p q .done))
  ∧ ∀ (s u : State) (p : Port) (q : Packet) (n : Nat), s.Takes .clock p q (.clearCue n) u →
    (15 < n → exec (.clearCue p) s = .next (u.answered p q .outOfRange))
    ∧ ∀ h : n < 16, exec (.clearCue p) s = .next
      (if s.clock.cues[n] = none then u.answered p q .noSuch
       else State.answered { u with clock := { u.clock with cues := u.clock.cues.set n none h } } p q .done)

/-- L11 (R38): within a business day the high-water mark never moves to an earlier minute and never returns to NONE, whatever
command takes place, so that no minute's cues are evaluated a second time. A full reset, which leaves the clock UNSET, begins anew,
and on business day 65535, where the number no longer moves, the days cannot be told apart. -/
def Obligations.MarkNeverMovesBackWithinADay : Prop :=
  ∀ (i : Instr) (s t : State) (m : Nat), s.ClockSound → exec i s = .next t → t.clock.state ≠ .unset →
    s.clock.mark = some m → t.clock.day = s.clock.day → s.clock.day < 65535 → ∃ n, t.clock.mark = some n ∧ m ≤ n

/-! ### Chapter 3: the screening table -/

/-- R45, R47 to R50, R59: the target phase is PENDING where the view minute is NONE or the record is of another business day, and
otherwise the latest phase whose condition holds. At a minute event and, after the records of past days have been removed, at a
rollover, every record that is not CANCELLED takes the later of its phase and its target, and each move is sent, in table order. At
a run-time second every CANCELLED record whose linger has ended becomes CLOSED, and that is sent. -/
def Obligations.TimeMovesTheScreenings : Prop :=
  (∀ (u : ScheduleUnit) (r : Screening),
     ((u.viewMinute = none ∨ r.day ≠ u.viewDay) → u.target r = .pending)
     ∧ ∀ n, u.viewMinute = some n → r.day = u.viewDay →
       (u.target r = .closed ↔ r.showTime + r.delay + u.settings.lateWindow ≤ n)
       ∧ (r.showTime + r.delay ≤ n → u.target r = .running ∨ u.target r = .closed)
       ∧ (u.target r = .running → r.showTime + r.delay ≤ n)
       ∧ (max 0 ((r.showTime + r.delay : Int) - u.settings.doorsLead) ≤ n → 2 ≤ (u.target r).number)
       ∧ (u.target r = .boarding → max 0 ((r.showTime + r.delay : Int) - u.settings.doorsLead) ≤ n)
       ∧ (max 0 ((r.showTime + r.delay : Int) - u.settings.horizon) ≤ n → 1 ≤ (u.target r).number)
       ∧ (u.target r = .listed → max 0 ((r.showTime + r.delay : Int) - u.settings.horizon) ≤ n)
       ∧ u.target r ≠ .cancelled ∧ (∀ x : Phase, x.later (u.target r) = if x.number < (u.target r).number then u.target r else x)
       ∧ (n ≤ 1439 → 1439 < r.showTime + r.delay + u.settings.lateWindow → u.target r ≠ .closed))
  ∧ ((∀ (s u : State) (x : ScheduleUnit) (n : Nat) (rest : List DayEvent), s.mail.clockToSchedule = .minute n :: rest →
       u = { s with mail := { s.mail with clockToSchedule := rest } } →
       x = { s.schedule with viewMinute := some n } →
       exec .scheduleMinuteEvent s = .next (u.withSchedule
         ({ x with
            table := s.schedule.table.map fun r =>
              if r.phase = .cancelled then r else { r with phase := r.phase.later (x.target r) } },
          s.schedule.table.filterMap fun r =>
             if r.phase = .cancelled ∨ r.phase.later (x.target r) = r.phase then none
             else some (.phaseChanged r.number (r.phase.later (x.target r))))))
     ∧ (∀ (s u : State) (x : ScheduleUnit) (day : Nat) (rest : List DayEvent), s.mail.clockToSchedule = .rollover day :: rest →
       u = { s with mail := { s.mail with clockToSchedule := rest } } →
       x = { s.schedule with
         viewDay := day, viewMinute := some 0
         table := s.schedule.table.filter fun r => r.day = day || r.day = day + 1 } →
       exec .scheduleRollover s = .next (u.withSchedule
         ({ x with
            table := x.table.map fun r =>
              if r.phase = .cancelled then r else { r with phase := r.phase.later (x.target r) } },
          (s.schedule.table.filterMap fun r => if r.day = day ∨ r.day = day + 1 then none else some (.removed r.number))
           ++ x.table.filterMap fun r =>
             if r.phase = .cancelled ∨ r.phase.later (x.target r) = r.phase then none
             else some (.phaseChanged r.number (r.phase.later (x.target r))))))
     ∧ ∀ (s : State) (t : Nat) (ended : Screening → Bool), s.nextSecond .schedule = some t →
       (∀ r, ended r = true ↔ r.phase = .cancelled
         ∧ ∃ c, r.cancelTime = some c ∧ min (c + 60 * s.schedule.settings.linger) 4294967295 ≤ t) →
       exec .lingerEnd s = .next ((s.dropSecond .schedule).withSchedule
         ({ s.schedule with
            table := s.schedule.table.map fun r => if ended r then { r with phase := .closed, cancelTime := none } else r },
          (s.schedule.table.filter ended).map fun r => .phaseChanged r.number .closed)))

/-- R43, R46, R57, R58, R59: LOAD TITLE, SET PHASE TIMES, CANCEL SCREENING and DROP SCREENING: the refusals in order, and what DONE
leaves and sends; and the six events of the schedule unit with their recipients, each reached in the order sent. A phase computation
over the whole table moves every record that is not CANCELLED to the later of its phase and its target, in table order; a record put
into the table in order takes the place of its number. -/
def Obligations.TitlesPhasesAndCancellations : Prop :=
  ((∀ (s u : State) (p : Port) (q : Packet) (n : Nat) (text rating : List Byte) (m : Nat),
     s.Takes .schedule p q (.loadTitle n text rating m) u →
     (127 < n ∨ text.length < 1 ∨ 48 < text.length ∨ 5 < rating.length ∨ m < 1 ∨ 400 < m →
       exec (.loadTitle p) s = .next (u.answered p q .outOfRange))
     ∧ ∀ h : n < 128, 1 ≤ text.length → text.length ≤ 48 → rating.length ≤ 5 → 1 ≤ m → m ≤ 400 →
       exec (.loadTitle p) s = .next (State.answered (u.withSchedule
         ({ s.schedule with titles := s.schedule.titles.set n (some ⟨text, rating, m⟩) h }, [.titleChanged n])) p q .done))
   ∧ (∀ (s u : State) (p : Port) (q : Packet) (x : PhaseSettings), s.Takes .schedule p q (.setPhaseTimes x) u →
     (60 < x.doorsLead ∨ 60 < x.lateWindow ∨ 720 < x.horizon ∨ 60 < x.linger ∨ 60 < x.countdown ∨ x.horizon < x.doorsLead →
       exec (.setPhaseTimes p) s = .next (u.answered p q .outOfRange))
     ∧ (x.doorsLead ≤ 60 → x.lateWindow ≤ 60 → x.horizon ≤ 720 → x.linger ≤ 60 → x.countdown ≤ 60 → x.doorsLead ≤ x.horizon →
       ∀ v : ScheduleUnit, v = ({ s.schedule with settings := x } : ScheduleUnit).recompute.1 →
       exec (.setPhaseTimes p) s = .next (State.answered (u.withSchedule
         (v, ({ s.schedule with settings := x } : ScheduleUnit).recompute.2
           ++ if s.schedule.settings.countdown = x.countdown then []
             else (v.table.filter fun r => r.phase = .listed || r.phase = .boarding).map fun r => .changed r.number)) p q .done)))
   ∧ (∀ (s u : State) (p : Port) (q : Packet) (n : Nat), s.Takes .schedule p q (.cancelScreening n) u →
     (findScreening s.schedule.table n = none → exec (.cancelScreening p) s = .next (u.answered p q .noSuch))
     ∧ ∀ r, findScreening s.schedule.table n = some r →
       ((r.phase = .running ∨ r.phase = .closed) → exec (.cancelScreening p) s = .next (u.answered p q .tooLate))
       ∧ (r.phase = .cancelled → exec (.cancelScreening p) s = .next (u.answered p q .done))
       ∧ (r.phase = .pending ∨ r.phase = .listed ∨ r.phase = .boarding →
         exec (.cancelScreening p) s = .next (State.answered (u.withSchedule
           ({ s.schedule with
              table := insertScreening { r with phase := .cancelled, cancelTime := some s.clock.runTime } s.schedule.table },
            [.phaseChanged n .cancelled])) p q .done)))
   ∧ ∀ (s u : State) (p : Port) (q : Packet) (n : Nat), s.Takes .schedule p q (.dropScreening n) u →
     (findScreening s.schedule.table n = none → exec (.dropScreening p) s = .next (u.answered p q .noSuch))
     ∧ ((findScreening s.schedule.table n).isSome = true →
       exec (.dropScreening p) s = .next (State.answered (u.withSchedule
         ({ s.schedule with table := s.schedule.table.filter fun r => r.number ≠ n }, [.removed n])) p q .done)))
  ∧ (∀ (s : State) (es : List ScheduleEvent) (seat three : ScheduleEvent → Bool),
       (∀ e, seat e = match e with | .added .. | .capacityChanged .. | .phaseChanged .. | .removed .. => true | _ => false) →
       (∀ e, three e = match e with | .phaseChanged .. | .removed .. => true | _ => false) →
       s.sendScheduleAll es = { s with mail := { s.mail with
         scheduleToSeat := s.mail.scheduleToSeat ++ es.filter seat
         scheduleToNotice := s.mail.scheduleToNotice ++ es.filter three
         scheduleToBuilder := s.mail.scheduleToBuilder ++ es.filter fun e =>
           match e with | .phaseChanged .. | .removed .. | .changed .. | .titleChanged .. => true | _ => false } })
  ∧ (∀ (s : State) (x : ScheduleUnit × List ScheduleEvent), s.withSchedule x = State.sendScheduleAll { s with schedule := x.1 } x.2)
  ∧ (∀ (u : ScheduleUnit) (next : Screening → Screening), (∀ r, next r = if r.phase = .cancelled then r
      else if r.phase.number < (u.target r).number then { r with phase := u.target r } else r) →
     u.recompute = ({ u with table := u.table.map next }, u.table.filterMap fun r =>
       if (next r).phase = r.phase then none else some (.phaseChanged r.number (next r).phase)))
  ∧ (∀ (table : List Screening) (n : Nat) (r : Screening), table.Pairwise (fun x y => x.number < y.number) →
     (findScreening table n = some r ↔ r ∈ table ∧ r.number = n))
  ∧ (∀ (table : List Screening) (n : Nat), findScreening table n = none ↔ ∀ x ∈ table, x.number ≠ n)
  ∧ ∀ (r : Screening) (before same after : List Screening), (∀ x ∈ before, x.number < r.number) →
     (same = [] ∨ ∃ x, same = [x] ∧ x.number = r.number) → (∀ x ∈ after, r.number < x.number) →
     insertScreening r (before ++ same ++ after) = before ++ r :: after

/-- R44, R51, R52, R54, R55, R56: the ranges of LOAD SCREENING and AMEND SCREENING, field by field. LOAD SCREENING checks ranges, E,
the day and the title; a new record is PENDING at first and announced as added, and a record of its number is replaced in its place,
announcing what changed; the phase computation follows. AMEND SCREENING checks presence, ranges, E and phase, and changes the fields
present, with the capacity event, then the phase event of an amended delay, then the row event. -/
def Obligations.ScreeningsAreLoadedAndAmended : Prop :=
  (∀ f : ScreeningFields, f.inRange = true ↔
     1 ≤ f.number ∧ 1 ≤ f.auditorium ∧ f.auditorium ≤ 24 ∧ f.title ≤ 127 ∧ f.showTime ≤ 1439 ∧ f.delay ≤ 120 ∧ 1 ≤ f.capacity
       ∧ f.capacity ≤ 999 ∧ f.badges.length ≤ 4 ∧ (∀ c ∈ f.badges, 1 ≤ c ∧ c ≤ 6) ∧ f.badges.Nodup ∧ f.note.length ≤ 24)
  ∧ (∀ (delay capacity : Option Nat) (badges : Option (List Nat)) (note : Option (List Byte)),
     (AmendFields.mk delay capacity badges note).inRange = true ↔
       (∀ d, delay = some d → d ≤ 120) ∧ (∀ c, capacity = some c → 1 ≤ c ∧ c ≤ 999)
         ∧ (∀ b, badges = some b → b.length ≤ 4 ∧ (∀ c ∈ b, 1 ≤ c ∧ c ≤ 6) ∧ b.Nodup)
         ∧ ∀ t, note = some t → t.length ≤ 24)
  ∧ (∀ (s u : State) (p : Port) (q : Packet) (f : ScreeningFields), s.Takes .schedule p q (.loadScreening f) u →
     (f.inRange = false ∨ 1439 < f.showTime + f.delay
         ∨ ((∃ n, s.schedule.viewMinute = some n) ∧ f.day ≠ s.schedule.viewDay ∧ f.day ≠ s.schedule.viewDay + 1) →
       exec (.loadScreening p) s = .next (u.answered p q .outOfRange))
     ∧ (f.inRange = true → f.showTime + f.delay ≤ 1439 →
         (s.schedule.viewMinute = none ∨ f.day = s.schedule.viewDay ∨ f.day = s.schedule.viewDay + 1) →
       (s.schedule.titles[f.title]? = some none → exec (.loadScreening p) s = .next (u.answered p q .noSuch))
       ∧ ∀ (title : Title) (r : Screening), s.schedule.titles[f.title]? = some (some title) →
         r = ⟨f.number, f.day, f.auditorium, f.title, f.showTime, f.delay, f.capacity, f.badges,
           if f.note = [] then none else some f.note, Phase.later .pending (s.schedule.target
             ⟨f.number, f.day, f.auditorium, f.title, f.showTime, f.delay, f.capacity, f.badges, none, .pending, none⟩), none⟩ →
         (findScreening s.schedule.table f.number = none → s.schedule.table.length < 96 →
           exec (.loadScreening p) s = .next (State.answered (u.withSchedule
             ({ s.schedule with table := insertScreening r s.schedule.table },
               .added f.number f.capacity :: if r.phase = .pending then [] else [.phaseChanged f.number r.phase])) p q .done))
         ∧ ∀ old, findScreening s.schedule.table f.number = some old →
           exec (.loadScreening p) s = .next (State.answered (u.withSchedule
             ({ s.schedule with table := insertScreening r s.schedule.table },
               (if f.capacity = old.capacity then [] else [.capacityChanged f.number f.capacity]) ++ [.changed f.number]
                 ++ if r.phase = old.phase then [] else [.phaseChanged f.number r.phase])) p q .done)))
  ∧ (∀ (s u : State) (p : Port) (q : Packet) (n : Nat) (delay capacity : Option Nat) (badges : Option (List Nat))
       (note : Option (List Byte)), s.Takes .schedule p q (.amendScreening n delay capacity badges note) u →
       (findScreening s.schedule.table n = none → exec (.amendScreening p) s = .next (u.answered p q .noSuch))
       ∧ ∀ r, findScreening s.schedule.table n = some r →
         ((AmendFields.mk delay capacity badges note).inRange = false ∨ (∃ d, delay = some d ∧ 1439 < r.showTime + d) →
           exec (.amendScreening p) s = .next (u.answered p q .outOfRange))
         ∧ ((AmendFields.mk delay capacity badges note).inRange = true → (∀ d, delay = some d → r.showTime + d ≤ 1439) →
           ((delay.isSome = true ∧ 3 ≤ r.phase.number) ∨ (capacity.isSome = true ∧ 4 ≤ r.phase.number) →
             exec (.amendScreening p) s = .next (u.answered p q .tooLate))
           ∧ (¬(delay.isSome = true ∧ 3 ≤ r.phase.number) → ¬(capacity.isSome = true ∧ 4 ≤ r.phase.number) →
             ∀ x y : Screening,
               x = { r with
                 delay := delay.getD r.delay, capacity := capacity.getD r.capacity, badges := badges.getD r.badges
                 note := match note with | none => r.note | some t => if t = [] then none else some t } →
               y = (if delay.isSome ∧ r.phase ≠ .cancelled then { x with phase := x.phase.later (s.schedule.target x) } else x) →
               exec (.amendScreening p) s = .next (State.answered (u.withSchedule
                 ({ s.schedule with table := insertScreening y s.schedule.table },
                   (if x.capacity = r.capacity then [] else [.capacityChanged r.number x.capacity])
                     ++ (if y.phase = r.phase then [] else [.phaseChanged r.number y.phase])
                     ++ if x.delay = r.delay ∧ x.badges = r.badges ∧ x.note = r.note then [] else [.changed r.number])) p q .done))))

/-- R53: a LOAD SCREENING of a new number that finds the table holding 96 records gives up the CLOSED record with the earliest
business day, then the earliest E, then the lowest number: it is removed and announced before the new one. With no CLOSED record the
answer is FULL and the table is unchanged. A LOAD SCREENING of an existing number, and one refused at an earlier check, removes no
other record. A day is accepted where the view minute is NONE, or it is the view day or the next (R51). The new record joins as in
ScreeningsAreLoadedAndAmended. -/
def Obligations.FullTableGivesUpTheEarliestClosed : Prop :=
  (∀ (s u : State) (p : Port) (q : Packet) (f : ScreeningFields) (title : Title), s.Takes .schedule p q (.loadScreening f) u →
    f.inRange = true → f.showTime + f.delay ≤ 1439 → s.schedule.dayAccepted f.day = true →
    s.schedule.titles[f.title]? = some (some title) → findScreening s.schedule.table f.number = none →
    96 ≤ s.schedule.table.length →
    ((∀ r ∈ s.schedule.table, r.phase ≠ .closed) → exec (.loadScreening p) s = .next (u.answered p q .full))
    ∧ ∀ r ∈ s.schedule.table, r.phase = .closed →
      (∀ x ∈ s.schedule.table, x.phase = .closed → x ≠ r → r.day < x.day ∨ r.day = x.day ∧ (r.start < x.start
        ∨ r.start = x.start ∧ r.number < x.number)) →
      ∃ v : ScheduleUnit, v = { s.schedule with table := s.schedule.table.filter fun x => x.number ≠ r.number }
        ∧ exec (.loadScreening p) s = .next (State.answered (u.withSchedule
          ((v.create f).1, .removed r.number :: (v.create f).2)) p q .done))
  ∧ (∀ (v : ScheduleUnit) (day : Nat),
    v.dayAccepted day = true ↔ v.viewMinute = none ∨ day = v.viewDay ∨ day = v.viewDay + 1)
  ∧ (∀ (v : ScheduleUnit) (f : ScreeningFields) (r : Screening),
    r = ⟨f.number, f.day, f.auditorium, f.title, f.showTime, f.delay, f.capacity, f.badges,
      if f.note = [] then none else some f.note, Phase.later .pending (v.target
        ⟨f.number, f.day, f.auditorium, f.title, f.showTime, f.delay, f.capacity, f.badges, none, .pending, none⟩), none⟩ →
    v.create f = ({ v with table := insertScreening r v.table },
      .added f.number f.capacity :: if r.phase = .pending then [] else [.phaseChanged f.number r.phase]))
  ∧ ∀ (s t : State) (p : Port) (r : Screening), s.schedule.Sound → exec (.loadScreening p) s = .next t →
    r ∈ s.schedule.table → r ∉ t.schedule.table →
    (∃ q f, (s.handoffOf .schedule p).head? = some q ∧ q.directive = some (.loadScreening f)
      ∧ (f.number = r.number ∨ (r.phase = .closed ∧ findScreening s.schedule.table f.number = none
        ∧ 96 ≤ s.schedule.table.length)))

/-- R44, R50, R57, 00_scope 5.4: the screening table stays in ascending screening number, holds at most 96 records, and a record has
a cancel time exactly while it is CANCELLED. Every step keeps it. -/
def Obligations.ScreeningTableStaysInOrder : Prop :=
  ∀ s t : State, s.schedule.Sound → step s = .next t → t.schedule.Sound

/-- L4 (R48): whatever command takes place other than LOAD SCREENING, a screening that stays in the table keeps its phase or moves
forward along PENDING, LISTED, BOARDING, RUNNING, CLOSED, or from PENDING, LISTED or BOARDING to CANCELLED, or from CANCELLED to
CLOSED. A LOAD SCREENING leaves every record of another number that stays in the table as it was. -/
def Obligations.PhasesMoveOnlyForward : Prop :=
  (∀ (i : Instr) (s t : State) (r r' : Screening), s.schedule.Sound → exec i s = .next t → (∀ p, i ≠ .loadScreening p) →
    r ∈ s.schedule.table → r' ∈ t.schedule.table → r'.number = r.number →
    r'.phase = r.phase
      ∨ (r.phase.number < r'.phase.number ∧ r'.phase.number ≤ 4)
      ∨ (r.phase.number ≤ 2 ∧ r'.phase = .cancelled)
      ∨ (r.phase = .cancelled ∧ r'.phase = .closed))
  ∧ ∀ (s t : State) (p : Port) (r r' : Screening), s.schedule.Sound → exec (.loadScreening p) s = .next t →
    r ∈ s.schedule.table → r' ∈ t.schedule.table → r'.number = r.number →
    (∀ q f, (s.handoffOf .schedule p).head? = some q → q.directive = some (.loadScreening f) → f.number ≠ r.number) → r' = r

/-! ### Chapter 4: seat tallies and holds -/

/-- R80, R81: the raw band is the first of SOLD_OUT, FEW, FILLING, PLENTY whose condition holds; a band rises at once, and falls
step by step, stopping at the first band whose stay condition holds and at the raw band at the latest. -/
def Obligations.BandsRiseAtOnceAndFallByStages : Prop :=
  (∀ (b : BandSettings) (left fill : Nat),
    rawBand b left fill =
      if left = 0 then .soldOut
      else if left ≤ b.fewSeats ∨ fill ≥ b.fewFill then .few
      else if fill ≥ b.fillingFill then .filling
      else .plenty)
  ∧ Band.plenty.number < Band.filling.number ∧ Band.filling.number < Band.few.number ∧ Band.few.number < Band.soldOut.number
  ∧ (∀ (b : BandSettings) (left fill capacity : Nat), left ≤ capacity → capacity ≤ b.fewSeats → 0 < left →
    rawBand b left fill = .few)
  ∧ (∀ (b : BandSettings) (left fill : Nat),
    (stays b left fill .soldOut = true ↔ left < b.reopenSeats)
    ∧ (stays b left fill .few = true ↔ left ≤ b.fewSeats + b.marginSeats ∨ fill ≥ b.fewFill - b.marginFill)
    ∧ (stays b left fill .filling = true ↔ fill ≥ b.fillingFill - b.marginFill)
    ∧ stays b left fill .plenty = false)
  ∧ ∀ (b : BandSettings) (left fill : Nat) (previous : Band),
    (previous.number ≤ (rawBand b left fill).number → newBand b left fill previous = rawBand b left fill)
    ∧ ((rawBand b left fill).number < previous.number →
      (rawBand b left fill).number ≤ (newBand b left fill previous).number
      ∧ (newBand b left fill previous).number ≤ previous.number
      ∧ (∀ passed : Band, (newBand b left fill previous).number < passed.number → passed.number ≤ previous.number →
          stays b left fill passed = false)
      ∧ (newBand b left fill previous = rawBand b left fill ∨ stays b left fill (newBand b left fill previous) = true))

/-- R78, R79, R82, R83: the availability computation for a tally: left, fill and oversold flag from the counts, the band from R80
and R81, the figure from the band; "figure changed" exactly when the shown pair moves, before it OVERSOLD raised when the flag
becomes set, or ended when the last oversold tally's flag clears. The counts themselves and every other tally stay. Several tallies
are computed one after another. -/
def Obligations.AvailabilityIsComputed : Prop :=
  ∀ (u : SeatUnit) (t : Tally), ∃ (new : Tally) (count : Nat),
    u.compute t = ({ u with tallies := insertTally new u.tallies, oversold := count },
      (if t.oversold = new.oversold then []
       else if new.oversold = true then [.condition (.raise .oversold)]
       else if count = 0 then [.condition (.ends .oversold)] else [])
        ++ if t.band = new.band ∧ t.figure = new.figure then [] else [.figure t.number])
    ∧ new.number = t.number ∧ new.capacity = t.capacity ∧ new.sold = t.sold ∧ new.held = t.held ∧ new.blocked = t.blocked
    ∧ new.left = (if t.sold + t.held + t.blocked < t.capacity then t.capacity - (t.sold + t.held + t.blocked) else 0)
    ∧ new.fill = (t.capacity - new.left) * 1000 / t.capacity
    ∧ (new.oversold = true ↔ t.capacity < t.sold + t.blocked)
    ∧ new.band = newBand u.bands new.left new.fill t.band
    ∧ new.figure = (match new.band with
        | .plenty | .soldOut => none
        | .filling => if 10 ≤ new.left then some (new.left / 10 * 10) else some new.left
        | .few => some new.left)
    ∧ count = (if t.oversold = new.oversold then u.oversold else if new.oversold = true then u.oversold + 1 else u.oversold - 1)
    ∧ findTally (u.compute t).1.tallies t.number = some new
    ∧ (∀ x ∈ u.tallies, x.number ≠ t.number → x ∈ (u.compute t).1.tallies)
    ∧ (∀ x ∈ (u.compute t).1.tallies, x = new ∨ x ∈ u.tallies)
    ∧ (∀ before same after : List Tally, u.tallies = before ++ same ++ after → (∀ x ∈ before, x.number < t.number) →
        (same = [] ∨ ∃ x, same = [x] ∧ x.number = t.number) → (∀ x ∈ after, t.number < x.number) →
        (u.compute t).1.tallies = before ++ new :: after)
    ∧ u.computeAll [] = (u, [])
    ∧ ∀ rest, u.computeAll (t :: rest)
        = (((u.compute t).1.computeAll rest).1, (u.compute t).2 ++ ((u.compute t).1.computeAll rest).2)

/-- R64 to R67, R76, R84: what the seat unit does at the schedule unit's events, at a run-time second and at SET BANDS. A new
screening gets a tally with its counts at 0; a capacity is taken by the tally it names; CLOSED and CANCELLED remove the screening's
holds; a removal takes the holds and the tally, and ends OVERSOLD when the last oversold tally goes; the holds due at the head of
the list leave it, each tally that lost one computed once; band settings in range are taken and every tally is computed once. What
it sends goes, in order, "figure changed" to the board builder and a condition to the link unit. -/
def Obligations.SeatUnitFollowsTheSchedule : Prop :=
  ((∀ (s u : State) (n c : Nat) (rest : List ScheduleEvent), s.mail.scheduleToSeat = .added n c :: rest →
     u = { s with mail := { s.mail with scheduleToSeat := rest } } →
     (findTally s.seat.tallies n = none →
       exec .screeningAdded s = .next (u.withSeat (s.seat.compute ⟨n, c, 0, 0, 0, 0, 0, .plenty, none, false⟩)))
     ∧ ∀ t, findTally s.seat.tallies n = some t →
       exec .screeningAdded s = .next (u.withSeat (s.seat.compute { t with capacity := c })))
   ∧ (∀ (s u : State) (n c : Nat) (rest : List ScheduleEvent), s.mail.scheduleToSeat = .capacityChanged n c :: rest →
     u = { s with mail := { s.mail with scheduleToSeat := rest } } →
     (findTally s.seat.tallies n = none → exec .capacityChanged s = .next u)
     ∧ ∀ t, findTally s.seat.tallies n = some t →
       exec .capacityChanged s = .next (u.withSeat (s.seat.compute { t with capacity := c })))
   ∧ (∀ (s u : State) (n : Nat) (phase : Phase) (rest : List ScheduleEvent),
     s.mail.scheduleToSeat = .phaseChanged n phase :: rest → u = { s with mail := { s.mail with scheduleToSeat := rest } } →
     (phase ≠ .closed → phase ≠ .cancelled → exec .seatPhaseChanged s = .next u)
     ∧ ∀ t, phase = .closed ∨ phase = .cancelled → findTally s.seat.tallies n = some t →
       exec .seatPhaseChanged s = .next (u.withSeat
         (SeatUnit.compute { s.seat with holds := s.seat.holds.filter fun h => h.screening ≠ n } { t with held := 0 })))
   ∧ (∀ (s u : State) (n : Nat) (rest : List ScheduleEvent), s.mail.scheduleToSeat = .removed n :: rest →
     u = { s with mail := { s.mail with scheduleToSeat := rest } } →
     (findTally s.seat.tallies n = none → exec .seatScreeningRemoved s = .next u)
     ∧ ∀ t count, findTally s.seat.tallies n = some t →
       count = (if t.oversold then s.seat.oversold - 1 else s.seat.oversold) →
       exec .seatScreeningRemoved s = .next (u.withSeat
         ({ s.seat with
            holds := s.seat.holds.filter fun h => h.screening ≠ n
            tallies := s.seat.tallies.filter fun x => x.number ≠ n
            oversold := count },
          if t.oversold = true ∧ count = 0 then [.condition (.ends .oversold)] else [])))
   ∧ ∀ (s : State) (t : Nat) (gone kept : List Hold), s.nextSecond .seat = some t → s.seat.holds = gone ++ kept →
     (∀ h ∈ gone, h.expiry ≤ t) → (∀ h, kept.head? = some h → t < h.expiry) →
     exec .holdExpiry s = .next ((s.dropSecond .seat).withSeat (SeatUnit.computeAll { s.seat with holds := kept }
       ((s.seat.tallies.filter fun x => gone.any fun h => h.screening = x.number).map fun x =>
         { x with held := x.held - ((gone.filter fun h => h.screening = x.number).map Hold.seats).sum }))))
  ∧ (∀ (s u : State) (p : Port) (q : Packet) (b : BandSettings), s.Takes .seat p q (.setBands b) u →
       ((1 ≤ b.fewSeats ∧ b.fewSeats ≤ 99 ∧ 500 ≤ b.fewFill ∧ b.fewFill ≤ 1000 ∧ 100 ≤ b.fillingFill ∧ b.fillingFill ≤ 900
           ∧ b.marginSeats ≤ 20 ∧ b.marginFill ≤ 100 ∧ 1 ≤ b.reopenSeats ∧ b.reopenSeats ≤ 20 ∧ b.fillingFill < b.fewFill) →
         exec (.setBands p) s = .next (State.answered
           (u.withSeat (SeatUnit.computeAll { s.seat with bands := b } s.seat.tallies)) p q .done))
       ∧ ((b.fewSeats < 1 ∨ 99 < b.fewSeats ∨ b.fewFill < 500 ∨ 1000 < b.fewFill ∨ b.fillingFill < 100 ∨ 900 < b.fillingFill
           ∨ 20 < b.marginSeats ∨ 100 < b.marginFill ∨ b.reopenSeats < 1 ∨ 20 < b.reopenSeats ∨ b.fewFill ≤ b.fillingFill) →
         exec (.setBands p) s = .next (u.answered p q .outOfRange)))
  ∧ (∀ (s : State) (x : SeatUnit × List SeatEvent), s.withSeat x = { s with
       seat := x.1
       mail := { s.mail with
         figuresToBuilder := s.mail.figuresToBuilder ++ x.2.filterMap fun e => match e with | .figure n => some n | _ => none
         conditions := put s.mail.conditions Block.seat.index (s.mail.conditions[Block.seat.index]
           ++ x.2.filterMap fun e => match e with | .condition c => some c | _ => none) } })
  ∧ (∀ (ts : List Tally) (n : Nat), findTally ts n = ts.find? fun t => decide (t.number = n))
  ∧ ∀ (hs : List Hold) (n : Nat), findHold hs n = hs.find? fun h => decide (h.id = n)

/-- R68 to R71, R73 to R75: the six tally messages, taken for a screening that is present and neither CLOSED nor CANCELLED. Each
changes the counts it names, stopping at 999 and at 0 with DONE_CLAMPED, runs the computation, and answers; a refund below 0 raises
TALLY_UNDERFLOW; a hold joins the list behind every hold that expires no later, and is DUPLICATE or FULL in the order of its checks;
CONFIRM and RELEASE remove the hold. Of any of the six, a field outside its range is answered OUT_OF_RANGE before every other
check, and a CONFIRM or RELEASE of a hold that is not there NO_SUCH, with nothing changed. -/
def Obligations.TallyMessagesCountSeats : Prop :=
  ((∀ (s u : State) (p : Port) (q : Packet) (scr n : Nat) (r : Screening) (t : Tally), s.Takes .seat p q (.sell scr n) u →
     1 ≤ scr → 1 ≤ n → n ≤ 50 → findScreening s.schedule.table scr = some r → r.phase ≠ .closed → r.phase ≠ .cancelled →
     findTally s.seat.tallies scr = some t →
     exec (.sell p) s = .next (State.answered (u.withSeat (s.seat.compute { t with sold := min (t.sold + n) 999 })) p q
       (if 999 < t.sold + n then .doneClamped else .done)))
   ∧ (∀ (s u : State) (p : Port) (q : Packet) (scr n : Nat) (r : Screening) (t : Tally), s.Takes .seat p q (.refund scr n) u →
     1 ≤ scr → 1 ≤ n → n ≤ 50 → findScreening s.schedule.table scr = some r → r.phase ≠ .closed → r.phase ≠ .cancelled →
     findTally s.seat.tallies scr = some t →
     exec (.refund p) s = .next (State.answered
       (State.withSeat (if t.sold < n then u.sendCondition .seat (.raise .tallyUnderflow) else u)
         (s.seat.compute { t with sold := t.sold - n })) p q (if t.sold < n then .doneClamped else .done)))
   ∧ (∀ (s u : State) (p : Port) (q : Packet) (scr sold blocked : Nat) (r : Screening) (t : Tally),
     s.Takes .seat p q (.setSold scr sold blocked) u → 1 ≤ scr → sold ≤ 999 → blocked ≤ 999 →
     findScreening s.schedule.table scr = some r → r.phase ≠ .closed → r.phase ≠ .cancelled →
     findTally s.seat.tallies scr = some t →
     exec (.setSold p) s = .next (State.answered
       (u.withSeat (s.seat.compute { t with sold := sold, blocked := blocked })) p q .done))
   ∧ (∀ (s u : State) (p : Port) (q : Packet) (scr id seats minutes : Nat) (r : Screening) (t : Tally) (h : Hold)
     (before after : List Hold), s.Takes .seat p q (.hold scr id seats minutes) u → 1 ≤ scr → 1 ≤ id → 1 ≤ seats → seats ≤ 20 →
     1 ≤ minutes → minutes ≤ 30 → findScreening s.schedule.table scr = some r → r.phase ≠ .closed → r.phase ≠ .cancelled →
     findTally s.seat.tallies scr = some t → (∀ x ∈ s.seat.holds, x.id ≠ id) → s.seat.holds.length ≤ 63 →
     t.held + seats ≤ 999 → h = ⟨id, scr, seats, min (s.clock.runTime + 60 * minutes) 4294967295⟩ →
     s.seat.holds = before ++ after → (∀ x ∈ before, x.expiry ≤ h.expiry) →
     (∀ x, after.head? = some x → h.expiry < x.expiry) →
     exec (.hold p) s = .next (State.answered (u.withSeat
       (SeatUnit.compute { s.seat with holds := before ++ h :: after } { t with held := t.held + seats })) p q .done))
   ∧ (∀ (s u : State) (p : Port) (q : Packet) (id : Nat) (r : Screening) (t : Tally) (h : Hold),
     s.Takes .seat p q (.confirm id) u → 1 ≤ id → findHold s.seat.holds id = some h →
     findScreening s.schedule.table h.screening = some r → r.phase ≠ .closed → r.phase ≠ .cancelled →
     findTally s.seat.tallies h.screening = some t →
     exec (.confirm p) s = .next (State.answered (u.withSeat
       (SeatUnit.compute { s.seat with holds := s.seat.holds.filter fun x => x.id ≠ id }
         { t with held := t.held - h.seats, sold := min (t.sold + h.seats) 999 })) p q
       (if 999 < t.sold + h.seats then .doneClamped else .done)))
   ∧ ∀ (s u : State) (p : Port) (q : Packet) (id : Nat) (r : Screening) (t : Tally) (h : Hold),
     s.Takes .seat p q (.release id) u → 1 ≤ id → findHold s.seat.holds id = some h →
     findScreening s.schedule.table h.screening = some r → r.phase ≠ .closed → r.phase ≠ .cancelled →
     findTally s.seat.tallies h.screening = some t →
     exec (.release p) s = .next (State.answered (u.withSeat
       (SeatUnit.compute { s.seat with holds := s.seat.holds.filter fun x => x.id ≠ id }
         { t with held := t.held - h.seats })) p q .done))
  ∧ ((∀ (s u : State) (p : Port) (q : Packet) (scr id seats minutes : Nat) (r : Screening) (t : Tally),
       s.Takes .seat p q (.hold scr id seats minutes) u → 1 ≤ scr → 1 ≤ id → 1 ≤ seats → seats ≤ 20 → 1 ≤ minutes →
       minutes ≤ 30 → findScreening s.schedule.table scr = some r → r.phase ≠ .closed → r.phase ≠ .cancelled →
       findTally s.seat.tallies scr = some t →
       ((∃ x ∈ s.seat.holds, x.id = id) → exec (.hold p) s = .next (u.answered p q .duplicate))
       ∧ ((∀ x ∈ s.seat.holds, x.id ≠ id) → 64 ≤ s.seat.holds.length →
         exec (.hold p) s = .next ((u.sendCondition .seat (.raise .holdsFull)).answered p q .full))
       ∧ ((∀ x ∈ s.seat.holds, x.id ≠ id) → s.seat.holds.length ≤ 63 → 999 < t.held + seats →
         exec (.hold p) s = .next (u.answered p q .full)))
     ∧ (∀ (s u : State) (p : Port) (q : Packet) (id : Nat), 1 ≤ id → (∀ x ∈ s.seat.holds, x.id ≠ id) →
       (s.Takes .seat p q (.confirm id) u → exec (.confirm p) s = .next (u.answered p q .noSuch))
       ∧ (s.Takes .seat p q (.release id) u → exec (.release p) s = .next (u.answered p q .noSuch)))
     ∧ ∀ (s u : State) (p : Port) (q : Packet) (scr n sold blocked id seats minutes : Nat),
       (scr = 0 ∨ n = 0 ∨ 50 < n →
         (s.Takes .seat p q (.sell scr n) u → exec (.sell p) s = .next (u.answered p q .outOfRange))
         ∧ (s.Takes .seat p q (.refund scr n) u → exec (.refund p) s = .next (u.answered p q .outOfRange)))
       ∧ (scr = 0 ∨ 999 < sold ∨ 999 < blocked → s.Takes .seat p q (.setSold scr sold blocked) u →
         exec (.setSold p) s = .next (u.answered p q .outOfRange))
       ∧ (scr = 0 ∨ id = 0 ∨ seats = 0 ∨ 20 < seats ∨ minutes = 0 ∨ 30 < minutes →
         s.Takes .seat p q (.hold scr id seats minutes) u → exec (.hold p) s = .next (u.answered p q .outOfRange))
       ∧ (s.Takes .seat p q (.confirm 0) u → exec (.confirm p) s = .next (u.answered p q .outOfRange))
       ∧ (s.Takes .seat p q (.release 0) u → exec (.release p) s = .next (u.answered p q .outOfRange)))

/-- L12 (R68): each of the six tally messages, taken while its screening is absent, CLOSED or CANCELLED, or has no tally, leaves the
whole seat unit as it was and sends nothing; once its ranges have passed (R69, R71, R73, R74) the answer is NO_SUCH where the record
or the tally is missing, and TOO_LATE where the record is CLOSED or CANCELLED. For CONFIRM and RELEASE the screening is the hold's.
-/
def Obligations.ClosedScreeningsTakeNoSeats : Prop :=
  (∀ (s t : State) (p : Port) (i : Instr) (q : Packet) (d : Directive) (scr : Nat),
    (s.handoffOf .seat p).head? = some q → q.directive = some d →
    ((∃ n, i = .sell p ∧ d = .sell scr n) ∨ (∃ n, i = .refund p ∧ d = .refund scr n)
      ∨ (∃ a b, i = .setSold p ∧ d = .setSold scr a b) ∨ (∃ a b c, i = .hold p ∧ d = .hold scr a b c)
      ∨ (∃ id h, i = .confirm p ∧ d = .confirm id ∧ findHold s.seat.holds id = some h ∧ h.screening = scr)
      ∨ (∃ id h, i = .release p ∧ d = .release id ∧ findHold s.seat.holds id = some h ∧ h.screening = scr)) →
    ((∀ r, findScreening s.schedule.table scr = some r → r.phase = .closed ∨ r.phase = .cancelled)
      ∨ findTally s.seat.tallies scr = none) →
    exec i s = .next t → t.seat = s.seat ∧ t.mail = s.mail)
  ∧ ∀ (s u : State) (p : Port) (i : Instr) (q : Packet) (d : Directive) (scr : Nat), s.Takes .seat p q d u →
    ((∃ n, i = .sell p ∧ d = .sell scr n ∧ 1 ≤ scr ∧ 1 ≤ n ∧ n ≤ 50)
      ∨ (∃ n, i = .refund p ∧ d = .refund scr n ∧ 1 ≤ scr ∧ 1 ≤ n ∧ n ≤ 50)
      ∨ (∃ sold blocked, i = .setSold p ∧ d = .setSold scr sold blocked ∧ 1 ≤ scr ∧ sold ≤ 999 ∧ blocked ≤ 999)
      ∨ (∃ id seats minutes, i = .hold p ∧ d = .hold scr id seats minutes ∧ 1 ≤ scr ∧ 1 ≤ id ∧ 1 ≤ seats ∧ seats ≤ 20
          ∧ 1 ≤ minutes ∧ minutes ≤ 30)
      ∨ (∃ id h, i = .confirm p ∧ d = .confirm id ∧ 1 ≤ id ∧ findHold s.seat.holds id = some h ∧ h.screening = scr)
      ∨ (∃ id h, i = .release p ∧ d = .release id ∧ 1 ≤ id ∧ findHold s.seat.holds id = some h ∧ h.screening = scr)) →
    ((findScreening s.schedule.table scr = none ∨ findTally s.seat.tallies scr = none) →
      exec i s = .next (u.answered p q .noSuch))
    ∧ ∀ r t, findScreening s.schedule.table scr = some r → findTally s.seat.tallies scr = some t →
      (r.phase = .closed ∨ r.phase = .cancelled) → exec i s = .next (u.answered p q .tooLate)

/-- L1, L2, L3 (R72, R78), R79: every tally's left is C − S − H − B or 0, its held count the sum of its screening's holds; the hold
list holds at most 64, no id twice, in order of expiry; the oversold count counts the oversold flags. Every step keeps them. -/
def Obligations.SeatLawsAreKept : Prop :=
  ∀ s t : State, s.seat.Sound → step s = .next t → t.seat.Sound

/-! ### Chapter 5: boards -/

/-- R91, R92, R87: the row list a rebuild gives: the entries of admitted records, at most 32, in the board's sort order, and none
left out stands before one that is in. Each entry copies five fields of its record. BY_TIME compares by effective start,
auditorium, screening number, and BY_SCREEN by auditorium, effective start, screening number, the smaller value first. -/
def Obligations.RowListHoldsTheFirstAdmitted : Prop :=
  (∀ x y : RowEntry,
    (rowLE .byTime x y = true ↔ x.start < y.start ∨ x.start = y.start ∧ (x.auditorium < y.auditorium
      ∨ x.auditorium = y.auditorium ∧ x.screening ≤ y.screening))
    ∧ (rowLE .byScreen x y = true ↔ x.auditorium < y.auditorium ∨ x.auditorium = y.auditorium ∧ (x.start < y.start
      ∨ x.start = y.start ∧ x.screening ≤ y.screening)))
  ∧ ∀ (d : BoardDef) (day : Nat) (minute : Option Nat) (table : List Screening) (admitted : Screening → Prop),
    (∀ r, admitted r ↔ (∀ xs, d.auditoriums = some xs → r.auditorium ∈ xs) ∧ (∀ t, d.title = some t → r.title = t)
      ∧ (r.phase = .listed ∨ r.phase = .boarding ∨ r.phase = .running
        ∨ r.phase = .cancelled ∧ d.showCancelled = true ∧ minute.isSome = true ∧ r.day = day)) →
    (d.rowList day minute table).length ≤ 32
    ∧ (d.rowList day minute table).Pairwise (fun x y => rowLE d.sort x y = true)
    ∧ (∀ e ∈ d.rowList day minute table, ∃ r ∈ table, admitted r
        ∧ e = ⟨r.number, r.auditorium, r.title, r.showTime + r.delay, r.phase⟩)
    ∧ ∀ r ∈ table, admitted r → r.rowEntry ∈ d.rowList day minute table
        ∨ ((d.rowList day minute table).length = 32 ∧ ∀ e ∈ d.rowList day minute table, rowLE d.sort e r.rowEntry = true)

/-- R92, R93, R95, R96: a board's page count is its entries divided by the rows of a page, rounded up, and at least 1. A rebuild of
all boards: each defined board takes its row list anew, an index past the last page is clamped
to it and the dwell restarts, and the slots whose occupant is now another, or is the screening the event named, are asked for, in
ascending tile number; an undefined board is left alone. -/
def Obligations.RebuildsRedrawWhatMoved : Prop :=
  (∀ n rows : Nat, 1 ≤ rows →
    pageCount n rows = max 1 (if n % rows = 0 then n / rows else n / rows + 1)
    ∧ n ≤ pageCount n rows * rows ∧ (1 ≤ n → (pageCount n rows - 1) * rows < n))
  ∧ (∀ (b : Board) (d : BoardDef) (r : Nat),
    b.occupant d r = if r < d.rowsPerPage then b.rows[b.page * d.rowsPerPage + r]? else none)
  ∧ ∀ (u : BuilderUnit) (table : List Screening) (named : Option Nat) (old new : Fin 8 → Board),
    (∀ i, old i = u.boards[i]) → (∀ i, new i = (u.rebuildAll table named).1.boards[i]) →
    (u.rebuildAll table named).1.viewDay = u.viewDay ∧ (u.rebuildAll table named).1.viewMinute = u.viewMinute
    ∧ (∀ i, (old i).defn = none → new i = old i)
    ∧ (∀ i d p, (old i).defn = some d → p = pageCount (d.rowList u.viewDay u.viewMinute table).length d.rowsPerPage →
      new i = ⟨some d, d.rowList u.viewDay u.viewMinute table, if (old i).page ≤ p - 1 then (old i).page else p - 1,
        if (old i).page ≤ p - 1 then (old i).dwell else some (10 * d.pageDwell)⟩)
    ∧ (u.rebuildAll table named).2 = (List.finRange 8).flatMap fun i =>
        match (old i).defn with
        | none => []
        | some d => ((List.range d.rowsPerPage).filter fun r =>
            decide (((old i).occupant d r).map RowEntry.screening ≠ ((new i).occupant d r).map RowEntry.screening)
              || decide (named.isSome = true ∧ ((new i).occupant d r).map RowEntry.screening = named)).map fun r =>
            TileRequest.redraw (16 * i.val + r) .normal

/-- R90, R92, R94, R101, R102, R103, R107: the board builder at its events, while no page dwell expiry is due: phase, removal,
change and rollover rebuild every defined board; a minute event sets the view minute and redraws the rows whose countdown runs or
has just stopped; figure, title and hour format events redraw the rows they touch: the occupied slots of the current page of each
defined board whose entry meets the test, in ascending tile number, and no other slot; a tenth-tick lowers every dwell. A page dwell
that expires restarts and turns the page; a restart restarts every dwell and asks for every slot. -/
def Obligations.BoardBuilderTakesItsEvents : Prop :=
  ((∀ (s u : State) (e : ScheduleEvent) (rest : List ScheduleEvent), s.mail.scheduleToBuilder = e :: rest →
     s.builder.settled = true → u = { s with mail := { s.mail with scheduleToBuilder := rest } } →
     (∀ n phase, e = .phaseChanged n phase →
       exec .builderPhaseChanged s = .next (u.withBuilder (s.builder.rebuildAll s.schedule.table (some n))))
     ∧ (∀ n, e = .removed n →
       exec .builderScreeningRemoved s = .next (u.withBuilder (s.builder.rebuildAll s.schedule.table none)))
     ∧ (∀ n, e = .changed n →
       exec .screeningChanged s = .next (u.withBuilder (s.builder.rebuildAll s.schedule.table (some n))))
     ∧ ∀ n, e = .titleChanged n →
       exec .titleChanged s = .next (u.requestTiles .builder (s.builder.redrawWhere fun x => x.title = n)))
   ∧ (∀ (s u : State) (e : BuilderEvent) (rest : List BuilderEvent), s.mail.clockToBuilder = e :: rest →
     s.builder.settled = true → u = { s with mail := { s.mail with clockToBuilder := rest } } →
     (∀ day, e = .rollover day → exec .builderRollover s = .next (u.withBuilder
       (BuilderUnit.rebuildAll { s.builder with viewDay := day, viewMinute := some 0 } s.schedule.table none)))
     ∧ (∀ n k, e = .minute n → k = s.schedule.settings.countdown → exec .builderMinuteEvent s = .next (State.requestTiles
         { u with builder := { s.builder with viewMinute := some n } } .builder (s.builder.redrawWhere fun x =>
           decide (x.phase = .listed ∨ x.phase = .boarding)
             && decide ((1 ≤ (x.start : Int) - n ∧ (x.start : Int) - n ≤ k)
               ∨ ∃ m ∈ s.builder.viewMinute, 1 ≤ (x.start : Int) - m ∧ (x.start : Int) - m ≤ k))))
     ∧ (e = .hourFormatChanged →
       exec .hourFormatChanged s = .next (u.requestTiles .builder (s.builder.redrawWhere fun _ => true)))
     ∧ (e = .tick → exec .builderTenthTick s = .next { u with builder := { s.builder with
         boards := mapAll (fun b => if b.defn = none then b else { b with dwell := b.dwell.map (· - 1) }) s.builder.boards } }))
   ∧ ∀ (s : State) (n : Nat) (rest : List Nat), s.mail.figuresToBuilder = n :: rest → s.builder.settled = true →
     exec .figureChanged s = .next (State.requestTiles { s with mail := { s.mail with figuresToBuilder := rest } } .builder
       (s.builder.redrawWhere fun x => x.screening = n)))
  ∧ ((∀ (s : State) (i : Fin 8) (d : BoardDef) (p : Nat), s.builder.boards[i].defn = some d →
       s.builder.boards[i].dwell = some 0 → p = pageCount s.builder.boards[i].rows.length d.rowsPerPage →
       exec (.pageDwellExpiry i.val) s = .next (State.requestTiles
         { s with
           builder := { s.builder with
             boards := put s.builder.boards i { s.builder.boards[i] with
               dwell := some (10 * d.pageDwell)
               page := if p = 1 then s.builder.boards[i].page else (s.builder.boards[i].page + 1) % p } } }
         .builder (if p = 1 then [] else (List.range d.rowsPerPage).map fun r => .redraw (16 * i.val + r) .normal)))
     ∧ ∀ s : State, 0 < s.mail.restarts[Block.builder.index] → s.builder.settled = true →
       exec .boardRestart s = .next (State.requestTiles { s.dropRestart .builder with builder := { s.builder with
         boards := mapAll (fun b => match b.defn with | none => b | some d => { b with dwell := some (10 * d.pageDwell) })
           s.builder.boards } } .builder
         ((List.finRange 8).flatMap fun i => match s.builder.boards[i].defn with
           | none => []
           | some d => (List.range d.rowsPerPage).map fun r => .redraw (16 * i.val + r) .normal)))
  ∧ (∀ (u : BuilderUnit) (test : RowEntry → Bool), u.redrawWhere test = (List.finRange 8).flatMap fun i =>
       match u.boards[i].defn with
       | none => []
       | some d => ((List.range d.rowsPerPage).filter fun r =>
           match u.boards[i].rows[u.boards[i].page * d.rowsPerPage + r]? with | none => false | some e => test e).map fun r =>
             .redraw (16 * i.val + r) .normal)
  ∧ ∀ (s : State) (x : BuilderUnit × List TileRequest), s.withBuilder x = State.requestTiles { s with builder := x.1 } .builder x.2

/-- R88, R89: DEFINE BOARD makes the board defined with the fields given, rebuilds its list, shows page 0 for a full dwell, sizes
the tiles of its row slots and empties those of slots no longer used, and asks for every slot; CLEAR BOARD makes it undefined and
empties its slots; a board above 7 or a field outside its range is OUT_OF_RANGE, and clearing an undefined board NO_SUCH. -/
def Obligations.BoardsAreDefinedAndCleared : Prop :=
  (∀ (s u : State) (p : Port) (q : Packet) (n : Nat) (f : BoardFields), s.Takes .builder p q (.defineBoard n f) u →
    (7 < n ∨ f.auditoriums = some [] ∨ (∃ xs, f.auditoriums = some xs ∧ ((∃ a ∈ xs, a < 1 ∨ 24 < a) ∨ ¬xs.Nodup))
        ∨ (127 < f.title ∧ f.title ≠ 65535) ∨ (f.sort ≠ 1 ∧ f.sort ≠ 2) ∨ f.rowsPerPage < 1 ∨ 16 < f.rowsPerPage
        ∨ f.pageDwell < 2 ∨ 60 < f.pageDwell ∨ 1 < f.showCancelled ∨ f.rowWidth < 27 ∨ 48 < f.rowWidth →
      exec (.defineBoard p) s = .next (u.answered p q .outOfRange))
    ∧ ∀ (h : n < 8) (d : BoardDef) (before : Nat),
      (∀ xs, f.auditoriums = some xs → xs ≠ [] ∧ xs.Nodup ∧ ∀ a ∈ xs, 1 ≤ a ∧ a ≤ 24) → d.auditoriums = f.auditoriums →
      (f.title = 65535 ∧ d.title = none ∨ f.title ≤ 127 ∧ d.title = some f.title) →
      (f.sort = 1 ∧ d.sort = .byTime ∨ f.sort = 2 ∧ d.sort = .byScreen) →
      1 ≤ f.rowsPerPage → f.rowsPerPage ≤ 16 → d.rowsPerPage = f.rowsPerPage → 2 ≤ f.pageDwell → f.pageDwell ≤ 60 →
      d.pageDwell = f.pageDwell → f.showCancelled ≤ 1 → d.showCancelled = decide (f.showCancelled = 1) →
      27 ≤ f.rowWidth → f.rowWidth ≤ 48 → d.rowWidth = f.rowWidth →
      before = (match s.builder.boards[n].defn with | none => 0 | some o => o.rowsPerPage) →
      exec (.defineBoard p) s = .next (State.answered (State.requestTiles
        { u with
          builder := { s.builder with
            boards := s.builder.boards.set n
              ⟨some d, d.rowList s.builder.viewDay s.builder.viewMinute s.schedule.table, 0, some (10 * d.pageDwell)⟩ h } }
        .builder
        ((List.range d.rowsPerPage).map (fun r => TileRequest.size (16 * n + r) d.rowWidth 1)
          ++ (List.range' d.rowsPerPage (before - d.rowsPerPage)).map (fun r => TileRequest.empty (16 * n + r))
          ++ (List.range d.rowsPerPage).map fun r => TileRequest.redraw (16 * n + r) .normal)) p q .done))
  ∧ ∀ (s u : State) (p : Port) (q : Packet) (n : Nat), s.Takes .builder p q (.clearBoard n) u →
    (7 < n → exec (.clearBoard p) s = .next (u.answered p q .outOfRange))
    ∧ ∀ h : n < 8, (s.builder.boards[n].defn = none → exec (.clearBoard p) s = .next (u.answered p q .noSuch))
      ∧ ∀ d, s.builder.boards[n].defn = some d → exec (.clearBoard p) s = .next (State.answered (State.requestTiles
        { u with builder := { s.builder with boards := s.builder.boards.set n ⟨none, [], 0, none⟩ h } } .builder
        ((List.range d.rowsPerPage).map fun r => TileRequest.empty (16 * n + r))) p q .done)

/-- L5 (R92), R93, R89: a row list holds at most 32 entries, no screening twice, in the board's sort order (R87: field by field in
RowListHoldsTheFirstAdmitted); the page index lies below the page count; an undefined board has no rows. Every step keeps it, where
the screening table is in order. -/
def Obligations.RowListsStayInOrder : Prop :=
  ∀ s t : State, s.schedule.Sound → s.builder.Sound → step s = .next t → t.builder.Sound

/-! ### Chapter 6: notices -/

/-- R109, R110: POST NOTICE: its checks in order (ranges, the binding, the table), and DONE: a new notice takes the lowest free
slot, a live number keeps its slot; it goes to the end of the posting order with its expiry worked out from the present run time;
the urgent lists are brought into step, panel by panel; its tile is sized for its class and asked for in its class's lane. A PROMO
notice without a lifetime takes 720 minutes. -/
def Obligations.NoticesArePosted : Prop :=
  (∀ (ns : List Notice) (k : Nat), findNotice ns k = ns.find? fun x => decide (x.number = k))
  ∧ (∀ (s : State) (x : NoticeUnit × List TileRequest), s.withNotice x = State.requestTiles { s with notice := x.1 } .notice x.2)
  ∧ (∀ (v : NoticeUnit) (n : Notice), v.stepPanels n = (List.range 12).foldl (fun x panel =>
      ((x.1.stepPanel n panel).1, x.2 ++ (x.1.stepPanel n panel).2)) (v, []))
  ∧ ∀ (s u : State) (p : Port) (q : Packet) (f : NoticeFields), s.Takes .notice p q (.postNotice f) u →
    (f.number < 1 ∨ 255 < f.number ∨ f.cls < 1 ∨ 3 < f.cls ∨ f.text.length < 1 ∨ 120 < f.text.length ∨ f.targets = []
        ∨ (∃ x ∈ f.targets, 11 < x) ∨ ¬f.targets.Nodup ∨ f.bound = some 0
        ∨ (∃ m, f.lifetime = some m ∧ (m < 1 ∨ 720 < m)) →
      exec (.postNotice p) s = .next (u.answered p q .outOfRange))
    ∧ ∀ c : NoticeClass, c.number = f.cls → 1 ≤ f.number → f.number ≤ 255 → 1 ≤ f.text.length → f.text.length ≤ 120 →
      f.targets ≠ [] → (∀ x ∈ f.targets, x ≤ 11) → f.targets.Nodup → f.bound ≠ some 0 →
      (∀ m, f.lifetime = some m → 1 ≤ m ∧ m ≤ 720) →
      (∀ scr, f.bound = some scr → findScreening s.schedule.table scr = none →
        exec (.postNotice p) s = .next (u.answered p q .noSuch))
      ∧ (∀ scr r, f.bound = some scr → findScreening s.schedule.table scr = some r → (r.phase = .closed ∨ r.phase = .cancelled) →
        exec (.postNotice p) s = .next (u.answered p q .tooLate))
      ∧ ((∀ scr, f.bound = some scr → ∃ r, findScreening s.schedule.table scr = some r ∧ r.phase ≠ .closed
          ∧ r.phase ≠ .cancelled) →
        ((∀ x ∈ s.notice.notices, x.number ≠ f.number) → (∀ k < 32, ∃ x ∈ s.notice.notices, x.slot = k) →
          exec (.postNotice p) s = .next (u.answered p q .full))
        ∧ ∀ (slot : Nat) (life : Option Nat) (n : Notice),
          ((∃ x, findNotice s.notice.notices f.number = some x ∧ x.slot = slot)
            ∨ findNotice s.notice.notices f.number = none ∧ slot < 32 ∧ (∀ x ∈ s.notice.notices, x.slot ≠ slot)
              ∧ ∀ k < slot, ∃ x ∈ s.notice.notices, x.slot = k) →
          life = (if c = .promo ∧ f.lifetime = none then some 720 else f.lifetime) →
          n = ⟨f.number, c, f.text, f.targets, f.bound, life,
            life.map fun m => min (s.clock.runTime + 60 * m) 4294967295, s.clock.runTime, slot⟩ →
          exec (.postNotice p) s = .next (State.answered (u.withNotice
            ((NoticeUnit.stepPanels { s.notice with
                notices := (s.notice.notices.filter fun y => decide (y.number ≠ f.number)) ++ [n] } n).1,
             (NoticeUnit.stepPanels { s.notice with
                notices := (s.notice.notices.filter fun y => decide (y.number ≠ f.number)) ++ [n] } n).2
              ++ if c = .urgent then
                  [.size (224 + slot) s.notice.style.urgentWidth s.notice.style.urgentHeight, .redraw (224 + slot) .urgent]
                else
                  [.size (224 + slot) s.notice.style.normalWidth s.notice.style.normalHeight, .redraw (224 + slot) .normal]))
            p q .done))

/-- R114, R115: how a panel's urgent list, its shown notice and its dwell follow a notice that joins, moves, leaves or is pushed
out: a first notice is shown for a full dwell; a notice that leaves while shown gives way to the one that followed it, wrapping, for
a full dwell; the last to leave empties all three; a full list pushes out its head, whose notice loses the panel from its targets; a
notice pushed out from its last target panel is withdrawn as R111 gives, and its tile is emptied. (That a dwell stays where it is
when another notice's leaving shrinks the list to one is the model's choice: assumption 24.) -/
def Obligations.UrgentListsFollowTheirNotices : Prop :=
  (∀ (x : UrgentState) (n dwell : Nat), n ∉ x.list → x.leave n dwell = x
    ∧ x.join n dwell = if x.list = [] then ⟨[n], some n, some dwell⟩ else ⟨x.list ++ [n], x.shown, x.dwell⟩)
  ∧ (∀ (x : UrgentState) (n dwell : Nat) (before after : List Nat), x.list = before ++ n :: after → n ∉ before → n ∉ after →
    x.leave n dwell =
        (if before ++ after = [] then ⟨[], none, none⟩
         else if x.shown = some n then ⟨before ++ after, (after ++ before).head?, some dwell⟩
         else ⟨before ++ after, x.shown, x.dwell⟩)
      ∧ x.toTail n = ⟨before ++ after ++ [n], x.shown, x.dwell⟩
      ∧ (x.shown = some n → x.dwell = some 0 → x.advance dwell = ⟨x.list, (after ++ before ++ [n]).head?, some dwell⟩))
  ∧ (∀ (u : NoticeUnit) (n y : Notice) (panel : Fin 12) (head : Nat) (rest : List Nat), n.cls = .urgent →
    panel.val ∈ n.targets → n.number ∉ u.urgent[panel].list → u.urgent[panel].list = head :: rest → 3 ≤ rest.length →
    findNotice u.notices head = some y → (∀ k ∈ y.targets, k = panel.val) →
    u.stepPanel n panel.val = ({ u with
      notices := u.notices.filter fun (z : Notice) => z.number ≠ head
      urgent := mapAll (fun x => x.leave head u.style.urgentDwell) (put u.urgent panel
        ((u.urgent[panel].leave head u.style.urgentDwell).join n.number u.style.urgentDwell)) }, [.empty (224 + y.slot)]))
  ∧ ∀ (u v : NoticeUnit) (n : Notice) (panel : Fin 12), u.stepPanel n panel.val = (v, []) →
    (n.cls ≠ .urgent ∨ panel.val ∉ n.targets →
      v = { u with urgent := put u.urgent panel (u.urgent[panel].leave n.number u.style.urgentDwell) })
    ∧ (n.cls = .urgent → panel.val ∈ n.targets → n.number ∈ u.urgent[panel].list →
      v = { u with urgent := put u.urgent panel (u.urgent[panel].toTail n.number) })
    ∧ (n.cls = .urgent → panel.val ∈ n.targets → n.number ∉ u.urgent[panel].list → u.urgent[panel].list.length ≤ 3 →
      v = { u with urgent := put u.urgent panel (u.urgent[panel].join n.number u.style.urgentDwell) })
    ∧ ∀ head rest, n.cls = .urgent → panel.val ∈ n.targets → n.number ∉ u.urgent[panel].list →
      u.urgent[panel].list = head :: rest → 3 ≤ rest.length →
      v = { u with
        notices := u.notices.map fun (y : Notice) =>
          if y.number = head then { y with targets := y.targets.filter (· ≠ panel.val) } else y
        urgent := put u.urgent panel ((u.urgent[panel].leave head u.style.urgentDwell).join n.number u.style.urgentDwell) }

/-- R111, R112, R113, R115, R119, R122: withdrawal, by directive, at the end of a lifetime, and with the bound screening: the notice
leaves the table and every urgent list, and its tile is emptied; several go in ascending notice number. At a run-time second the
withdrawals come first, then each panel with two or more notices loses 1 from its dwell; a panel whose dwell has reached 0 shows the
next. SET NOTICE STYLE takes six settings in range and sizes and asks for the notices of a class whose size changes, in ascending
slot number. A restart gives
every shown notice a full dwell and asks for every live notice's tile. (The model's choice, assumption 5: the dwell that a run-time
second brings to 0 is acted on by a command of its own, and the unit takes nothing else before it.) -/
def Obligations.NoticesAreWithdrawn : Prop :=
  ((∀ (u : NoticeUnit) (n : Notice), findNotice u.notices n.number = some n →
     u.withdraw n.number = ({ u with
       urgent := mapAll (fun x => x.leave n.number u.style.urgentDwell) u.urgent
       notices := u.notices.filter fun (y : Notice) => y.number ≠ n.number }, [.empty (224 + n.slot)]))
   ∧ (∀ (s u : State) (p : Port) (q : Packet) (n : Nat), s.Takes .notice p q (.withdrawNotice n) u →
     (n < 1 ∨ 255 < n → exec (.withdrawNotice p) s = .next (u.answered p q .outOfRange))
     ∧ (1 ≤ n → n ≤ 255 → (∀ x ∈ s.notice.notices, x.number ≠ n) →
       exec (.withdrawNotice p) s = .next (u.answered p q .noSuch))
     ∧ (1 ≤ n → n ≤ 255 → (∃ x ∈ s.notice.notices, x.number = n) →
       exec (.withdrawNotice p) s = .next (State.answered (u.withNotice (s.notice.withdraw n)) p q .done)))
   ∧ (∀ (s : State) (t : Nat) (numbers : List Nat), s.nextSecond .notice = some t → s.notice.settled = true →
     numbers.Pairwise (· ≤ ·) →
     numbers.Perm ((s.notice.notices.filter fun n => n.expiry.any (· ≤ t)).map Notice.number) →
     exec .noticeExpiry s = .next ((s.dropSecond .notice).withNotice
       ({ (s.notice.withdrawAll numbers).1 with
          urgent := mapAll (fun x => if 2 ≤ x.list.length then { x with dwell := x.dwell.map (· - 1) } else x)
            (s.notice.withdrawAll numbers).1.urgent }, (s.notice.withdrawAll numbers).2)))
   ∧ (∀ (s : State) (panel : Fin 12) (before after : List Nat) (n : Nat),
     s.notice.urgent[panel] = ⟨before ++ n :: after, some n, some 0⟩ → n ∉ before →
     exec (.urgentDwellExpiry panel.val) s = .next { s with notice := { s.notice with
       urgent := put s.notice.urgent panel
         ⟨before ++ n :: after, (after ++ before ++ [n]).head?, some s.notice.style.urgentDwell⟩ } })
   ∧ ∀ (s u : State) (e : ScheduleEvent) (scr : Nat) (numbers : List Nat) (rest : List ScheduleEvent),
     s.mail.scheduleToNotice = e :: rest → s.notice.settled = true →
     u = { s with mail := { s.mail with scheduleToNotice := rest } } → numbers.Pairwise (· ≤ ·) →
     numbers.Perm ((s.notice.notices.filter fun n => n.bound = some scr).map Notice.number) →
     (e = .phaseChanged scr .closed → exec .noticePhaseChanged s = .next (u.withNotice (s.notice.withdrawAll numbers)))
     ∧ (∀ phase, e = .phaseChanged scr phase → phase ≠ .closed → exec .noticePhaseChanged s = .next u)
     ∧ (e = .removed scr → exec .noticeScreeningRemoved s = .next (u.withNotice (s.notice.withdrawAll numbers))))
  ∧ ((∀ (s u : State) (p : Port) (q : Packet) (x : NoticeStyle), s.Takes .notice p q (.setNoticeStyle x) u →
       (x.urgentDwell < 3 ∨ 60 < x.urgentDwell ∨ x.normalWidth < 1 ∨ 48 < x.normalWidth ∨ x.normalHeight < 1
           ∨ 48 < x.normalHeight ∨ x.urgentWidth < 1 ∨ 48 < x.urgentWidth ∨ x.urgentHeight < 2 ∨ 48 < x.urgentHeight
           ∨ 65535 < x.urgentColour →
         exec (.setNoticeStyle p) s = .next (u.answered p q .outOfRange))
       ∧ (3 ≤ x.urgentDwell → x.urgentDwell ≤ 60 → 1 ≤ x.normalWidth → x.normalWidth ≤ 48 → 1 ≤ x.normalHeight →
         x.normalHeight ≤ 48 → 1 ≤ x.urgentWidth → x.urgentWidth ≤ 48 → 2 ≤ x.urgentHeight → x.urgentHeight ≤ 48 →
         x.urgentColour ≤ 65535 → exec (.setNoticeStyle p) s = .next (State.answered (State.requestTiles
           { u with notice := { s.notice with
             style := x
             urgent := mapAll (fun y => if y.list.length = 1 then { y with dwell := some x.urgentDwell } else y)
               s.notice.urgent } } .notice
           ((if x.normalWidth = s.notice.style.normalWidth ∧ x.normalHeight = s.notice.style.normalHeight then []
             else (s.notice.bySlot.filter fun n => n.cls ≠ .urgent).flatMap fun n =>
               [.size n.tile x.normalWidth x.normalHeight, .redraw n.tile .normal])
             ++ if x.urgentWidth = s.notice.style.urgentWidth ∧ x.urgentHeight = s.notice.style.urgentHeight then []
               else (s.notice.bySlot.filter fun n => n.cls = .urgent).flatMap fun n =>
                 [.size n.tile x.urgentWidth x.urgentHeight, .redraw n.tile .urgent])) p q .done)))
     ∧ ∀ s : State, 0 < s.mail.restarts[Block.notice.index] → s.notice.settled = true →
       exec .noticeRestart s = .next (State.requestTiles { s.dropRestart .notice with notice := { s.notice with
         urgent := mapAll (fun x => if x.list = [] then x else { x with dwell := some s.notice.style.urgentDwell })
           s.notice.urgent } } .notice
         (s.notice.bySlot.map fun n => .redraw n.tile (if n.cls = .urgent then .urgent else .normal))))
  ∧ (∀ (u : NoticeUnit) (n : Nat), (∀ x ∈ u.notices, x.number ≠ n) → u.withdraw n = (u, []))
  ∧ (∀ (u : NoticeUnit) (n : Nat) (rest : List Nat), u.withdrawAll [] = (u, [])
    ∧ u.withdrawAll (n :: rest) = (((u.withdraw n).1.withdrawAll rest).1, (u.withdraw n).2 ++ ((u.withdraw n).1.withdrawAll rest).2))
  ∧ ∀ u : NoticeUnit, (∀ n : Notice, n.tile = 224 + n.slot) ∧ u.bySlot.Pairwise (fun x y => x.slot < y.slot)
    ∧ ((u.notices.map Notice.slot).Nodup → (∀ x ∈ u.notices, x.slot < 32) → ∀ n, n ∈ u.bySlot ↔ n ∈ u.notices)

/-- R108, R114, R115: the live notices have numbers and slots of their own and at least one target; each panel's urgent list holds
at most 4, none twice: exactly the live URGENT notices that target the panel; a notice is shown, from the list, exactly while the
list is not empty. Every step keeps it. -/
def Obligations.UrgentListsMatchTheNotices : Prop :=
  ∀ s t : State, s.notice.Sound → step s = .next t → t.notice.Sound

/-- R36, R40, R82, R97 to R100, R117, R118, R151: the texts that tiles are drawn with. A board row of row width w is exactly 2w
characters, whatever its texts: five columns at their places with a space between, a short text followed by spaces, a long one cut
and ended by "…". A time of day is written in the house time format, and a clock tile shows it, or "--:--" while the clock is UNSET.
A row of a screening shows its time, title, auditorium, badges and seats texts; a row or notice whose source is gone is blank. A
text is wrapped as R118 says: the words between spaces, in order, each joining the line where it fits and starting the next where it
does not; a word longer than the line alone in pieces of full length; a break ending the line. No line is longer than c, and a tile
that holds n lines of c is given at most n lines: all of them where they fit, otherwise the first n, the last with "…" after it or
in its last place. (The model's choices, assumption 16: single spaces between badge labels, and that a run without words before a
break is an empty line and after the last break none.) -/
def Obligations.LinesFitTheirTiles : Prop :=
  (∀ (w : Nat) (time title auditorium badges seats : List Byte) (row : Line), 27 ≤ w →
    row = rowLine w time title auditorium badges seats →
    row.length = 2 * w
    ∧ (∀ k ∈ [9, 2 * w - 37, 2 * w - 27, 2 * w - 10], row[k]? = some (.char 32))
    ∧ ∀ x ∈ [(0, 9, time), (10, 2 * w - 47, title), (2 * w - 36, 9, auditorium), (2 * w - 26, 16, badges),
        (2 * w - 9, 9, seats)],
      (row.drop x.1).take x.2.1 = if x.2.2.length ≤ x.2.1 then
          x.2.2.map glyphOf ++ List.replicate (x.2.1 - x.2.2.length) (.char 32)
        else (x.2.2.map glyphOf).take (x.2.1 - 1) ++ [.ellipsis])
  ∧ (∀ (m h : Nat) (d : Nat → Byte), m < 1440 → (∀ n, d n = BitVec.ofNat 8 (48 + n)) →
    h = (if m / 60 % 12 = 0 then 12 else m / 60 % 12) →
    timeText .h24 m = [d (m / 60 / 10), d (m / 60 % 10)] ++ ascii ":" ++ [d (m % 60 / 10), d (m % 60 % 10)]
    ∧ timeText .h12 m = (if 10 ≤ h then [d 1, d (h - 10)] else [d h]) ++ ascii ":" ++ [d (m % 60 / 10), d (m % 60 % 10)]
        ++ (if m < 720 then ascii " AM" else ascii " PM"))
  ∧ (∀ (s : State) (t w h : Nat), 192 ≤ t → t ≤ 199 →
    drawTile s t w h = .text w h (if t ≤ 195 then .large else .small)
      [(if s.clock.state = .unset then ascii "--:--"
        else timeText s.clock.hourFormat (s.clock.hour * 60 + s.clock.minute)).map glyphOf])
  ∧ (∀ (s : State) (t w h : Nat) (b : Board) (d : BoardDef), t < 128 → s.builder.boards[t / 16]? = some b → b.defn = some d →
    (d.rowsPerPage ≤ t % 16 → drawTile s t w h = .text w h .small [])
    ∧ (t % 16 < d.rowsPerPage → 27 ≤ w →
      ((∀ e, b.rows[b.page * d.rowsPerPage + t % 16]? = some e → findScreening s.schedule.table e.screening = none) →
        drawTile s t w h = .text w h .small [List.replicate (2 * w) (.char 32)])
      ∧ ∀ (e : RowEntry) (r : Screening) (time title badges seats : List Byte) (labels : List (List Byte)),
        b.rows[b.page * d.rowsPerPage + t % 16]? = some e → findScreening s.schedule.table e.screening = some r →
        (r.phase = .cancelled → time = ascii "Cancelled") → (r.phase = .running → time = ascii "Started") →
        (∀ n, (r.phase = .listed ∨ r.phase = .boarding) → s.schedule.viewMinute = some n → n < r.showTime + r.delay →
          r.showTime + r.delay ≤ n + s.schedule.settings.countdown →
          time = ascii "in " ++ decimal (r.showTime + r.delay - n) ++ ascii " min") →
        (r.phase ≠ .cancelled → r.phase ≠ .running →
          (∀ n, (r.phase = .listed ∨ r.phase = .boarding) → s.schedule.viewMinute = some n →
            r.showTime + r.delay ≤ n ∨ n + s.schedule.settings.countdown < r.showTime + r.delay) →
          time = timeText s.clock.hourFormat ((s.clock.dayStart * 60 + (r.showTime + r.delay)) % 1440)) →
        title = (match s.schedule.titles[r.title]? with
          | some (some x) => if x.rating = [] then x.text else x.text ++ ascii " " ++ x.rating
          | _ => []) →
        labels = [[], ascii "3D", ascii "Sub", ascii "AD", ascii "Relaxed", ascii "Premium", ascii "Late"] →
        badges = List.intercalate (ascii " ") ((if r.phase = .boarding then [ascii "Doors open"] else [])
          ++ (if 0 < r.delay ∧ r.phase.number ≤ 2 then [ascii "Delayed"] else [])
          ++ match r.note with
            | some x => [x]
            | none => r.badges.map fun c => labels[c]?.getD []) →
        seats = (match findTally s.seat.tallies r.number with
          | none => []
          | some x => if r.phase = .cancelled then [] else match x.band, x.figure with
            | .plenty, _ => ascii "Available"
            | .soldOut, _ => ascii "Sold out"
            | .filling, some n => if 10 ≤ n then decimal n ++ ascii "+" else decimal n ++ ascii " left"
            | .few, some n => decimal n ++ ascii " left"
            | _, none => []) →
        drawTile s t w h
          = .text w h .small [rowLine w time title (ascii "Screen " ++ decimal r.auditorium) badges seats]))
  ∧ (∀ (s : State) (t w h : Nat) (b : Board), t < 128 → s.builder.boards[t / 16]? = some b → b.defn = none →
    drawTile s t w h = .text w h .small [])
  ∧ (∀ (s : State) (k w h : Nat), k < 32 →
    ((∀ n ∈ s.notice.notices, n.slot ≠ k) → drawTile s (224 + k) w h = .text w h .small [])
    ∧ ∀ n, noticeInSlot s.notice.notices k = some n → drawTile s (224 + k) w h =
      if n.cls = .urgent then .text w h .large (keepLines w (h / 2) (wrap w n.text))
      else .text w h .small (keepLines (2 * w) h (wrap (2 * w) n.text)))
  ∧ (∀ (s : State) (t w h : Nat) (x : Tile), 200 ≤ t → t ≤ 223 → s.render.tiles[t]? = some x →
    drawTile s t w h = .text w h x.glyphSet
      (if x.glyphSet = .large then keepLines w (h / 2) (wrap w x.text) else keepLines (2 * w) h (wrap (2 * w) x.text)))
  ∧ (∀ w h n px py : Nat, (Image.text w h .small []).pixel px py = none
    ∧ (Image.text w h .small [List.replicate n (.char 32)]).pixel px py = none)
  ∧ (∀ (c before : Nat) (t : List Byte) (ws : List (List Byte × Nat)), 1 ≤ c →
    (∀ x ∈ ws, x.1 ≠ [] ∧ 32 ∉ x.1 ∧ 10 ∉ x.1) → (∀ x ∈ ws.dropLast, 1 ≤ x.2) →
    t = List.replicate before 32 ++ ws.flatMap (fun x => x.1 ++ List.replicate x.2 32) →
    ∃ lines : List (List (List Byte)), lines.flatten = ws.map Prod.fst
      ∧ wrap c t = (lines.map (List.intercalate [32])).flatMap (fun l => if l.length ≤ c then [l]
          else (List.range ((l.length + c - 1) / c)).map fun k => (l.drop (k * c)).take c)
      ∧ (∀ x ∈ lines, x ≠ [] ∧ (c < (List.intercalate [32] x).length → x.length = 1))
      ∧ ∀ (k : Nat) (x y : List (List Byte)) (w : List Byte), lines[k]? = some x → lines[k + 1]? = some y → y.head? = some w →
        (List.intercalate [32] x).length ≤ c → w.length ≤ c → c < (List.intercalate [32] x).length + 1 + w.length)
  ∧ (∀ (c : Nat) (a b : List Byte), 10 ∉ a →
    wrap c (a ++ 10 :: b) = (if wrap c a = [] then [[]] else wrap c a) ++ wrap c b)
  ∧ (∀ (c n : Nat) (ls : List (List Byte)) (l : List Byte), ls[n]? = some l → n + 1 < ls.length →
    keepLines c (n + 1) ls = (ls.take n).map (List.map glyphOf)
      ++ [(if l.length + 1 ≤ c then l.map glyphOf else (l.map glyphOf).take (c - 1)) ++ [.ellipsis]])
  ∧ (∀ n : Nat, decimal n = if n < 10 then [byteOf (48 + n)] else decimal (n / 10) ++ [byteOf (48 + n % 10)])
  ∧ (∀ b : Byte, glyphOf b = if (32 ≤ b.toNat ∧ b.toNat ≤ 126) ∨ 160 ≤ b.toNat then .char b else .box)
  ∧ ∀ (c n : Nat) (t : List Byte), 1 ≤ c → 1 ≤ n →
    (∀ l ∈ wrap c t, l.length ≤ c)
    ∧ (keepLines c n (wrap c t)).length ≤ n
    ∧ (∀ l ∈ keepLines c n (wrap c t), l.length ≤ c)
    ∧ ((wrap c t).length ≤ n → keepLines c n (wrap c t) = (wrap c t).map (List.map glyphOf))

/-! ### Chapter 7: rotation carousels -/

/-- R126, R127, R129: the expansion of a NOTICES item is the numbers of the live SERVICE and PROMO notices that target the panel, in
posting order, which is the order of the notice table (NoticesArePosted). The list, cursor and periods of a cycle are those of the
list choice. A cycle begins with the first item, examined from the cursor on and wrapping, that is a STREAM, a TILE, or NOTICES with
a notice at the notice step (0 for any but the first examined); where there is none the cycle is space-only and cursor and step
stay. A quiet or space-only cycle is SPACE for mark + space; any other starts with MARK for its active mark; quiet is latched. At
its end written pending periods become active; pending content replaces the lists, or the carousel moves on: to the next notice,
else to the next position, and in ALTERNATE to the other list; a STOPPING carousel stops, a RUNNING one begins its next cycle. -/
def Obligations.CyclesSelectStartAndEnd : Prop :=
  (∀ (ns : List Notice) (panel : Nat), expansion ns panel
    = (ns.filter fun n => decide ((n.cls = .service ∨ n.cls = .promo) ∧ panel ∈ n.targets)).map Notice.number)
  ∧ (∀ (c : Carousel) (k : Nat),
    (c.choice = .primary → c.items = c.content.primary ∧ c.cursor = c.primaryCursor ∧ c.setCursor k = { c with primaryCursor := k }
      ∧ c.activeMark = c.active.primaryMark ∧ c.activeSpace = c.active.primarySpace)
    ∧ (c.choice = .secondary → c.items = c.content.secondary ∧ c.cursor = c.secondaryCursor
      ∧ c.setCursor k = { c with secondaryCursor := k } ∧ c.activeMark = c.active.secondaryMark
      ∧ c.activeSpace = c.active.secondarySpace)
    ∧ (c.pendingContent = none → c.applyContent = c))
  ∧ ((∀ (c : Carousel) (notices : List Nat) (first : Nat) (item : Item), c.cursor < c.items.length → first < c.items.length →
     c.items[(c.cursor + first) % c.items.length]? = some item →
     (item = .notices → (if first = 0 then c.noticeStep else 0) < notices.length) →
     (∀ j < first, c.items[(c.cursor + j) % c.items.length]? = some .notices
       ∧ notices.length ≤ (if j = 0 then c.noticeStep else 0)) →
     c.select notices = { c.setCursor ((c.cursor + first) % c.items.length) with
       noticeStep := if item = .notices ∧ first = 0 then c.noticeStep else 0
       shown := match item with
         | .stream n => some (.stream n)
         | .tile n => some (.tile n)
         | .notices => (notices[if first = 0 then c.noticeStep else 0]?).map .notice })
   ∧ (∀ (c : Carousel) (notices : List Nat),
     (∀ j < c.items.length, c.items[(c.cursor + j) % c.items.length]? = some .notices
       ∧ notices.length ≤ (if j = 0 then c.noticeStep else 0)) →
     c.select notices = { c with shown := none })
   ∧ ∀ (c : Carousel),
     (c.quiet = true ∨ c.shown = none → c.start = { c with
       quietInEffect := c.quiet, phase := some .space, remaining := some (c.activeMark + c.activeSpace) })
     ∧ (c.quiet = false → c.shown ≠ none → c.start = { c with
       quietInEffect := false, phase := some .mark, remaining := some c.activeMark }))
  ∧ ((∀ (c : Carousel) (notices : List Nat) (m : Carousel), m = (if c.pendingContent.isSome then c.applyPeriods.applyContent
         else c.applyPeriods.advance notices) →
       c.endCycle notices = if c.run = .stopping then { m with run := .stopped, phase := none, remaining := none, shown := none }
         else (m.select notices).start)
     ∧ (∀ c : Carousel,
       c.applyPeriods = { c with
         active := ⟨if c.pending.primaryMark.written then c.pending.primaryMark.value else c.active.primaryMark,
           if c.pending.primarySpace.written then c.pending.primarySpace.value else c.active.primarySpace,
           if c.pending.secondaryMark.written then c.pending.secondaryMark.value else c.active.secondaryMark,
           if c.pending.secondarySpace.written then c.pending.secondarySpace.value else c.active.secondarySpace⟩
         pending := ⟨⟨c.pending.primaryMark.value, false⟩, ⟨c.pending.primarySpace.value, false⟩,
           ⟨c.pending.secondaryMark.value, false⟩, ⟨c.pending.secondarySpace.value, false⟩⟩ }
       ∧ ∀ x, c.pendingContent = some x → c.applyContent = { c with
         content := x, pendingContent := none, primaryCursor := 0, secondaryCursor := 0, noticeStep := 0, choice := .primary })
     ∧ ∀ (c : Carousel) (notices : List Nat) (m : Carousel),
       m = (if (match c.shown with | some (.notice _) => true | _ => false) = true ∧ c.noticeStep + 1 < notices.length
           then { c with noticeStep := c.noticeStep + 1 }
           else { c.setCursor (if c.items = [] then 0 else (c.cursor + 1) % c.items.length) with noticeStep := 0 }) →
       c.advance notices = if c.content.mode = .single then m
         else { m with choice := if c.choice = .primary then .secondary else .primary })

/-- R128, R129, R135: a tenth-tick lowers the remaining of every carousel that is not STOPPED; where a MARK runs out and the active
space is above 0 the cycle enters SPACE for it; otherwise the cycle ends, and the end of a leader's cycle that begins a new one
restarts every other running carousel of its group from the leader's list choice, cursor and step. (The model's choices: R136's same
state is that of the member's list in use, assumption 30; each end reads the notice table as it stands, assumption 31.) -/
def Obligations.TicksRunTheCarousels : Prop :=
  (∀ s : State, 0 < s.mail.ticksToRotation → s.rotation.settled = true →
    exec .carouselTenthTick s = .next { s with
      mail := { s.mail with ticksToRotation := s.mail.ticksToRotation - 1 }
      rotation := { s.rotation with
        carousels := mapAll (fun c => if c.run = .stopped then c else { c with remaining := c.remaining.map (· - 1) })
          s.rotation.carousels } })
  ∧ (∀ (s : State) (i : Fin 12), s.rotation.carousels[i].phase = some .mark → s.rotation.carousels[i].remaining = some 0 →
    0 < s.rotation.carousels[i].activeSpace →
    exec (.markEnd i.val) s = .next { s with rotation := { s.rotation with
      carousels := put s.rotation.carousels i { s.rotation.carousels[i] with
        phase := some .space, remaining := some s.rotation.carousels[i].activeSpace } } })
  ∧ ∀ (s : State) (i : Fin 12) (c after : Carousel), s.rotation.carousels[i] = c → c.remaining = some 0 →
    (c.phase = some .space ∨ c.phase = some .mark ∧ c.activeSpace = 0) →
    after = c.endCycle (expansion s.notice.notices i.val) →
    ((∀ g, c.group = some g → s.rotation.leaders[g]? ≠ some (some i.val) ∨ after.run ≠ .running) →
      exec (.cycleEnd i.val) s = .next { s with rotation := { s.rotation with
        carousels := put s.rotation.carousels i after } })
    ∧ ∀ g, c.group = some g → s.rotation.leaders[g]? = some (some i.val) → after.run = .running →
      ∃ v : Vector Carousel 12, exec (.cycleEnd i.val) s = .next { s with rotation := { s.rotation with carousels := v } }
        ∧ v[i] = after
        ∧ ∀ (j : Fin 12) (m x y : Carousel), j ≠ i → m = s.rotation.carousels[j] →
          x = { m.applyPeriods.applyContent with choice := after.choice } →
          y = { x.setCursor (if x.items = [] then 0 else after.cursor % x.items.length) with noticeStep := after.noticeStep } →
          ((m.group ≠ some g ∨ m.run ≠ .running) → v[j] = m)
          ∧ (m.group = some g → m.run = .running → v[j] = (y.select (expansion s.notice.notices j.val)).start)

/-- R124, R125, R131 to R134, R39: what SET CAROUSEL, SET PERIODS, SET QUIET, CAROUSEL ON, CAROUSEL OFF and SET SYNC GROUP leave
when answered DONE, and a cue's QUIET ON and QUIET OFF without answer; and which operands are OUT_OF_RANGE. A carousel taken from a
group it led leaves that group without a leader. -/
def Obligations.CarouselDirectivesAct : Prop :=
  ((∀ (s u : State) (p : Port) (q : Packet) (c mode : Nat) (xs ys : List Coded) (x : CarouselContent),
     s.Takes .rotation p q (.setCarousel c mode xs ys) u →
     (11 < c ∨ (mode ≠ 1 ∧ mode ≠ 2) ∨ 8 < xs.length ∨ 8 < ys.length
         ∨ (∃ f : Coded, (f ∈ xs ∨ f ∈ ys) ∧ ((f.kind ≠ 1 ∧ f.kind ≠ 2 ∧ f.kind ≠ 3) ∨ (f.kind = 1 ∧ 3 < f.value)
           ∨ (f.kind = 3 ∧ f.value ≠ 0))) →
       exec (.setCarousel p) s = .next (u.answered p q .outOfRange))
     ∧ (c ≤ 11 → x.mode.number = mode → xs.length ≤ 8 → ys.length ≤ 8 →
       List.Forall₂ (fun f i => f.kind = 1 ∧ f.value ≤ 3 ∧ i = Item.stream f.value
         ∨ f.kind = 2 ∧ f.value ≤ 255 ∧ i = .tile f.value ∨ f.kind = 3 ∧ f.value = 0 ∧ i = .notices) xs x.primary →
       List.Forall₂ (fun f i => f.kind = 1 ∧ f.value ≤ 3 ∧ i = Item.stream f.value
         ∨ f.kind = 2 ∧ f.value ≤ 255 ∧ i = .tile f.value ∨ f.kind = 3 ∧ f.value = 0 ∧ i = .notices) ys x.secondary →
       exec (.setCarousel p) s = .next (State.answered
         (u.changeCarousel c fun r => { r with pendingContent := some x }) p q .done)))
   ∧ (∀ (s u : State) (p : Port) (q : Packet) (c : Nat) (pm ps sm ss : Option Nat),
     s.Takes .rotation p q (.setPeriods c pm ps sm ss) u →
     (11 < c ∨ (∃ m, (pm = some m ∨ sm = some m) ∧ (m < 1 ∨ 6000 < m)) ∨ (∃ m, (ps = some m ∨ ss = some m) ∧ 6000 < m) →
       exec (.setPeriods p) s = .next (u.answered p q .outOfRange))
     ∧ (c ≤ 11 → (∀ m, pm = some m ∨ sm = some m → 1 ≤ m ∧ m ≤ 6000) → (∀ m, ps = some m ∨ ss = some m → m ≤ 6000) →
       exec (.setPeriods p) s = .next (State.answered (u.changeCarousel c fun r => { r with pending := ⟨
         match pm with | none => r.pending.primaryMark | some m => ⟨m, true⟩,
         match ps with | none => r.pending.primarySpace | some m => ⟨m, true⟩,
         match sm with | none => r.pending.secondaryMark | some m => ⟨m, true⟩,
         match ss with | none => r.pending.secondarySpace | some m => ⟨m, true⟩⟩ }) p q .done)))
   ∧ (∀ (s u : State) (p : Port) (q : Packet) (set : List Nat) (value : Nat),
     (set = [] ∨ (∃ m ∈ set, 11 < m) ∨ ¬set.Nodup) →
     (s.Takes .rotation p q (.setQuiet set value) u → exec (.setQuiet p) s = .next (u.answered p q .outOfRange))
     ∧ (s.Takes .rotation p q (.carouselOn set) u → exec (.carouselOn p) s = .next (u.answered p q .outOfRange))
     ∧ (s.Takes .rotation p q (.carouselOff set) u → exec (.carouselOff p) s = .next (u.answered p q .outOfRange)))
   ∧ ∀ (s u : State) (p : Port) (q : Packet) (set : List Nat) (value : Nat), set ≠ [] → (∀ m ∈ set, m ≤ 11) → set.Nodup →
     (s.Takes .rotation p q (.setQuiet set value) u → value ≤ 1 → exec (.setQuiet p) s = .next (State.answered
       (u.changeCarousels set fun _ c => { c with quiet := decide (value = 1) }) p q .done))
     ∧ (s.Takes .rotation p q (.setQuiet set value) u → 1 < value →
       exec (.setQuiet p) s = .next (u.answered p q .outOfRange))
     ∧ (∀ (on : Bool) (rest : List (Bool × List Nat)), s.mail.cuesToRotation = (on, set) :: rest → s.rotation.settled = true →
       exec .cueQuiet s = .next (State.changeCarousels { s with mail := { s.mail with cuesToRotation := rest } } set
         fun _ c => { c with quiet := on }))
     ∧ (s.Takes .rotation p q (.carouselOn set) u → exec (.carouselOn p) s = .next (State.answered
       (u.changeCarousels set fun i c => match c.run with
         | .running => c
         | .stopping => { c with run := .running }
         | .stopped => (Carousel.select { c.applyPeriods.applyContent with run := .running }
             (expansion s.notice.notices i)).start) p q .done))
     ∧ (s.Takes .rotation p q (.carouselOff set) u → exec (.carouselOff p) s = .next (State.answered
       (u.changeCarousels set fun _ c => match c.run with
         | .running => { c with run := .stopping }
         | .stopping | .stopped => c) p q .done)))
  ∧ (∀ (s u : State) (p : Port) (q : Packet) (g leader : Nat) (members : List Nat),
       s.Takes .rotation p q (.setSyncGroup g leader members) u →
       (3 < g ∨ (11 < leader ∧ leader ≠ 255) ∨ (∃ m ∈ members, 11 < m) ∨ ¬members.Nodup ∨ (members = [] ∧ leader ≠ 255)
           ∨ (members ≠ [] ∧ leader ∉ members) →
         exec (.setSyncGroup p) s = .next (u.answered p q .outOfRange))
       ∧ (g ≤ 3 → (∀ m ∈ members, m ≤ 11) → members.Nodup → (members = [] ∧ leader = 255 ∨ leader ∈ members) →
         ∃ (v : Vector Carousel 12) (l : Vector (Option Nat) 4),
           exec (.setSyncGroup p) s = .next (State.answered { u with rotation := ⟨v, l⟩ } p q .done)
           ∧ (∀ i : Fin 12, v[i] = { s.rotation.carousels[i] with
               group := if i.val ∈ members then some g
                 else if s.rotation.carousels[i].group = some g then none else s.rotation.carousels[i].group })
           ∧ ∀ h : Fin 4, l[h] = if h.val = g then (if members = [] then none else some leader)
               else match s.rotation.leaders[h] with
                 | none => none
                 | some c => if c ∈ members then none else some c))
  ∧ ∀ (s : State) (k : Fin 12) (set : List Nat) (f : Nat → Carousel → Carousel),
      s.changeCarousel k (f k) = { s with rotation := { s.rotation with
        carousels := put s.rotation.carousels k (f k s.rotation.carousels[k]) } }
      ∧ ∃ v : Vector Carousel 12, s.changeCarousels set f = { s with rotation := { s.rotation with carousels := v } }
        ∧ ∀ i : Fin 12, v[i] = if i.val ∈ set then f i s.rotation.carousels[i] else s.rotation.carousels[i]

/-- L10 (R127): the active periods of a carousel change only where a cycle starts or the carousel stops: whatever command takes
place, a carousel whose active periods have changed is STOPPED, or at the start of a cycle with the lengths of the new periods. -/
def Obligations.CycleLengthsAreLatched : Prop :=
  ∀ (i : Instr) (s t : State) (k : Fin 12), exec i s = .next t →
    t.rotation.carousels[k].active ≠ s.rotation.carousels[k].active →
    (t.rotation.carousels[k].run = .stopped ∧ t.rotation.carousels[k].phase = none)
    ∨ (t.rotation.carousels[k].phase = some .mark
        ∧ t.rotation.carousels[k].remaining = some t.rotation.carousels[k].activeMark)
    ∨ (t.rotation.carousels[k].phase = some .space ∧ t.rotation.carousels[k].remaining
        = some (t.rotation.carousels[k].activeMark + t.rotation.carousels[k].activeSpace))

/-! ### Chapter 8: tiles and rendering -/

/-- R142 to R145: LOAD IMAGE, IMAGE PIECE, LOAD TEXT TILE and CLEAR TILE: their checks in order and what they leave. An IMAGE PIECE
that passes its checks reserves its place in the answer queue (R8) and becomes the waiting piece write; its answer comes later.
(That CLEAR TILE leaves the byte total and the bytes received as they were is the model's choice: assumption 17.) -/
def Obligations.LoadedTilesTakeTheirDirectives : Prop :=
  (∀ (s u : State) (p : Port) (q : Packet) (t w h total : Nat), s.Takes .render p q (.loadImage t w h total) u →
    (t < 128 ∨ 191 < t ∨ w < 1 ∨ 48 < w ∨ h < 1 ∨ 48 < h ∨ total ≠ 3200 * w * h →
      exec (.loadImage p) s = .next (u.answered p q .outOfRange))
    ∧ ∀ x : Tile, 128 ≤ t → t ≤ 191 → 1 ≤ w → w ≤ 48 → 1 ≤ h → h ≤ 48 → total = 3200 * w * h →
      s.render.tiles[t]? = some x →
      exec (.loadImage p) s = .next (State.answered { u with render := { s.render with
        tiles := s.render.tiles.setIfInBounds t { x with
          size := some (w, h), byteTotal := total, bytesReceived := 0, loadData := [], image := none, state := .loading } } }
        p q .done))
  ∧ (∀ (s u : State) (p : Port) (q : Packet) (t offset : Nat) (piece : List Byte),
    s.Takes .render p q (.imagePiece t offset piece) u →
    ((t < 128 ∨ 191 < t ∨ ∃ x, s.render.tiles[t]? = some x ∧ x.state ≠ .loading) →
      exec (.imagePiece p) s = .next (u.answered p q .outOfRange))
    ∧ ∀ x : Tile, 128 ≤ t → t ≤ 191 → s.render.tiles[t]? = some x → x.state = .loading →
      (x.byteTotal < offset + piece.length → exec (.imagePiece p) s = .next (u.answered p q .outOfRange))
      ∧ (offset + piece.length ≤ x.byteTotal →
        (offset + piece.length ≤ x.bytesReceived → exec (.imagePiece p) s = .next (u.answered p q .done))
        ∧ (x.bytesReceived < offset + piece.length → offset ≠ x.bytesReceived →
          exec (.imagePiece p) s = .next (u.answered p q .outOfRange))
        ∧ (x.bytesReceived < offset + piece.length → offset = x.bytesReceived →
          exec (.imagePiece p) s = .next { u.reserve p with render := { s.render with
            waiting := some ⟨t, piece, p, q.tag, q.code⟩ } })))
  ∧ (∀ (s u : State) (p : Port) (q : Packet) (t w h glyph : Nat) (text : List Byte),
    s.Takes .render p q (.loadTextTile t w h glyph text) u →
    (t < 200 ∨ 223 < t ∨ w < 1 ∨ 48 < w ∨ h < 1 ∨ 48 < h ∨ (glyph ≠ 1 ∧ glyph ≠ 2) ∨ (glyph = 2 ∧ h = 1) →
      exec (.loadTextTile p) s = .next (u.answered p q .outOfRange))
    ∧ ∀ (x : Tile) (g : GlyphSet), 200 ≤ t → t ≤ 223 → 1 ≤ w → w ≤ 48 → 1 ≤ h → h ≤ 48 →
      (glyph = 1 ∧ g = .small ∨ glyph = 2 ∧ g = .large ∧ 2 ≤ h) → s.render.tiles[t]? = some x →
      exec (.loadTextTile p) s = .next (State.answered { u with render := RenderUnit.redraw (RenderUnit.resize
        { s.render with tiles := s.render.tiles.setIfInBounds t { x with glyphSet := g, text := text } } t w h) t .normal }
        p q .done))
  ∧ ∀ (s u : State) (p : Port) (q : Packet) (t : Nat), s.Takes .render p q (.clearTile t) u →
    ((t < 128 ∨ (191 < t ∧ t < 200) ∨ 223 < t) → exec (.clearTile p) s = .next (u.answered p q .outOfRange))
    ∧ ∀ x : Tile, (128 ≤ t ∧ t ≤ 191 ∨ 200 ≤ t ∧ t ≤ 223) → s.render.tiles[t]? = some x →
      (x.state = .empty → exec (.clearTile p) s = .next (u.answered p q .done))
      ∧ (x.state ≠ .empty → exec (.clearTile p) s = .next (State.answered { u with render := { s.render with
        urgentLane := s.render.urgentLane.filter fun k => decide (k ≠ t)
        normalLane := s.render.normalLane.filter fun k => decide (k ≠ t)
        tiles := s.render.tiles.setIfInBounds t { x with
          size := none, image := none, state := .empty, loadData := []
          glyphSet := if 200 ≤ t then .small else x.glyphSet
          text := if 200 ≤ t then [] else x.text } } } p q .done))
      ∧ u.reserve p = u.putPort p { u.port p with answers := ⟨(u.port p).answers.answers, (u.port p).answers.reserved + 1⟩ }

/-- R146, R147, R148: what a redraw request, a size request and an empty request do, by the state of the tile they name. -/
def Obligations.TileRequestsActByTheTilesState : Prop :=
  ∀ (s u : State) (b : Block) (t : Nat) (x : Tile) (rest : List TileRequest), s.render.tiles[t]? = some x →
    u = { s with mail := { s.mail with tiles := put s.mail.tiles b.index rest } } →
    (∀ lane, s.mail.tiles[b.index] = .redraw t lane :: rest →
      exec (.redrawRequest b) s = .next { u with render := s.render.redraw t lane } ∧
      (x.size = none ∨ (128 ≤ t ∧ t ≤ 191) → exec (.redrawRequest b) s = .next u)
      ∧ (x.size ≠ none → (t < 128 ∨ 191 < t) →
        (x.state = .empty ∨ x.state = .clean → exec (.redrawRequest b) s = .next { u with render := { s.render with
          tiles := s.render.tiles.setIfInBounds t { x with state := .queued, lane := lane }
          urgentLane := if lane = .urgent then s.render.urgentLane ++ [t] else s.render.urgentLane
          normalLane := if lane = .urgent then s.render.normalLane else s.render.normalLane ++ [t] } })
        ∧ (x.state = .queued → x.lane = .normal → lane = .urgent → t ∉ s.render.urgentLane →
          exec (.redrawRequest b) s = .next { u with render := { s.render with
            tiles := s.render.tiles.setIfInBounds t { x with lane := .urgent }
            urgentLane := s.render.urgentLane ++ [t]
            normalLane := s.render.normalLane.filter fun k => decide (k ≠ t) } })
        ∧ (x.state = .queued → (x.lane = .urgent ∨ lane = .normal) → exec (.redrawRequest b) s = .next u)
        ∧ (x.state = .rendering ∨ x.state = .renderingStale → exec (.redrawRequest b) s = .next { u with render := { s.render with
          tiles := s.render.tiles.setIfInBounds t { x with
            state := .renderingStale, lane := if lane = .urgent then .urgent else x.lane } } })))
    ∧ (∀ w h, s.mail.tiles[b.index] = .size t w h :: rest →
      exec (.sizeRequest b) s = .next { u with render := s.render.resize t w h } ∧
      (x.size = some (w, h) → exec (.sizeRequest b) s = .next u)
      ∧ (x.size ≠ some (w, h) → exec (.sizeRequest b) s = .next { u with render := { s.render with
          tiles := s.render.tiles.setIfInBounds t { x with
            size := some (w, h)
            image := none
            state := match x.state with | .clean => .empty | .rendering => .renderingStale | y => y } } }))
    ∧ (s.mail.tiles[b.index] = .empty t :: rest →
      exec (.emptyTile b) s = .next { u with render := { s.render with
        urgentLane := s.render.urgentLane.filter fun k => decide (k ≠ t)
        normalLane := s.render.normalLane.filter fun k => decide (k ≠ t)
        tiles := s.render.tiles.setIfInBounds t { x with size := none, image := none, state := .empty, loadData := [] } } })

/-- R143, R149, R150, R152, R153, R156, R173: the render engine. Idle, it starts the waiting piece write, one transfer unit; with
none waiting, the job of the head of URGENT, else of NORMAL, one unit for each 8 cell rows. A completed piece counts, and with the
last one the image is present; it is answered DONE, and REFUSED_STATE if its write ended. A completed job installs its image where
the size still matches; a stale tile, and one whose job ended, goes to the tail of its lane; an emptied one stays as it is. The
restart cancels the work, answers a held piece REFUSED_STATE, and queues the sized rendered tiles and the undrawn TEXT tiles again,
keeping every image. (The model's choices: a channel given work stands PREEMPTED until it is granted the memory, and its fault mark
stays when its work is cancelled, assumption 20; a stale tile joins the lane in its lane field, assumption 17; the restart queues an
EMPTY tile that has a size, assumption 29.) -/
def Obligations.RenderEngineDoesOneThingAtATime : Prop :=
  ((∀ (s : State) (w : PieceWrite), s.render.engine = .idle → s.render.waiting = some w →
     exec .renderJobStart s = .next s
     ∧ exec .pieceWriteStart s = .next { s with
       render := { s.render with engine := .piece w, waiting := none }
       memory := { s.memory with render := { s.memory.render with
         remaining := 1, hasWork := true, state := if s.memory.render.state = .halted then .halted else .preempted } } })
   ∧ (∀ (s : State) (t w h : Nat) (x : Tile) (urgent normal : List Nat), s.render.engine = .idle → s.render.waiting = none →
     (s.render.urgentLane = t :: urgent ∧ s.render.normalLane = normal
       ∨ s.render.urgentLane = [] ∧ urgent = [] ∧ s.render.normalLane = t :: normal) →
     t ∉ urgent → t ∉ normal → s.render.tiles[t]? = some x → x.size = some (w, h) →
     exec .renderJobStart s = .next { s with
       render := { s.render with
         urgentLane := urgent
         normalLane := normal
         tiles := s.render.tiles.setIfInBounds t { x with state := .rendering }
         engine := .job ⟨t, w, h, drawTile s t w h⟩ }
       memory := { s.memory with render := { s.memory.render with
         remaining := (h + 7) / 8, hasWork := true
         state := if s.memory.render.state = .halted then .halted else .preempted } } })
   ∧ (∀ (s u : State) (w : PieceWrite) (x : Tile) (r : WorkReport) (rest : List WorkReport), s.render.engine = .piece w →
     s.mail.memoryToRender = r :: rest → s.render.tiles[w.tile]? = some x →
     u = { s with
       render := { s.render with engine := .idle }
       mail := { s.mail with memoryToRender := rest } } →
     (r = .complete → exec .pieceWriteComplete s = .next (State.issueReserved { u with render := { u.render with
         tiles := s.render.tiles.setIfInBounds w.tile
           (if x.bytesReceived + w.piece.length = x.byteTotal then { x with
              bytesReceived := x.byteTotal, loadData := [], state := .clean
              image := x.size.map fun z => .picture z.1 z.2 (x.loadData ++ w.piece) }
            else { x with bytesReceived := x.bytesReceived + w.piece.length, loadData := x.loadData ++ w.piece }) } }
         w.port ⟨w.tag, w.code, .done, []⟩))
     ∧ (r = .ended → exec .pieceWriteEnded s = .next (u.issueReserved w.port ⟨w.tag, w.code, .refusedState, []⟩)))
   ∧ ∀ (s u : State) (j : RenderJob) (x : Tile) (image : Option Image) (r : WorkReport) (rest : List WorkReport),
     s.render.engine = .job j → s.mail.memoryToRender = r :: rest → s.render.tiles[j.tile]? = some x →
     image = (if x.size = some (j.width, j.height) then some j.image else x.image) →
     u = { s with
       render := { s.render with engine := .idle }
       mail := { s.mail with memoryToRender := rest } } →
     (r = .complete →
       (x.state = .rendering → exec .renderJobComplete s = .next { u with render := { u.render with
         tiles := s.render.tiles.setIfInBounds j.tile { x with image := image, state := .clean } } })
       ∧ (x.state = .renderingStale → exec .renderJobComplete s = .next { u with render := { u.render with
         tiles := s.render.tiles.setIfInBounds j.tile { x with image := image, state := .queued }
         urgentLane := if x.lane = .urgent then s.render.urgentLane ++ [j.tile] else s.render.urgentLane
         normalLane := if x.lane = .urgent then s.render.normalLane else s.render.normalLane ++ [j.tile] } })
       ∧ (x.state = .empty ∨ x.state = .queued ∨ x.state = .clean → exec .renderJobComplete s = .next u))
     ∧ (r = .ended →
       (x.state = .rendering ∨ x.state = .renderingStale → exec .renderJobAbandon s = .next { u with render := { u.render with
         tiles := s.render.tiles.setIfInBounds j.tile { x with state := .queued }
         urgentLane := if x.lane = .urgent then s.render.urgentLane ++ [j.tile] else s.render.urgentLane
         normalLane := if x.lane = .urgent then s.render.normalLane else s.render.normalLane ++ [j.tile] } })
       ∧ (x.state = .empty ∨ x.state = .queued ∨ x.state = .clean → exec .renderJobAbandon s = .next u)))
  ∧ (∀ (s : State) (again pending : Fin 256 → Bool), 0 < s.mail.restarts[Block.render.index] →
       (∀ k, again k = true ↔ s.render.tiles[k].size ≠ none ∧ (k.val < 128 ∨ (192 ≤ k.val ∧ k.val ≤ 199) ∨ 224 ≤ k.val)) →
       (∀ k, pending k = true ↔ (200 ≤ k.val ∧ k.val ≤ 223) ∧ (s.render.tiles[k].state = .queued
         ∨ s.render.tiles[k].state = .rendering ∨ s.render.tiles[k].state = .renderingStale)) →
       ∃ t, exec .renderRestart s = .next t
         ∧ t.render.engine = .idle ∧ t.render.waiting = none
         ∧ (∀ k : Fin 256, t.render.tiles[k] = if again k then { s.render.tiles[k] with state := .queued }
             else if pending k then { s.render.tiles[k] with state := .queued, lane := .normal } else s.render.tiles[k])
         ∧ t.render.urgentLane = ((List.finRange 256).filter fun k => again k && decide (s.render.tiles[k].lane = .urgent)).map Fin.val
         ∧ t.render.normalLane
             = ((List.finRange 256).filter fun k => again k && decide (s.render.tiles[k].lane = .normal)).map Fin.val
               ++ ((List.finRange 256).filter pending).map Fin.val
         ∧ t.memory = { s.memory with
             render := { s.memory.render with
               remaining := 0, hasWork := false, state := if s.memory.render.state = .halted then .halted else .idle }
             inFlight := s.memory.inFlight.map fun x => if x.channel = .render then { x with ignored := true } else x }
         ∧ t.mail = { (s.dropRestart .render).mail with memoryToRender := [] }
         ∧ ((∀ w, s.render.engine ≠ .piece w) → s.render.waiting = none → t.link = s.link)
         ∧ ∀ w, s.render.engine = .piece w ∨ ((∀ y, s.render.engine ≠ .piece y) ∧ s.render.waiting = some w) →
             t.link = (s.issueReserved w.port ⟨w.tag, w.code, .refusedState, []⟩).link)
  ∧ ∀ (s : State) (p : Port) (a : Answer), s.issueReserved p a = s.putPort p { s.port p with
      answers := ⟨(s.port p).answers.answers ++ [a], (s.port p).answers.reserved - 1⟩ }

/-- L7 (R148), R146, R147: a tile stands in the two lanes of the redraw queue at most once in all, in the lane of its lane field,
and exactly when its state is QUEUED; no IMAGE tile is ever queued, and a rendered tile without a size is EMPTY. Every step keeps
it. -/
def Obligations.RedrawQueueHoldsTheQueuedTiles : Prop :=
  ∀ s t : State, s.render.Sound → step s = .next t → t.render.Sound

/-! ### Chapter 9: layouts and frame composition -/

/-- R157, R160, R39: LOAD LAYOUT takes the fields carried, unless one is outside its range, the background is a TILE, or a second
region is FEATURE. APPLY LAYOUT and SET OVERRIDE check ranges and the panel set, then the layout, then the orientation of every
panel of the set; where they pass, exactly the panels of the set take the layout as pending, or as override or none. A cue's APPLY
LAYOUT does the same without answer, and changes no panel where the directive would be refused, for its layout or for its set. -/
def Obligations.LayoutsAreLoadedAndApplied : Prop :=
  (∀ (s u : State) (p : Port) (q : Packet) (n : Nat) (f : LayoutFields) (fill : Coded → Fill → Prop)
     (content : Coded → Content → Prop) (region : Orientation → RegionFields → Region → Prop),
     s.Takes .composer p q (.loadLayout n f) u →
     (∀ c x, fill c x ↔ (c.kind = 1 ∧ x = .colour c.value ∨ c.kind = 2 ∧ c.value ≤ 3 ∧ x = .stream c.value
       ∨ c.kind = 3 ∧ c.value ≤ 255 ∧ x = .tile c.value)) →
     (∀ c x, content c x ↔ (c.kind = 1 ∧ c.value ≤ 3 ∧ x = .stream c.value ∨ c.kind = 2 ∧ c.value ≤ 255 ∧ x = .tile c.value
       ∨ c.kind = 3 ∧ c.value ≤ 7 ∧ x = .board c.value ∨ c.kind = 4 ∧ c.value = 0 ∧ x = .feature
       ∨ c.kind = 5 ∧ c.value ≤ 7 ∧ x = .clock c.value)) →
     (∀ o r x, region o r x ↔ x.rect = ⟨r.col, r.row, r.width, r.height⟩ ∧ content r.content x.content ∧ r.width ≠ 0 ∧ r.height ≠ 0
       ∧ r.col + r.width ≤ (if o = .landscape then 48 else 27) ∧ r.row + r.height ≤ (if o = .landscape then 27 else 48)) →
     (31 < n ∨ (f.orientation ≠ 1 ∧ f.orientation ≠ 2) ∨ f.background.kind = 3 ∨ (∀ x, ¬fill f.background x)
         ∨ (∀ x, ¬fill f.spaceFill x) ∨ f.regions = [] ∨ 12 < f.regions.length
         ∨ (∃ o r, (f.orientation = 1 ∧ o = .landscape ∨ f.orientation = 2 ∧ o = .portrait) ∧ r ∈ f.regions ∧ ∀ x, ¬region o r x)
         ∨ 1 < (f.regions.filter fun r => decide (r.content.kind = 4)).length →
       exec (.loadLayout p) s = .next (u.answered p q .outOfRange))
     ∧ ∀ (h : n < 32) (l : Layout), (f.orientation = 1 ∧ l.orientation = .landscape ∨ f.orientation = 2 ∧ l.orientation = .portrait) →
       f.background.kind ≠ 3 → fill f.background l.background → fill f.spaceFill l.spaceFill →
       List.Forall₂ (region l.orientation) f.regions l.regions → f.regions ≠ [] → f.regions.length ≤ 12 →
       (f.regions.filter fun r => decide (r.content.kind = 4)).length ≤ 1 →
       exec (.loadLayout p) s = .next (State.answered { u with composer := { s.composer with
         layouts := s.composer.layouts.set n (some l) h } } p q .done))
  ∧ ((∀ (s u : State) (p : Port) (q : Packet) (n : Nat) (set : List Nat),
       (s.Takes .composer p q (.applyLayout n set) u → (31 < n ∨ set = [] ∨ (∃ m ∈ set, 11 < m) ∨ ¬set.Nodup) →
         exec (.applyLayout p) s = .next (u.answered p q .outOfRange))
       ∧ (s.Takes .composer p q (.setOverride n set) u →
         ((31 < n ∧ n ≠ 255) ∨ set = [] ∨ (∃ m ∈ set, 11 < m) ∨ ¬set.Nodup) →
         exec (.setOverride p) s = .next (u.answered p q .outOfRange)))
     ∧ (∀ (s : State) (n : Nat) (set : List Nat) (rest : List (Nat × List Nat)), s.mail.cuesToComposer = (n, set) :: rest →
       (31 < n ∨ set = [] ∨ (∃ m ∈ set, 11 < m) ∨ ¬set.Nodup) →
       exec .cueApplyLayout s = .next { s with mail := { s.mail with cuesToComposer := rest } })
     ∧ ∀ (s u v : State) (p : Port) (q : Packet) (n : Nat) (set : List Nat) (rest : List (Nat × List Nat)) (cued : Prop)
       (panels : (Panel → Panel) → Vector Panel 12),
       set ≠ [] → (∀ m ∈ set, m ≤ 11) → set.Nodup →
       (∀ f (k : Fin 12), (panels f)[k] = if k.val ∈ set then f s.composer.panels[k] else s.composer.panels[k]) →
       (cued ↔ s.mail.cuesToComposer = (n, set) :: rest) → v = { s with mail := { s.mail with cuesToComposer := rest } } →
       (s.Takes .composer p q (.setOverride 255 set) u → exec (.setOverride p) s = .next (State.answered
         { u with composer := { s.composer with panels := panels fun x => { x with override := none } } } p q .done))
       ∧ (n ≤ 31 → s.composer.layouts[n]? = some none →
         (s.Takes .composer p q (.applyLayout n set) u → exec (.applyLayout p) s = .next (u.answered p q .noSuch))
         ∧ (s.Takes .composer p q (.setOverride n set) u → exec (.setOverride p) s = .next (u.answered p q .noSuch))
         ∧ (cued → exec .cueApplyLayout s = .next v))
       ∧ ∀ l, s.composer.layouts[n]? = some (some l) →
         ((∃ k : Fin 12, k.val ∈ set ∧ s.output.panels[k].orientation ≠ l.orientation) →
           (s.Takes .composer p q (.applyLayout n set) u → exec (.applyLayout p) s = .next (u.answered p q .refusedState))
           ∧ (s.Takes .composer p q (.setOverride n set) u → exec (.setOverride p) s = .next (u.answered p q .refusedState))
           ∧ (cued → exec .cueApplyLayout s = .next v))
         ∧ ((∀ k : Fin 12, k.val ∈ set → s.output.panels[k].orientation = l.orientation) →
           (s.Takes .composer p q (.applyLayout n set) u → exec (.applyLayout p) s = .next (State.answered
             { u with composer := { s.composer with panels := panels fun x => { x with pendingLayout := some n } } } p q .done))
           ∧ (s.Takes .composer p q (.setOverride n set) u → exec (.setOverride p) s = .next (State.answered
             { u with composer := { s.composer with panels := panels fun x => { x with override := some n } } } p q .done))
           ∧ (cued → exec .cueApplyLayout s = .next
             { v with composer := { s.composer with panels := panels fun x => { x with pendingLayout := some n } } })))

/-- R159, R161: what the composer does at the events of the panel output. A panel that goes DARK leaves the queue and frees its
FRONT and READY buffers. A frame slot of a LIVE panel swaps a READY buffer to the front and counts it shown, or counts the FRONT
repeated; takes the pending layout; and queues a request, or raises FRAME_LATE where one is unfinished. Other slots are ignored. -/
def Obligations.PanelsFollowTheirEvents : Prop :=
  ∀ (s u : State) (k : Fin 12) (x : Panel) (e : PanelEvent) (rest : List PanelEvent), s.mail.outputToComposer = e :: rest →
    x = s.composer.panels[k] → u = { s with mail := { s.mail with outputToComposer := rest } } →
    (e = .live k → exec .panelLive s = .next
      { u with composer := { s.composer with panels := put s.composer.panels k { x with state := .live } } })
    ∧ (e = .standby k → exec .panelStandbyEvent s = .next
      { u with composer := { s.composer with panels := put s.composer.panels k { x with state := .standby } } })
    ∧ (e = .dark k → exec .panelDark s = .next { u with composer := { s.composer with
        queue := s.composer.queue.filter fun j => decide (j ≠ k)
        panels := put s.composer.panels k { x with
          state := .dark
          bufA := if x.bufA.role = .composing then x.bufA else { x.bufA with role := .free }
          bufB := if x.bufB.role = .composing then x.bufB else { x.bufB with role := .free }
          request := if x.request = .queued then .none else x.request } } })
    ∧ (e = .slot k → x.state ≠ .live → exec .frameSlot s = .next u)
    ∧ ∀ (turn : Buffer → Buffer) (y z : Panel), e = .slot k → x.state = .live →
      (∀ b, turn b = { b with role := match b.role with | .ready => .front | .front => .free | r => r }) →
      y = (if x.bufA.role = .ready ∨ x.bufB.role = .ready then
            { x with bufA := turn x.bufA, bufB := turn x.bufB, shown := min (x.shown + 1) 4294967295 }
          else if x.bufA.role = .front ∨ x.bufB.role = .front then { x with repeated := min (x.repeated + 1) 4294967295 } else x) →
      z = { y with
        current := match x.pendingLayout with | none => x.current | some n => some n
        pendingLayout := none } →
      (x.request = .none → exec .frameSlot s = .next { u with composer := { s.composer with
        queue := s.composer.queue ++ [k.val]
        panels := put s.composer.panels k { z with request := .queued } } })
      ∧ (x.request ≠ .none → exec .frameSlot s = .next (State.sendCondition
        { u with composer := { s.composer with panels := put s.composer.panels k z } } .composer (.raise .frameLate)))

/-- R162, R163, R165, R166, R169: a compose job. The engine takes the panel at the head of the queue: a FREE buffer becomes
COMPOSING with the next sequence, the frame is read as it stands, its streams' pins are asked for and its transfer units given to
the channel. At completion the buffer, which now holds the frame, becomes FREE, READY or FRONT by the panel's state; an abandoned
job frees its buffer and queues its panel again unless it is DARK. Either way the pins are released. The restart cancels the job,
empties the queue, frees both buffers of every panel and clears its request. Which of two FREE buffers is taken is left free
(assumption 12). (The model's choices: a job starts only once the rotation and notice units have taken their tick or second whole,
assumption 5; a channel given work stands PREEMPTED until it is granted the memory, a frame is read at the start and its buffer
takes it at completion, and the fault mark stays when the work is cancelled, assumption 20.) -/
def Obligations.ComposeJobsRunTheirCourse : Prop :=
  ((∀ (s : State) (k : Fin 12) (x : Panel) (rest : List Nat) (f : Frame) (units : Nat), s.composer.engine = none →
     s.composer.queue = k.val :: rest → s.rotation.settled = true → s.notice.settled = true → x = s.composer.panels[k] →
     (x.bufA.role = .free ∨ x.bufB.role = .free) → s.frameFor k x = (f, units) →
     ∃ n : BufferName, (x.bufferNamed n).role = .free ∧ exec .composeJobStart s = .next { s with
       choices := s.choices + 1
       composer := { s.composer with
         queue := rest
         engine := some ⟨k, n, f⟩
         panels := put s.composer.panels k
           { x.putBuffer n { x.bufferNamed n with role := .composing, seq := x.nextSeq } with
             nextSeq := if x.nextSeq = 65535 then 1 else x.nextSeq + 1, request := .composing } }
       mail := { s.mail with
         composerToMemory := s.mail.composerToMemory ++ f.streams.map fun i => .pin i (decide (x.state = .live)) }
       memory := { s.memory with compose := { s.memory.compose with
         remaining := units, hasWork := true, state := if s.memory.compose.state = .halted then .halted else .preempted } } })
   ∧ ∀ (s u : State) (j : ComposeJob) (k : Fin 12) (x : Panel) (b : Buffer) (r : WorkReport) (rest : List WorkReport),
     s.composer.engine = some j → s.mail.memoryToComposer = r :: rest → j.panel = k.val → x = s.composer.panels[k] →
     b = x.bufferNamed j.buffer →
     u = { s with
       composer := { s.composer with engine := none }
       mail := { s.mail with memoryToComposer := rest, composerToMemory := s.mail.composerToMemory ++ [.release] } } →
     (r = .complete → exec .composeJobComplete s = .next { u with composer := { u.composer with
       panels := put s.composer.panels k
         (if x.state = .dark then { x.putBuffer j.buffer { b with role := .free, frame := j.frame } with request := .none }
          else if x.bufA.role = .front ∨ x.bufB.role = .front then
            { x.putBuffer j.buffer { b with role := .ready, frame := j.frame } with request := .none }
          else { x.putBuffer j.buffer { b with role := .front, frame := j.frame } with
            request := .none, shown := min (x.shown + 1) 4294967295 }) } })
     ∧ (r = .ended → exec .composeJobAbandon s = .next { u with composer := { u.composer with
       queue := if x.state = .dark then s.composer.queue else s.composer.queue ++ [k.val]
       panels := put s.composer.panels k { x.putBuffer j.buffer { b with role := .free } with
         request := if x.state = .dark then .none else .queued } } }))
  ∧ (∀ s : State, 0 < s.mail.restarts[Block.composer.index] → exec .composerRestart s = .next { s.dropRestart .composer with
       composer := { s.composer with
         engine := none
         queue := []
         panels := mapAll (fun x => { x with
           bufA := { x.bufA with role := .free }, bufB := { x.bufB with role := .free }, request := .none }) s.composer.panels }
       mail := { (s.dropRestart .composer).mail with
         memoryToComposer := []
         composerToMemory := s.mail.composerToMemory ++ if s.composer.engine = none then [] else [.release] }
       memory := { s.memory with
         compose := { s.memory.compose with
           remaining := 0, hasWork := false, state := if s.memory.compose.state = .halted then .halted else .idle }
         inFlight := s.memory.inFlight.map fun x => if x.channel = .compose then { x with ignored := true } else x } })
  ∧ (∀ (x : Panel) (b : Buffer), x.bufferNamed .a = x.bufA ∧ x.bufferNamed .b = x.bufB ∧ x.putBuffer .a b = { x with bufA := b }
    ∧ x.putBuffer .b b = { x with bufB := b })
  ∧ ∀ (f : Frame), f.streams.Nodup ∧ ∀ n, n ∈ f.streams ↔ ∃ y ∈ f.layers, y.paint = .stream n

/-- R158, R164, R165, R116, R130, R157, L9, L8 (R120): what a frame is drawn from. In takeover it is the override layout where that
is loaded and has the panel's orientation, and otherwise the default takeover, and nothing of it comes from a carousel; out of
takeover it is the current layout, or black. (That a layout which is not loaded is treated as one that does not fit is the model's
choice, assumption 24.) The default takeover is the urgent colour over the whole panel and on it the urgent content: the tile of the
first notice, from the shown one on and wrapping, that is not guarded out, or the urgent colour where all are; a notice is guarded
out when its bound screening is absent, CLOSED, or CANCELLED and past its linger. A layout is one transfer unit for its background
and one for each region, the default takeover two, a black frame one. A tile drawn is never the tile of a bound notice whose
screening is absent, CLOSED or past its cancel linger, nor the tile of a withdrawn notice that has still to be emptied (R147; the
model's choice of how: assumption 26). A layout is drawn background first, then its regions in order, each content as R158 lists it
and a FEATURE region as the carousel's record stands (R130) or, in takeover, with the urgent content. A pixel has the colour of the
last layer that draws it, and a layer draws nothing outside its rectangle; a colour has its red, green and blue parts. (That a
FEATURE stream is drawn as a tile image is: assumption 16.) -/
def Obligations.FramesAreDrawnFromTheRightSource : Prop :=
  (∀ (s : State) (p : Nat) (x : Panel) (o : Orientation) (fits : Option Nat → Nat → Layout → Prop), o = s.orientationOf p →
    (∀ k n l, fits k n l ↔ k = some n ∧ s.composer.layouts[n]? = some (some l) ∧ l.orientation = o) →
    (s.inTakeover p = true →
      (∀ n l, fits x.override n l → s.frameFor p x = (⟨o, .override n, s.layoutLayers p l⟩, 1 + l.regions.length))
      ∧ ((∀ n l, ¬fits x.override n l) → s.frameFor p x = (s.defaultTakeover p o, 2))
      ∧ ∀ y ∈ (s.frameFor p x).1.layers, y.origin ≠ .carousel ∧ y.origin ≠ .spaceFill)
    ∧ s.defaultTakeover p o = ⟨o, .defaultTakeover,
        ⟨if o = .landscape then ⟨0, 0, 48, 27⟩ else ⟨0, 0, 27, 48⟩, .colour s.notice.style.urgentColour, .urgent, none⟩
          :: match s.urgentNotice p with
            | some n => s.tileLayers (if o = .landscape then ⟨0, 0, 48, 27⟩ else ⟨0, 0, 27, 48⟩) .urgent (224 + n.slot)
            | none => [⟨if o = .landscape then ⟨0, 0, 48, 27⟩ else ⟨0, 0, 27, 48⟩, .colour s.notice.style.urgentColour, .urgent,
                none⟩]⟩
    ∧ (s.inTakeover p = false →
      (∀ n l, fits x.current n l → s.frameFor p x = (⟨o, .current n, s.layoutLayers p l⟩, 1 + l.regions.length))
      ∧ ((∀ n l, ¬fits x.current n l) → s.frameFor p x = (⟨o, .black, []⟩, 1))))
  ∧ (∀ (s : State) (n : Notice), (n.bound = none → s.guardedOut n = false)
    ∧ ∀ scr, n.bound = some scr → (s.guardedOut n = true ↔
      (∀ r ∈ s.schedule.table, r.number ≠ scr) ∨ ∃ r, findScreening s.schedule.table scr = some r
        ∧ (r.phase = .closed ∨ r.phase = .cancelled
          ∧ ∃ c, r.cancelTime = some c ∧ min (c + 60 * s.schedule.settings.linger) 4294967295 ≤ s.clock.runTime)))
  ∧ (∀ (s : State) (k : Fin 12) (ls : List Nat) (i m : Nat), s.notice.Sound → ls = s.notice.urgent[k].list →
    s.notice.urgent[k].shown = some m → ls[i]? = some m →
    s.inTakeover k.val = true
    ∧ (∀ n : Notice, s.urgentNotice k.val = some n ↔ n ∈ s.notice.notices ∧ s.guardedOut n = false ∧
        ∃ j < ls.length, ls[(i + j) % ls.length]? = some n.number
          ∧ ∀ h < j, ∀ y ∈ s.notice.notices, ls[(i + h) % ls.length]? = some y.number → s.guardedOut y = true)
    ∧ (s.urgentNotice k.val = none ↔ ∀ y ∈ s.notice.notices, y.number ∈ ls → s.guardedOut y = true))
  ∧ (∀ (s : State) (k : Fin 12), s.notice.urgent[k].list = [] → s.inTakeover k.val = false)
  ∧ (∀ (s : State) (p : Nat) (x : Panel) (y : Layer) (n : Notice) (r : Option Screening) (scr : Nat), s.notice.Sound →
    y ∈ (s.frameFor p x).1.layers → n ∈ s.notice.notices → y.tile = some (224 + n.slot) → n.bound = some scr →
    r = findScreening s.schedule.table scr →
    ∃ z, r = some z ∧ z.phase ≠ .closed
      ∧ (z.phase = .cancelled → ∀ c, z.cancelTime = some c →
          s.clock.runTime < min (c + 60 * s.schedule.settings.linger) 4294967295))
  ∧ (∀ (s : State) (p k : Nat) (x : Panel) (y : Layer), TileRequest.empty (224 + k) ∈ s.mail.tiles[Block.notice.index] →
    y ∈ (s.frameFor p x).1.layers → y.tile ≠ some (224 + k))
  ∧ (∀ (s : State) (p : Nat) (l : Layout) (tile : Rect → Origin → Nat → List Layer) (fill : Rect → Origin → Fill → List Layer),
    (∀ (rect : Rect) (origin : Origin) (t : Nat) (z : Tile), s.render.tiles[t]? = some z →
      (s.tileGuarded t = false → ∀ i, z.image = some i → tile rect origin t = [⟨rect, .image i, origin, some t⟩])
      ∧ ((s.tileGuarded t = true ∨ z.image = none) → tile rect origin t = [])) →
    (∀ rect origin t, 256 ≤ t → tile rect origin t = []) →
    (∀ rect origin c, fill rect origin (.colour c) = [⟨rect, .colour c, origin, none⟩]) →
    (∀ rect origin n, fill rect origin (.stream n) = [⟨rect, .stream n, origin, none⟩]) →
    (∀ rect origin t, fill rect origin (.tile t) = tile rect origin t) →
    s.layoutLayers p l = fill (if l.orientation = .landscape then ⟨0, 0, 48, 27⟩ else ⟨0, 0, 27, 48⟩) .background l.background
        ++ l.regions.flatMap (s.regionLayers p l)
    ∧ ∀ r : Region,
      (∀ n, r.content = .stream n → s.regionLayers p l r = [⟨r.rect, .stream n, .region, none⟩])
      ∧ (∀ t, r.content = .tile t → s.regionLayers p l r = tile r.rect .region t)
      ∧ (∀ c, r.content = .clock c → s.regionLayers p l r = tile r.rect .region (192 + c))
      ∧ (∀ (k : Fin 8) (d : BoardDef), r.content = .board k.val → s.builder.boards[k].defn = some d →
        s.regionLayers p l r = (List.range (min d.rowsPerPage r.rect.height)).flatMap fun j =>
          tile ⟨r.rect.col, r.rect.row + j, r.rect.width, r.rect.height - j⟩ .region (16 * k.val + j))
      ∧ (∀ k : Fin 8, r.content = .board k.val → s.builder.boards[k].defn = none → s.regionLayers p l r = [])
      ∧ (r.content = .feature → s.inTakeover p = true →
        (∀ n, s.urgentNotice p = some n → s.regionLayers p l r = tile r.rect .urgent (224 + n.slot))
        ∧ (s.urgentNotice p = none →
          s.regionLayers p l r = [⟨r.rect, .colour s.notice.style.urgentColour, .urgent, none⟩]))
      ∧ ∀ c : Carousel, r.content = .feature → s.inTakeover p = false → s.rotation.carousels[p]? = some c →
        (c.run = .stopped ∨ c.phase ≠ some .mark ∨ c.shown = none →
          s.regionLayers p l r = fill r.rect .spaceFill l.spaceFill)
        ∧ (c.run ≠ .stopped → c.phase = some .mark →
          (∀ n, c.shown = some (.stream n) → s.regionLayers p l r = [⟨r.rect, .stream n, .carousel, none⟩])
          ∧ (∀ t, c.shown = some (.tile t) → s.regionLayers p l r = tile r.rect .carousel t)
          ∧ ∀ n, c.shown = some (.notice n) →
            (∀ y, findNotice s.notice.notices n = some y → (y.cls = .service ∨ y.cls = .promo) → p ∈ y.targets →
              s.guardedOut y = false → s.regionLayers p l r = tile r.rect .carousel (224 + y.slot))
            ∧ ((∀ y, findNotice s.notice.notices n = some y →
                y.cls = .urgent ∨ p ∉ y.targets ∨ s.guardedOut y = true) →
              s.regionLayers p l r = fill r.rect .spaceFill l.spaceFill)))
  ∧ (∀ (o : Orientation) (b : FrameBasis) (ls : List Layer) (y : Layer) (px py : Nat),
    (Frame.mk o b (ls ++ [y])).pixel px py = (match y.pixel px py with | some c => c | none => (Frame.mk o b ls).pixel px py)
    ∧ ((px < 40 * y.rect.col ∨ 40 * (y.rect.col + y.rect.width) ≤ px ∨ py < 40 * y.rect.row
        ∨ 40 * (y.rect.row + y.rect.height) ≤ py) → y.pixel px py = none)
    ∧ (40 * y.rect.col ≤ px → px < 40 * (y.rect.col + y.rect.width) → 40 * y.rect.row ≤ py →
        py < 40 * (y.rect.row + y.rect.height) →
      (∀ c, y.paint = .colour c → y.pixel px py = some c)
      ∧ ∀ i, y.paint = .image i → y.pixel px py = i.pixel (px - 40 * y.rect.col) (py - 40 * y.rect.row)))
  ∧ (∀ (s : State) (t : Nat), s.tileGuarded t = true ↔ 224 ≤ t ∧ (TileRequest.empty t ∈ s.mail.tiles[Block.notice.index]
      ∨ ∃ n, noticeInSlot s.notice.notices (t - 224) = some n ∧ s.guardedOut n = true))
  ∧ (∀ (s : State) (k : Fin 12), s.orientationOf k = s.output.panels[k].orientation)
  ∧ (∀ (f : Frame) (px py c : Nat), f.pixel px py = c → c ≤ 65535 →
    f.colour px py = ⟨c / 2048, c / 32 % 64, c % 32⟩ ∧ (f.colour px py).red ≤ 31
      ∧ c = (f.colour px py).red * 2048 + (f.colour px py).green * 32 + (f.colour px py).blue)
  ∧ ∀ (o : Orientation) (px py : Nat), (Frame.mk o .black []).pixel px py = 0

/-- L6 (R161), R159, R162, R163: of a panel's two buffers at most one is FRONT and at most one READY; a buffer is COMPOSING exactly
while the engine's job writes it; a panel with a request has no READY buffer; and each panel is in the queue at most once, exactly
while its request is QUEUED. Every step keeps it. -/
def Obligations.BuffersKeepTheirRoles : Prop :=
  ∀ s t : State, s.composer.Sound → step s = .next t → t.composer.Sound

/-! ### Chapter 10: frame memory and panel outputs -/

/-- R170, R171, R172: a segment too short for its fields (the model's choice: assumption 21), or of a stream above 3, is dropped.
One whose last flag or size is out of range abandons the frame in reception; one of index 0 abandons it and begins a new frame; one
that is not the next of the frame in reception, or finds the ingest queue full or the channels HALTED, or ends its frame short,
abandons its frame; any other joins the ingest queue bound to its frame. A pin request marks the LATEST store and records the use
when its panel is LIVE; a release clears every pin, and a HELD store becomes FREE. A stream used within the last 2 seconds without a
completed frame for 2 seconds becomes lost and raises STREAM_LOST. (The model's choices: the watch reads the run time that the
second carries, and each stream that becomes lost sends a raise of its own, assumption 22; writes are bound to their frames by
numbers of the model's own, and the write in flight is not counted in the ingest queue, assumption 21.) -/
def Obligations.SegmentsBuildFramesAndStreamsAreWatched : Prop :=
  ((∀ (s u : State) (body : List Byte) (rest : List (List Byte)), s.mail.segments = body :: rest →
     u = { s with mail := { s.mail with segments := rest } } →
     (body.length < 12 → exec .segment s = .next u)
     ∧ ∀ (n number index last w h : Nat) (data : List Byte) (x : Stream) (m0 m : MemoryUnit) (r : Reception) (fits : Prop),
       (∀ k ∈ [n, number, index, last, w, h], k ≤ 65535) →
       body = put2 n ++ put2 number ++ put2 index ++ put2 last ++ put2 w ++ put2 h ++ data →
       (3 < n → exec .segment s = .next u)
       ∧ (s.memory.streams[n]? = some x →
         m0 = (match x.reception with | none => s.memory | some o => s.memory.abandonFrame n o.frameId) →
         (1 < last ∨ w < 1 ∨ 48 < w ∨ h < 1 ∨ 48 < h → exec .segment s = .next { u with memory := m0 })
         ∧ (last ≤ 1 → 1 ≤ w → w ≤ 48 → 1 ≤ h → h ≤ 48 → index ≠ 0 → x.reception = none → exec .segment s = .next u)
         ∧ (last ≤ 1 → 1 ≤ w → w ≤ 48 → 1 ≤ h → h ≤ 48 →
           (index ≠ 0 ∧ m = s.memory ∧ x.reception = some r
             ∨ index = 0 ∧ r = ⟨x.nextFrameId, number, w, h, 0, 0⟩ ∧ m = { m0 with
               streams := m0.streams.setIfInBounds n { x with reception := some r, nextFrameId := x.nextFrameId + 1 } }) →
           (fits ↔ index = r.nextIndex ∧ number = r.frameNumber ∧ w = r.width ∧ h = r.height
             ∧ r.bytes + data.length ≤ 3200 * w * h) →
           (¬fits ∨ m.ingest.state = .halted ∨ 4 ≤ m.ingestQueue.length
               ∨ (last = 1 ∧ r.bytes + data.length < 3200 * w * h) →
             exec .segment s = .next { u with memory := m.abandonFrame n r.frameId })
           ∧ (fits → m.ingest.state ≠ .halted → m.ingestQueue.length ≤ 3 →
             ¬(last = 1 ∧ r.bytes + data.length < 3200 * w * h) →
             exec .segment s = .next { u with memory := ((MemoryUnit.countIngest { m with
                 ingestQueue := m.ingestQueue
                   ++ [⟨n, r.frameId, number, w, h, decide (index = 0), decide (last = 1), data⟩] }).changeStream n
               fun y => { y with
                 reception := if last = 1 then none
                   else some { r with nextIndex := r.nextIndex + 1, bytes := r.bytes + data.length } }) }))))
   ∧ ∀ (m a : MemoryUnit) (n id : Nat), a = m.abandonFrame n id →
     a.ingestQueue = m.ingestQueue.filter (fun w => !(decide (w.stream = n) && decide (w.frameId = id)))
     ∧ a.inFlight = m.inFlight.map (fun u => match u.write with
         | none => u
         | some w => if w.stream = n ∧ w.frameId = id then { u with abandoned := true } else u)
     ∧ (∀ k : Fin 4, a.streams[k] = if k.val = n ∧ m.streams[k].reception.map Reception.frameId = some id then
         { m.streams[k] with reception := none } else m.streams[k])
     ∧ a.compose = m.compose ∧ a.render = m.render
     ∧ ∀ (k : Fin 4) (f : Stream → Stream), m.changeStream k f = { m with streams := put m.streams k (f m.streams[k]) })
  ∧ ((∀ (s : State) (n : Fin 4) (live : Bool) (x : Stream) (rest : List PinEvent),
       s.mail.composerToMemory = .pin n live :: rest → x = s.memory.streams[n] →
       exec .pinRequest s = .next { s with
         mail := { s.mail with composerToMemory := rest }
         memory := { s.memory with streams := put s.memory.streams n { x with
           stores := mapAll (fun y => if y.role = .latest then { y with pinned := true } else y) x.stores
           lastUse := if live then some s.clock.runTime else x.lastUse } } })
     ∧ (∀ (s : State) (rest : List PinEvent), s.mail.composerToMemory = .release :: rest →
       exec .pinRelease s = .next { s with
         mail := { s.mail with composerToMemory := rest }
         memory := { s.memory with
           streams := mapAll (fun (x : Stream) => { x with
             stores := mapAll (fun (y : Store) => { y with pinned := false, role := if y.role = .held then .free else y.role })
               x.stores }) s.memory.streams } })
     ∧ ∀ (s : State) (t : Nat) (loses : Stream → Bool), s.nextSecond .memory = some t →
       (∀ x, loses x = true ↔ x.lost = false ∧ (∃ u, x.lastUse = some u ∧ t < u + 2) ∧ x.lastFrame + 2 ≤ t) →
       ∃ v, exec .streamWatch s = .next v
         ∧ v.memory = { s.memory with
             streams := mapAll (fun x => if loses x then { x with lost := true } else x) s.memory.streams }
         ∧ v.mail.conditions[Block.memory.index] = s.mail.conditions[Block.memory.index]
             ++ List.replicate (s.memory.streams.toList.filter loses).length (.raise .streamLost))

/-- R173, R170, R172, R158: with no unit in flight the memory goes to the highest channel, in the order INGEST, COMPOSE, RENDER,
that is not HALTED and has a unit; while COMPOSE is the one and a pin of its job has still to be taken, no channel gets it. A
completed unit lowers its channel's count, and with the last one its work is reported complete;
a completed segment write adds its bytes to the RECEIVING store, and the last of a frame turns the stores and records the time of
the frame; an ignored unit only ends. (The model's choices: COMPOSE is granted a unit only once its pins have been taken, and a
frame's streams are drawn when its last unit completes, assumption 11; between its units a channel stands PREEMPTED, assumption 20;
an abandoned write in flight lowers the count and writes nothing, assumption 21.) -/
def Obligations.MemoryGoesToTheHighestChannel : Prop :=
  (∀ (s : State) (u : UnitInFlight), s.memory.inFlight = some u → exec .unitGrant s = .next s)
  ∧ (∀ s : State, s.memory.inFlight = none →
    (∀ w rest, s.memory.ingest.waits = true → s.memory.ingestQueue = w :: rest →
      exec .unitGrant s = .next { s with memory := MemoryUnit.countIngest { s.memory with
        ingestQueue := rest, inFlight := some ⟨.ingest, false, some w, false⟩ } })
    ∧ (s.memory.ingest.waits = false → s.memory.compose.waits = true →
        (∀ n live, PinEvent.pin n live ∉ s.mail.composerToMemory) →
      exec .unitGrant s = .next { s with memory := { s.memory with
        compose := { s.memory.compose with state := .active }, inFlight := some ⟨.compose, false, none, false⟩ } })
    ∧ (s.memory.ingest.waits = false → s.memory.compose.waits = true → (∃ n live, PinEvent.pin n live ∈ s.mail.composerToMemory) →
      exec .unitGrant s = .next s)
    ∧ (s.memory.ingest.waits = false → s.memory.compose.waits = false → s.memory.render.waits = true →
      exec .unitGrant s = .next { s with memory := { s.memory with
        render := { s.memory.render with state := .active }, inFlight := some ⟨.render, false, none, false⟩ } })
    ∧ (s.memory.ingest.waits = false → s.memory.compose.waits = false → s.memory.render.waits = false →
      exec .unitGrant s = .next s))
  ∧ (∀ c : Channel, c.waits = true ↔ c.state ≠ .halted ∧ c.hasWork = true ∧ 0 < c.remaining)
  ∧ (∀ m : MemoryUnit, m.inFlight = none → m.countIngest = { m with ingest := { m.ingest with
      remaining := m.ingestQueue.length
      hasWork := decide (0 < m.ingestQueue.length)
      state := if m.ingest.state = .halted then .halted else if m.ingestQueue = [] then .idle else .preempted } })
  ∧ (∀ (m : MemoryUnit) (w : SegmentWrite) (a : Bool), m.inFlight = some ⟨.ingest, false, some w, a⟩ →
    m.countIngest = { m with ingest := { m.ingest with
      remaining := m.ingestQueue.length + 1
      hasWork := true
      state := if m.ingest.state = .halted then .halted else .active } })
  ∧ ∀ (s v : State) (u : UnitInFlight), s.memory.inFlight = some u →
    v = { s with memory := MemoryUnit.countIngest { s.memory with inFlight := none } } →
    (u.ignored = true → exec .transferUnitComplete s = .next v)
    ∧ (u.ignored = false → u.channel = .ingest →
      (u.abandoned = true → exec .transferUnitComplete s = .next v)
      ∧ ∀ (w : SegmentWrite) (x : Stream) (stores : Vector Store 3), u.abandoned = false → u.write = some w →
        s.memory.streams[w.stream]? = some x →
        stores = mapAll (fun y => if y.role = .receiving then
          { y with data := if w.first then w.data else y.data ++ w.data } else y) x.stores →
        ∃ t y, exec .transferUnitComplete s = .next t ∧ t.memory.streams[w.stream]? = some y
          ∧ t.memory = { v.memory with streams := t.memory.streams } ∧ t.memory.inFlight = none
          ∧ (∀ k, k ≠ w.stream → t.memory.streams[k]? = s.memory.streams[k]?)
          ∧ (w.last = false → y = { x with stores := stores })
          ∧ (w.last = true → y = { x with stores := y.stores, lastFrame := s.clock.runTime, lost := false }
            ∧ ∀ i : Fin 3,
              (stores[i].role = .receiving → y.stores[i] = { stores[i] with
                role := .latest, frameNumber := w.frameNumber, width := w.width, height := w.height })
              ∧ (stores[i].role = .latest → stores[i].pinned = true → y.stores[i] = { stores[i] with role := .held })
              ∧ (stores[i].role = .latest → stores[i].pinned = false →
                  y.stores[i] = { stores[i] with role := y.stores[i].role }
                  ∧ (y.stores[i].role = .free ∨ y.stores[i].role = .receiving))
              ∧ (stores[i].role = .held → y.stores[i] = stores[i])
              ∧ (stores[i].role = .free → y.stores[i] = { stores[i] with role := y.stores[i].role }
                  ∧ (y.stores[i].role = .free ∨ y.stores[i].role = .receiving)))
          ∧ t.mail.conditions[Block.memory.index] = s.mail.conditions[Block.memory.index]
              ++ (if w.last = true ∧ x.lost = true ∧ (∀ k : Fin 4, k.val ≠ w.stream → s.memory.streams[k].lost = false)
                then [.ends .streamLost] else []))
    ∧ (u.ignored = false → u.channel = .compose →
      (2 ≤ s.memory.compose.remaining → exec .transferUnitComplete s = .next { v with memory := { v.memory with
        compose := { s.memory.compose with remaining := s.memory.compose.remaining - 1, state := .preempted } } })
      ∧ (s.memory.compose.remaining ≤ 1 → ∃ t, exec .transferUnitComplete s = .next t
        ∧ t.memory = { v.memory with compose := { s.memory.compose with remaining := 0, hasWork := false, state := .idle } }
        ∧ t.mail = { s.mail with memoryToComposer := s.mail.memoryToComposer ++ [.complete] }
        ∧ t.composer = { s.composer with
            engine := s.composer.engine.map fun j => { j with frame := j.frame.resolve t.memory } }))
    ∧ (∀ (f : Frame) (y : Layer) (ls : List Layer) (m : MemoryUnit), (f.resolve m).orientation = f.orientation
      ∧ (f.layers = [] → (f.resolve m).layers = [])
      ∧ (f.layers = y :: ls → (f.resolve m).layers
        = (match y.paint with
            | .stream n => match m.pinnedStore n with
              | some z => [{ y with paint := .image (.picture z.width z.height z.data) }]
              | none => []
            | _ => [y]) ++ (Frame.resolve { f with layers := ls } m).layers))
    ∧ (∀ (m : MemoryUnit) (n : Fin 4) (k : Fin 3), m.streams[n].stores[k].pinned = true →
        (∀ j : Fin 3, j ≠ k → m.streams[n].stores[j].pinned = false) → m.pinnedStore n = some m.streams[n].stores[k])
    ∧ (u.ignored = false → u.channel = .render →
      (2 ≤ s.memory.render.remaining → exec .transferUnitComplete s = .next { v with memory := { v.memory with
        render := { s.memory.render with remaining := s.memory.render.remaining - 1, state := .preempted } } })
      ∧ (s.memory.render.remaining ≤ 1 → exec .transferUnitComplete s = .next { v with
        memory := { v.memory with render := { s.memory.render with remaining := 0, hasWork := false, state := .idle } }
        mail := { s.mail with memoryToRender := s.mail.memoryToRender ++ [.complete] } }))

/-- R174, R175, R180: a unit that meets an error raises MEMORY_FAULT, halts every channel and ends every frame with a write in the
ingest queue; unless its work is gone, its channel's count is lowered and takes the fault mark. The resume reports the work of the
marked channel ended and drops it, and every channel leaves HALTED. The unit's restart drops all work, reporting it ended, puts the
streams as after a full reset but for the last frame time, and ends both its conditions. (The model's choices: an abandoned write in
flight still takes the fault mark, assumption 21; the fault mark of cancelled work stays until the resume, assumption 20; the frame
number and size of a store at reset, assumption 14.) -/
def Obligations.FaultsHaltTheChannelsUntilTheResume : Prop :=
  (∀ (s : State) (u : UnitInFlight) (lowered : ChannelName → Channel → Channel) (ends : Fin 4 → Nat → Bool),
    s.memory.inFlight = some u →
    (∀ n c, lowered n c = if u.channel = n ∧ u.ignored = false then
        { c with remaining := c.remaining - 1, fault := true, state := .halted } else { c with state := .halted }) →
    (∀ k id, ends k id = true ↔ ∃ w, (w ∈ s.memory.ingestQueue
      ∨ (u.channel = .ingest ∧ u.ignored = false ∧ u.write = some w)) ∧ w.stream = k.val ∧ w.frameId = id) →
    ∃ t, exec .unitFault s = .next t
      ∧ t.memory.inFlight = none ∧ t.memory.ingestQueue = []
      ∧ t.memory.compose = lowered .compose s.memory.compose ∧ t.memory.render = lowered .render s.memory.render
      ∧ t.memory.ingest = { lowered .ingest s.memory.ingest with remaining := 0, hasWork := false }
      ∧ (∀ k : Fin 4, t.memory.streams[k] = { s.memory.streams[k] with reception := match s.memory.streams[k].reception with
          | none => none
          | some r => if ends k r.frameId then none else some r })
      ∧ t.mail.conditions[Block.memory.index] = s.mail.conditions[Block.memory.index] ++ [.raise .memoryFault])
  ∧ (∀ (s : State) (rest : List MemoryEvent) (after : Channel → Channel), s.mail.linkToMemory = .resume :: rest →
    (∀ c, after c = if c.fault then ⟨.idle, 0, false, false⟩
      else if c.state = .halted then { c with state := if c.hasWork then .preempted else .idle } else c) →
    exec .resume s = .next { s with
      memory := { s.memory with
        ingest := after s.memory.ingest, compose := after s.memory.compose, render := after s.memory.render }
      mail := { s.mail with
        linkToMemory := rest
        memoryToComposer := s.mail.memoryToComposer
          ++ if s.memory.compose.fault ∧ s.memory.compose.hasWork then [.ended] else []
        memoryToRender := s.mail.memoryToRender
          ++ if s.memory.render.fault ∧ s.memory.render.hasWork then [.ended] else [] } })
  ∧ ∀ (s : State) (rest : List MemoryEvent), s.mail.linkToMemory = .restart :: rest →
    ∃ t, exec .frameMemoryRestart s = .next t
      ∧ t.memory.ingestQueue = [] ∧ t.memory.ingest = .atReset ∧ t.memory.compose = .atReset ∧ t.memory.render = .atReset
      ∧ t.memory.inFlight = s.memory.inFlight.map (fun u => { u with ignored := true })
      ∧ (∀ k : Fin 4, t.memory.streams[k] = { Stream.atReset with
          lastFrame := s.clock.runTime, nextFrameId := s.memory.streams[k].nextFrameId })
      ∧ t.mail.memoryToComposer = s.mail.memoryToComposer ++ (if s.memory.compose.hasWork then [.ended] else [])
      ∧ t.mail.memoryToRender = s.mail.memoryToRender ++ (if s.memory.render.hasWork then [.ended] else [])
      ∧ t.mail.conditions[Block.memory.index]
          = s.mail.conditions[Block.memory.index] ++ [.ends .memoryFault, .ends .streamLost]
      ∧ t.mail.linkToMemory = rest

/-- R170, R171: a stream has exactly one RECEIVING store, at most one LATEST and at most one pinned store; RECEIVING and FREE stores
are not pinned and a HELD store is; and one job's pins are released before the next job's are asked for. Every step keeps it. -/
def Obligations.StoresKeepTheirRoles : Prop :=
  ∀ s t : State, s.StoresSound → step s = .next t → t.StoresSound

/-- R176, R177, R39, L6 (R161): what the panel output does at its panel links' reports, at its directives and at cues, and what a
panel link sends: the panel's FRONT buffer, or a black frame where it has none, and after a frame slot the buffer that was READY.
Each changes the records
it names, one after another in the order carried; a change of a panel's state is sent to the composer, a lost mark that becomes set
raises PANEL_LOST, and one that clears ends it when no other is set. A frame slot is passed on for a LIVE panel and dropped
otherwise. A restart keeps the records. (The model's choices: what a link up or a changed rate sends is held as the rate last sent,
assumption 14; a set is worked in the order carried, and a link down sets and clears the lost mark as assumption 23 gives.) -/
def Obligations.OutputsFollowLinksAndDirectives : Prop :=
  (∀ (s v : State) (k : Fin 12) (o n : Output) (f : Output → Output), o = s.output.panels[k] → n = f o →
    v = { s with output := ⟨put s.output.panels k n⟩ } →
    s.changeOutput k f = { v with mail := { s.mail with
      outputToComposer := s.mail.outputToComposer ++
        if o.state = n.state then [] else [match n.state with | .live => .live k | .standby => .standby k | .dark => .dark k]
      conditions := if o.lost = n.lost then s.mail.conditions else if n.lost = true then
          put s.mail.conditions Block.output.index (s.mail.conditions[Block.output.index] ++ [.raise .panelLost])
        else if ∃ j : Fin 12, j ≠ k ∧ s.output.panels[j].lost = true then s.mail.conditions
        else put s.mail.conditions Block.output.index (s.mail.conditions[Block.output.index] ++ [.ends .panelLost]) } })
  ∧ (∀ (s : State) (k : Fin 12),
    exec (.linkUp k) s = .next (s.changeOutput k fun o => { o with
      linkUp := true, rateSent := some o.rate, state := if o.standby then .standby else .live, lost := false })
    ∧ exec (.linkDown k) s = .next (s.changeOutput k fun o => { o with
      linkUp := false, state := .dark, lost := if o.standby then o.lost else true })
    ∧ (s.output.panels[k].state = .live → exec (.panelFrameSlot k) s = .next { s with mail := { s.mail with
        outputToComposer := s.mail.outputToComposer ++ [.slot k] } })
    ∧ (s.output.panels[k].state ≠ .live → exec (.panelFrameSlot k) s = .next s))
  ∧ (∀ (s u v : State) (p : Port) (q : Packet) (level : Nat) (set : List Nat) (rest : List OutputCue)
    (standBy wake bright : Output → Output), set ≠ [] → (∀ m ∈ set, m ≤ 11) → set.Nodup → level ≤ 15 →
    v = { s with mail := { s.mail with cuesToOutput := rest } } →
    (∀ o, standBy o = { o with
      standby := true, target := 0, lost := false, state := if o.state = .live then .standby else o.state }) →
    (∀ o, wake o = { o with
      standby := false, target := o.setLevel, state := if o.state = .standby ∧ o.linkUp then .live else o.state }) →
    (∀ o, bright o = { o with setLevel := level, target := if o.standby then o.target else level }) →
    (s.Takes .output p q (.panelStandby set) u →
      exec (.panelStandby p) s = .next (State.answered (set.foldl (fun z k => z.changeOutput k standBy) u) p q .done))
    ∧ (s.Takes .output p q (.wake set) u →
      exec (.wake p) s = .next (State.answered (set.foldl (fun z k => z.changeOutput k wake) u) p q .done))
    ∧ (s.Takes .output p q (.setBrightness level set) u →
      exec (.setBrightness p) s = .next (State.answered (set.foldl (fun z k => z.changeOutput k bright) u) p q .done))
    ∧ (s.mail.cuesToOutput = .standby set :: rest →
      exec .cueStandby s = .next (set.foldl (fun z k => z.changeOutput k standBy) v))
    ∧ (s.mail.cuesToOutput = .wake set :: rest →
      exec .cueWake s = .next (set.foldl (fun z k => z.changeOutput k wake) v))
    ∧ (s.mail.cuesToOutput = .brightness level set :: rest →
      exec .cueBrightness s = .next (set.foldl (fun z k => z.changeOutput k bright) v)))
  ∧ (∀ (s u : State) (p : Port) (q : Packet) (level : Nat) (set : List Nat),
    (s.Takes .output p q (.panelStandby set) u → (set = [] ∨ (∃ m ∈ set, 11 < m) ∨ ¬set.Nodup) →
      exec (.panelStandby p) s = .next (u.answered p q .outOfRange))
    ∧ (s.Takes .output p q (.wake set) u → (set = [] ∨ (∃ m ∈ set, 11 < m) ∨ ¬set.Nodup) →
      exec (.wake p) s = .next (u.answered p q .outOfRange))
    ∧ (s.Takes .output p q (.setBrightness level set) u → (15 < level ∨ set = [] ∨ (∃ m ∈ set, 11 < m) ∨ ¬set.Nodup) →
      exec (.setBrightness p) s = .next (u.answered p q .outOfRange)))
  ∧ (∀ (s u : State) (p : Port) (q : Packet) (n rate orientation : Nat), s.Takes .output p q (.setPanel n rate orientation) u →
    (11 < n ∨ (rate ≠ 25 ∧ rate ≠ 30 ∧ rate ≠ 50 ∧ rate ≠ 60) ∨ (orientation ≠ 1 ∧ orientation ≠ 2) →
      exec (.setPanel p) s = .next (u.answered p q .outOfRange))
    ∧ ∀ (k : Fin 12) (o : Output), k.val = n → (rate = 25 ∨ rate = 30 ∨ rate = 50 ∨ rate = 60) →
      (orientation = 1 ∨ orientation = 2) → o = s.output.panels[k] →
      exec (.setPanel p) s = .next (State.answered { u with output := ⟨put s.output.panels k { o with
        rate := rate
        orientation := if orientation = 1 then .landscape else .portrait
        rateSent := if o.linkUp = true ∧ o.rate ≠ rate then some rate else o.rateSent }⟩ } p q .done))
  ∧ (∀ s : State, 0 < s.mail.restarts[Block.output.index] → exec .panelOutputRestart s = .next (s.dropRestart .output))
  ∧ (∀ (s : State) (k : Fin 12) (x : Panel), s.composer.Sound → x = s.composer.panels[k] →
    (∀ b ∈ [x.bufA, x.bufB], b.role = .front → s.panelSends k.val = b.frame)
    ∧ ((∀ b ∈ [x.bufA, x.bufB], b.role ≠ .front) →
      s.panelSends k.val = ⟨s.output.panels[k].orientation, .black, []⟩
        ∧ ∀ px py, (s.panelSends k.val).pixel px py = 0))
  ∧ ∀ (s t : State) (k : Fin 12) (x : Panel) (rest : List PanelEvent), s.composer.Sound → x = s.composer.panels[k] →
    s.mail.outputToComposer = .slot k.val :: rest → x.state = .live → exec .frameSlot s = .next t →
    (∀ b ∈ [x.bufA, x.bufB], b.role = .ready → t.panelSends k.val = b.frame)
    ∧ ((∀ b ∈ [x.bufA, x.bufB], b.role ≠ .ready) → t.panelSends k.val = s.panelSends k.val)

/-- R178: at each tenth-tick each panel's backlight level moves by 1 toward its target and stays when it equals it, whatever the
panel's state and link, from the level already reached; so after n tenth-ticks it is n nearer, or at the target. The drive is high
for level × 17 counts and low for 255 − high. -/
def Obligations.BacklightsMoveTowardTheirTargets : Prop :=
  (∀ s : State, 0 < s.mail.ticksToOutput → ∃ panels : Vector Output 12,
    exec .backlightStep s = .next { s with
      output := ⟨panels⟩
      mail := { s.mail with ticksToOutput := s.mail.ticksToOutput - 1 } }
    ∧ ∀ k : Fin 12, panels[k] = { s.output.panels[k] with level :=
        if s.output.panels[k].level < s.output.panels[k].target then s.output.panels[k].level + 1
        else if s.output.panels[k].target < s.output.panels[k].level then s.output.panels[k].level - 1
        else s.output.panels[k].level })
  ∧ (∀ (s : State) (n : Nat) (k : Fin 12), n ≤ s.mail.ticksToOutput →
    ((s.run (List.replicate n .backlightStep)).output.panels[k].target = s.output.panels[k].target
    ∧ (s.output.panels[k].level ≤ s.output.panels[k].target →
      (s.run (List.replicate n .backlightStep)).output.panels[k].level
        = min (s.output.panels[k].level + n) s.output.panels[k].target)
    ∧ (s.output.panels[k].target ≤ s.output.panels[k].level →
      (s.run (List.replicate n .backlightStep)).output.panels[k].level
        = max (s.output.panels[k].level - n) s.output.panels[k].target)))
  ∧ (∀ o : Output, o.driveHigh = o.level * 17 ∧ o.driveLow = 255 - o.driveHigh)
  ∧ ∀ o : Output, (o.level = 15 → o.driveLow = 0) ∧ (o.level = 0 → o.driveHigh = 0)

/-! ### All chapters -/

/-- R25, R38, R4 (the clock's ranges), R123, R126, R132, R134 (carousels and sync groups), R170 (the ingest queue holds at most 4)
and R176 (a panel's state follows its link and standby mark, its levels stay in 0..15): each is kept by every step. -/
def Obligations.RangesAreKept : Prop :=
  (∀ s t : State, s.ClockSound → step s = .next t → t.ClockSound)
  ∧ (∀ s t : State, s.rotation.Sound → step s = .next t → t.rotation.Sound)
  ∧ (∀ s t : State, s.memory.IngestSound → step s = .next t → t.memory.IngestSound)
  ∧ ∀ s t : State, s.output.Sound → step s = .next t → t.output.Sound

/-- Every invariant stated above holds right after power-on, so that the statements of what each step keeps speak of every run. -/
def Obligations.PowerOnIsSound : Prop :=
  State.reset.QueuesSound ∧ State.reset.ClockSound ∧ State.reset.schedule.Sound ∧ State.reset.seat.Sound
    ∧ State.reset.builder.Sound ∧ State.reset.notice.Sound ∧ State.reset.rotation.Sound ∧ State.reset.render.Sound
    ∧ State.reset.composer.Sound ∧ State.reset.StoresSound ∧ State.reset.memory.IngestSound ∧ State.reset.output.Sound
end

