-- ==== Sys2Proof/Laws/Codec.lean ====
section
/-! SUPPORT. What each field reader of R5 reads from bytes that its writer wrote, with any bytes behind them. -/

namespace Sys2Proof.Machine

open Sys2Proof

theorem byteOf_toNat {n : Nat} (h : n ≤ 255) : (byteOf n).toNat = n := by
  simp [byteOf]; omega

theorem get1_put1 {n : Nat} (h : n ≤ 255) (r : List Byte) : get1 (put1 n ++ r) = some (n, r) := by
  simp [put1, get1]; omega

theorem get2_put2 {n : Nat} (h : n ≤ 65535) (r : List Byte) : get2 (put2 n ++ r) = some (n, r) := by
  simp [put2, get2]; omega

theorem get4_put4 {n : Nat} (h : n ≤ 4294967295) (r : List Byte) : get4 (put4 n ++ r) = some (n, r) := by
  simp [put4, put2, get4, get2]; omega

theorem getText_putText {t : List Byte} (h : t.length ≤ 255) (r : List Byte) : getText (putText t ++ r) = some (t, r) := by
  have e : putText t ++ r = put1 t.length ++ (t ++ r) := rfl
  rw [e, getText, get1_put1 h]
  simp

/-- A reader that takes back each member takes back the list. -/
theorem getMany_flatMap {α : Type} (get : List Byte → Option (α × List Byte)) (f : α → List Byte) (xs : List α)
    (h : ∀ x ∈ xs, ∀ r, get (f x ++ r) = some (x, r)) (r : List Byte) :
    getMany get xs.length (xs.flatMap f ++ r) = some (xs, r) := by
  induction xs with
  | nil => rfl
  | cons x xs ih =>
    simp only [List.flatMap_cons, List.length_cons, getMany, List.append_assoc]
    rw [h x (by simp), Option.bind_eq_bind, Option.bind_some]
    simp only []
    rw [ih fun y hy => h y (by simp [hy])]
    rfl

theorem getList_flatMap {α : Type} (get : List Byte → Option (α × List Byte)) (f : α → List Byte) (xs : List α)
    (h : ∀ x ∈ xs, ∀ r, get (f x ++ r) = some (x, r)) (n : xs.length ≤ 255) (r : List Byte) :
    getList get (put1 xs.length ++ (xs.flatMap f ++ r)) = some (xs, r) := by
  rw [getList, get1_put1 n, Option.bind_eq_bind, Option.bind_some]
  exact getMany_flatMap get f xs h r

theorem getSet_putSet {xs : List Nat} (n : xs.length ≤ 255) (h : ∀ x ∈ xs, x ≤ 65535) (r : List Byte) :
    getSet (putSet xs ++ r) = some (xs, r) := by
  have e : putSet xs ++ r = put1 xs.length ++ (xs.flatMap put2 ++ r) := rfl
  rw [e]
  exact getList_flatMap get2 put2 xs (fun x hx r => get2_put2 (h x hx) r) n r

theorem getOpt_putOpt {α : Type} {get : List Byte → Option (α × List Byte)} {f : α → List Byte} {x : Option α}
    (h : ∀ y, x = some y → ∀ r, get (f y ++ r) = some (y, r)) (r : List Byte) :
    getOpt get (putOpt f x ++ r) = some (x, r) := by
  cases x with
  | none => rfl
  | some y =>
    have e : putOpt f (some y) ++ r = put1 1 ++ (f y ++ r) := rfl
    rw [e, getOpt, get1_put1 (by decide)]
    simp [h y rfl]

/-- The two forms of DEFINE BOARD's auditoriums (R87): fewer than 255 of them, or 255 for ALL. -/
theorem getSetOrAll_putSet {xs : List Nat} (n : xs.length ≤ 254) (h : ∀ x ∈ xs, x ≤ 65535) (r : List Byte) :
    getSetOrAll (putSet xs ++ r) = some (some xs, r) := by
  have e : putSet xs ++ r = put1 xs.length ++ (xs.flatMap put2 ++ r) := rfl
  rw [e, getSetOrAll, get1_put1 (by omega), Option.bind_eq_bind, Option.bind_some]
  simp only []
  rw [if_neg (by omega), getMany_flatMap get2 put2 xs (fun x hx r => get2_put2 (h x hx) r)]
  rfl

theorem getSetOrAll_all (r : List Byte) : getSetOrAll (put1 255 ++ r) = some (none, r) := rfl

end Sys2Proof.Machine
end

