-- ==== Sys2Proof/Laws/State.lean ====
section
/-! SUPPORT. One lemma for each field of State that a shared operation leaves as it was, so that no proof unfolds a record
update. The operations that are one update hold by `rfl`; those that send several events hold by induction over the events. -/

namespace Sys2Proof.Machine

open Sys2Proof

/-- What each step of a fold keeps, the fold keeps. -/
theorem foldl_keeps {σ ε α : Type} (f : σ → ε → σ) (g : σ → α) (h : ∀ s e, g (f s e) = g s) (es : List ε) (s : σ) :
    g (es.foldl f s) = g s := by
  induction es generalizing s with
  | nil => rfl
  | cons e es ih => rw [List.foldl_cons, ih, h]

/-! `State.putPort` -/
@[simp] theorem State.putPort_pending (s : State) (p : Port) (x : PortState) : (s.putPort p x).pending = s.pending := rfl
@[simp] theorem State.putPort_clock (s : State) (p : Port) (x : PortState) : (s.putPort p x).clock = s.clock := rfl
@[simp] theorem State.putPort_schedule (s : State) (p : Port) (x : PortState) : (s.putPort p x).schedule = s.schedule := rfl
@[simp] theorem State.putPort_seat (s : State) (p : Port) (x : PortState) : (s.putPort p x).seat = s.seat := rfl
@[simp] theorem State.putPort_builder (s : State) (p : Port) (x : PortState) : (s.putPort p x).builder = s.builder := rfl
@[simp] theorem State.putPort_notice (s : State) (p : Port) (x : PortState) : (s.putPort p x).notice = s.notice := rfl
@[simp] theorem State.putPort_rotation (s : State) (p : Port) (x : PortState) : (s.putPort p x).rotation = s.rotation := rfl
@[simp] theorem State.putPort_render (s : State) (p : Port) (x : PortState) : (s.putPort p x).render = s.render := rfl
@[simp] theorem State.putPort_composer (s : State) (p : Port) (x : PortState) : (s.putPort p x).composer = s.composer := rfl
@[simp] theorem State.putPort_memory (s : State) (p : Port) (x : PortState) : (s.putPort p x).memory = s.memory := rfl
@[simp] theorem State.putPort_output (s : State) (p : Port) (x : PortState) : (s.putPort p x).output = s.output := rfl
@[simp] theorem State.putPort_mail (s : State) (p : Port) (x : PortState) : (s.putPort p x).mail = s.mail := rfl
@[simp] theorem State.putPort_feedLine (s : State) (p : Port) (x : PortState) : (s.putPort p x).feedLine = s.feedLine := rfl
@[simp] theorem State.putPort_deskLine (s : State) (p : Port) (x : PortState) : (s.putPort p x).deskLine = s.deskLine := rfl
@[simp] theorem State.putPort_choices (s : State) (p : Port) (x : PortState) : (s.putPort p x).choices = s.choices := rfl
@[simp] theorem State.putPort_link_feedReceiver (s : State) (p : Port) (x : PortState) : (s.putPort p x).link.feedReceiver = s.link.feedReceiver := rfl
@[simp] theorem State.putPort_link_deskReceiver (s : State) (p : Port) (x : PortState) : (s.putPort p x).link.deskReceiver = s.link.deskReceiver := rfl
@[simp] theorem State.putPort_link_handoff (s : State) (p : Port) (x : PortState) : (s.putPort p x).link.handoff = s.link.handoff := rfl
@[simp] theorem State.putPort_link_owners (s : State) (p : Port) (x : PortState) : (s.putPort p x).link.owners = s.link.owners := rfl
@[simp] theorem State.putPort_link_flags (s : State) (p : Port) (x : PortState) : (s.putPort p x).link.flags = s.link.flags := rfl
@[simp] theorem State.putPort_link_enables (s : State) (p : Port) (x : PortState) : (s.putPort p x).link.enables = s.link.enables := rfl
@[simp] theorem State.putPort_link_due (s : State) (p : Port) (x : PortState) : (s.putPort p x).link.due = s.link.due := rfl
@[simp] theorem State.putPort_link_watch (s : State) (p : Port) (x : PortState) : (s.putPort p x).link.watch = s.link.watch := rfl
@[simp] theorem State.putPort_link_resetPending (s : State) (p : Port) (x : PortState) : (s.putPort p x).link.resetPending = s.link.resetPending := rfl
@[simp] theorem State.putPort_link_restartPending (s : State) (p : Port) (x : PortState) : (s.putPort p x).link.restartPending = s.link.restartPending := rfl

/-! `State.putHandoff` -/
@[simp] theorem State.putHandoff_pending (s : State) (u : Block) (p : Port) (q : List Packet) : (s.putHandoff u p q).pending = s.pending := rfl
@[simp] theorem State.putHandoff_clock (s : State) (u : Block) (p : Port) (q : List Packet) : (s.putHandoff u p q).clock = s.clock := rfl
@[simp] theorem State.putHandoff_schedule (s : State) (u : Block) (p : Port) (q : List Packet) : (s.putHandoff u p q).schedule = s.schedule := rfl
@[simp] theorem State.putHandoff_seat (s : State) (u : Block) (p : Port) (q : List Packet) : (s.putHandoff u p q).seat = s.seat := rfl
@[simp] theorem State.putHandoff_builder (s : State) (u : Block) (p : Port) (q : List Packet) : (s.putHandoff u p q).builder = s.builder := rfl
@[simp] theorem State.putHandoff_notice (s : State) (u : Block) (p : Port) (q : List Packet) : (s.putHandoff u p q).notice = s.notice := rfl
@[simp] theorem State.putHandoff_rotation (s : State) (u : Block) (p : Port) (q : List Packet) : (s.putHandoff u p q).rotation = s.rotation := rfl
@[simp] theorem State.putHandoff_render (s : State) (u : Block) (p : Port) (q : List Packet) : (s.putHandoff u p q).render = s.render := rfl
@[simp] theorem State.putHandoff_composer (s : State) (u : Block) (p : Port) (q : List Packet) : (s.putHandoff u p q).composer = s.composer := rfl
@[simp] theorem State.putHandoff_memory (s : State) (u : Block) (p : Port) (q : List Packet) : (s.putHandoff u p q).memory = s.memory := rfl
@[simp] theorem State.putHandoff_output (s : State) (u : Block) (p : Port) (q : List Packet) : (s.putHandoff u p q).output = s.output := rfl
@[simp] theorem State.putHandoff_mail (s : State) (u : Block) (p : Port) (q : List Packet) : (s.putHandoff u p q).mail = s.mail := rfl
@[simp] theorem State.putHandoff_feedLine (s : State) (u : Block) (p : Port) (q : List Packet) : (s.putHandoff u p q).feedLine = s.feedLine := rfl
@[simp] theorem State.putHandoff_deskLine (s : State) (u : Block) (p : Port) (q : List Packet) : (s.putHandoff u p q).deskLine = s.deskLine := rfl
@[simp] theorem State.putHandoff_choices (s : State) (u : Block) (p : Port) (q : List Packet) : (s.putHandoff u p q).choices = s.choices := rfl
@[simp] theorem State.putHandoff_link_feedReceiver (s : State) (u : Block) (p : Port) (q : List Packet) : (s.putHandoff u p q).link.feedReceiver = s.link.feedReceiver := rfl
@[simp] theorem State.putHandoff_link_deskReceiver (s : State) (u : Block) (p : Port) (q : List Packet) : (s.putHandoff u p q).link.deskReceiver = s.link.deskReceiver := rfl
@[simp] theorem State.putHandoff_link_ports (s : State) (u : Block) (p : Port) (q : List Packet) : (s.putHandoff u p q).link.ports = s.link.ports := rfl
@[simp] theorem State.putHandoff_link_owners (s : State) (u : Block) (p : Port) (q : List Packet) : (s.putHandoff u p q).link.owners = s.link.owners := rfl
@[simp] theorem State.putHandoff_link_flags (s : State) (u : Block) (p : Port) (q : List Packet) : (s.putHandoff u p q).link.flags = s.link.flags := rfl
@[simp] theorem State.putHandoff_link_enables (s : State) (u : Block) (p : Port) (q : List Packet) : (s.putHandoff u p q).link.enables = s.link.enables := rfl
@[simp] theorem State.putHandoff_link_due (s : State) (u : Block) (p : Port) (q : List Packet) : (s.putHandoff u p q).link.due = s.link.due := rfl
@[simp] theorem State.putHandoff_link_watch (s : State) (u : Block) (p : Port) (q : List Packet) : (s.putHandoff u p q).link.watch = s.link.watch := rfl
@[simp] theorem State.putHandoff_link_resetPending (s : State) (u : Block) (p : Port) (q : List Packet) : (s.putHandoff u p q).link.resetPending = s.link.resetPending := rfl
@[simp] theorem State.putHandoff_link_restartPending (s : State) (u : Block) (p : Port) (q : List Packet) : (s.putHandoff u p q).link.restartPending = s.link.restartPending := rfl

/-! `State.issue` -/
@[simp] theorem State.issue_pending (s : State) (p : Port) (a : Answer) : (s.issue p a).pending = s.pending := rfl
@[simp] theorem State.issue_clock (s : State) (p : Port) (a : Answer) : (s.issue p a).clock = s.clock := rfl
@[simp] theorem State.issue_schedule (s : State) (p : Port) (a : Answer) : (s.issue p a).schedule = s.schedule := rfl
@[simp] theorem State.issue_seat (s : State) (p : Port) (a : Answer) : (s.issue p a).seat = s.seat := rfl
@[simp] theorem State.issue_builder (s : State) (p : Port) (a : Answer) : (s.issue p a).builder = s.builder := rfl
@[simp] theorem State.issue_notice (s : State) (p : Port) (a : Answer) : (s.issue p a).notice = s.notice := rfl
@[simp] theorem State.issue_rotation (s : State) (p : Port) (a : Answer) : (s.issue p a).rotation = s.rotation := rfl
@[simp] theorem State.issue_render (s : State) (p : Port) (a : Answer) : (s.issue p a).render = s.render := rfl
@[simp] theorem State.issue_composer (s : State) (p : Port) (a : Answer) : (s.issue p a).composer = s.composer := rfl
@[simp] theorem State.issue_memory (s : State) (p : Port) (a : Answer) : (s.issue p a).memory = s.memory := rfl
@[simp] theorem State.issue_output (s : State) (p : Port) (a : Answer) : (s.issue p a).output = s.output := rfl
@[simp] theorem State.issue_mail (s : State) (p : Port) (a : Answer) : (s.issue p a).mail = s.mail := rfl
@[simp] theorem State.issue_feedLine (s : State) (p : Port) (a : Answer) : (s.issue p a).feedLine = s.feedLine := rfl
@[simp] theorem State.issue_deskLine (s : State) (p : Port) (a : Answer) : (s.issue p a).deskLine = s.deskLine := rfl
@[simp] theorem State.issue_choices (s : State) (p : Port) (a : Answer) : (s.issue p a).choices = s.choices := rfl
@[simp] theorem State.issue_link_feedReceiver (s : State) (p : Port) (a : Answer) : (s.issue p a).link.feedReceiver = s.link.feedReceiver := rfl
@[simp] theorem State.issue_link_deskReceiver (s : State) (p : Port) (a : Answer) : (s.issue p a).link.deskReceiver = s.link.deskReceiver := rfl
@[simp] theorem State.issue_link_handoff (s : State) (p : Port) (a : Answer) : (s.issue p a).link.handoff = s.link.handoff := rfl
@[simp] theorem State.issue_link_owners (s : State) (p : Port) (a : Answer) : (s.issue p a).link.owners = s.link.owners := rfl
@[simp] theorem State.issue_link_flags (s : State) (p : Port) (a : Answer) : (s.issue p a).link.flags = s.link.flags := rfl
@[simp] theorem State.issue_link_enables (s : State) (p : Port) (a : Answer) : (s.issue p a).link.enables = s.link.enables := rfl
@[simp] theorem State.issue_link_due (s : State) (p : Port) (a : Answer) : (s.issue p a).link.due = s.link.due := rfl
@[simp] theorem State.issue_link_watch (s : State) (p : Port) (a : Answer) : (s.issue p a).link.watch = s.link.watch := rfl
@[simp] theorem State.issue_link_resetPending (s : State) (p : Port) (a : Answer) : (s.issue p a).link.resetPending = s.link.resetPending := rfl
@[simp] theorem State.issue_link_restartPending (s : State) (p : Port) (a : Answer) : (s.issue p a).link.restartPending = s.link.restartPending := rfl

/-! `State.reserve` -/
@[simp] theorem State.reserve_pending (s : State) (p : Port) : (s.reserve p).pending = s.pending := rfl
@[simp] theorem State.reserve_clock (s : State) (p : Port) : (s.reserve p).clock = s.clock := rfl
@[simp] theorem State.reserve_schedule (s : State) (p : Port) : (s.reserve p).schedule = s.schedule := rfl
@[simp] theorem State.reserve_seat (s : State) (p : Port) : (s.reserve p).seat = s.seat := rfl
@[simp] theorem State.reserve_builder (s : State) (p : Port) : (s.reserve p).builder = s.builder := rfl
@[simp] theorem State.reserve_notice (s : State) (p : Port) : (s.reserve p).notice = s.notice := rfl
@[simp] theorem State.reserve_rotation (s : State) (p : Port) : (s.reserve p).rotation = s.rotation := rfl
@[simp] theorem State.reserve_render (s : State) (p : Port) : (s.reserve p).render = s.render := rfl
@[simp] theorem State.reserve_composer (s : State) (p : Port) : (s.reserve p).composer = s.composer := rfl
@[simp] theorem State.reserve_memory (s : State) (p : Port) : (s.reserve p).memory = s.memory := rfl
@[simp] theorem State.reserve_output (s : State) (p : Port) : (s.reserve p).output = s.output := rfl
@[simp] theorem State.reserve_mail (s : State) (p : Port) : (s.reserve p).mail = s.mail := rfl
@[simp] theorem State.reserve_feedLine (s : State) (p : Port) : (s.reserve p).feedLine = s.feedLine := rfl
@[simp] theorem State.reserve_deskLine (s : State) (p : Port) : (s.reserve p).deskLine = s.deskLine := rfl
@[simp] theorem State.reserve_choices (s : State) (p : Port) : (s.reserve p).choices = s.choices := rfl
@[simp] theorem State.reserve_link_feedReceiver (s : State) (p : Port) : (s.reserve p).link.feedReceiver = s.link.feedReceiver := rfl
@[simp] theorem State.reserve_link_deskReceiver (s : State) (p : Port) : (s.reserve p).link.deskReceiver = s.link.deskReceiver := rfl
@[simp] theorem State.reserve_link_handoff (s : State) (p : Port) : (s.reserve p).link.handoff = s.link.handoff := rfl
@[simp] theorem State.reserve_link_owners (s : State) (p : Port) : (s.reserve p).link.owners = s.link.owners := rfl
@[simp] theorem State.reserve_link_flags (s : State) (p : Port) : (s.reserve p).link.flags = s.link.flags := rfl
@[simp] theorem State.reserve_link_enables (s : State) (p : Port) : (s.reserve p).link.enables = s.link.enables := rfl
@[simp] theorem State.reserve_link_due (s : State) (p : Port) : (s.reserve p).link.due = s.link.due := rfl
@[simp] theorem State.reserve_link_watch (s : State) (p : Port) : (s.reserve p).link.watch = s.link.watch := rfl
@[simp] theorem State.reserve_link_resetPending (s : State) (p : Port) : (s.reserve p).link.resetPending = s.link.resetPending := rfl
@[simp] theorem State.reserve_link_restartPending (s : State) (p : Port) : (s.reserve p).link.restartPending = s.link.restartPending := rfl

/-! `State.issueReserved` -/
@[simp] theorem State.issueReserved_pending (s : State) (p : Port) (a : Answer) : (s.issueReserved p a).pending = s.pending := rfl
@[simp] theorem State.issueReserved_clock (s : State) (p : Port) (a : Answer) : (s.issueReserved p a).clock = s.clock := rfl
@[simp] theorem State.issueReserved_schedule (s : State) (p : Port) (a : Answer) : (s.issueReserved p a).schedule = s.schedule := rfl
@[simp] theorem State.issueReserved_seat (s : State) (p : Port) (a : Answer) : (s.issueReserved p a).seat = s.seat := rfl
@[simp] theorem State.issueReserved_builder (s : State) (p : Port) (a : Answer) : (s.issueReserved p a).builder = s.builder := rfl
@[simp] theorem State.issueReserved_notice (s : State) (p : Port) (a : Answer) : (s.issueReserved p a).notice = s.notice := rfl
@[simp] theorem State.issueReserved_rotation (s : State) (p : Port) (a : Answer) : (s.issueReserved p a).rotation = s.rotation := rfl
@[simp] theorem State.issueReserved_render (s : State) (p : Port) (a : Answer) : (s.issueReserved p a).render = s.render := rfl
@[simp] theorem State.issueReserved_composer (s : State) (p : Port) (a : Answer) : (s.issueReserved p a).composer = s.composer := rfl
@[simp] theorem State.issueReserved_memory (s : State) (p : Port) (a : Answer) : (s.issueReserved p a).memory = s.memory := rfl
@[simp] theorem State.issueReserved_output (s : State) (p : Port) (a : Answer) : (s.issueReserved p a).output = s.output := rfl
@[simp] theorem State.issueReserved_mail (s : State) (p : Port) (a : Answer) : (s.issueReserved p a).mail = s.mail := rfl
@[simp] theorem State.issueReserved_feedLine (s : State) (p : Port) (a : Answer) : (s.issueReserved p a).feedLine = s.feedLine := rfl
@[simp] theorem State.issueReserved_deskLine (s : State) (p : Port) (a : Answer) : (s.issueReserved p a).deskLine = s.deskLine := rfl
@[simp] theorem State.issueReserved_choices (s : State) (p : Port) (a : Answer) : (s.issueReserved p a).choices = s.choices := rfl
@[simp] theorem State.issueReserved_link_feedReceiver (s : State) (p : Port) (a : Answer) : (s.issueReserved p a).link.feedReceiver = s.link.feedReceiver := rfl
@[simp] theorem State.issueReserved_link_deskReceiver (s : State) (p : Port) (a : Answer) : (s.issueReserved p a).link.deskReceiver = s.link.deskReceiver := rfl
@[simp] theorem State.issueReserved_link_handoff (s : State) (p : Port) (a : Answer) : (s.issueReserved p a).link.handoff = s.link.handoff := rfl
@[simp] theorem State.issueReserved_link_owners (s : State) (p : Port) (a : Answer) : (s.issueReserved p a).link.owners = s.link.owners := rfl
@[simp] theorem State.issueReserved_link_flags (s : State) (p : Port) (a : Answer) : (s.issueReserved p a).link.flags = s.link.flags := rfl
@[simp] theorem State.issueReserved_link_enables (s : State) (p : Port) (a : Answer) : (s.issueReserved p a).link.enables = s.link.enables := rfl
@[simp] theorem State.issueReserved_link_due (s : State) (p : Port) (a : Answer) : (s.issueReserved p a).link.due = s.link.due := rfl
@[simp] theorem State.issueReserved_link_watch (s : State) (p : Port) (a : Answer) : (s.issueReserved p a).link.watch = s.link.watch := rfl
@[simp] theorem State.issueReserved_link_resetPending (s : State) (p : Port) (a : Answer) : (s.issueReserved p a).link.resetPending = s.link.resetPending := rfl
@[simp] theorem State.issueReserved_link_restartPending (s : State) (p : Port) (a : Answer) : (s.issueReserved p a).link.restartPending = s.link.restartPending := rfl

/-! `State.raiseOwn` -/
@[simp] theorem State.raiseOwn_pending (s : State) (c : Condition) : (s.raiseOwn c).pending = s.pending := rfl
@[simp] theorem State.raiseOwn_clock (s : State) (c : Condition) : (s.raiseOwn c).clock = s.clock := rfl
@[simp] theorem State.raiseOwn_schedule (s : State) (c : Condition) : (s.raiseOwn c).schedule = s.schedule := rfl
@[simp] theorem State.raiseOwn_seat (s : State) (c : Condition) : (s.raiseOwn c).seat = s.seat := rfl
@[simp] theorem State.raiseOwn_builder (s : State) (c : Condition) : (s.raiseOwn c).builder = s.builder := rfl
@[simp] theorem State.raiseOwn_notice (s : State) (c : Condition) : (s.raiseOwn c).notice = s.notice := rfl
@[simp] theorem State.raiseOwn_rotation (s : State) (c : Condition) : (s.raiseOwn c).rotation = s.rotation := rfl
@[simp] theorem State.raiseOwn_render (s : State) (c : Condition) : (s.raiseOwn c).render = s.render := rfl
@[simp] theorem State.raiseOwn_composer (s : State) (c : Condition) : (s.raiseOwn c).composer = s.composer := rfl
@[simp] theorem State.raiseOwn_memory (s : State) (c : Condition) : (s.raiseOwn c).memory = s.memory := rfl
@[simp] theorem State.raiseOwn_output (s : State) (c : Condition) : (s.raiseOwn c).output = s.output := rfl
@[simp] theorem State.raiseOwn_mail (s : State) (c : Condition) : (s.raiseOwn c).mail = s.mail := rfl
@[simp] theorem State.raiseOwn_feedLine (s : State) (c : Condition) : (s.raiseOwn c).feedLine = s.feedLine := rfl
@[simp] theorem State.raiseOwn_deskLine (s : State) (c : Condition) : (s.raiseOwn c).deskLine = s.deskLine := rfl
@[simp] theorem State.raiseOwn_choices (s : State) (c : Condition) : (s.raiseOwn c).choices = s.choices := rfl

/-! `State.restartWatch` -/
@[simp] theorem State.restartWatch_pending (s : State) : (s.restartWatch).pending = s.pending := rfl
@[simp] theorem State.restartWatch_clock (s : State) : (s.restartWatch).clock = s.clock := rfl
@[simp] theorem State.restartWatch_schedule (s : State) : (s.restartWatch).schedule = s.schedule := rfl
@[simp] theorem State.restartWatch_seat (s : State) : (s.restartWatch).seat = s.seat := rfl
@[simp] theorem State.restartWatch_builder (s : State) : (s.restartWatch).builder = s.builder := rfl
@[simp] theorem State.restartWatch_notice (s : State) : (s.restartWatch).notice = s.notice := rfl
@[simp] theorem State.restartWatch_rotation (s : State) : (s.restartWatch).rotation = s.rotation := rfl
@[simp] theorem State.restartWatch_render (s : State) : (s.restartWatch).render = s.render := rfl
@[simp] theorem State.restartWatch_composer (s : State) : (s.restartWatch).composer = s.composer := rfl
@[simp] theorem State.restartWatch_memory (s : State) : (s.restartWatch).memory = s.memory := rfl
@[simp] theorem State.restartWatch_output (s : State) : (s.restartWatch).output = s.output := rfl
@[simp] theorem State.restartWatch_mail (s : State) : (s.restartWatch).mail = s.mail := rfl
@[simp] theorem State.restartWatch_feedLine (s : State) : (s.restartWatch).feedLine = s.feedLine := rfl
@[simp] theorem State.restartWatch_deskLine (s : State) : (s.restartWatch).deskLine = s.deskLine := rfl
@[simp] theorem State.restartWatch_choices (s : State) : (s.restartWatch).choices = s.choices := rfl
@[simp] theorem State.restartWatch_link_feedReceiver (s : State) : (s.restartWatch).link.feedReceiver = s.link.feedReceiver := rfl
@[simp] theorem State.restartWatch_link_deskReceiver (s : State) : (s.restartWatch).link.deskReceiver = s.link.deskReceiver := rfl
@[simp] theorem State.restartWatch_link_ports (s : State) : (s.restartWatch).link.ports = s.link.ports := rfl
@[simp] theorem State.restartWatch_link_handoff (s : State) : (s.restartWatch).link.handoff = s.link.handoff := rfl
@[simp] theorem State.restartWatch_link_owners (s : State) : (s.restartWatch).link.owners = s.link.owners := rfl
@[simp] theorem State.restartWatch_link_flags (s : State) : (s.restartWatch).link.flags = s.link.flags := rfl
@[simp] theorem State.restartWatch_link_enables (s : State) : (s.restartWatch).link.enables = s.link.enables := rfl
@[simp] theorem State.restartWatch_link_due (s : State) : (s.restartWatch).link.due = s.link.due := rfl
@[simp] theorem State.restartWatch_link_resetPending (s : State) : (s.restartWatch).link.resetPending = s.link.resetPending := rfl
@[simp] theorem State.restartWatch_link_restartPending (s : State) : (s.restartWatch).link.restartPending = s.link.restartPending := rfl

/-! `State.sendCondition` -/
@[simp] theorem State.sendCondition_pending (s : State) (b : Block) (e : ConditionEvent) : (s.sendCondition b e).pending = s.pending := rfl
@[simp] theorem State.sendCondition_link (s : State) (b : Block) (e : ConditionEvent) : (s.sendCondition b e).link = s.link := rfl
@[simp] theorem State.sendCondition_clock (s : State) (b : Block) (e : ConditionEvent) : (s.sendCondition b e).clock = s.clock := rfl
@[simp] theorem State.sendCondition_schedule (s : State) (b : Block) (e : ConditionEvent) : (s.sendCondition b e).schedule = s.schedule := rfl
@[simp] theorem State.sendCondition_seat (s : State) (b : Block) (e : ConditionEvent) : (s.sendCondition b e).seat = s.seat := rfl
@[simp] theorem State.sendCondition_builder (s : State) (b : Block) (e : ConditionEvent) : (s.sendCondition b e).builder = s.builder := rfl
@[simp] theorem State.sendCondition_notice (s : State) (b : Block) (e : ConditionEvent) : (s.sendCondition b e).notice = s.notice := rfl
@[simp] theorem State.sendCondition_rotation (s : State) (b : Block) (e : ConditionEvent) : (s.sendCondition b e).rotation = s.rotation := rfl
@[simp] theorem State.sendCondition_render (s : State) (b : Block) (e : ConditionEvent) : (s.sendCondition b e).render = s.render := rfl
@[simp] theorem State.sendCondition_composer (s : State) (b : Block) (e : ConditionEvent) : (s.sendCondition b e).composer = s.composer := rfl
@[simp] theorem State.sendCondition_memory (s : State) (b : Block) (e : ConditionEvent) : (s.sendCondition b e).memory = s.memory := rfl
@[simp] theorem State.sendCondition_output (s : State) (b : Block) (e : ConditionEvent) : (s.sendCondition b e).output = s.output := rfl
@[simp] theorem State.sendCondition_feedLine (s : State) (b : Block) (e : ConditionEvent) : (s.sendCondition b e).feedLine = s.feedLine := rfl
@[simp] theorem State.sendCondition_deskLine (s : State) (b : Block) (e : ConditionEvent) : (s.sendCondition b e).deskLine = s.deskLine := rfl
@[simp] theorem State.sendCondition_choices (s : State) (b : Block) (e : ConditionEvent) : (s.sendCondition b e).choices = s.choices := rfl
@[simp] theorem State.sendCondition_mail_tiles (s : State) (b : Block) (e : ConditionEvent) : (s.sendCondition b e).mail.tiles = s.mail.tiles := rfl
@[simp] theorem State.sendCondition_mail_restarts (s : State) (b : Block) (e : ConditionEvent) : (s.sendCondition b e).mail.restarts = s.mail.restarts := rfl
@[simp] theorem State.sendCondition_mail_seconds (s : State) (b : Block) (e : ConditionEvent) : (s.sendCondition b e).mail.seconds = s.mail.seconds := rfl
@[simp] theorem State.sendCondition_mail_linkToClock (s : State) (b : Block) (e : ConditionEvent) : (s.sendCondition b e).mail.linkToClock = s.mail.linkToClock := rfl
@[simp] theorem State.sendCondition_mail_segments (s : State) (b : Block) (e : ConditionEvent) : (s.sendCondition b e).mail.segments = s.mail.segments := rfl
@[simp] theorem State.sendCondition_mail_linkToMemory (s : State) (b : Block) (e : ConditionEvent) : (s.sendCondition b e).mail.linkToMemory = s.mail.linkToMemory := rfl
@[simp] theorem State.sendCondition_mail_clockToSchedule (s : State) (b : Block) (e : ConditionEvent) : (s.sendCondition b e).mail.clockToSchedule = s.mail.clockToSchedule := rfl
@[simp] theorem State.sendCondition_mail_clockToBuilder (s : State) (b : Block) (e : ConditionEvent) : (s.sendCondition b e).mail.clockToBuilder = s.mail.clockToBuilder := rfl
@[simp] theorem State.sendCondition_mail_ticksToRotation (s : State) (b : Block) (e : ConditionEvent) : (s.sendCondition b e).mail.ticksToRotation = s.mail.ticksToRotation := rfl
@[simp] theorem State.sendCondition_mail_ticksToOutput (s : State) (b : Block) (e : ConditionEvent) : (s.sendCondition b e).mail.ticksToOutput = s.mail.ticksToOutput := rfl
@[simp] theorem State.sendCondition_mail_cuesToComposer (s : State) (b : Block) (e : ConditionEvent) : (s.sendCondition b e).mail.cuesToComposer = s.mail.cuesToComposer := rfl
@[simp] theorem State.sendCondition_mail_cuesToRotation (s : State) (b : Block) (e : ConditionEvent) : (s.sendCondition b e).mail.cuesToRotation = s.mail.cuesToRotation := rfl
@[simp] theorem State.sendCondition_mail_cuesToOutput (s : State) (b : Block) (e : ConditionEvent) : (s.sendCondition b e).mail.cuesToOutput = s.mail.cuesToOutput := rfl
@[simp] theorem State.sendCondition_mail_scheduleToBuilder (s : State) (b : Block) (e : ConditionEvent) : (s.sendCondition b e).mail.scheduleToBuilder = s.mail.scheduleToBuilder := rfl
@[simp] theorem State.sendCondition_mail_scheduleToSeat (s : State) (b : Block) (e : ConditionEvent) : (s.sendCondition b e).mail.scheduleToSeat = s.mail.scheduleToSeat := rfl
@[simp] theorem State.sendCondition_mail_scheduleToNotice (s : State) (b : Block) (e : ConditionEvent) : (s.sendCondition b e).mail.scheduleToNotice = s.mail.scheduleToNotice := rfl
@[simp] theorem State.sendCondition_mail_figuresToBuilder (s : State) (b : Block) (e : ConditionEvent) : (s.sendCondition b e).mail.figuresToBuilder = s.mail.figuresToBuilder := rfl
@[simp] theorem State.sendCondition_mail_outputToComposer (s : State) (b : Block) (e : ConditionEvent) : (s.sendCondition b e).mail.outputToComposer = s.mail.outputToComposer := rfl
@[simp] theorem State.sendCondition_mail_composerToMemory (s : State) (b : Block) (e : ConditionEvent) : (s.sendCondition b e).mail.composerToMemory = s.mail.composerToMemory := rfl
@[simp] theorem State.sendCondition_mail_memoryToComposer (s : State) (b : Block) (e : ConditionEvent) : (s.sendCondition b e).mail.memoryToComposer = s.mail.memoryToComposer := rfl
@[simp] theorem State.sendCondition_mail_memoryToRender (s : State) (b : Block) (e : ConditionEvent) : (s.sendCondition b e).mail.memoryToRender = s.mail.memoryToRender := rfl

/-! `State.requestTiles` -/
@[simp] theorem State.requestTiles_pending (s : State) (b : Block) (rs : List TileRequest) : (s.requestTiles b rs).pending = s.pending := rfl
@[simp] theorem State.requestTiles_link (s : State) (b : Block) (rs : List TileRequest) : (s.requestTiles b rs).link = s.link := rfl
@[simp] theorem State.requestTiles_clock (s : State) (b : Block) (rs : List TileRequest) : (s.requestTiles b rs).clock = s.clock := rfl
@[simp] theorem State.requestTiles_schedule (s : State) (b : Block) (rs : List TileRequest) : (s.requestTiles b rs).schedule = s.schedule := rfl
@[simp] theorem State.requestTiles_seat (s : State) (b : Block) (rs : List TileRequest) : (s.requestTiles b rs).seat = s.seat := rfl
@[simp] theorem State.requestTiles_builder (s : State) (b : Block) (rs : List TileRequest) : (s.requestTiles b rs).builder = s.builder := rfl
@[simp] theorem State.requestTiles_notice (s : State) (b : Block) (rs : List TileRequest) : (s.requestTiles b rs).notice = s.notice := rfl
@[simp] theorem State.requestTiles_rotation (s : State) (b : Block) (rs : List TileRequest) : (s.requestTiles b rs).rotation = s.rotation := rfl
@[simp] theorem State.requestTiles_render (s : State) (b : Block) (rs : List TileRequest) : (s.requestTiles b rs).render = s.render := rfl
@[simp] theorem State.requestTiles_composer (s : State) (b : Block) (rs : List TileRequest) : (s.requestTiles b rs).composer = s.composer := rfl
@[simp] theorem State.requestTiles_memory (s : State) (b : Block) (rs : List TileRequest) : (s.requestTiles b rs).memory = s.memory := rfl
@[simp] theorem State.requestTiles_output (s : State) (b : Block) (rs : List TileRequest) : (s.requestTiles b rs).output = s.output := rfl
@[simp] theorem State.requestTiles_feedLine (s : State) (b : Block) (rs : List TileRequest) : (s.requestTiles b rs).feedLine = s.feedLine := rfl
@[simp] theorem State.requestTiles_deskLine (s : State) (b : Block) (rs : List TileRequest) : (s.requestTiles b rs).deskLine = s.deskLine := rfl
@[simp] theorem State.requestTiles_choices (s : State) (b : Block) (rs : List TileRequest) : (s.requestTiles b rs).choices = s.choices := rfl
@[simp] theorem State.requestTiles_mail_conditions (s : State) (b : Block) (rs : List TileRequest) : (s.requestTiles b rs).mail.conditions = s.mail.conditions := rfl
@[simp] theorem State.requestTiles_mail_restarts (s : State) (b : Block) (rs : List TileRequest) : (s.requestTiles b rs).mail.restarts = s.mail.restarts := rfl
@[simp] theorem State.requestTiles_mail_seconds (s : State) (b : Block) (rs : List TileRequest) : (s.requestTiles b rs).mail.seconds = s.mail.seconds := rfl
@[simp] theorem State.requestTiles_mail_linkToClock (s : State) (b : Block) (rs : List TileRequest) : (s.requestTiles b rs).mail.linkToClock = s.mail.linkToClock := rfl
@[simp] theorem State.requestTiles_mail_segments (s : State) (b : Block) (rs : List TileRequest) : (s.requestTiles b rs).mail.segments = s.mail.segments := rfl
@[simp] theorem State.requestTiles_mail_linkToMemory (s : State) (b : Block) (rs : List TileRequest) : (s.requestTiles b rs).mail.linkToMemory = s.mail.linkToMemory := rfl
@[simp] theorem State.requestTiles_mail_clockToSchedule (s : State) (b : Block) (rs : List TileRequest) : (s.requestTiles b rs).mail.clockToSchedule = s.mail.clockToSchedule := rfl
@[simp] theorem State.requestTiles_mail_clockToBuilder (s : State) (b : Block) (rs : List TileRequest) : (s.requestTiles b rs).mail.clockToBuilder = s.mail.clockToBuilder := rfl
@[simp] theorem State.requestTiles_mail_ticksToRotation (s : State) (b : Block) (rs : List TileRequest) : (s.requestTiles b rs).mail.ticksToRotation = s.mail.ticksToRotation := rfl
@[simp] theorem State.requestTiles_mail_ticksToOutput (s : State) (b : Block) (rs : List TileRequest) : (s.requestTiles b rs).mail.ticksToOutput = s.mail.ticksToOutput := rfl
@[simp] theorem State.requestTiles_mail_cuesToComposer (s : State) (b : Block) (rs : List TileRequest) : (s.requestTiles b rs).mail.cuesToComposer = s.mail.cuesToComposer := rfl
@[simp] theorem State.requestTiles_mail_cuesToRotation (s : State) (b : Block) (rs : List TileRequest) : (s.requestTiles b rs).mail.cuesToRotation = s.mail.cuesToRotation := rfl
@[simp] theorem State.requestTiles_mail_cuesToOutput (s : State) (b : Block) (rs : List TileRequest) : (s.requestTiles b rs).mail.cuesToOutput = s.mail.cuesToOutput := rfl
@[simp] theorem State.requestTiles_mail_scheduleToBuilder (s : State) (b : Block) (rs : List TileRequest) : (s.requestTiles b rs).mail.scheduleToBuilder = s.mail.scheduleToBuilder := rfl
@[simp] theorem State.requestTiles_mail_scheduleToSeat (s : State) (b : Block) (rs : List TileRequest) : (s.requestTiles b rs).mail.scheduleToSeat = s.mail.scheduleToSeat := rfl
@[simp] theorem State.requestTiles_mail_scheduleToNotice (s : State) (b : Block) (rs : List TileRequest) : (s.requestTiles b rs).mail.scheduleToNotice = s.mail.scheduleToNotice := rfl
@[simp] theorem State.requestTiles_mail_figuresToBuilder (s : State) (b : Block) (rs : List TileRequest) : (s.requestTiles b rs).mail.figuresToBuilder = s.mail.figuresToBuilder := rfl
@[simp] theorem State.requestTiles_mail_outputToComposer (s : State) (b : Block) (rs : List TileRequest) : (s.requestTiles b rs).mail.outputToComposer = s.mail.outputToComposer := rfl
@[simp] theorem State.requestTiles_mail_composerToMemory (s : State) (b : Block) (rs : List TileRequest) : (s.requestTiles b rs).mail.composerToMemory = s.mail.composerToMemory := rfl
@[simp] theorem State.requestTiles_mail_memoryToComposer (s : State) (b : Block) (rs : List TileRequest) : (s.requestTiles b rs).mail.memoryToComposer = s.mail.memoryToComposer := rfl
@[simp] theorem State.requestTiles_mail_memoryToRender (s : State) (b : Block) (rs : List TileRequest) : (s.requestTiles b rs).mail.memoryToRender = s.mail.memoryToRender := rfl

/-! `State.sendRestart` -/
@[simp] theorem State.sendRestart_pending (s : State) (b : Block) : (s.sendRestart b).pending = s.pending := rfl
@[simp] theorem State.sendRestart_link (s : State) (b : Block) : (s.sendRestart b).link = s.link := rfl
@[simp] theorem State.sendRestart_clock (s : State) (b : Block) : (s.sendRestart b).clock = s.clock := rfl
@[simp] theorem State.sendRestart_schedule (s : State) (b : Block) : (s.sendRestart b).schedule = s.schedule := rfl
@[simp] theorem State.sendRestart_seat (s : State) (b : Block) : (s.sendRestart b).seat = s.seat := rfl
@[simp] theorem State.sendRestart_builder (s : State) (b : Block) : (s.sendRestart b).builder = s.builder := rfl
@[simp] theorem State.sendRestart_notice (s : State) (b : Block) : (s.sendRestart b).notice = s.notice := rfl
@[simp] theorem State.sendRestart_rotation (s : State) (b : Block) : (s.sendRestart b).rotation = s.rotation := rfl
@[simp] theorem State.sendRestart_render (s : State) (b : Block) : (s.sendRestart b).render = s.render := rfl
@[simp] theorem State.sendRestart_composer (s : State) (b : Block) : (s.sendRestart b).composer = s.composer := rfl
@[simp] theorem State.sendRestart_memory (s : State) (b : Block) : (s.sendRestart b).memory = s.memory := rfl
@[simp] theorem State.sendRestart_output (s : State) (b : Block) : (s.sendRestart b).output = s.output := rfl
@[simp] theorem State.sendRestart_feedLine (s : State) (b : Block) : (s.sendRestart b).feedLine = s.feedLine := rfl
@[simp] theorem State.sendRestart_deskLine (s : State) (b : Block) : (s.sendRestart b).deskLine = s.deskLine := rfl
@[simp] theorem State.sendRestart_choices (s : State) (b : Block) : (s.sendRestart b).choices = s.choices := rfl
@[simp] theorem State.sendRestart_mail_conditions (s : State) (b : Block) : (s.sendRestart b).mail.conditions = s.mail.conditions := rfl
@[simp] theorem State.sendRestart_mail_tiles (s : State) (b : Block) : (s.sendRestart b).mail.tiles = s.mail.tiles := rfl
@[simp] theorem State.sendRestart_mail_seconds (s : State) (b : Block) : (s.sendRestart b).mail.seconds = s.mail.seconds := rfl
@[simp] theorem State.sendRestart_mail_linkToClock (s : State) (b : Block) : (s.sendRestart b).mail.linkToClock = s.mail.linkToClock := rfl
@[simp] theorem State.sendRestart_mail_segments (s : State) (b : Block) : (s.sendRestart b).mail.segments = s.mail.segments := rfl
@[simp] theorem State.sendRestart_mail_linkToMemory (s : State) (b : Block) : (s.sendRestart b).mail.linkToMemory = s.mail.linkToMemory := rfl
@[simp] theorem State.sendRestart_mail_clockToSchedule (s : State) (b : Block) : (s.sendRestart b).mail.clockToSchedule = s.mail.clockToSchedule := rfl
@[simp] theorem State.sendRestart_mail_clockToBuilder (s : State) (b : Block) : (s.sendRestart b).mail.clockToBuilder = s.mail.clockToBuilder := rfl
@[simp] theorem State.sendRestart_mail_ticksToRotation (s : State) (b : Block) : (s.sendRestart b).mail.ticksToRotation = s.mail.ticksToRotation := rfl
@[simp] theorem State.sendRestart_mail_ticksToOutput (s : State) (b : Block) : (s.sendRestart b).mail.ticksToOutput = s.mail.ticksToOutput := rfl
@[simp] theorem State.sendRestart_mail_cuesToComposer (s : State) (b : Block) : (s.sendRestart b).mail.cuesToComposer = s.mail.cuesToComposer := rfl
@[simp] theorem State.sendRestart_mail_cuesToRotation (s : State) (b : Block) : (s.sendRestart b).mail.cuesToRotation = s.mail.cuesToRotation := rfl
@[simp] theorem State.sendRestart_mail_cuesToOutput (s : State) (b : Block) : (s.sendRestart b).mail.cuesToOutput = s.mail.cuesToOutput := rfl
@[simp] theorem State.sendRestart_mail_scheduleToBuilder (s : State) (b : Block) : (s.sendRestart b).mail.scheduleToBuilder = s.mail.scheduleToBuilder := rfl
@[simp] theorem State.sendRestart_mail_scheduleToSeat (s : State) (b : Block) : (s.sendRestart b).mail.scheduleToSeat = s.mail.scheduleToSeat := rfl
@[simp] theorem State.sendRestart_mail_scheduleToNotice (s : State) (b : Block) : (s.sendRestart b).mail.scheduleToNotice = s.mail.scheduleToNotice := rfl
@[simp] theorem State.sendRestart_mail_figuresToBuilder (s : State) (b : Block) : (s.sendRestart b).mail.figuresToBuilder = s.mail.figuresToBuilder := rfl
@[simp] theorem State.sendRestart_mail_outputToComposer (s : State) (b : Block) : (s.sendRestart b).mail.outputToComposer = s.mail.outputToComposer := rfl
@[simp] theorem State.sendRestart_mail_composerToMemory (s : State) (b : Block) : (s.sendRestart b).mail.composerToMemory = s.mail.composerToMemory := rfl
@[simp] theorem State.sendRestart_mail_memoryToComposer (s : State) (b : Block) : (s.sendRestart b).mail.memoryToComposer = s.mail.memoryToComposer := rfl
@[simp] theorem State.sendRestart_mail_memoryToRender (s : State) (b : Block) : (s.sendRestart b).mail.memoryToRender = s.mail.memoryToRender := rfl

/-! `State.dropRestart` -/
@[simp] theorem State.dropRestart_pending (s : State) (b : Block) : (s.dropRestart b).pending = s.pending := rfl
@[simp] theorem State.dropRestart_link (s : State) (b : Block) : (s.dropRestart b).link = s.link := rfl
@[simp] theorem State.dropRestart_clock (s : State) (b : Block) : (s.dropRestart b).clock = s.clock := rfl
@[simp] theorem State.dropRestart_schedule (s : State) (b : Block) : (s.dropRestart b).schedule = s.schedule := rfl
@[simp] theorem State.dropRestart_seat (s : State) (b : Block) : (s.dropRestart b).seat = s.seat := rfl
@[simp] theorem State.dropRestart_builder (s : State) (b : Block) : (s.dropRestart b).builder = s.builder := rfl
@[simp] theorem State.dropRestart_notice (s : State) (b : Block) : (s.dropRestart b).notice = s.notice := rfl
@[simp] theorem State.dropRestart_rotation (s : State) (b : Block) : (s.dropRestart b).rotation = s.rotation := rfl
@[simp] theorem State.dropRestart_render (s : State) (b : Block) : (s.dropRestart b).render = s.render := rfl
@[simp] theorem State.dropRestart_composer (s : State) (b : Block) : (s.dropRestart b).composer = s.composer := rfl
@[simp] theorem State.dropRestart_memory (s : State) (b : Block) : (s.dropRestart b).memory = s.memory := rfl
@[simp] theorem State.dropRestart_output (s : State) (b : Block) : (s.dropRestart b).output = s.output := rfl
@[simp] theorem State.dropRestart_feedLine (s : State) (b : Block) : (s.dropRestart b).feedLine = s.feedLine := rfl
@[simp] theorem State.dropRestart_deskLine (s : State) (b : Block) : (s.dropRestart b).deskLine = s.deskLine := rfl
@[simp] theorem State.dropRestart_choices (s : State) (b : Block) : (s.dropRestart b).choices = s.choices := rfl
@[simp] theorem State.dropRestart_mail_conditions (s : State) (b : Block) : (s.dropRestart b).mail.conditions = s.mail.conditions := rfl
@[simp] theorem State.dropRestart_mail_tiles (s : State) (b : Block) : (s.dropRestart b).mail.tiles = s.mail.tiles := rfl
@[simp] theorem State.dropRestart_mail_seconds (s : State) (b : Block) : (s.dropRestart b).mail.seconds = s.mail.seconds := rfl
@[simp] theorem State.dropRestart_mail_linkToClock (s : State) (b : Block) : (s.dropRestart b).mail.linkToClock = s.mail.linkToClock := rfl
@[simp] theorem State.dropRestart_mail_segments (s : State) (b : Block) : (s.dropRestart b).mail.segments = s.mail.segments := rfl
@[simp] theorem State.dropRestart_mail_linkToMemory (s : State) (b : Block) : (s.dropRestart b).mail.linkToMemory = s.mail.linkToMemory := rfl
@[simp] theorem State.dropRestart_mail_clockToSchedule (s : State) (b : Block) : (s.dropRestart b).mail.clockToSchedule = s.mail.clockToSchedule := rfl
@[simp] theorem State.dropRestart_mail_clockToBuilder (s : State) (b : Block) : (s.dropRestart b).mail.clockToBuilder = s.mail.clockToBuilder := rfl
@[simp] theorem State.dropRestart_mail_ticksToRotation (s : State) (b : Block) : (s.dropRestart b).mail.ticksToRotation = s.mail.ticksToRotation := rfl
@[simp] theorem State.dropRestart_mail_ticksToOutput (s : State) (b : Block) : (s.dropRestart b).mail.ticksToOutput = s.mail.ticksToOutput := rfl
@[simp] theorem State.dropRestart_mail_cuesToComposer (s : State) (b : Block) : (s.dropRestart b).mail.cuesToComposer = s.mail.cuesToComposer := rfl
@[simp] theorem State.dropRestart_mail_cuesToRotation (s : State) (b : Block) : (s.dropRestart b).mail.cuesToRotation = s.mail.cuesToRotation := rfl
@[simp] theorem State.dropRestart_mail_cuesToOutput (s : State) (b : Block) : (s.dropRestart b).mail.cuesToOutput = s.mail.cuesToOutput := rfl
@[simp] theorem State.dropRestart_mail_scheduleToBuilder (s : State) (b : Block) : (s.dropRestart b).mail.scheduleToBuilder = s.mail.scheduleToBuilder := rfl
@[simp] theorem State.dropRestart_mail_scheduleToSeat (s : State) (b : Block) : (s.dropRestart b).mail.scheduleToSeat = s.mail.scheduleToSeat := rfl
@[simp] theorem State.dropRestart_mail_scheduleToNotice (s : State) (b : Block) : (s.dropRestart b).mail.scheduleToNotice = s.mail.scheduleToNotice := rfl
@[simp] theorem State.dropRestart_mail_figuresToBuilder (s : State) (b : Block) : (s.dropRestart b).mail.figuresToBuilder = s.mail.figuresToBuilder := rfl
@[simp] theorem State.dropRestart_mail_outputToComposer (s : State) (b : Block) : (s.dropRestart b).mail.outputToComposer = s.mail.outputToComposer := rfl
@[simp] theorem State.dropRestart_mail_composerToMemory (s : State) (b : Block) : (s.dropRestart b).mail.composerToMemory = s.mail.composerToMemory := rfl
@[simp] theorem State.dropRestart_mail_memoryToComposer (s : State) (b : Block) : (s.dropRestart b).mail.memoryToComposer = s.mail.memoryToComposer := rfl
@[simp] theorem State.dropRestart_mail_memoryToRender (s : State) (b : Block) : (s.dropRestart b).mail.memoryToRender = s.mail.memoryToRender := rfl

/-! `State.sendSecond` -/
@[simp] theorem State.sendSecond_pending (s : State) (b : Block) (t : Nat) : (s.sendSecond b t).pending = s.pending := rfl
@[simp] theorem State.sendSecond_link (s : State) (b : Block) (t : Nat) : (s.sendSecond b t).link = s.link := rfl
@[simp] theorem State.sendSecond_clock (s : State) (b : Block) (t : Nat) : (s.sendSecond b t).clock = s.clock := rfl
@[simp] theorem State.sendSecond_schedule (s : State) (b : Block) (t : Nat) : (s.sendSecond b t).schedule = s.schedule := rfl
@[simp] theorem State.sendSecond_seat (s : State) (b : Block) (t : Nat) : (s.sendSecond b t).seat = s.seat := rfl
@[simp] theorem State.sendSecond_builder (s : State) (b : Block) (t : Nat) : (s.sendSecond b t).builder = s.builder := rfl
@[simp] theorem State.sendSecond_notice (s : State) (b : Block) (t : Nat) : (s.sendSecond b t).notice = s.notice := rfl
@[simp] theorem State.sendSecond_rotation (s : State) (b : Block) (t : Nat) : (s.sendSecond b t).rotation = s.rotation := rfl
@[simp] theorem State.sendSecond_render (s : State) (b : Block) (t : Nat) : (s.sendSecond b t).render = s.render := rfl
@[simp] theorem State.sendSecond_composer (s : State) (b : Block) (t : Nat) : (s.sendSecond b t).composer = s.composer := rfl
@[simp] theorem State.sendSecond_memory (s : State) (b : Block) (t : Nat) : (s.sendSecond b t).memory = s.memory := rfl
@[simp] theorem State.sendSecond_output (s : State) (b : Block) (t : Nat) : (s.sendSecond b t).output = s.output := rfl
@[simp] theorem State.sendSecond_feedLine (s : State) (b : Block) (t : Nat) : (s.sendSecond b t).feedLine = s.feedLine := rfl
@[simp] theorem State.sendSecond_deskLine (s : State) (b : Block) (t : Nat) : (s.sendSecond b t).deskLine = s.deskLine := rfl
@[simp] theorem State.sendSecond_choices (s : State) (b : Block) (t : Nat) : (s.sendSecond b t).choices = s.choices := rfl
@[simp] theorem State.sendSecond_mail_conditions (s : State) (b : Block) (t : Nat) : (s.sendSecond b t).mail.conditions = s.mail.conditions := rfl
@[simp] theorem State.sendSecond_mail_tiles (s : State) (b : Block) (t : Nat) : (s.sendSecond b t).mail.tiles = s.mail.tiles := rfl
@[simp] theorem State.sendSecond_mail_restarts (s : State) (b : Block) (t : Nat) : (s.sendSecond b t).mail.restarts = s.mail.restarts := rfl
@[simp] theorem State.sendSecond_mail_linkToClock (s : State) (b : Block) (t : Nat) : (s.sendSecond b t).mail.linkToClock = s.mail.linkToClock := rfl
@[simp] theorem State.sendSecond_mail_segments (s : State) (b : Block) (t : Nat) : (s.sendSecond b t).mail.segments = s.mail.segments := rfl
@[simp] theorem State.sendSecond_mail_linkToMemory (s : State) (b : Block) (t : Nat) : (s.sendSecond b t).mail.linkToMemory = s.mail.linkToMemory := rfl
@[simp] theorem State.sendSecond_mail_clockToSchedule (s : State) (b : Block) (t : Nat) : (s.sendSecond b t).mail.clockToSchedule = s.mail.clockToSchedule := rfl
@[simp] theorem State.sendSecond_mail_clockToBuilder (s : State) (b : Block) (t : Nat) : (s.sendSecond b t).mail.clockToBuilder = s.mail.clockToBuilder := rfl
@[simp] theorem State.sendSecond_mail_ticksToRotation (s : State) (b : Block) (t : Nat) : (s.sendSecond b t).mail.ticksToRotation = s.mail.ticksToRotation := rfl
@[simp] theorem State.sendSecond_mail_ticksToOutput (s : State) (b : Block) (t : Nat) : (s.sendSecond b t).mail.ticksToOutput = s.mail.ticksToOutput := rfl
@[simp] theorem State.sendSecond_mail_cuesToComposer (s : State) (b : Block) (t : Nat) : (s.sendSecond b t).mail.cuesToComposer = s.mail.cuesToComposer := rfl
@[simp] theorem State.sendSecond_mail_cuesToRotation (s : State) (b : Block) (t : Nat) : (s.sendSecond b t).mail.cuesToRotation = s.mail.cuesToRotation := rfl
@[simp] theorem State.sendSecond_mail_cuesToOutput (s : State) (b : Block) (t : Nat) : (s.sendSecond b t).mail.cuesToOutput = s.mail.cuesToOutput := rfl
@[simp] theorem State.sendSecond_mail_scheduleToBuilder (s : State) (b : Block) (t : Nat) : (s.sendSecond b t).mail.scheduleToBuilder = s.mail.scheduleToBuilder := rfl
@[simp] theorem State.sendSecond_mail_scheduleToSeat (s : State) (b : Block) (t : Nat) : (s.sendSecond b t).mail.scheduleToSeat = s.mail.scheduleToSeat := rfl
@[simp] theorem State.sendSecond_mail_scheduleToNotice (s : State) (b : Block) (t : Nat) : (s.sendSecond b t).mail.scheduleToNotice = s.mail.scheduleToNotice := rfl
@[simp] theorem State.sendSecond_mail_figuresToBuilder (s : State) (b : Block) (t : Nat) : (s.sendSecond b t).mail.figuresToBuilder = s.mail.figuresToBuilder := rfl
@[simp] theorem State.sendSecond_mail_outputToComposer (s : State) (b : Block) (t : Nat) : (s.sendSecond b t).mail.outputToComposer = s.mail.outputToComposer := rfl
@[simp] theorem State.sendSecond_mail_composerToMemory (s : State) (b : Block) (t : Nat) : (s.sendSecond b t).mail.composerToMemory = s.mail.composerToMemory := rfl
@[simp] theorem State.sendSecond_mail_memoryToComposer (s : State) (b : Block) (t : Nat) : (s.sendSecond b t).mail.memoryToComposer = s.mail.memoryToComposer := rfl
@[simp] theorem State.sendSecond_mail_memoryToRender (s : State) (b : Block) (t : Nat) : (s.sendSecond b t).mail.memoryToRender = s.mail.memoryToRender := rfl

/-! `State.dropSecond` -/
@[simp] theorem State.dropSecond_pending (s : State) (b : Block) : (s.dropSecond b).pending = s.pending := rfl
@[simp] theorem State.dropSecond_link (s : State) (b : Block) : (s.dropSecond b).link = s.link := rfl
@[simp] theorem State.dropSecond_clock (s : State) (b : Block) : (s.dropSecond b).clock = s.clock := rfl
@[simp] theorem State.dropSecond_schedule (s : State) (b : Block) : (s.dropSecond b).schedule = s.schedule := rfl
@[simp] theorem State.dropSecond_seat (s : State) (b : Block) : (s.dropSecond b).seat = s.seat := rfl
@[simp] theorem State.dropSecond_builder (s : State) (b : Block) : (s.dropSecond b).builder = s.builder := rfl
@[simp] theorem State.dropSecond_notice (s : State) (b : Block) : (s.dropSecond b).notice = s.notice := rfl
@[simp] theorem State.dropSecond_rotation (s : State) (b : Block) : (s.dropSecond b).rotation = s.rotation := rfl
@[simp] theorem State.dropSecond_render (s : State) (b : Block) : (s.dropSecond b).render = s.render := rfl
@[simp] theorem State.dropSecond_composer (s : State) (b : Block) : (s.dropSecond b).composer = s.composer := rfl
@[simp] theorem State.dropSecond_memory (s : State) (b : Block) : (s.dropSecond b).memory = s.memory := rfl
@[simp] theorem State.dropSecond_output (s : State) (b : Block) : (s.dropSecond b).output = s.output := rfl
@[simp] theorem State.dropSecond_feedLine (s : State) (b : Block) : (s.dropSecond b).feedLine = s.feedLine := rfl
@[simp] theorem State.dropSecond_deskLine (s : State) (b : Block) : (s.dropSecond b).deskLine = s.deskLine := rfl
@[simp] theorem State.dropSecond_choices (s : State) (b : Block) : (s.dropSecond b).choices = s.choices := rfl
@[simp] theorem State.dropSecond_mail_conditions (s : State) (b : Block) : (s.dropSecond b).mail.conditions = s.mail.conditions := rfl
@[simp] theorem State.dropSecond_mail_tiles (s : State) (b : Block) : (s.dropSecond b).mail.tiles = s.mail.tiles := rfl
@[simp] theorem State.dropSecond_mail_restarts (s : State) (b : Block) : (s.dropSecond b).mail.restarts = s.mail.restarts := rfl
@[simp] theorem State.dropSecond_mail_linkToClock (s : State) (b : Block) : (s.dropSecond b).mail.linkToClock = s.mail.linkToClock := rfl
@[simp] theorem State.dropSecond_mail_segments (s : State) (b : Block) : (s.dropSecond b).mail.segments = s.mail.segments := rfl
@[simp] theorem State.dropSecond_mail_linkToMemory (s : State) (b : Block) : (s.dropSecond b).mail.linkToMemory = s.mail.linkToMemory := rfl
@[simp] theorem State.dropSecond_mail_clockToSchedule (s : State) (b : Block) : (s.dropSecond b).mail.clockToSchedule = s.mail.clockToSchedule := rfl
@[simp] theorem State.dropSecond_mail_clockToBuilder (s : State) (b : Block) : (s.dropSecond b).mail.clockToBuilder = s.mail.clockToBuilder := rfl
@[simp] theorem State.dropSecond_mail_ticksToRotation (s : State) (b : Block) : (s.dropSecond b).mail.ticksToRotation = s.mail.ticksToRotation := rfl
@[simp] theorem State.dropSecond_mail_ticksToOutput (s : State) (b : Block) : (s.dropSecond b).mail.ticksToOutput = s.mail.ticksToOutput := rfl
@[simp] theorem State.dropSecond_mail_cuesToComposer (s : State) (b : Block) : (s.dropSecond b).mail.cuesToComposer = s.mail.cuesToComposer := rfl
@[simp] theorem State.dropSecond_mail_cuesToRotation (s : State) (b : Block) : (s.dropSecond b).mail.cuesToRotation = s.mail.cuesToRotation := rfl
@[simp] theorem State.dropSecond_mail_cuesToOutput (s : State) (b : Block) : (s.dropSecond b).mail.cuesToOutput = s.mail.cuesToOutput := rfl
@[simp] theorem State.dropSecond_mail_scheduleToBuilder (s : State) (b : Block) : (s.dropSecond b).mail.scheduleToBuilder = s.mail.scheduleToBuilder := rfl
@[simp] theorem State.dropSecond_mail_scheduleToSeat (s : State) (b : Block) : (s.dropSecond b).mail.scheduleToSeat = s.mail.scheduleToSeat := rfl
@[simp] theorem State.dropSecond_mail_scheduleToNotice (s : State) (b : Block) : (s.dropSecond b).mail.scheduleToNotice = s.mail.scheduleToNotice := rfl
@[simp] theorem State.dropSecond_mail_figuresToBuilder (s : State) (b : Block) : (s.dropSecond b).mail.figuresToBuilder = s.mail.figuresToBuilder := rfl
@[simp] theorem State.dropSecond_mail_outputToComposer (s : State) (b : Block) : (s.dropSecond b).mail.outputToComposer = s.mail.outputToComposer := rfl
@[simp] theorem State.dropSecond_mail_composerToMemory (s : State) (b : Block) : (s.dropSecond b).mail.composerToMemory = s.mail.composerToMemory := rfl
@[simp] theorem State.dropSecond_mail_memoryToComposer (s : State) (b : Block) : (s.dropSecond b).mail.memoryToComposer = s.mail.memoryToComposer := rfl
@[simp] theorem State.dropSecond_mail_memoryToRender (s : State) (b : Block) : (s.dropSecond b).mail.memoryToRender = s.mail.memoryToRender := rfl

/-! `State.sendMinute` -/
@[simp] theorem State.sendMinute_pending (s : State) (n : Nat) : (s.sendMinute n).pending = s.pending := rfl
@[simp] theorem State.sendMinute_link (s : State) (n : Nat) : (s.sendMinute n).link = s.link := rfl
@[simp] theorem State.sendMinute_clock (s : State) (n : Nat) : (s.sendMinute n).clock = s.clock := rfl
@[simp] theorem State.sendMinute_schedule (s : State) (n : Nat) : (s.sendMinute n).schedule = s.schedule := rfl
@[simp] theorem State.sendMinute_seat (s : State) (n : Nat) : (s.sendMinute n).seat = s.seat := rfl
@[simp] theorem State.sendMinute_builder (s : State) (n : Nat) : (s.sendMinute n).builder = s.builder := rfl
@[simp] theorem State.sendMinute_notice (s : State) (n : Nat) : (s.sendMinute n).notice = s.notice := rfl
@[simp] theorem State.sendMinute_rotation (s : State) (n : Nat) : (s.sendMinute n).rotation = s.rotation := rfl
@[simp] theorem State.sendMinute_render (s : State) (n : Nat) : (s.sendMinute n).render = s.render := rfl
@[simp] theorem State.sendMinute_composer (s : State) (n : Nat) : (s.sendMinute n).composer = s.composer := rfl
@[simp] theorem State.sendMinute_memory (s : State) (n : Nat) : (s.sendMinute n).memory = s.memory := rfl
@[simp] theorem State.sendMinute_output (s : State) (n : Nat) : (s.sendMinute n).output = s.output := rfl
@[simp] theorem State.sendMinute_feedLine (s : State) (n : Nat) : (s.sendMinute n).feedLine = s.feedLine := rfl
@[simp] theorem State.sendMinute_deskLine (s : State) (n : Nat) : (s.sendMinute n).deskLine = s.deskLine := rfl
@[simp] theorem State.sendMinute_choices (s : State) (n : Nat) : (s.sendMinute n).choices = s.choices := rfl
@[simp] theorem State.sendMinute_mail_conditions (s : State) (n : Nat) : (s.sendMinute n).mail.conditions = s.mail.conditions := rfl
@[simp] theorem State.sendMinute_mail_tiles (s : State) (n : Nat) : (s.sendMinute n).mail.tiles = s.mail.tiles := rfl
@[simp] theorem State.sendMinute_mail_restarts (s : State) (n : Nat) : (s.sendMinute n).mail.restarts = s.mail.restarts := rfl
@[simp] theorem State.sendMinute_mail_seconds (s : State) (n : Nat) : (s.sendMinute n).mail.seconds = s.mail.seconds := rfl
@[simp] theorem State.sendMinute_mail_linkToClock (s : State) (n : Nat) : (s.sendMinute n).mail.linkToClock = s.mail.linkToClock := rfl
@[simp] theorem State.sendMinute_mail_segments (s : State) (n : Nat) : (s.sendMinute n).mail.segments = s.mail.segments := rfl
@[simp] theorem State.sendMinute_mail_linkToMemory (s : State) (n : Nat) : (s.sendMinute n).mail.linkToMemory = s.mail.linkToMemory := rfl
@[simp] theorem State.sendMinute_mail_ticksToRotation (s : State) (n : Nat) : (s.sendMinute n).mail.ticksToRotation = s.mail.ticksToRotation := rfl
@[simp] theorem State.sendMinute_mail_ticksToOutput (s : State) (n : Nat) : (s.sendMinute n).mail.ticksToOutput = s.mail.ticksToOutput := rfl
@[simp] theorem State.sendMinute_mail_cuesToComposer (s : State) (n : Nat) : (s.sendMinute n).mail.cuesToComposer = s.mail.cuesToComposer := rfl
@[simp] theorem State.sendMinute_mail_cuesToRotation (s : State) (n : Nat) : (s.sendMinute n).mail.cuesToRotation = s.mail.cuesToRotation := rfl
@[simp] theorem State.sendMinute_mail_cuesToOutput (s : State) (n : Nat) : (s.sendMinute n).mail.cuesToOutput = s.mail.cuesToOutput := rfl
@[simp] theorem State.sendMinute_mail_scheduleToBuilder (s : State) (n : Nat) : (s.sendMinute n).mail.scheduleToBuilder = s.mail.scheduleToBuilder := rfl
@[simp] theorem State.sendMinute_mail_scheduleToSeat (s : State) (n : Nat) : (s.sendMinute n).mail.scheduleToSeat = s.mail.scheduleToSeat := rfl
@[simp] theorem State.sendMinute_mail_scheduleToNotice (s : State) (n : Nat) : (s.sendMinute n).mail.scheduleToNotice = s.mail.scheduleToNotice := rfl
@[simp] theorem State.sendMinute_mail_figuresToBuilder (s : State) (n : Nat) : (s.sendMinute n).mail.figuresToBuilder = s.mail.figuresToBuilder := rfl
@[simp] theorem State.sendMinute_mail_outputToComposer (s : State) (n : Nat) : (s.sendMinute n).mail.outputToComposer = s.mail.outputToComposer := rfl
@[simp] theorem State.sendMinute_mail_composerToMemory (s : State) (n : Nat) : (s.sendMinute n).mail.composerToMemory = s.mail.composerToMemory := rfl
@[simp] theorem State.sendMinute_mail_memoryToComposer (s : State) (n : Nat) : (s.sendMinute n).mail.memoryToComposer = s.mail.memoryToComposer := rfl
@[simp] theorem State.sendMinute_mail_memoryToRender (s : State) (n : Nat) : (s.sendMinute n).mail.memoryToRender = s.mail.memoryToRender := rfl

/-! `State.rollover` -/
@[simp] theorem State.rollover_pending (s : State) (day : Nat) : (s.rollover day).pending = s.pending := rfl
@[simp] theorem State.rollover_link (s : State) (day : Nat) : (s.rollover day).link = s.link := rfl
@[simp] theorem State.rollover_schedule (s : State) (day : Nat) : (s.rollover day).schedule = s.schedule := rfl
@[simp] theorem State.rollover_seat (s : State) (day : Nat) : (s.rollover day).seat = s.seat := rfl
@[simp] theorem State.rollover_builder (s : State) (day : Nat) : (s.rollover day).builder = s.builder := rfl
@[simp] theorem State.rollover_notice (s : State) (day : Nat) : (s.rollover day).notice = s.notice := rfl
@[simp] theorem State.rollover_rotation (s : State) (day : Nat) : (s.rollover day).rotation = s.rotation := rfl
@[simp] theorem State.rollover_render (s : State) (day : Nat) : (s.rollover day).render = s.render := rfl
@[simp] theorem State.rollover_composer (s : State) (day : Nat) : (s.rollover day).composer = s.composer := rfl
@[simp] theorem State.rollover_memory (s : State) (day : Nat) : (s.rollover day).memory = s.memory := rfl
@[simp] theorem State.rollover_output (s : State) (day : Nat) : (s.rollover day).output = s.output := rfl
@[simp] theorem State.rollover_feedLine (s : State) (day : Nat) : (s.rollover day).feedLine = s.feedLine := rfl
@[simp] theorem State.rollover_deskLine (s : State) (day : Nat) : (s.rollover day).deskLine = s.deskLine := rfl
@[simp] theorem State.rollover_choices (s : State) (day : Nat) : (s.rollover day).choices = s.choices := rfl
@[simp] theorem State.rollover_mail_conditions (s : State) (day : Nat) : (s.rollover day).mail.conditions = s.mail.conditions := rfl
@[simp] theorem State.rollover_mail_tiles (s : State) (day : Nat) : (s.rollover day).mail.tiles = s.mail.tiles := rfl
@[simp] theorem State.rollover_mail_restarts (s : State) (day : Nat) : (s.rollover day).mail.restarts = s.mail.restarts := rfl
@[simp] theorem State.rollover_mail_seconds (s : State) (day : Nat) : (s.rollover day).mail.seconds = s.mail.seconds := rfl
@[simp] theorem State.rollover_mail_linkToClock (s : State) (day : Nat) : (s.rollover day).mail.linkToClock = s.mail.linkToClock := rfl
@[simp] theorem State.rollover_mail_segments (s : State) (day : Nat) : (s.rollover day).mail.segments = s.mail.segments := rfl
@[simp] theorem State.rollover_mail_linkToMemory (s : State) (day : Nat) : (s.rollover day).mail.linkToMemory = s.mail.linkToMemory := rfl
@[simp] theorem State.rollover_mail_ticksToRotation (s : State) (day : Nat) : (s.rollover day).mail.ticksToRotation = s.mail.ticksToRotation := rfl
@[simp] theorem State.rollover_mail_ticksToOutput (s : State) (day : Nat) : (s.rollover day).mail.ticksToOutput = s.mail.ticksToOutput := rfl
@[simp] theorem State.rollover_mail_cuesToComposer (s : State) (day : Nat) : (s.rollover day).mail.cuesToComposer = s.mail.cuesToComposer := rfl
@[simp] theorem State.rollover_mail_cuesToRotation (s : State) (day : Nat) : (s.rollover day).mail.cuesToRotation = s.mail.cuesToRotation := rfl
@[simp] theorem State.rollover_mail_cuesToOutput (s : State) (day : Nat) : (s.rollover day).mail.cuesToOutput = s.mail.cuesToOutput := rfl
@[simp] theorem State.rollover_mail_scheduleToBuilder (s : State) (day : Nat) : (s.rollover day).mail.scheduleToBuilder = s.mail.scheduleToBuilder := rfl
@[simp] theorem State.rollover_mail_scheduleToSeat (s : State) (day : Nat) : (s.rollover day).mail.scheduleToSeat = s.mail.scheduleToSeat := rfl
@[simp] theorem State.rollover_mail_scheduleToNotice (s : State) (day : Nat) : (s.rollover day).mail.scheduleToNotice = s.mail.scheduleToNotice := rfl
@[simp] theorem State.rollover_mail_figuresToBuilder (s : State) (day : Nat) : (s.rollover day).mail.figuresToBuilder = s.mail.figuresToBuilder := rfl
@[simp] theorem State.rollover_mail_outputToComposer (s : State) (day : Nat) : (s.rollover day).mail.outputToComposer = s.mail.outputToComposer := rfl
@[simp] theorem State.rollover_mail_composerToMemory (s : State) (day : Nat) : (s.rollover day).mail.composerToMemory = s.mail.composerToMemory := rfl
@[simp] theorem State.rollover_mail_memoryToComposer (s : State) (day : Nat) : (s.rollover day).mail.memoryToComposer = s.mail.memoryToComposer := rfl
@[simp] theorem State.rollover_mail_memoryToRender (s : State) (day : Nat) : (s.rollover day).mail.memoryToRender = s.mail.memoryToRender := rfl

/-! `State.redrawClockTiles` -/
@[simp] theorem State.redrawClockTiles_pending (s : State) : (s.redrawClockTiles).pending = s.pending := rfl
@[simp] theorem State.redrawClockTiles_link (s : State) : (s.redrawClockTiles).link = s.link := rfl
@[simp] theorem State.redrawClockTiles_clock (s : State) : (s.redrawClockTiles).clock = s.clock := rfl
@[simp] theorem State.redrawClockTiles_schedule (s : State) : (s.redrawClockTiles).schedule = s.schedule := rfl
@[simp] theorem State.redrawClockTiles_seat (s : State) : (s.redrawClockTiles).seat = s.seat := rfl
@[simp] theorem State.redrawClockTiles_builder (s : State) : (s.redrawClockTiles).builder = s.builder := rfl
@[simp] theorem State.redrawClockTiles_notice (s : State) : (s.redrawClockTiles).notice = s.notice := rfl
@[simp] theorem State.redrawClockTiles_rotation (s : State) : (s.redrawClockTiles).rotation = s.rotation := rfl
@[simp] theorem State.redrawClockTiles_render (s : State) : (s.redrawClockTiles).render = s.render := rfl
@[simp] theorem State.redrawClockTiles_composer (s : State) : (s.redrawClockTiles).composer = s.composer := rfl
@[simp] theorem State.redrawClockTiles_memory (s : State) : (s.redrawClockTiles).memory = s.memory := rfl
@[simp] theorem State.redrawClockTiles_output (s : State) : (s.redrawClockTiles).output = s.output := rfl
@[simp] theorem State.redrawClockTiles_feedLine (s : State) : (s.redrawClockTiles).feedLine = s.feedLine := rfl
@[simp] theorem State.redrawClockTiles_deskLine (s : State) : (s.redrawClockTiles).deskLine = s.deskLine := rfl
@[simp] theorem State.redrawClockTiles_choices (s : State) : (s.redrawClockTiles).choices = s.choices := rfl
@[simp] theorem State.redrawClockTiles_mail_conditions (s : State) : (s.redrawClockTiles).mail.conditions = s.mail.conditions := rfl
@[simp] theorem State.redrawClockTiles_mail_restarts (s : State) : (s.redrawClockTiles).mail.restarts = s.mail.restarts := rfl
@[simp] theorem State.redrawClockTiles_mail_seconds (s : State) : (s.redrawClockTiles).mail.seconds = s.mail.seconds := rfl
@[simp] theorem State.redrawClockTiles_mail_linkToClock (s : State) : (s.redrawClockTiles).mail.linkToClock = s.mail.linkToClock := rfl
@[simp] theorem State.redrawClockTiles_mail_segments (s : State) : (s.redrawClockTiles).mail.segments = s.mail.segments := rfl
@[simp] theorem State.redrawClockTiles_mail_linkToMemory (s : State) : (s.redrawClockTiles).mail.linkToMemory = s.mail.linkToMemory := rfl
@[simp] theorem State.redrawClockTiles_mail_clockToSchedule (s : State) : (s.redrawClockTiles).mail.clockToSchedule = s.mail.clockToSchedule := rfl
@[simp] theorem State.redrawClockTiles_mail_clockToBuilder (s : State) : (s.redrawClockTiles).mail.clockToBuilder = s.mail.clockToBuilder := rfl
@[simp] theorem State.redrawClockTiles_mail_ticksToRotation (s : State) : (s.redrawClockTiles).mail.ticksToRotation = s.mail.ticksToRotation := rfl
@[simp] theorem State.redrawClockTiles_mail_ticksToOutput (s : State) : (s.redrawClockTiles).mail.ticksToOutput = s.mail.ticksToOutput := rfl
@[simp] theorem State.redrawClockTiles_mail_cuesToComposer (s : State) : (s.redrawClockTiles).mail.cuesToComposer = s.mail.cuesToComposer := rfl
@[simp] theorem State.redrawClockTiles_mail_cuesToRotation (s : State) : (s.redrawClockTiles).mail.cuesToRotation = s.mail.cuesToRotation := rfl
@[simp] theorem State.redrawClockTiles_mail_cuesToOutput (s : State) : (s.redrawClockTiles).mail.cuesToOutput = s.mail.cuesToOutput := rfl
@[simp] theorem State.redrawClockTiles_mail_scheduleToBuilder (s : State) : (s.redrawClockTiles).mail.scheduleToBuilder = s.mail.scheduleToBuilder := rfl
@[simp] theorem State.redrawClockTiles_mail_scheduleToSeat (s : State) : (s.redrawClockTiles).mail.scheduleToSeat = s.mail.scheduleToSeat := rfl
@[simp] theorem State.redrawClockTiles_mail_scheduleToNotice (s : State) : (s.redrawClockTiles).mail.scheduleToNotice = s.mail.scheduleToNotice := rfl
@[simp] theorem State.redrawClockTiles_mail_figuresToBuilder (s : State) : (s.redrawClockTiles).mail.figuresToBuilder = s.mail.figuresToBuilder := rfl
@[simp] theorem State.redrawClockTiles_mail_outputToComposer (s : State) : (s.redrawClockTiles).mail.outputToComposer = s.mail.outputToComposer := rfl
@[simp] theorem State.redrawClockTiles_mail_composerToMemory (s : State) : (s.redrawClockTiles).mail.composerToMemory = s.mail.composerToMemory := rfl
@[simp] theorem State.redrawClockTiles_mail_memoryToComposer (s : State) : (s.redrawClockTiles).mail.memoryToComposer = s.mail.memoryToComposer := rfl
@[simp] theorem State.redrawClockTiles_mail_memoryToRender (s : State) : (s.redrawClockTiles).mail.memoryToRender = s.mail.memoryToRender := rfl

/-! `State.deliverTick` -/
@[simp] theorem State.deliverTick_pending (s : State) : (s.deliverTick).pending = s.pending := rfl
@[simp] theorem State.deliverTick_link (s : State) : (s.deliverTick).link = s.link := rfl
@[simp] theorem State.deliverTick_clock (s : State) : (s.deliverTick).clock = s.clock := rfl
@[simp] theorem State.deliverTick_schedule (s : State) : (s.deliverTick).schedule = s.schedule := rfl
@[simp] theorem State.deliverTick_seat (s : State) : (s.deliverTick).seat = s.seat := rfl
@[simp] theorem State.deliverTick_builder (s : State) : (s.deliverTick).builder = s.builder := rfl
@[simp] theorem State.deliverTick_notice (s : State) : (s.deliverTick).notice = s.notice := rfl
@[simp] theorem State.deliverTick_rotation (s : State) : (s.deliverTick).rotation = s.rotation := rfl
@[simp] theorem State.deliverTick_render (s : State) : (s.deliverTick).render = s.render := rfl
@[simp] theorem State.deliverTick_composer (s : State) : (s.deliverTick).composer = s.composer := rfl
@[simp] theorem State.deliverTick_memory (s : State) : (s.deliverTick).memory = s.memory := rfl
@[simp] theorem State.deliverTick_output (s : State) : (s.deliverTick).output = s.output := rfl
@[simp] theorem State.deliverTick_feedLine (s : State) : (s.deliverTick).feedLine = s.feedLine := rfl
@[simp] theorem State.deliverTick_deskLine (s : State) : (s.deliverTick).deskLine = s.deskLine := rfl
@[simp] theorem State.deliverTick_choices (s : State) : (s.deliverTick).choices = s.choices := rfl
@[simp] theorem State.deliverTick_mail_conditions (s : State) : (s.deliverTick).mail.conditions = s.mail.conditions := rfl
@[simp] theorem State.deliverTick_mail_tiles (s : State) : (s.deliverTick).mail.tiles = s.mail.tiles := rfl
@[simp] theorem State.deliverTick_mail_restarts (s : State) : (s.deliverTick).mail.restarts = s.mail.restarts := rfl
@[simp] theorem State.deliverTick_mail_seconds (s : State) : (s.deliverTick).mail.seconds = s.mail.seconds := rfl
@[simp] theorem State.deliverTick_mail_linkToClock (s : State) : (s.deliverTick).mail.linkToClock = s.mail.linkToClock := rfl
@[simp] theorem State.deliverTick_mail_segments (s : State) : (s.deliverTick).mail.segments = s.mail.segments := rfl
@[simp] theorem State.deliverTick_mail_linkToMemory (s : State) : (s.deliverTick).mail.linkToMemory = s.mail.linkToMemory := rfl
@[simp] theorem State.deliverTick_mail_clockToSchedule (s : State) : (s.deliverTick).mail.clockToSchedule = s.mail.clockToSchedule := rfl
@[simp] theorem State.deliverTick_mail_cuesToComposer (s : State) : (s.deliverTick).mail.cuesToComposer = s.mail.cuesToComposer := rfl
@[simp] theorem State.deliverTick_mail_cuesToRotation (s : State) : (s.deliverTick).mail.cuesToRotation = s.mail.cuesToRotation := rfl
@[simp] theorem State.deliverTick_mail_cuesToOutput (s : State) : (s.deliverTick).mail.cuesToOutput = s.mail.cuesToOutput := rfl
@[simp] theorem State.deliverTick_mail_scheduleToBuilder (s : State) : (s.deliverTick).mail.scheduleToBuilder = s.mail.scheduleToBuilder := rfl
@[simp] theorem State.deliverTick_mail_scheduleToSeat (s : State) : (s.deliverTick).mail.scheduleToSeat = s.mail.scheduleToSeat := rfl
@[simp] theorem State.deliverTick_mail_scheduleToNotice (s : State) : (s.deliverTick).mail.scheduleToNotice = s.mail.scheduleToNotice := rfl
@[simp] theorem State.deliverTick_mail_figuresToBuilder (s : State) : (s.deliverTick).mail.figuresToBuilder = s.mail.figuresToBuilder := rfl
@[simp] theorem State.deliverTick_mail_outputToComposer (s : State) : (s.deliverTick).mail.outputToComposer = s.mail.outputToComposer := rfl
@[simp] theorem State.deliverTick_mail_composerToMemory (s : State) : (s.deliverTick).mail.composerToMemory = s.mail.composerToMemory := rfl
@[simp] theorem State.deliverTick_mail_memoryToComposer (s : State) : (s.deliverTick).mail.memoryToComposer = s.mail.memoryToComposer := rfl
@[simp] theorem State.deliverTick_mail_memoryToRender (s : State) : (s.deliverTick).mail.memoryToRender = s.mail.memoryToRender := rfl

/-! `State.deliverSecond` -/
@[simp] theorem State.deliverSecond_pending (s : State) (t : Nat) : (s.deliverSecond t).pending = s.pending := by simp [State.deliverSecond]
@[simp] theorem State.deliverSecond_link (s : State) (t : Nat) : (s.deliverSecond t).link = s.link := by simp [State.deliverSecond]
@[simp] theorem State.deliverSecond_clock (s : State) (t : Nat) : (s.deliverSecond t).clock = s.clock := by simp [State.deliverSecond]
@[simp] theorem State.deliverSecond_schedule (s : State) (t : Nat) : (s.deliverSecond t).schedule = s.schedule := by simp [State.deliverSecond]
@[simp] theorem State.deliverSecond_seat (s : State) (t : Nat) : (s.deliverSecond t).seat = s.seat := by simp [State.deliverSecond]
@[simp] theorem State.deliverSecond_builder (s : State) (t : Nat) : (s.deliverSecond t).builder = s.builder := by simp [State.deliverSecond]
@[simp] theorem State.deliverSecond_notice (s : State) (t : Nat) : (s.deliverSecond t).notice = s.notice := by simp [State.deliverSecond]
@[simp] theorem State.deliverSecond_rotation (s : State) (t : Nat) : (s.deliverSecond t).rotation = s.rotation := by simp [State.deliverSecond]
@[simp] theorem State.deliverSecond_render (s : State) (t : Nat) : (s.deliverSecond t).render = s.render := by simp [State.deliverSecond]
@[simp] theorem State.deliverSecond_composer (s : State) (t : Nat) : (s.deliverSecond t).composer = s.composer := by simp [State.deliverSecond]
@[simp] theorem State.deliverSecond_memory (s : State) (t : Nat) : (s.deliverSecond t).memory = s.memory := by simp [State.deliverSecond]
@[simp] theorem State.deliverSecond_output (s : State) (t : Nat) : (s.deliverSecond t).output = s.output := by simp [State.deliverSecond]
@[simp] theorem State.deliverSecond_feedLine (s : State) (t : Nat) : (s.deliverSecond t).feedLine = s.feedLine := by simp [State.deliverSecond]
@[simp] theorem State.deliverSecond_deskLine (s : State) (t : Nat) : (s.deliverSecond t).deskLine = s.deskLine := by simp [State.deliverSecond]
@[simp] theorem State.deliverSecond_choices (s : State) (t : Nat) : (s.deliverSecond t).choices = s.choices := by simp [State.deliverSecond]
@[simp] theorem State.deliverSecond_mail_conditions (s : State) (t : Nat) : (s.deliverSecond t).mail.conditions = s.mail.conditions := by simp [State.deliverSecond]
@[simp] theorem State.deliverSecond_mail_tiles (s : State) (t : Nat) : (s.deliverSecond t).mail.tiles = s.mail.tiles := by simp [State.deliverSecond]
@[simp] theorem State.deliverSecond_mail_restarts (s : State) (t : Nat) : (s.deliverSecond t).mail.restarts = s.mail.restarts := by simp [State.deliverSecond]
@[simp] theorem State.deliverSecond_mail_linkToClock (s : State) (t : Nat) : (s.deliverSecond t).mail.linkToClock = s.mail.linkToClock := by simp [State.deliverSecond]
@[simp] theorem State.deliverSecond_mail_segments (s : State) (t : Nat) : (s.deliverSecond t).mail.segments = s.mail.segments := by simp [State.deliverSecond]
@[simp] theorem State.deliverSecond_mail_linkToMemory (s : State) (t : Nat) : (s.deliverSecond t).mail.linkToMemory = s.mail.linkToMemory := by simp [State.deliverSecond]
@[simp] theorem State.deliverSecond_mail_clockToSchedule (s : State) (t : Nat) : (s.deliverSecond t).mail.clockToSchedule = s.mail.clockToSchedule := by simp [State.deliverSecond]
@[simp] theorem State.deliverSecond_mail_clockToBuilder (s : State) (t : Nat) : (s.deliverSecond t).mail.clockToBuilder = s.mail.clockToBuilder := by simp [State.deliverSecond]
@[simp] theorem State.deliverSecond_mail_ticksToRotation (s : State) (t : Nat) : (s.deliverSecond t).mail.ticksToRotation = s.mail.ticksToRotation := by simp [State.deliverSecond]
@[simp] theorem State.deliverSecond_mail_ticksToOutput (s : State) (t : Nat) : (s.deliverSecond t).mail.ticksToOutput = s.mail.ticksToOutput := by simp [State.deliverSecond]
@[simp] theorem State.deliverSecond_mail_cuesToComposer (s : State) (t : Nat) : (s.deliverSecond t).mail.cuesToComposer = s.mail.cuesToComposer := by simp [State.deliverSecond]
@[simp] theorem State.deliverSecond_mail_cuesToRotation (s : State) (t : Nat) : (s.deliverSecond t).mail.cuesToRotation = s.mail.cuesToRotation := by simp [State.deliverSecond]
@[simp] theorem State.deliverSecond_mail_cuesToOutput (s : State) (t : Nat) : (s.deliverSecond t).mail.cuesToOutput = s.mail.cuesToOutput := by simp [State.deliverSecond]
@[simp] theorem State.deliverSecond_mail_scheduleToBuilder (s : State) (t : Nat) : (s.deliverSecond t).mail.scheduleToBuilder = s.mail.scheduleToBuilder := by simp [State.deliverSecond]
@[simp] theorem State.deliverSecond_mail_scheduleToSeat (s : State) (t : Nat) : (s.deliverSecond t).mail.scheduleToSeat = s.mail.scheduleToSeat := by simp [State.deliverSecond]
@[simp] theorem State.deliverSecond_mail_scheduleToNotice (s : State) (t : Nat) : (s.deliverSecond t).mail.scheduleToNotice = s.mail.scheduleToNotice := by simp [State.deliverSecond]
@[simp] theorem State.deliverSecond_mail_figuresToBuilder (s : State) (t : Nat) : (s.deliverSecond t).mail.figuresToBuilder = s.mail.figuresToBuilder := by simp [State.deliverSecond]
@[simp] theorem State.deliverSecond_mail_outputToComposer (s : State) (t : Nat) : (s.deliverSecond t).mail.outputToComposer = s.mail.outputToComposer := by simp [State.deliverSecond]
@[simp] theorem State.deliverSecond_mail_composerToMemory (s : State) (t : Nat) : (s.deliverSecond t).mail.composerToMemory = s.mail.composerToMemory := by simp [State.deliverSecond]
@[simp] theorem State.deliverSecond_mail_memoryToComposer (s : State) (t : Nat) : (s.deliverSecond t).mail.memoryToComposer = s.mail.memoryToComposer := by simp [State.deliverSecond]
@[simp] theorem State.deliverSecond_mail_memoryToRender (s : State) (t : Nat) : (s.deliverSecond t).mail.memoryToRender = s.mail.memoryToRender := by simp [State.deliverSecond]

/-! `State.sendRestarts` -/
@[simp] theorem State.sendRestarts_pending (s : State) : (s.sendRestarts).pending = s.pending := by simp [State.sendRestarts]
@[simp] theorem State.sendRestarts_link (s : State) : (s.sendRestarts).link = s.link := by simp [State.sendRestarts]
@[simp] theorem State.sendRestarts_clock (s : State) : (s.sendRestarts).clock = s.clock := by simp [State.sendRestarts]
@[simp] theorem State.sendRestarts_schedule (s : State) : (s.sendRestarts).schedule = s.schedule := by simp [State.sendRestarts]
@[simp] theorem State.sendRestarts_seat (s : State) : (s.sendRestarts).seat = s.seat := by simp [State.sendRestarts]
@[simp] theorem State.sendRestarts_builder (s : State) : (s.sendRestarts).builder = s.builder := by simp [State.sendRestarts]
@[simp] theorem State.sendRestarts_notice (s : State) : (s.sendRestarts).notice = s.notice := by simp [State.sendRestarts]
@[simp] theorem State.sendRestarts_rotation (s : State) : (s.sendRestarts).rotation = s.rotation := by simp [State.sendRestarts]
@[simp] theorem State.sendRestarts_render (s : State) : (s.sendRestarts).render = s.render := by simp [State.sendRestarts]
@[simp] theorem State.sendRestarts_composer (s : State) : (s.sendRestarts).composer = s.composer := by simp [State.sendRestarts]
@[simp] theorem State.sendRestarts_memory (s : State) : (s.sendRestarts).memory = s.memory := by simp [State.sendRestarts]
@[simp] theorem State.sendRestarts_output (s : State) : (s.sendRestarts).output = s.output := by simp [State.sendRestarts]
@[simp] theorem State.sendRestarts_feedLine (s : State) : (s.sendRestarts).feedLine = s.feedLine := by simp [State.sendRestarts]
@[simp] theorem State.sendRestarts_deskLine (s : State) : (s.sendRestarts).deskLine = s.deskLine := by simp [State.sendRestarts]
@[simp] theorem State.sendRestarts_choices (s : State) : (s.sendRestarts).choices = s.choices := by simp [State.sendRestarts]
@[simp] theorem State.sendRestarts_mail_conditions (s : State) : (s.sendRestarts).mail.conditions = s.mail.conditions := by simp [State.sendRestarts]
@[simp] theorem State.sendRestarts_mail_tiles (s : State) : (s.sendRestarts).mail.tiles = s.mail.tiles := by simp [State.sendRestarts]
@[simp] theorem State.sendRestarts_mail_seconds (s : State) : (s.sendRestarts).mail.seconds = s.mail.seconds := by simp [State.sendRestarts]
@[simp] theorem State.sendRestarts_mail_linkToClock (s : State) : (s.sendRestarts).mail.linkToClock = s.mail.linkToClock := by simp [State.sendRestarts]
@[simp] theorem State.sendRestarts_mail_segments (s : State) : (s.sendRestarts).mail.segments = s.mail.segments := by simp [State.sendRestarts]
@[simp] theorem State.sendRestarts_mail_clockToSchedule (s : State) : (s.sendRestarts).mail.clockToSchedule = s.mail.clockToSchedule := by simp [State.sendRestarts]
@[simp] theorem State.sendRestarts_mail_clockToBuilder (s : State) : (s.sendRestarts).mail.clockToBuilder = s.mail.clockToBuilder := by simp [State.sendRestarts]
@[simp] theorem State.sendRestarts_mail_ticksToRotation (s : State) : (s.sendRestarts).mail.ticksToRotation = s.mail.ticksToRotation := by simp [State.sendRestarts]
@[simp] theorem State.sendRestarts_mail_ticksToOutput (s : State) : (s.sendRestarts).mail.ticksToOutput = s.mail.ticksToOutput := by simp [State.sendRestarts]
@[simp] theorem State.sendRestarts_mail_cuesToComposer (s : State) : (s.sendRestarts).mail.cuesToComposer = s.mail.cuesToComposer := by simp [State.sendRestarts]
@[simp] theorem State.sendRestarts_mail_cuesToRotation (s : State) : (s.sendRestarts).mail.cuesToRotation = s.mail.cuesToRotation := by simp [State.sendRestarts]
@[simp] theorem State.sendRestarts_mail_cuesToOutput (s : State) : (s.sendRestarts).mail.cuesToOutput = s.mail.cuesToOutput := by simp [State.sendRestarts]
@[simp] theorem State.sendRestarts_mail_scheduleToBuilder (s : State) : (s.sendRestarts).mail.scheduleToBuilder = s.mail.scheduleToBuilder := by simp [State.sendRestarts]
@[simp] theorem State.sendRestarts_mail_scheduleToSeat (s : State) : (s.sendRestarts).mail.scheduleToSeat = s.mail.scheduleToSeat := by simp [State.sendRestarts]
@[simp] theorem State.sendRestarts_mail_scheduleToNotice (s : State) : (s.sendRestarts).mail.scheduleToNotice = s.mail.scheduleToNotice := by simp [State.sendRestarts]
@[simp] theorem State.sendRestarts_mail_figuresToBuilder (s : State) : (s.sendRestarts).mail.figuresToBuilder = s.mail.figuresToBuilder := by simp [State.sendRestarts]
@[simp] theorem State.sendRestarts_mail_outputToComposer (s : State) : (s.sendRestarts).mail.outputToComposer = s.mail.outputToComposer := by simp [State.sendRestarts]
@[simp] theorem State.sendRestarts_mail_composerToMemory (s : State) : (s.sendRestarts).mail.composerToMemory = s.mail.composerToMemory := by simp [State.sendRestarts]
@[simp] theorem State.sendRestarts_mail_memoryToComposer (s : State) : (s.sendRestarts).mail.memoryToComposer = s.mail.memoryToComposer := by simp [State.sendRestarts]
@[simp] theorem State.sendRestarts_mail_memoryToRender (s : State) : (s.sendRestarts).mail.memoryToRender = s.mail.memoryToRender := by simp [State.sendRestarts]

/-! `State.arrangeRestart` -/
@[simp] theorem State.arrangeRestart_pending (s : State) (p : Port) (q : Packet) : (s.arrangeRestart p q).pending = s.pending := by simp [State.arrangeRestart]
@[simp] theorem State.arrangeRestart_clock (s : State) (p : Port) (q : Packet) : (s.arrangeRestart p q).clock = s.clock := by simp [State.arrangeRestart]
@[simp] theorem State.arrangeRestart_schedule (s : State) (p : Port) (q : Packet) : (s.arrangeRestart p q).schedule = s.schedule := by simp [State.arrangeRestart]
@[simp] theorem State.arrangeRestart_seat (s : State) (p : Port) (q : Packet) : (s.arrangeRestart p q).seat = s.seat := by simp [State.arrangeRestart]
@[simp] theorem State.arrangeRestart_builder (s : State) (p : Port) (q : Packet) : (s.arrangeRestart p q).builder = s.builder := by simp [State.arrangeRestart]
@[simp] theorem State.arrangeRestart_notice (s : State) (p : Port) (q : Packet) : (s.arrangeRestart p q).notice = s.notice := by simp [State.arrangeRestart]
@[simp] theorem State.arrangeRestart_rotation (s : State) (p : Port) (q : Packet) : (s.arrangeRestart p q).rotation = s.rotation := by simp [State.arrangeRestart]
@[simp] theorem State.arrangeRestart_render (s : State) (p : Port) (q : Packet) : (s.arrangeRestart p q).render = s.render := by simp [State.arrangeRestart]
@[simp] theorem State.arrangeRestart_composer (s : State) (p : Port) (q : Packet) : (s.arrangeRestart p q).composer = s.composer := by simp [State.arrangeRestart]
@[simp] theorem State.arrangeRestart_memory (s : State) (p : Port) (q : Packet) : (s.arrangeRestart p q).memory = s.memory := by simp [State.arrangeRestart]
@[simp] theorem State.arrangeRestart_output (s : State) (p : Port) (q : Packet) : (s.arrangeRestart p q).output = s.output := by simp [State.arrangeRestart]
@[simp] theorem State.arrangeRestart_feedLine (s : State) (p : Port) (q : Packet) : (s.arrangeRestart p q).feedLine = s.feedLine := by simp [State.arrangeRestart]
@[simp] theorem State.arrangeRestart_deskLine (s : State) (p : Port) (q : Packet) : (s.arrangeRestart p q).deskLine = s.deskLine := by simp [State.arrangeRestart]
@[simp] theorem State.arrangeRestart_choices (s : State) (p : Port) (q : Packet) : (s.arrangeRestart p q).choices = s.choices := by simp [State.arrangeRestart]
@[simp] theorem State.arrangeRestart_mail (s : State) (p : Port) (q : Packet) : (s.arrangeRestart p q).mail = s.sendRestarts.mail := by
  simp [State.arrangeRestart, State.sendRestarts, State.sendRestart]
@[simp] theorem State.arrangeRestart_link_restartPending (s : State) (p : Port) (q : Packet) : (s.arrangeRestart p q).link.restartPending = some ⟨p, q.tag, q.code, false⟩ := rfl
@[simp] theorem State.arrangeRestart_link_feedReceiver (s : State) (p : Port) (q : Packet) : (s.arrangeRestart p q).link.feedReceiver = s.link.feedReceiver := by simp [State.arrangeRestart]
@[simp] theorem State.arrangeRestart_link_deskReceiver (s : State) (p : Port) (q : Packet) : (s.arrangeRestart p q).link.deskReceiver = s.link.deskReceiver := by simp [State.arrangeRestart]
@[simp] theorem State.arrangeRestart_link_handoff (s : State) (p : Port) (q : Packet) : (s.arrangeRestart p q).link.handoff = s.link.handoff := by simp [State.arrangeRestart]
@[simp] theorem State.arrangeRestart_link_owners (s : State) (p : Port) (q : Packet) : (s.arrangeRestart p q).link.owners = s.link.owners := by simp [State.arrangeRestart]
@[simp] theorem State.arrangeRestart_link_flags (s : State) (p : Port) (q : Packet) : (s.arrangeRestart p q).link.flags = s.link.flags := by simp [State.arrangeRestart]
@[simp] theorem State.arrangeRestart_link_enables (s : State) (p : Port) (q : Packet) : (s.arrangeRestart p q).link.enables = s.link.enables := by simp [State.arrangeRestart]
@[simp] theorem State.arrangeRestart_link_due (s : State) (p : Port) (q : Packet) : (s.arrangeRestart p q).link.due = s.link.due := by simp [State.arrangeRestart]
@[simp] theorem State.arrangeRestart_link_watch (s : State) (p : Port) (q : Packet) : (s.arrangeRestart p q).link.watch = s.link.watch := by simp [State.arrangeRestart]
@[simp] theorem State.arrangeRestart_link_resetPending (s : State) (p : Port) (q : Packet) : (s.arrangeRestart p q).link.resetPending = s.link.resetPending := by simp [State.arrangeRestart]

/-! `State.countTowardRestart` -/

/-- Only the link unit is changed. -/
theorem State.countTowardRestart_eq (s : State) (b : Block) (c : Condition) :
    ∃ l : LinkUnit, s.countTowardRestart b c = { s with link := l } ∧ l.feedReceiver = s.link.feedReceiver
      ∧ l.deskReceiver = s.link.deskReceiver ∧ l.handoff = s.link.handoff ∧ l.owners = s.link.owners ∧ l.flags = s.link.flags
      ∧ l.enables = s.link.enables ∧ l.due = s.link.due ∧ l.watch = s.link.watch ∧ l.resetPending = s.link.resetPending := by
  unfold State.countTowardRestart
  split
  · exact ⟨s.link, rfl, rfl, rfl, rfl, rfl, rfl, rfl, rfl, rfl, rfl⟩
  · split
    · exact ⟨s.link, rfl, rfl, rfl, rfl, rfl, rfl, rfl, rfl, rfl, rfl⟩
    · split
      · exact ⟨_, rfl, rfl, rfl, rfl, rfl, rfl, rfl, rfl, rfl, rfl⟩
      · split
        · exact ⟨_, rfl, rfl, rfl, rfl, rfl, rfl, rfl, rfl, rfl, rfl⟩
        · exact ⟨s.link, rfl, rfl, rfl, rfl, rfl, rfl, rfl, rfl, rfl, rfl⟩

@[simp] theorem State.countTowardRestart_pending (s : State) (b : Block) (c : Condition) : (s.countTowardRestart b c).pending = s.pending := by
  obtain ⟨l, h, -⟩ := s.countTowardRestart_eq b c; rw [h]
@[simp] theorem State.countTowardRestart_clock (s : State) (b : Block) (c : Condition) : (s.countTowardRestart b c).clock = s.clock := by
  obtain ⟨l, h, -⟩ := s.countTowardRestart_eq b c; rw [h]
@[simp] theorem State.countTowardRestart_schedule (s : State) (b : Block) (c : Condition) : (s.countTowardRestart b c).schedule = s.schedule := by
  obtain ⟨l, h, -⟩ := s.countTowardRestart_eq b c; rw [h]
@[simp] theorem State.countTowardRestart_seat (s : State) (b : Block) (c : Condition) : (s.countTowardRestart b c).seat = s.seat := by
  obtain ⟨l, h, -⟩ := s.countTowardRestart_eq b c; rw [h]
@[simp] theorem State.countTowardRestart_builder (s : State) (b : Block) (c : Condition) : (s.countTowardRestart b c).builder = s.builder := by
  obtain ⟨l, h, -⟩ := s.countTowardRestart_eq b c; rw [h]
@[simp] theorem State.countTowardRestart_notice (s : State) (b : Block) (c : Condition) : (s.countTowardRestart b c).notice = s.notice := by
  obtain ⟨l, h, -⟩ := s.countTowardRestart_eq b c; rw [h]
@[simp] theorem State.countTowardRestart_rotation (s : State) (b : Block) (c : Condition) : (s.countTowardRestart b c).rotation = s.rotation := by
  obtain ⟨l, h, -⟩ := s.countTowardRestart_eq b c; rw [h]
@[simp] theorem State.countTowardRestart_render (s : State) (b : Block) (c : Condition) : (s.countTowardRestart b c).render = s.render := by
  obtain ⟨l, h, -⟩ := s.countTowardRestart_eq b c; rw [h]
@[simp] theorem State.countTowardRestart_composer (s : State) (b : Block) (c : Condition) : (s.countTowardRestart b c).composer = s.composer := by
  obtain ⟨l, h, -⟩ := s.countTowardRestart_eq b c; rw [h]
@[simp] theorem State.countTowardRestart_memory (s : State) (b : Block) (c : Condition) : (s.countTowardRestart b c).memory = s.memory := by
  obtain ⟨l, h, -⟩ := s.countTowardRestart_eq b c; rw [h]
@[simp] theorem State.countTowardRestart_output (s : State) (b : Block) (c : Condition) : (s.countTowardRestart b c).output = s.output := by
  obtain ⟨l, h, -⟩ := s.countTowardRestart_eq b c; rw [h]
@[simp] theorem State.countTowardRestart_feedLine (s : State) (b : Block) (c : Condition) : (s.countTowardRestart b c).feedLine = s.feedLine := by
  obtain ⟨l, h, -⟩ := s.countTowardRestart_eq b c; rw [h]
@[simp] theorem State.countTowardRestart_deskLine (s : State) (b : Block) (c : Condition) : (s.countTowardRestart b c).deskLine = s.deskLine := by
  obtain ⟨l, h, -⟩ := s.countTowardRestart_eq b c; rw [h]
@[simp] theorem State.countTowardRestart_choices (s : State) (b : Block) (c : Condition) : (s.countTowardRestart b c).choices = s.choices := by
  obtain ⟨l, h, -⟩ := s.countTowardRestart_eq b c; rw [h]
@[simp] theorem State.countTowardRestart_mail (s : State) (b : Block) (c : Condition) : (s.countTowardRestart b c).mail = s.mail := by
  obtain ⟨l, h, -⟩ := s.countTowardRestart_eq b c; rw [h]
@[simp] theorem State.countTowardRestart_link_feedReceiver (s : State) (b : Block) (c : Condition) : (s.countTowardRestart b c).link.feedReceiver = s.link.feedReceiver := by
  obtain ⟨l, h, e, -⟩ := s.countTowardRestart_eq b c; rw [h]; exact e
@[simp] theorem State.countTowardRestart_link_deskReceiver (s : State) (b : Block) (c : Condition) : (s.countTowardRestart b c).link.deskReceiver = s.link.deskReceiver := by
  obtain ⟨l, h, -, e, -⟩ := s.countTowardRestart_eq b c; rw [h]; exact e
@[simp] theorem State.countTowardRestart_link_handoff (s : State) (b : Block) (c : Condition) : (s.countTowardRestart b c).link.handoff = s.link.handoff := by
  obtain ⟨l, h, -, -, e, -⟩ := s.countTowardRestart_eq b c; rw [h]; exact e
@[simp] theorem State.countTowardRestart_link_owners (s : State) (b : Block) (c : Condition) : (s.countTowardRestart b c).link.owners = s.link.owners := by
  obtain ⟨l, h, -, -, -, e, -⟩ := s.countTowardRestart_eq b c; rw [h]; exact e
@[simp] theorem State.countTowardRestart_link_flags (s : State) (b : Block) (c : Condition) : (s.countTowardRestart b c).link.flags = s.link.flags := by
  obtain ⟨l, h, -, -, -, -, e, -⟩ := s.countTowardRestart_eq b c; rw [h]; exact e
@[simp] theorem State.countTowardRestart_link_enables (s : State) (b : Block) (c : Condition) : (s.countTowardRestart b c).link.enables = s.link.enables := by
  obtain ⟨l, h, -, -, -, -, -, e, -⟩ := s.countTowardRestart_eq b c; rw [h]; exact e
@[simp] theorem State.countTowardRestart_link_due (s : State) (b : Block) (c : Condition) : (s.countTowardRestart b c).link.due = s.link.due := by
  obtain ⟨l, h, -, -, -, -, -, -, e, -⟩ := s.countTowardRestart_eq b c; rw [h]; exact e
@[simp] theorem State.countTowardRestart_link_watch (s : State) (b : Block) (c : Condition) : (s.countTowardRestart b c).link.watch = s.link.watch := by
  obtain ⟨l, h, -, -, -, -, -, -, -, e, -⟩ := s.countTowardRestart_eq b c; rw [h]; exact e
@[simp] theorem State.countTowardRestart_link_resetPending (s : State) (b : Block) (c : Condition) : (s.countTowardRestart b c).link.resetPending = s.link.resetPending := by
  obtain ⟨l, h, -, -, -, -, -, -, -, -, e⟩ := s.countTowardRestart_eq b c; rw [h]; exact e

/-! `State.withBuilder` -/
@[simp] theorem State.withBuilder_pending (s : State) (x : BuilderUnit × List TileRequest) : (s.withBuilder x).pending = s.pending := rfl
@[simp] theorem State.withBuilder_link (s : State) (x : BuilderUnit × List TileRequest) : (s.withBuilder x).link = s.link := rfl
@[simp] theorem State.withBuilder_clock (s : State) (x : BuilderUnit × List TileRequest) : (s.withBuilder x).clock = s.clock := rfl
@[simp] theorem State.withBuilder_schedule (s : State) (x : BuilderUnit × List TileRequest) : (s.withBuilder x).schedule = s.schedule := rfl
@[simp] theorem State.withBuilder_seat (s : State) (x : BuilderUnit × List TileRequest) : (s.withBuilder x).seat = s.seat := rfl
@[simp] theorem State.withBuilder_notice (s : State) (x : BuilderUnit × List TileRequest) : (s.withBuilder x).notice = s.notice := rfl
@[simp] theorem State.withBuilder_rotation (s : State) (x : BuilderUnit × List TileRequest) : (s.withBuilder x).rotation = s.rotation := rfl
@[simp] theorem State.withBuilder_render (s : State) (x : BuilderUnit × List TileRequest) : (s.withBuilder x).render = s.render := rfl
@[simp] theorem State.withBuilder_composer (s : State) (x : BuilderUnit × List TileRequest) : (s.withBuilder x).composer = s.composer := rfl
@[simp] theorem State.withBuilder_memory (s : State) (x : BuilderUnit × List TileRequest) : (s.withBuilder x).memory = s.memory := rfl
@[simp] theorem State.withBuilder_output (s : State) (x : BuilderUnit × List TileRequest) : (s.withBuilder x).output = s.output := rfl
@[simp] theorem State.withBuilder_feedLine (s : State) (x : BuilderUnit × List TileRequest) : (s.withBuilder x).feedLine = s.feedLine := rfl
@[simp] theorem State.withBuilder_deskLine (s : State) (x : BuilderUnit × List TileRequest) : (s.withBuilder x).deskLine = s.deskLine := rfl
@[simp] theorem State.withBuilder_choices (s : State) (x : BuilderUnit × List TileRequest) : (s.withBuilder x).choices = s.choices := rfl
@[simp] theorem State.withBuilder_mail_conditions (s : State) (x : BuilderUnit × List TileRequest) : (s.withBuilder x).mail.conditions = s.mail.conditions := rfl
@[simp] theorem State.withBuilder_mail_restarts (s : State) (x : BuilderUnit × List TileRequest) : (s.withBuilder x).mail.restarts = s.mail.restarts := rfl
@[simp] theorem State.withBuilder_mail_seconds (s : State) (x : BuilderUnit × List TileRequest) : (s.withBuilder x).mail.seconds = s.mail.seconds := rfl
@[simp] theorem State.withBuilder_mail_linkToClock (s : State) (x : BuilderUnit × List TileRequest) : (s.withBuilder x).mail.linkToClock = s.mail.linkToClock := rfl
@[simp] theorem State.withBuilder_mail_segments (s : State) (x : BuilderUnit × List TileRequest) : (s.withBuilder x).mail.segments = s.mail.segments := rfl
@[simp] theorem State.withBuilder_mail_linkToMemory (s : State) (x : BuilderUnit × List TileRequest) : (s.withBuilder x).mail.linkToMemory = s.mail.linkToMemory := rfl
@[simp] theorem State.withBuilder_mail_clockToSchedule (s : State) (x : BuilderUnit × List TileRequest) : (s.withBuilder x).mail.clockToSchedule = s.mail.clockToSchedule := rfl
@[simp] theorem State.withBuilder_mail_clockToBuilder (s : State) (x : BuilderUnit × List TileRequest) : (s.withBuilder x).mail.clockToBuilder = s.mail.clockToBuilder := rfl
@[simp] theorem State.withBuilder_mail_ticksToRotation (s : State) (x : BuilderUnit × List TileRequest) : (s.withBuilder x).mail.ticksToRotation = s.mail.ticksToRotation := rfl
@[simp] theorem State.withBuilder_mail_ticksToOutput (s : State) (x : BuilderUnit × List TileRequest) : (s.withBuilder x).mail.ticksToOutput = s.mail.ticksToOutput := rfl
@[simp] theorem State.withBuilder_mail_cuesToComposer (s : State) (x : BuilderUnit × List TileRequest) : (s.withBuilder x).mail.cuesToComposer = s.mail.cuesToComposer := rfl
@[simp] theorem State.withBuilder_mail_cuesToRotation (s : State) (x : BuilderUnit × List TileRequest) : (s.withBuilder x).mail.cuesToRotation = s.mail.cuesToRotation := rfl
@[simp] theorem State.withBuilder_mail_cuesToOutput (s : State) (x : BuilderUnit × List TileRequest) : (s.withBuilder x).mail.cuesToOutput = s.mail.cuesToOutput := rfl
@[simp] theorem State.withBuilder_mail_scheduleToBuilder (s : State) (x : BuilderUnit × List TileRequest) : (s.withBuilder x).mail.scheduleToBuilder = s.mail.scheduleToBuilder := rfl
@[simp] theorem State.withBuilder_mail_scheduleToSeat (s : State) (x : BuilderUnit × List TileRequest) : (s.withBuilder x).mail.scheduleToSeat = s.mail.scheduleToSeat := rfl
@[simp] theorem State.withBuilder_mail_scheduleToNotice (s : State) (x : BuilderUnit × List TileRequest) : (s.withBuilder x).mail.scheduleToNotice = s.mail.scheduleToNotice := rfl
@[simp] theorem State.withBuilder_mail_figuresToBuilder (s : State) (x : BuilderUnit × List TileRequest) : (s.withBuilder x).mail.figuresToBuilder = s.mail.figuresToBuilder := rfl
@[simp] theorem State.withBuilder_mail_outputToComposer (s : State) (x : BuilderUnit × List TileRequest) : (s.withBuilder x).mail.outputToComposer = s.mail.outputToComposer := rfl
@[simp] theorem State.withBuilder_mail_composerToMemory (s : State) (x : BuilderUnit × List TileRequest) : (s.withBuilder x).mail.composerToMemory = s.mail.composerToMemory := rfl
@[simp] theorem State.withBuilder_mail_memoryToComposer (s : State) (x : BuilderUnit × List TileRequest) : (s.withBuilder x).mail.memoryToComposer = s.mail.memoryToComposer := rfl
@[simp] theorem State.withBuilder_mail_memoryToRender (s : State) (x : BuilderUnit × List TileRequest) : (s.withBuilder x).mail.memoryToRender = s.mail.memoryToRender := rfl

/-! `State.withNotice` -/
@[simp] theorem State.withNotice_pending (s : State) (x : NoticeUnit × List TileRequest) : (s.withNotice x).pending = s.pending := rfl
@[simp] theorem State.withNotice_link (s : State) (x : NoticeUnit × List TileRequest) : (s.withNotice x).link = s.link := rfl
@[simp] theorem State.withNotice_clock (s : State) (x : NoticeUnit × List TileRequest) : (s.withNotice x).clock = s.clock := rfl
@[simp] theorem State.withNotice_schedule (s : State) (x : NoticeUnit × List TileRequest) : (s.withNotice x).schedule = s.schedule := rfl
@[simp] theorem State.withNotice_seat (s : State) (x : NoticeUnit × List TileRequest) : (s.withNotice x).seat = s.seat := rfl
@[simp] theorem State.withNotice_builder (s : State) (x : NoticeUnit × List TileRequest) : (s.withNotice x).builder = s.builder := rfl
@[simp] theorem State.withNotice_rotation (s : State) (x : NoticeUnit × List TileRequest) : (s.withNotice x).rotation = s.rotation := rfl
@[simp] theorem State.withNotice_render (s : State) (x : NoticeUnit × List TileRequest) : (s.withNotice x).render = s.render := rfl
@[simp] theorem State.withNotice_composer (s : State) (x : NoticeUnit × List TileRequest) : (s.withNotice x).composer = s.composer := rfl
@[simp] theorem State.withNotice_memory (s : State) (x : NoticeUnit × List TileRequest) : (s.withNotice x).memory = s.memory := rfl
@[simp] theorem State.withNotice_output (s : State) (x : NoticeUnit × List TileRequest) : (s.withNotice x).output = s.output := rfl
@[simp] theorem State.withNotice_feedLine (s : State) (x : NoticeUnit × List TileRequest) : (s.withNotice x).feedLine = s.feedLine := rfl
@[simp] theorem State.withNotice_deskLine (s : State) (x : NoticeUnit × List TileRequest) : (s.withNotice x).deskLine = s.deskLine := rfl
@[simp] theorem State.withNotice_choices (s : State) (x : NoticeUnit × List TileRequest) : (s.withNotice x).choices = s.choices := rfl
@[simp] theorem State.withNotice_mail_conditions (s : State) (x : NoticeUnit × List TileRequest) : (s.withNotice x).mail.conditions = s.mail.conditions := rfl
@[simp] theorem State.withNotice_mail_restarts (s : State) (x : NoticeUnit × List TileRequest) : (s.withNotice x).mail.restarts = s.mail.restarts := rfl
@[simp] theorem State.withNotice_mail_seconds (s : State) (x : NoticeUnit × List TileRequest) : (s.withNotice x).mail.seconds = s.mail.seconds := rfl
@[simp] theorem State.withNotice_mail_linkToClock (s : State) (x : NoticeUnit × List TileRequest) : (s.withNotice x).mail.linkToClock = s.mail.linkToClock := rfl
@[simp] theorem State.withNotice_mail_segments (s : State) (x : NoticeUnit × List TileRequest) : (s.withNotice x).mail.segments = s.mail.segments := rfl
@[simp] theorem State.withNotice_mail_linkToMemory (s : State) (x : NoticeUnit × List TileRequest) : (s.withNotice x).mail.linkToMemory = s.mail.linkToMemory := rfl
@[simp] theorem State.withNotice_mail_clockToSchedule (s : State) (x : NoticeUnit × List TileRequest) : (s.withNotice x).mail.clockToSchedule = s.mail.clockToSchedule := rfl
@[simp] theorem State.withNotice_mail_clockToBuilder (s : State) (x : NoticeUnit × List TileRequest) : (s.withNotice x).mail.clockToBuilder = s.mail.clockToBuilder := rfl
@[simp] theorem State.withNotice_mail_ticksToRotation (s : State) (x : NoticeUnit × List TileRequest) : (s.withNotice x).mail.ticksToRotation = s.mail.ticksToRotation := rfl
@[simp] theorem State.withNotice_mail_ticksToOutput (s : State) (x : NoticeUnit × List TileRequest) : (s.withNotice x).mail.ticksToOutput = s.mail.ticksToOutput := rfl
@[simp] theorem State.withNotice_mail_cuesToComposer (s : State) (x : NoticeUnit × List TileRequest) : (s.withNotice x).mail.cuesToComposer = s.mail.cuesToComposer := rfl
@[simp] theorem State.withNotice_mail_cuesToRotation (s : State) (x : NoticeUnit × List TileRequest) : (s.withNotice x).mail.cuesToRotation = s.mail.cuesToRotation := rfl
@[simp] theorem State.withNotice_mail_cuesToOutput (s : State) (x : NoticeUnit × List TileRequest) : (s.withNotice x).mail.cuesToOutput = s.mail.cuesToOutput := rfl
@[simp] theorem State.withNotice_mail_scheduleToBuilder (s : State) (x : NoticeUnit × List TileRequest) : (s.withNotice x).mail.scheduleToBuilder = s.mail.scheduleToBuilder := rfl
@[simp] theorem State.withNotice_mail_scheduleToSeat (s : State) (x : NoticeUnit × List TileRequest) : (s.withNotice x).mail.scheduleToSeat = s.mail.scheduleToSeat := rfl
@[simp] theorem State.withNotice_mail_scheduleToNotice (s : State) (x : NoticeUnit × List TileRequest) : (s.withNotice x).mail.scheduleToNotice = s.mail.scheduleToNotice := rfl
@[simp] theorem State.withNotice_mail_figuresToBuilder (s : State) (x : NoticeUnit × List TileRequest) : (s.withNotice x).mail.figuresToBuilder = s.mail.figuresToBuilder := rfl
@[simp] theorem State.withNotice_mail_outputToComposer (s : State) (x : NoticeUnit × List TileRequest) : (s.withNotice x).mail.outputToComposer = s.mail.outputToComposer := rfl
@[simp] theorem State.withNotice_mail_composerToMemory (s : State) (x : NoticeUnit × List TileRequest) : (s.withNotice x).mail.composerToMemory = s.mail.composerToMemory := rfl
@[simp] theorem State.withNotice_mail_memoryToComposer (s : State) (x : NoticeUnit × List TileRequest) : (s.withNotice x).mail.memoryToComposer = s.mail.memoryToComposer := rfl
@[simp] theorem State.withNotice_mail_memoryToRender (s : State) (x : NoticeUnit × List TileRequest) : (s.withNotice x).mail.memoryToRender = s.mail.memoryToRender := rfl

/-! `State.sendPanelEvent` -/
@[simp] theorem State.sendPanelEvent_pending (s : State) (e : PanelEvent) : (s.sendPanelEvent e).pending = s.pending := rfl
@[simp] theorem State.sendPanelEvent_link (s : State) (e : PanelEvent) : (s.sendPanelEvent e).link = s.link := rfl
@[simp] theorem State.sendPanelEvent_clock (s : State) (e : PanelEvent) : (s.sendPanelEvent e).clock = s.clock := rfl
@[simp] theorem State.sendPanelEvent_schedule (s : State) (e : PanelEvent) : (s.sendPanelEvent e).schedule = s.schedule := rfl
@[simp] theorem State.sendPanelEvent_seat (s : State) (e : PanelEvent) : (s.sendPanelEvent e).seat = s.seat := rfl
@[simp] theorem State.sendPanelEvent_builder (s : State) (e : PanelEvent) : (s.sendPanelEvent e).builder = s.builder := rfl
@[simp] theorem State.sendPanelEvent_notice (s : State) (e : PanelEvent) : (s.sendPanelEvent e).notice = s.notice := rfl
@[simp] theorem State.sendPanelEvent_rotation (s : State) (e : PanelEvent) : (s.sendPanelEvent e).rotation = s.rotation := rfl
@[simp] theorem State.sendPanelEvent_render (s : State) (e : PanelEvent) : (s.sendPanelEvent e).render = s.render := rfl
@[simp] theorem State.sendPanelEvent_composer (s : State) (e : PanelEvent) : (s.sendPanelEvent e).composer = s.composer := rfl
@[simp] theorem State.sendPanelEvent_memory (s : State) (e : PanelEvent) : (s.sendPanelEvent e).memory = s.memory := rfl
@[simp] theorem State.sendPanelEvent_output (s : State) (e : PanelEvent) : (s.sendPanelEvent e).output = s.output := rfl
@[simp] theorem State.sendPanelEvent_feedLine (s : State) (e : PanelEvent) : (s.sendPanelEvent e).feedLine = s.feedLine := rfl
@[simp] theorem State.sendPanelEvent_deskLine (s : State) (e : PanelEvent) : (s.sendPanelEvent e).deskLine = s.deskLine := rfl
@[simp] theorem State.sendPanelEvent_choices (s : State) (e : PanelEvent) : (s.sendPanelEvent e).choices = s.choices := rfl
@[simp] theorem State.sendPanelEvent_mail_conditions (s : State) (e : PanelEvent) : (s.sendPanelEvent e).mail.conditions = s.mail.conditions := rfl
@[simp] theorem State.sendPanelEvent_mail_tiles (s : State) (e : PanelEvent) : (s.sendPanelEvent e).mail.tiles = s.mail.tiles := rfl
@[simp] theorem State.sendPanelEvent_mail_restarts (s : State) (e : PanelEvent) : (s.sendPanelEvent e).mail.restarts = s.mail.restarts := rfl
@[simp] theorem State.sendPanelEvent_mail_seconds (s : State) (e : PanelEvent) : (s.sendPanelEvent e).mail.seconds = s.mail.seconds := rfl
@[simp] theorem State.sendPanelEvent_mail_linkToClock (s : State) (e : PanelEvent) : (s.sendPanelEvent e).mail.linkToClock = s.mail.linkToClock := rfl
@[simp] theorem State.sendPanelEvent_mail_segments (s : State) (e : PanelEvent) : (s.sendPanelEvent e).mail.segments = s.mail.segments := rfl
@[simp] theorem State.sendPanelEvent_mail_linkToMemory (s : State) (e : PanelEvent) : (s.sendPanelEvent e).mail.linkToMemory = s.mail.linkToMemory := rfl
@[simp] theorem State.sendPanelEvent_mail_clockToSchedule (s : State) (e : PanelEvent) : (s.sendPanelEvent e).mail.clockToSchedule = s.mail.clockToSchedule := rfl
@[simp] theorem State.sendPanelEvent_mail_clockToBuilder (s : State) (e : PanelEvent) : (s.sendPanelEvent e).mail.clockToBuilder = s.mail.clockToBuilder := rfl
@[simp] theorem State.sendPanelEvent_mail_ticksToRotation (s : State) (e : PanelEvent) : (s.sendPanelEvent e).mail.ticksToRotation = s.mail.ticksToRotation := rfl
@[simp] theorem State.sendPanelEvent_mail_ticksToOutput (s : State) (e : PanelEvent) : (s.sendPanelEvent e).mail.ticksToOutput = s.mail.ticksToOutput := rfl
@[simp] theorem State.sendPanelEvent_mail_cuesToComposer (s : State) (e : PanelEvent) : (s.sendPanelEvent e).mail.cuesToComposer = s.mail.cuesToComposer := rfl
@[simp] theorem State.sendPanelEvent_mail_cuesToRotation (s : State) (e : PanelEvent) : (s.sendPanelEvent e).mail.cuesToRotation = s.mail.cuesToRotation := rfl
@[simp] theorem State.sendPanelEvent_mail_cuesToOutput (s : State) (e : PanelEvent) : (s.sendPanelEvent e).mail.cuesToOutput = s.mail.cuesToOutput := rfl
@[simp] theorem State.sendPanelEvent_mail_scheduleToBuilder (s : State) (e : PanelEvent) : (s.sendPanelEvent e).mail.scheduleToBuilder = s.mail.scheduleToBuilder := rfl
@[simp] theorem State.sendPanelEvent_mail_scheduleToSeat (s : State) (e : PanelEvent) : (s.sendPanelEvent e).mail.scheduleToSeat = s.mail.scheduleToSeat := rfl
@[simp] theorem State.sendPanelEvent_mail_scheduleToNotice (s : State) (e : PanelEvent) : (s.sendPanelEvent e).mail.scheduleToNotice = s.mail.scheduleToNotice := rfl
@[simp] theorem State.sendPanelEvent_mail_figuresToBuilder (s : State) (e : PanelEvent) : (s.sendPanelEvent e).mail.figuresToBuilder = s.mail.figuresToBuilder := rfl
@[simp] theorem State.sendPanelEvent_mail_composerToMemory (s : State) (e : PanelEvent) : (s.sendPanelEvent e).mail.composerToMemory = s.mail.composerToMemory := rfl
@[simp] theorem State.sendPanelEvent_mail_memoryToComposer (s : State) (e : PanelEvent) : (s.sendPanelEvent e).mail.memoryToComposer = s.mail.memoryToComposer := rfl
@[simp] theorem State.sendPanelEvent_mail_memoryToRender (s : State) (e : PanelEvent) : (s.sendPanelEvent e).mail.memoryToRender = s.mail.memoryToRender := rfl

/-! `State.requestPins` -/
@[simp] theorem State.requestPins_pending (s : State) (l : List Nat) (live : Bool) : (s.requestPins l live).pending = s.pending := rfl
@[simp] theorem State.requestPins_link (s : State) (l : List Nat) (live : Bool) : (s.requestPins l live).link = s.link := rfl
@[simp] theorem State.requestPins_clock (s : State) (l : List Nat) (live : Bool) : (s.requestPins l live).clock = s.clock := rfl
@[simp] theorem State.requestPins_schedule (s : State) (l : List Nat) (live : Bool) : (s.requestPins l live).schedule = s.schedule := rfl
@[simp] theorem State.requestPins_seat (s : State) (l : List Nat) (live : Bool) : (s.requestPins l live).seat = s.seat := rfl
@[simp] theorem State.requestPins_builder (s : State) (l : List Nat) (live : Bool) : (s.requestPins l live).builder = s.builder := rfl
@[simp] theorem State.requestPins_notice (s : State) (l : List Nat) (live : Bool) : (s.requestPins l live).notice = s.notice := rfl
@[simp] theorem State.requestPins_rotation (s : State) (l : List Nat) (live : Bool) : (s.requestPins l live).rotation = s.rotation := rfl
@[simp] theorem State.requestPins_render (s : State) (l : List Nat) (live : Bool) : (s.requestPins l live).render = s.render := rfl
@[simp] theorem State.requestPins_composer (s : State) (l : List Nat) (live : Bool) : (s.requestPins l live).composer = s.composer := rfl
@[simp] theorem State.requestPins_memory (s : State) (l : List Nat) (live : Bool) : (s.requestPins l live).memory = s.memory := rfl
@[simp] theorem State.requestPins_output (s : State) (l : List Nat) (live : Bool) : (s.requestPins l live).output = s.output := rfl
@[simp] theorem State.requestPins_feedLine (s : State) (l : List Nat) (live : Bool) : (s.requestPins l live).feedLine = s.feedLine := rfl
@[simp] theorem State.requestPins_deskLine (s : State) (l : List Nat) (live : Bool) : (s.requestPins l live).deskLine = s.deskLine := rfl
@[simp] theorem State.requestPins_choices (s : State) (l : List Nat) (live : Bool) : (s.requestPins l live).choices = s.choices := rfl
@[simp] theorem State.requestPins_mail_conditions (s : State) (l : List Nat) (live : Bool) : (s.requestPins l live).mail.conditions = s.mail.conditions := rfl
@[simp] theorem State.requestPins_mail_tiles (s : State) (l : List Nat) (live : Bool) : (s.requestPins l live).mail.tiles = s.mail.tiles := rfl
@[simp] theorem State.requestPins_mail_restarts (s : State) (l : List Nat) (live : Bool) : (s.requestPins l live).mail.restarts = s.mail.restarts := rfl
@[simp] theorem State.requestPins_mail_seconds (s : State) (l : List Nat) (live : Bool) : (s.requestPins l live).mail.seconds = s.mail.seconds := rfl
@[simp] theorem State.requestPins_mail_linkToClock (s : State) (l : List Nat) (live : Bool) : (s.requestPins l live).mail.linkToClock = s.mail.linkToClock := rfl
@[simp] theorem State.requestPins_mail_segments (s : State) (l : List Nat) (live : Bool) : (s.requestPins l live).mail.segments = s.mail.segments := rfl
@[simp] theorem State.requestPins_mail_linkToMemory (s : State) (l : List Nat) (live : Bool) : (s.requestPins l live).mail.linkToMemory = s.mail.linkToMemory := rfl
@[simp] theorem State.requestPins_mail_clockToSchedule (s : State) (l : List Nat) (live : Bool) : (s.requestPins l live).mail.clockToSchedule = s.mail.clockToSchedule := rfl
@[simp] theorem State.requestPins_mail_clockToBuilder (s : State) (l : List Nat) (live : Bool) : (s.requestPins l live).mail.clockToBuilder = s.mail.clockToBuilder := rfl
@[simp] theorem State.requestPins_mail_ticksToRotation (s : State) (l : List Nat) (live : Bool) : (s.requestPins l live).mail.ticksToRotation = s.mail.ticksToRotation := rfl
@[simp] theorem State.requestPins_mail_ticksToOutput (s : State) (l : List Nat) (live : Bool) : (s.requestPins l live).mail.ticksToOutput = s.mail.ticksToOutput := rfl
@[simp] theorem State.requestPins_mail_cuesToComposer (s : State) (l : List Nat) (live : Bool) : (s.requestPins l live).mail.cuesToComposer = s.mail.cuesToComposer := rfl
@[simp] theorem State.requestPins_mail_cuesToRotation (s : State) (l : List Nat) (live : Bool) : (s.requestPins l live).mail.cuesToRotation = s.mail.cuesToRotation := rfl
@[simp] theorem State.requestPins_mail_cuesToOutput (s : State) (l : List Nat) (live : Bool) : (s.requestPins l live).mail.cuesToOutput = s.mail.cuesToOutput := rfl
@[simp] theorem State.requestPins_mail_scheduleToBuilder (s : State) (l : List Nat) (live : Bool) : (s.requestPins l live).mail.scheduleToBuilder = s.mail.scheduleToBuilder := rfl
@[simp] theorem State.requestPins_mail_scheduleToSeat (s : State) (l : List Nat) (live : Bool) : (s.requestPins l live).mail.scheduleToSeat = s.mail.scheduleToSeat := rfl
@[simp] theorem State.requestPins_mail_scheduleToNotice (s : State) (l : List Nat) (live : Bool) : (s.requestPins l live).mail.scheduleToNotice = s.mail.scheduleToNotice := rfl
@[simp] theorem State.requestPins_mail_figuresToBuilder (s : State) (l : List Nat) (live : Bool) : (s.requestPins l live).mail.figuresToBuilder = s.mail.figuresToBuilder := rfl
@[simp] theorem State.requestPins_mail_outputToComposer (s : State) (l : List Nat) (live : Bool) : (s.requestPins l live).mail.outputToComposer = s.mail.outputToComposer := rfl
@[simp] theorem State.requestPins_mail_memoryToComposer (s : State) (l : List Nat) (live : Bool) : (s.requestPins l live).mail.memoryToComposer = s.mail.memoryToComposer := rfl
@[simp] theorem State.requestPins_mail_memoryToRender (s : State) (l : List Nat) (live : Bool) : (s.requestPins l live).mail.memoryToRender = s.mail.memoryToRender := rfl

/-! `State.releasePins` -/
@[simp] theorem State.releasePins_pending (s : State) : (s.releasePins).pending = s.pending := rfl
@[simp] theorem State.releasePins_link (s : State) : (s.releasePins).link = s.link := rfl
@[simp] theorem State.releasePins_clock (s : State) : (s.releasePins).clock = s.clock := rfl
@[simp] theorem State.releasePins_schedule (s : State) : (s.releasePins).schedule = s.schedule := rfl
@[simp] theorem State.releasePins_seat (s : State) : (s.releasePins).seat = s.seat := rfl
@[simp] theorem State.releasePins_builder (s : State) : (s.releasePins).builder = s.builder := rfl
@[simp] theorem State.releasePins_notice (s : State) : (s.releasePins).notice = s.notice := rfl
@[simp] theorem State.releasePins_rotation (s : State) : (s.releasePins).rotation = s.rotation := rfl
@[simp] theorem State.releasePins_render (s : State) : (s.releasePins).render = s.render := rfl
@[simp] theorem State.releasePins_composer (s : State) : (s.releasePins).composer = s.composer := rfl
@[simp] theorem State.releasePins_memory (s : State) : (s.releasePins).memory = s.memory := rfl
@[simp] theorem State.releasePins_output (s : State) : (s.releasePins).output = s.output := rfl
@[simp] theorem State.releasePins_feedLine (s : State) : (s.releasePins).feedLine = s.feedLine := rfl
@[simp] theorem State.releasePins_deskLine (s : State) : (s.releasePins).deskLine = s.deskLine := rfl
@[simp] theorem State.releasePins_choices (s : State) : (s.releasePins).choices = s.choices := rfl
@[simp] theorem State.releasePins_mail_conditions (s : State) : (s.releasePins).mail.conditions = s.mail.conditions := rfl
@[simp] theorem State.releasePins_mail_tiles (s : State) : (s.releasePins).mail.tiles = s.mail.tiles := rfl
@[simp] theorem State.releasePins_mail_restarts (s : State) : (s.releasePins).mail.restarts = s.mail.restarts := rfl
@[simp] theorem State.releasePins_mail_seconds (s : State) : (s.releasePins).mail.seconds = s.mail.seconds := rfl
@[simp] theorem State.releasePins_mail_linkToClock (s : State) : (s.releasePins).mail.linkToClock = s.mail.linkToClock := rfl
@[simp] theorem State.releasePins_mail_segments (s : State) : (s.releasePins).mail.segments = s.mail.segments := rfl
@[simp] theorem State.releasePins_mail_linkToMemory (s : State) : (s.releasePins).mail.linkToMemory = s.mail.linkToMemory := rfl
@[simp] theorem State.releasePins_mail_clockToSchedule (s : State) : (s.releasePins).mail.clockToSchedule = s.mail.clockToSchedule := rfl
@[simp] theorem State.releasePins_mail_clockToBuilder (s : State) : (s.releasePins).mail.clockToBuilder = s.mail.clockToBuilder := rfl
@[simp] theorem State.releasePins_mail_ticksToRotation (s : State) : (s.releasePins).mail.ticksToRotation = s.mail.ticksToRotation := rfl
@[simp] theorem State.releasePins_mail_ticksToOutput (s : State) : (s.releasePins).mail.ticksToOutput = s.mail.ticksToOutput := rfl
@[simp] theorem State.releasePins_mail_cuesToComposer (s : State) : (s.releasePins).mail.cuesToComposer = s.mail.cuesToComposer := rfl
@[simp] theorem State.releasePins_mail_cuesToRotation (s : State) : (s.releasePins).mail.cuesToRotation = s.mail.cuesToRotation := rfl
@[simp] theorem State.releasePins_mail_cuesToOutput (s : State) : (s.releasePins).mail.cuesToOutput = s.mail.cuesToOutput := rfl
@[simp] theorem State.releasePins_mail_scheduleToBuilder (s : State) : (s.releasePins).mail.scheduleToBuilder = s.mail.scheduleToBuilder := rfl
@[simp] theorem State.releasePins_mail_scheduleToSeat (s : State) : (s.releasePins).mail.scheduleToSeat = s.mail.scheduleToSeat := rfl
@[simp] theorem State.releasePins_mail_scheduleToNotice (s : State) : (s.releasePins).mail.scheduleToNotice = s.mail.scheduleToNotice := rfl
@[simp] theorem State.releasePins_mail_figuresToBuilder (s : State) : (s.releasePins).mail.figuresToBuilder = s.mail.figuresToBuilder := rfl
@[simp] theorem State.releasePins_mail_outputToComposer (s : State) : (s.releasePins).mail.outputToComposer = s.mail.outputToComposer := rfl
@[simp] theorem State.releasePins_mail_memoryToComposer (s : State) : (s.releasePins).mail.memoryToComposer = s.mail.memoryToComposer := rfl
@[simp] theorem State.releasePins_mail_memoryToRender (s : State) : (s.releasePins).mail.memoryToRender = s.mail.memoryToRender := rfl

/-! `State.dropRenderReport` -/
@[simp] theorem State.dropRenderReport_pending (s : State) : (s.dropRenderReport).pending = s.pending := rfl
@[simp] theorem State.dropRenderReport_link (s : State) : (s.dropRenderReport).link = s.link := rfl
@[simp] theorem State.dropRenderReport_clock (s : State) : (s.dropRenderReport).clock = s.clock := rfl
@[simp] theorem State.dropRenderReport_schedule (s : State) : (s.dropRenderReport).schedule = s.schedule := rfl
@[simp] theorem State.dropRenderReport_seat (s : State) : (s.dropRenderReport).seat = s.seat := rfl
@[simp] theorem State.dropRenderReport_builder (s : State) : (s.dropRenderReport).builder = s.builder := rfl
@[simp] theorem State.dropRenderReport_notice (s : State) : (s.dropRenderReport).notice = s.notice := rfl
@[simp] theorem State.dropRenderReport_rotation (s : State) : (s.dropRenderReport).rotation = s.rotation := rfl
@[simp] theorem State.dropRenderReport_render (s : State) : (s.dropRenderReport).render = s.render := rfl
@[simp] theorem State.dropRenderReport_composer (s : State) : (s.dropRenderReport).composer = s.composer := rfl
@[simp] theorem State.dropRenderReport_memory (s : State) : (s.dropRenderReport).memory = s.memory := rfl
@[simp] theorem State.dropRenderReport_output (s : State) : (s.dropRenderReport).output = s.output := rfl
@[simp] theorem State.dropRenderReport_feedLine (s : State) : (s.dropRenderReport).feedLine = s.feedLine := rfl
@[simp] theorem State.dropRenderReport_deskLine (s : State) : (s.dropRenderReport).deskLine = s.deskLine := rfl
@[simp] theorem State.dropRenderReport_choices (s : State) : (s.dropRenderReport).choices = s.choices := rfl
@[simp] theorem State.dropRenderReport_mail_conditions (s : State) : (s.dropRenderReport).mail.conditions = s.mail.conditions := rfl
@[simp] theorem State.dropRenderReport_mail_tiles (s : State) : (s.dropRenderReport).mail.tiles = s.mail.tiles := rfl
@[simp] theorem State.dropRenderReport_mail_restarts (s : State) : (s.dropRenderReport).mail.restarts = s.mail.restarts := rfl
@[simp] theorem State.dropRenderReport_mail_seconds (s : State) : (s.dropRenderReport).mail.seconds = s.mail.seconds := rfl
@[simp] theorem State.dropRenderReport_mail_linkToClock (s : State) : (s.dropRenderReport).mail.linkToClock = s.mail.linkToClock := rfl
@[simp] theorem State.dropRenderReport_mail_segments (s : State) : (s.dropRenderReport).mail.segments = s.mail.segments := rfl
@[simp] theorem State.dropRenderReport_mail_linkToMemory (s : State) : (s.dropRenderReport).mail.linkToMemory = s.mail.linkToMemory := rfl
@[simp] theorem State.dropRenderReport_mail_clockToSchedule (s : State) : (s.dropRenderReport).mail.clockToSchedule = s.mail.clockToSchedule := rfl
@[simp] theorem State.dropRenderReport_mail_clockToBuilder (s : State) : (s.dropRenderReport).mail.clockToBuilder = s.mail.clockToBuilder := rfl
@[simp] theorem State.dropRenderReport_mail_ticksToRotation (s : State) : (s.dropRenderReport).mail.ticksToRotation = s.mail.ticksToRotation := rfl
@[simp] theorem State.dropRenderReport_mail_ticksToOutput (s : State) : (s.dropRenderReport).mail.ticksToOutput = s.mail.ticksToOutput := rfl
@[simp] theorem State.dropRenderReport_mail_cuesToComposer (s : State) : (s.dropRenderReport).mail.cuesToComposer = s.mail.cuesToComposer := rfl
@[simp] theorem State.dropRenderReport_mail_cuesToRotation (s : State) : (s.dropRenderReport).mail.cuesToRotation = s.mail.cuesToRotation := rfl
@[simp] theorem State.dropRenderReport_mail_cuesToOutput (s : State) : (s.dropRenderReport).mail.cuesToOutput = s.mail.cuesToOutput := rfl
@[simp] theorem State.dropRenderReport_mail_scheduleToBuilder (s : State) : (s.dropRenderReport).mail.scheduleToBuilder = s.mail.scheduleToBuilder := rfl
@[simp] theorem State.dropRenderReport_mail_scheduleToSeat (s : State) : (s.dropRenderReport).mail.scheduleToSeat = s.mail.scheduleToSeat := rfl
@[simp] theorem State.dropRenderReport_mail_scheduleToNotice (s : State) : (s.dropRenderReport).mail.scheduleToNotice = s.mail.scheduleToNotice := rfl
@[simp] theorem State.dropRenderReport_mail_figuresToBuilder (s : State) : (s.dropRenderReport).mail.figuresToBuilder = s.mail.figuresToBuilder := rfl
@[simp] theorem State.dropRenderReport_mail_outputToComposer (s : State) : (s.dropRenderReport).mail.outputToComposer = s.mail.outputToComposer := rfl
@[simp] theorem State.dropRenderReport_mail_composerToMemory (s : State) : (s.dropRenderReport).mail.composerToMemory = s.mail.composerToMemory := rfl
@[simp] theorem State.dropRenderReport_mail_memoryToComposer (s : State) : (s.dropRenderReport).mail.memoryToComposer = s.mail.memoryToComposer := rfl

/-! `State.endCompose` -/
@[simp] theorem State.endCompose_pending (s : State) : (s.endCompose).pending = s.pending := rfl
@[simp] theorem State.endCompose_link (s : State) : (s.endCompose).link = s.link := rfl
@[simp] theorem State.endCompose_clock (s : State) : (s.endCompose).clock = s.clock := rfl
@[simp] theorem State.endCompose_schedule (s : State) : (s.endCompose).schedule = s.schedule := rfl
@[simp] theorem State.endCompose_seat (s : State) : (s.endCompose).seat = s.seat := rfl
@[simp] theorem State.endCompose_builder (s : State) : (s.endCompose).builder = s.builder := rfl
@[simp] theorem State.endCompose_notice (s : State) : (s.endCompose).notice = s.notice := rfl
@[simp] theorem State.endCompose_rotation (s : State) : (s.endCompose).rotation = s.rotation := rfl
@[simp] theorem State.endCompose_render (s : State) : (s.endCompose).render = s.render := rfl
@[simp] theorem State.endCompose_memory (s : State) : (s.endCompose).memory = s.memory := rfl
@[simp] theorem State.endCompose_output (s : State) : (s.endCompose).output = s.output := rfl
@[simp] theorem State.endCompose_feedLine (s : State) : (s.endCompose).feedLine = s.feedLine := rfl
@[simp] theorem State.endCompose_deskLine (s : State) : (s.endCompose).deskLine = s.deskLine := rfl
@[simp] theorem State.endCompose_choices (s : State) : (s.endCompose).choices = s.choices := rfl
@[simp] theorem State.endCompose_mail_conditions (s : State) : (s.endCompose).mail.conditions = s.mail.conditions := rfl
@[simp] theorem State.endCompose_mail_tiles (s : State) : (s.endCompose).mail.tiles = s.mail.tiles := rfl
@[simp] theorem State.endCompose_mail_restarts (s : State) : (s.endCompose).mail.restarts = s.mail.restarts := rfl
@[simp] theorem State.endCompose_mail_seconds (s : State) : (s.endCompose).mail.seconds = s.mail.seconds := rfl
@[simp] theorem State.endCompose_mail_linkToClock (s : State) : (s.endCompose).mail.linkToClock = s.mail.linkToClock := rfl
@[simp] theorem State.endCompose_mail_segments (s : State) : (s.endCompose).mail.segments = s.mail.segments := rfl
@[simp] theorem State.endCompose_mail_linkToMemory (s : State) : (s.endCompose).mail.linkToMemory = s.mail.linkToMemory := rfl
@[simp] theorem State.endCompose_mail_clockToSchedule (s : State) : (s.endCompose).mail.clockToSchedule = s.mail.clockToSchedule := rfl
@[simp] theorem State.endCompose_mail_clockToBuilder (s : State) : (s.endCompose).mail.clockToBuilder = s.mail.clockToBuilder := rfl
@[simp] theorem State.endCompose_mail_ticksToRotation (s : State) : (s.endCompose).mail.ticksToRotation = s.mail.ticksToRotation := rfl
@[simp] theorem State.endCompose_mail_ticksToOutput (s : State) : (s.endCompose).mail.ticksToOutput = s.mail.ticksToOutput := rfl
@[simp] theorem State.endCompose_mail_cuesToComposer (s : State) : (s.endCompose).mail.cuesToComposer = s.mail.cuesToComposer := rfl
@[simp] theorem State.endCompose_mail_cuesToRotation (s : State) : (s.endCompose).mail.cuesToRotation = s.mail.cuesToRotation := rfl
@[simp] theorem State.endCompose_mail_cuesToOutput (s : State) : (s.endCompose).mail.cuesToOutput = s.mail.cuesToOutput := rfl
@[simp] theorem State.endCompose_mail_scheduleToBuilder (s : State) : (s.endCompose).mail.scheduleToBuilder = s.mail.scheduleToBuilder := rfl
@[simp] theorem State.endCompose_mail_scheduleToSeat (s : State) : (s.endCompose).mail.scheduleToSeat = s.mail.scheduleToSeat := rfl
@[simp] theorem State.endCompose_mail_scheduleToNotice (s : State) : (s.endCompose).mail.scheduleToNotice = s.mail.scheduleToNotice := rfl
@[simp] theorem State.endCompose_mail_figuresToBuilder (s : State) : (s.endCompose).mail.figuresToBuilder = s.mail.figuresToBuilder := rfl
@[simp] theorem State.endCompose_mail_outputToComposer (s : State) : (s.endCompose).mail.outputToComposer = s.mail.outputToComposer := rfl
@[simp] theorem State.endCompose_mail_memoryToRender (s : State) : (s.endCompose).mail.memoryToRender = s.mail.memoryToRender := rfl

/-! `State.giveWork` -/
@[simp] theorem State.giveWork_pending (s : State) (c : ChannelName) (n : Nat) : (s.giveWork c n).pending = s.pending := rfl
@[simp] theorem State.giveWork_link (s : State) (c : ChannelName) (n : Nat) : (s.giveWork c n).link = s.link := rfl
@[simp] theorem State.giveWork_clock (s : State) (c : ChannelName) (n : Nat) : (s.giveWork c n).clock = s.clock := rfl
@[simp] theorem State.giveWork_schedule (s : State) (c : ChannelName) (n : Nat) : (s.giveWork c n).schedule = s.schedule := rfl
@[simp] theorem State.giveWork_seat (s : State) (c : ChannelName) (n : Nat) : (s.giveWork c n).seat = s.seat := rfl
@[simp] theorem State.giveWork_builder (s : State) (c : ChannelName) (n : Nat) : (s.giveWork c n).builder = s.builder := rfl
@[simp] theorem State.giveWork_notice (s : State) (c : ChannelName) (n : Nat) : (s.giveWork c n).notice = s.notice := rfl
@[simp] theorem State.giveWork_rotation (s : State) (c : ChannelName) (n : Nat) : (s.giveWork c n).rotation = s.rotation := rfl
@[simp] theorem State.giveWork_render (s : State) (c : ChannelName) (n : Nat) : (s.giveWork c n).render = s.render := rfl
@[simp] theorem State.giveWork_composer (s : State) (c : ChannelName) (n : Nat) : (s.giveWork c n).composer = s.composer := rfl
@[simp] theorem State.giveWork_output (s : State) (c : ChannelName) (n : Nat) : (s.giveWork c n).output = s.output := rfl
@[simp] theorem State.giveWork_mail (s : State) (c : ChannelName) (n : Nat) : (s.giveWork c n).mail = s.mail := rfl
@[simp] theorem State.giveWork_feedLine (s : State) (c : ChannelName) (n : Nat) : (s.giveWork c n).feedLine = s.feedLine := rfl
@[simp] theorem State.giveWork_deskLine (s : State) (c : ChannelName) (n : Nat) : (s.giveWork c n).deskLine = s.deskLine := rfl
@[simp] theorem State.giveWork_choices (s : State) (c : ChannelName) (n : Nat) : (s.giveWork c n).choices = s.choices := rfl

/-! `State.changePanel` -/
@[simp] theorem State.changePanel_pending (s : State) (p : Nat) (f : Panel → Panel) : (s.changePanel p f).pending = s.pending := rfl
@[simp] theorem State.changePanel_link (s : State) (p : Nat) (f : Panel → Panel) : (s.changePanel p f).link = s.link := rfl
@[simp] theorem State.changePanel_clock (s : State) (p : Nat) (f : Panel → Panel) : (s.changePanel p f).clock = s.clock := rfl
@[simp] theorem State.changePanel_schedule (s : State) (p : Nat) (f : Panel → Panel) : (s.changePanel p f).schedule = s.schedule := rfl
@[simp] theorem State.changePanel_seat (s : State) (p : Nat) (f : Panel → Panel) : (s.changePanel p f).seat = s.seat := rfl
@[simp] theorem State.changePanel_builder (s : State) (p : Nat) (f : Panel → Panel) : (s.changePanel p f).builder = s.builder := rfl
@[simp] theorem State.changePanel_notice (s : State) (p : Nat) (f : Panel → Panel) : (s.changePanel p f).notice = s.notice := rfl
@[simp] theorem State.changePanel_rotation (s : State) (p : Nat) (f : Panel → Panel) : (s.changePanel p f).rotation = s.rotation := rfl
@[simp] theorem State.changePanel_render (s : State) (p : Nat) (f : Panel → Panel) : (s.changePanel p f).render = s.render := rfl
@[simp] theorem State.changePanel_memory (s : State) (p : Nat) (f : Panel → Panel) : (s.changePanel p f).memory = s.memory := rfl
@[simp] theorem State.changePanel_output (s : State) (p : Nat) (f : Panel → Panel) : (s.changePanel p f).output = s.output := rfl
@[simp] theorem State.changePanel_mail (s : State) (p : Nat) (f : Panel → Panel) : (s.changePanel p f).mail = s.mail := rfl
@[simp] theorem State.changePanel_feedLine (s : State) (p : Nat) (f : Panel → Panel) : (s.changePanel p f).feedLine = s.feedLine := rfl
@[simp] theorem State.changePanel_deskLine (s : State) (p : Nat) (f : Panel → Panel) : (s.changePanel p f).deskLine = s.deskLine := rfl
@[simp] theorem State.changePanel_choices (s : State) (p : Nat) (f : Panel → Panel) : (s.changePanel p f).choices = s.choices := rfl

/-! `State.changePanels` -/
@[simp] theorem State.changePanels_pending (s : State) (l : List Nat) (f : Panel → Panel) : (s.changePanels l f).pending = s.pending := rfl
@[simp] theorem State.changePanels_link (s : State) (l : List Nat) (f : Panel → Panel) : (s.changePanels l f).link = s.link := rfl
@[simp] theorem State.changePanels_clock (s : State) (l : List Nat) (f : Panel → Panel) : (s.changePanels l f).clock = s.clock := rfl
@[simp] theorem State.changePanels_schedule (s : State) (l : List Nat) (f : Panel → Panel) : (s.changePanels l f).schedule = s.schedule := rfl
@[simp] theorem State.changePanels_seat (s : State) (l : List Nat) (f : Panel → Panel) : (s.changePanels l f).seat = s.seat := rfl
@[simp] theorem State.changePanels_builder (s : State) (l : List Nat) (f : Panel → Panel) : (s.changePanels l f).builder = s.builder := rfl
@[simp] theorem State.changePanels_notice (s : State) (l : List Nat) (f : Panel → Panel) : (s.changePanels l f).notice = s.notice := rfl
@[simp] theorem State.changePanels_rotation (s : State) (l : List Nat) (f : Panel → Panel) : (s.changePanels l f).rotation = s.rotation := rfl
@[simp] theorem State.changePanels_render (s : State) (l : List Nat) (f : Panel → Panel) : (s.changePanels l f).render = s.render := rfl
@[simp] theorem State.changePanels_memory (s : State) (l : List Nat) (f : Panel → Panel) : (s.changePanels l f).memory = s.memory := rfl
@[simp] theorem State.changePanels_output (s : State) (l : List Nat) (f : Panel → Panel) : (s.changePanels l f).output = s.output := rfl
@[simp] theorem State.changePanels_mail (s : State) (l : List Nat) (f : Panel → Panel) : (s.changePanels l f).mail = s.mail := rfl
@[simp] theorem State.changePanels_feedLine (s : State) (l : List Nat) (f : Panel → Panel) : (s.changePanels l f).feedLine = s.feedLine := rfl
@[simp] theorem State.changePanels_deskLine (s : State) (l : List Nat) (f : Panel → Panel) : (s.changePanels l f).deskLine = s.deskLine := rfl
@[simp] theorem State.changePanels_choices (s : State) (l : List Nat) (f : Panel → Panel) : (s.changePanels l f).choices = s.choices := rfl

/-! `State.changeCarousel` -/
@[simp] theorem State.changeCarousel_pending (s : State) (c : Nat) (f : Carousel → Carousel) : (s.changeCarousel c f).pending = s.pending := rfl
@[simp] theorem State.changeCarousel_link (s : State) (c : Nat) (f : Carousel → Carousel) : (s.changeCarousel c f).link = s.link := rfl
@[simp] theorem State.changeCarousel_clock (s : State) (c : Nat) (f : Carousel → Carousel) : (s.changeCarousel c f).clock = s.clock := rfl
@[simp] theorem State.changeCarousel_schedule (s : State) (c : Nat) (f : Carousel → Carousel) : (s.changeCarousel c f).schedule = s.schedule := rfl
@[simp] theorem State.changeCarousel_seat (s : State) (c : Nat) (f : Carousel → Carousel) : (s.changeCarousel c f).seat = s.seat := rfl
@[simp] theorem State.changeCarousel_builder (s : State) (c : Nat) (f : Carousel → Carousel) : (s.changeCarousel c f).builder = s.builder := rfl
@[simp] theorem State.changeCarousel_notice (s : State) (c : Nat) (f : Carousel → Carousel) : (s.changeCarousel c f).notice = s.notice := rfl
@[simp] theorem State.changeCarousel_render (s : State) (c : Nat) (f : Carousel → Carousel) : (s.changeCarousel c f).render = s.render := rfl
@[simp] theorem State.changeCarousel_composer (s : State) (c : Nat) (f : Carousel → Carousel) : (s.changeCarousel c f).composer = s.composer := rfl
@[simp] theorem State.changeCarousel_memory (s : State) (c : Nat) (f : Carousel → Carousel) : (s.changeCarousel c f).memory = s.memory := rfl
@[simp] theorem State.changeCarousel_output (s : State) (c : Nat) (f : Carousel → Carousel) : (s.changeCarousel c f).output = s.output := rfl
@[simp] theorem State.changeCarousel_mail (s : State) (c : Nat) (f : Carousel → Carousel) : (s.changeCarousel c f).mail = s.mail := rfl
@[simp] theorem State.changeCarousel_feedLine (s : State) (c : Nat) (f : Carousel → Carousel) : (s.changeCarousel c f).feedLine = s.feedLine := rfl
@[simp] theorem State.changeCarousel_deskLine (s : State) (c : Nat) (f : Carousel → Carousel) : (s.changeCarousel c f).deskLine = s.deskLine := rfl
@[simp] theorem State.changeCarousel_choices (s : State) (c : Nat) (f : Carousel → Carousel) : (s.changeCarousel c f).choices = s.choices := rfl

/-! `State.changeCarousels` -/
@[simp] theorem State.changeCarousels_pending (s : State) (l : List Nat) (f : Nat → Carousel → Carousel) : (s.changeCarousels l f).pending = s.pending := rfl
@[simp] theorem State.changeCarousels_link (s : State) (l : List Nat) (f : Nat → Carousel → Carousel) : (s.changeCarousels l f).link = s.link := rfl
@[simp] theorem State.changeCarousels_clock (s : State) (l : List Nat) (f : Nat → Carousel → Carousel) : (s.changeCarousels l f).clock = s.clock := rfl
@[simp] theorem State.changeCarousels_schedule (s : State) (l : List Nat) (f : Nat → Carousel → Carousel) : (s.changeCarousels l f).schedule = s.schedule := rfl
@[simp] theorem State.changeCarousels_seat (s : State) (l : List Nat) (f : Nat → Carousel → Carousel) : (s.changeCarousels l f).seat = s.seat := rfl
@[simp] theorem State.changeCarousels_builder (s : State) (l : List Nat) (f : Nat → Carousel → Carousel) : (s.changeCarousels l f).builder = s.builder := rfl
@[simp] theorem State.changeCarousels_notice (s : State) (l : List Nat) (f : Nat → Carousel → Carousel) : (s.changeCarousels l f).notice = s.notice := rfl
@[simp] theorem State.changeCarousels_render (s : State) (l : List Nat) (f : Nat → Carousel → Carousel) : (s.changeCarousels l f).render = s.render := rfl
@[simp] theorem State.changeCarousels_composer (s : State) (l : List Nat) (f : Nat → Carousel → Carousel) : (s.changeCarousels l f).composer = s.composer := rfl
@[simp] theorem State.changeCarousels_memory (s : State) (l : List Nat) (f : Nat → Carousel → Carousel) : (s.changeCarousels l f).memory = s.memory := rfl
@[simp] theorem State.changeCarousels_output (s : State) (l : List Nat) (f : Nat → Carousel → Carousel) : (s.changeCarousels l f).output = s.output := rfl
@[simp] theorem State.changeCarousels_mail (s : State) (l : List Nat) (f : Nat → Carousel → Carousel) : (s.changeCarousels l f).mail = s.mail := rfl
@[simp] theorem State.changeCarousels_feedLine (s : State) (l : List Nat) (f : Nat → Carousel → Carousel) : (s.changeCarousels l f).feedLine = s.feedLine := rfl
@[simp] theorem State.changeCarousels_deskLine (s : State) (l : List Nat) (f : Nat → Carousel → Carousel) : (s.changeCarousels l f).deskLine = s.deskLine := rfl
@[simp] theorem State.changeCarousels_choices (s : State) (l : List Nat) (f : Nat → Carousel → Carousel) : (s.changeCarousels l f).choices = s.choices := rfl

/-! `State.drawStreams` -/
@[simp] theorem State.drawStreams_pending (s : State) : (s.drawStreams).pending = s.pending := rfl
@[simp] theorem State.drawStreams_link (s : State) : (s.drawStreams).link = s.link := rfl
@[simp] theorem State.drawStreams_clock (s : State) : (s.drawStreams).clock = s.clock := rfl
@[simp] theorem State.drawStreams_schedule (s : State) : (s.drawStreams).schedule = s.schedule := rfl
@[simp] theorem State.drawStreams_seat (s : State) : (s.drawStreams).seat = s.seat := rfl
@[simp] theorem State.drawStreams_builder (s : State) : (s.drawStreams).builder = s.builder := rfl
@[simp] theorem State.drawStreams_notice (s : State) : (s.drawStreams).notice = s.notice := rfl
@[simp] theorem State.drawStreams_rotation (s : State) : (s.drawStreams).rotation = s.rotation := rfl
@[simp] theorem State.drawStreams_render (s : State) : (s.drawStreams).render = s.render := rfl
@[simp] theorem State.drawStreams_memory (s : State) : (s.drawStreams).memory = s.memory := rfl
@[simp] theorem State.drawStreams_output (s : State) : (s.drawStreams).output = s.output := rfl
@[simp] theorem State.drawStreams_mail (s : State) : (s.drawStreams).mail = s.mail := rfl
@[simp] theorem State.drawStreams_feedLine (s : State) : (s.drawStreams).feedLine = s.feedLine := rfl
@[simp] theorem State.drawStreams_deskLine (s : State) : (s.drawStreams).deskLine = s.deskLine := rfl
@[simp] theorem State.drawStreams_choices (s : State) : (s.drawStreams).choices = s.choices := rfl

/-! `State.fullReset` -/
@[simp] theorem State.fullReset_pending (s : State) : (s.fullReset).pending = s.pending := rfl
@[simp] theorem State.fullReset_feedLine (s : State) : (s.fullReset).feedLine = s.feedLine := rfl
@[simp] theorem State.fullReset_deskLine (s : State) : (s.fullReset).deskLine = s.deskLine := rfl
@[simp] theorem State.fullReset_choices (s : State) : (s.fullReset).choices = s.choices := rfl

/-! `State.putLine` -/
@[simp] theorem State.putLine_pending (s : State) (p : Port) (l : List Byte) : (s.putLine p l).pending = s.pending := by cases p <;> rfl
@[simp] theorem State.putLine_link (s : State) (p : Port) (l : List Byte) : (s.putLine p l).link = s.link := by cases p <;> rfl
@[simp] theorem State.putLine_clock (s : State) (p : Port) (l : List Byte) : (s.putLine p l).clock = s.clock := by cases p <;> rfl
@[simp] theorem State.putLine_schedule (s : State) (p : Port) (l : List Byte) : (s.putLine p l).schedule = s.schedule := by cases p <;> rfl
@[simp] theorem State.putLine_seat (s : State) (p : Port) (l : List Byte) : (s.putLine p l).seat = s.seat := by cases p <;> rfl
@[simp] theorem State.putLine_builder (s : State) (p : Port) (l : List Byte) : (s.putLine p l).builder = s.builder := by cases p <;> rfl
@[simp] theorem State.putLine_notice (s : State) (p : Port) (l : List Byte) : (s.putLine p l).notice = s.notice := by cases p <;> rfl
@[simp] theorem State.putLine_rotation (s : State) (p : Port) (l : List Byte) : (s.putLine p l).rotation = s.rotation := by cases p <;> rfl
@[simp] theorem State.putLine_render (s : State) (p : Port) (l : List Byte) : (s.putLine p l).render = s.render := by cases p <;> rfl
@[simp] theorem State.putLine_composer (s : State) (p : Port) (l : List Byte) : (s.putLine p l).composer = s.composer := by cases p <;> rfl
@[simp] theorem State.putLine_memory (s : State) (p : Port) (l : List Byte) : (s.putLine p l).memory = s.memory := by cases p <;> rfl
@[simp] theorem State.putLine_output (s : State) (p : Port) (l : List Byte) : (s.putLine p l).output = s.output := by cases p <;> rfl
@[simp] theorem State.putLine_mail (s : State) (p : Port) (l : List Byte) : (s.putLine p l).mail = s.mail := by cases p <;> rfl
@[simp] theorem State.putLine_choices (s : State) (p : Port) (l : List Byte) : (s.putLine p l).choices = s.choices := by cases p <;> rfl

/-! `State.sendSchedule` -/
@[simp] theorem State.sendSchedule_pending (s : State) (e : ScheduleEvent) : (s.sendSchedule e).pending = s.pending := by cases e <;> rfl
@[simp] theorem State.sendSchedule_link (s : State) (e : ScheduleEvent) : (s.sendSchedule e).link = s.link := by cases e <;> rfl
@[simp] theorem State.sendSchedule_clock (s : State) (e : ScheduleEvent) : (s.sendSchedule e).clock = s.clock := by cases e <;> rfl
@[simp] theorem State.sendSchedule_schedule (s : State) (e : ScheduleEvent) : (s.sendSchedule e).schedule = s.schedule := by cases e <;> rfl
@[simp] theorem State.sendSchedule_seat (s : State) (e : ScheduleEvent) : (s.sendSchedule e).seat = s.seat := by cases e <;> rfl
@[simp] theorem State.sendSchedule_builder (s : State) (e : ScheduleEvent) : (s.sendSchedule e).builder = s.builder := by cases e <;> rfl
@[simp] theorem State.sendSchedule_notice (s : State) (e : ScheduleEvent) : (s.sendSchedule e).notice = s.notice := by cases e <;> rfl
@[simp] theorem State.sendSchedule_rotation (s : State) (e : ScheduleEvent) : (s.sendSchedule e).rotation = s.rotation := by cases e <;> rfl
@[simp] theorem State.sendSchedule_render (s : State) (e : ScheduleEvent) : (s.sendSchedule e).render = s.render := by cases e <;> rfl
@[simp] theorem State.sendSchedule_composer (s : State) (e : ScheduleEvent) : (s.sendSchedule e).composer = s.composer := by cases e <;> rfl
@[simp] theorem State.sendSchedule_memory (s : State) (e : ScheduleEvent) : (s.sendSchedule e).memory = s.memory := by cases e <;> rfl
@[simp] theorem State.sendSchedule_output (s : State) (e : ScheduleEvent) : (s.sendSchedule e).output = s.output := by cases e <;> rfl
@[simp] theorem State.sendSchedule_feedLine (s : State) (e : ScheduleEvent) : (s.sendSchedule e).feedLine = s.feedLine := by cases e <;> rfl
@[simp] theorem State.sendSchedule_deskLine (s : State) (e : ScheduleEvent) : (s.sendSchedule e).deskLine = s.deskLine := by cases e <;> rfl
@[simp] theorem State.sendSchedule_choices (s : State) (e : ScheduleEvent) : (s.sendSchedule e).choices = s.choices := by cases e <;> rfl
@[simp] theorem State.sendSchedule_mail_conditions (s : State) (e : ScheduleEvent) : (s.sendSchedule e).mail.conditions = s.mail.conditions := by cases e <;> rfl
@[simp] theorem State.sendSchedule_mail_tiles (s : State) (e : ScheduleEvent) : (s.sendSchedule e).mail.tiles = s.mail.tiles := by cases e <;> rfl
@[simp] theorem State.sendSchedule_mail_restarts (s : State) (e : ScheduleEvent) : (s.sendSchedule e).mail.restarts = s.mail.restarts := by cases e <;> rfl
@[simp] theorem State.sendSchedule_mail_seconds (s : State) (e : ScheduleEvent) : (s.sendSchedule e).mail.seconds = s.mail.seconds := by cases e <;> rfl
@[simp] theorem State.sendSchedule_mail_linkToClock (s : State) (e : ScheduleEvent) : (s.sendSchedule e).mail.linkToClock = s.mail.linkToClock := by cases e <;> rfl
@[simp] theorem State.sendSchedule_mail_segments (s : State) (e : ScheduleEvent) : (s.sendSchedule e).mail.segments = s.mail.segments := by cases e <;> rfl
@[simp] theorem State.sendSchedule_mail_linkToMemory (s : State) (e : ScheduleEvent) : (s.sendSchedule e).mail.linkToMemory = s.mail.linkToMemory := by cases e <;> rfl
@[simp] theorem State.sendSchedule_mail_clockToSchedule (s : State) (e : ScheduleEvent) : (s.sendSchedule e).mail.clockToSchedule = s.mail.clockToSchedule := by cases e <;> rfl
@[simp] theorem State.sendSchedule_mail_clockToBuilder (s : State) (e : ScheduleEvent) : (s.sendSchedule e).mail.clockToBuilder = s.mail.clockToBuilder := by cases e <;> rfl
@[simp] theorem State.sendSchedule_mail_ticksToRotation (s : State) (e : ScheduleEvent) : (s.sendSchedule e).mail.ticksToRotation = s.mail.ticksToRotation := by cases e <;> rfl
@[simp] theorem State.sendSchedule_mail_ticksToOutput (s : State) (e : ScheduleEvent) : (s.sendSchedule e).mail.ticksToOutput = s.mail.ticksToOutput := by cases e <;> rfl
@[simp] theorem State.sendSchedule_mail_cuesToComposer (s : State) (e : ScheduleEvent) : (s.sendSchedule e).mail.cuesToComposer = s.mail.cuesToComposer := by cases e <;> rfl
@[simp] theorem State.sendSchedule_mail_cuesToRotation (s : State) (e : ScheduleEvent) : (s.sendSchedule e).mail.cuesToRotation = s.mail.cuesToRotation := by cases e <;> rfl
@[simp] theorem State.sendSchedule_mail_cuesToOutput (s : State) (e : ScheduleEvent) : (s.sendSchedule e).mail.cuesToOutput = s.mail.cuesToOutput := by cases e <;> rfl
@[simp] theorem State.sendSchedule_mail_figuresToBuilder (s : State) (e : ScheduleEvent) : (s.sendSchedule e).mail.figuresToBuilder = s.mail.figuresToBuilder := by cases e <;> rfl
@[simp] theorem State.sendSchedule_mail_outputToComposer (s : State) (e : ScheduleEvent) : (s.sendSchedule e).mail.outputToComposer = s.mail.outputToComposer := by cases e <;> rfl
@[simp] theorem State.sendSchedule_mail_composerToMemory (s : State) (e : ScheduleEvent) : (s.sendSchedule e).mail.composerToMemory = s.mail.composerToMemory := by cases e <;> rfl
@[simp] theorem State.sendSchedule_mail_memoryToComposer (s : State) (e : ScheduleEvent) : (s.sendSchedule e).mail.memoryToComposer = s.mail.memoryToComposer := by cases e <;> rfl
@[simp] theorem State.sendSchedule_mail_memoryToRender (s : State) (e : ScheduleEvent) : (s.sendSchedule e).mail.memoryToRender = s.mail.memoryToRender := by cases e <;> rfl

/-! `State.sendSeat` -/
@[simp] theorem State.sendSeat_pending (s : State) (e : SeatEvent) : (s.sendSeat e).pending = s.pending := by cases e <;> rfl
@[simp] theorem State.sendSeat_link (s : State) (e : SeatEvent) : (s.sendSeat e).link = s.link := by cases e <;> rfl
@[simp] theorem State.sendSeat_clock (s : State) (e : SeatEvent) : (s.sendSeat e).clock = s.clock := by cases e <;> rfl
@[simp] theorem State.sendSeat_schedule (s : State) (e : SeatEvent) : (s.sendSeat e).schedule = s.schedule := by cases e <;> rfl
@[simp] theorem State.sendSeat_seat (s : State) (e : SeatEvent) : (s.sendSeat e).seat = s.seat := by cases e <;> rfl
@[simp] theorem State.sendSeat_builder (s : State) (e : SeatEvent) : (s.sendSeat e).builder = s.builder := by cases e <;> rfl
@[simp] theorem State.sendSeat_notice (s : State) (e : SeatEvent) : (s.sendSeat e).notice = s.notice := by cases e <;> rfl
@[simp] theorem State.sendSeat_rotation (s : State) (e : SeatEvent) : (s.sendSeat e).rotation = s.rotation := by cases e <;> rfl
@[simp] theorem State.sendSeat_render (s : State) (e : SeatEvent) : (s.sendSeat e).render = s.render := by cases e <;> rfl
@[simp] theorem State.sendSeat_composer (s : State) (e : SeatEvent) : (s.sendSeat e).composer = s.composer := by cases e <;> rfl
@[simp] theorem State.sendSeat_memory (s : State) (e : SeatEvent) : (s.sendSeat e).memory = s.memory := by cases e <;> rfl
@[simp] theorem State.sendSeat_output (s : State) (e : SeatEvent) : (s.sendSeat e).output = s.output := by cases e <;> rfl
@[simp] theorem State.sendSeat_feedLine (s : State) (e : SeatEvent) : (s.sendSeat e).feedLine = s.feedLine := by cases e <;> rfl
@[simp] theorem State.sendSeat_deskLine (s : State) (e : SeatEvent) : (s.sendSeat e).deskLine = s.deskLine := by cases e <;> rfl
@[simp] theorem State.sendSeat_choices (s : State) (e : SeatEvent) : (s.sendSeat e).choices = s.choices := by cases e <;> rfl
@[simp] theorem State.sendSeat_mail_tiles (s : State) (e : SeatEvent) : (s.sendSeat e).mail.tiles = s.mail.tiles := by cases e <;> rfl
@[simp] theorem State.sendSeat_mail_restarts (s : State) (e : SeatEvent) : (s.sendSeat e).mail.restarts = s.mail.restarts := by cases e <;> rfl
@[simp] theorem State.sendSeat_mail_seconds (s : State) (e : SeatEvent) : (s.sendSeat e).mail.seconds = s.mail.seconds := by cases e <;> rfl
@[simp] theorem State.sendSeat_mail_linkToClock (s : State) (e : SeatEvent) : (s.sendSeat e).mail.linkToClock = s.mail.linkToClock := by cases e <;> rfl
@[simp] theorem State.sendSeat_mail_segments (s : State) (e : SeatEvent) : (s.sendSeat e).mail.segments = s.mail.segments := by cases e <;> rfl
@[simp] theorem State.sendSeat_mail_linkToMemory (s : State) (e : SeatEvent) : (s.sendSeat e).mail.linkToMemory = s.mail.linkToMemory := by cases e <;> rfl
@[simp] theorem State.sendSeat_mail_clockToSchedule (s : State) (e : SeatEvent) : (s.sendSeat e).mail.clockToSchedule = s.mail.clockToSchedule := by cases e <;> rfl
@[simp] theorem State.sendSeat_mail_clockToBuilder (s : State) (e : SeatEvent) : (s.sendSeat e).mail.clockToBuilder = s.mail.clockToBuilder := by cases e <;> rfl
@[simp] theorem State.sendSeat_mail_ticksToRotation (s : State) (e : SeatEvent) : (s.sendSeat e).mail.ticksToRotation = s.mail.ticksToRotation := by cases e <;> rfl
@[simp] theorem State.sendSeat_mail_ticksToOutput (s : State) (e : SeatEvent) : (s.sendSeat e).mail.ticksToOutput = s.mail.ticksToOutput := by cases e <;> rfl
@[simp] theorem State.sendSeat_mail_cuesToComposer (s : State) (e : SeatEvent) : (s.sendSeat e).mail.cuesToComposer = s.mail.cuesToComposer := by cases e <;> rfl
@[simp] theorem State.sendSeat_mail_cuesToRotation (s : State) (e : SeatEvent) : (s.sendSeat e).mail.cuesToRotation = s.mail.cuesToRotation := by cases e <;> rfl
@[simp] theorem State.sendSeat_mail_cuesToOutput (s : State) (e : SeatEvent) : (s.sendSeat e).mail.cuesToOutput = s.mail.cuesToOutput := by cases e <;> rfl
@[simp] theorem State.sendSeat_mail_scheduleToBuilder (s : State) (e : SeatEvent) : (s.sendSeat e).mail.scheduleToBuilder = s.mail.scheduleToBuilder := by cases e <;> rfl
@[simp] theorem State.sendSeat_mail_scheduleToSeat (s : State) (e : SeatEvent) : (s.sendSeat e).mail.scheduleToSeat = s.mail.scheduleToSeat := by cases e <;> rfl
@[simp] theorem State.sendSeat_mail_scheduleToNotice (s : State) (e : SeatEvent) : (s.sendSeat e).mail.scheduleToNotice = s.mail.scheduleToNotice := by cases e <;> rfl
@[simp] theorem State.sendSeat_mail_outputToComposer (s : State) (e : SeatEvent) : (s.sendSeat e).mail.outputToComposer = s.mail.outputToComposer := by cases e <;> rfl
@[simp] theorem State.sendSeat_mail_composerToMemory (s : State) (e : SeatEvent) : (s.sendSeat e).mail.composerToMemory = s.mail.composerToMemory := by cases e <;> rfl
@[simp] theorem State.sendSeat_mail_memoryToComposer (s : State) (e : SeatEvent) : (s.sendSeat e).mail.memoryToComposer = s.mail.memoryToComposer := by cases e <;> rfl
@[simp] theorem State.sendSeat_mail_memoryToRender (s : State) (e : SeatEvent) : (s.sendSeat e).mail.memoryToRender = s.mail.memoryToRender := by cases e <;> rfl

/-! `State.sendAction` -/
@[simp] theorem State.sendAction_pending (s : State) (a : CueAction) : (s.sendAction a).pending = s.pending := by cases a <;> rfl
@[simp] theorem State.sendAction_link (s : State) (a : CueAction) : (s.sendAction a).link = s.link := by cases a <;> rfl
@[simp] theorem State.sendAction_clock (s : State) (a : CueAction) : (s.sendAction a).clock = s.clock := by cases a <;> rfl
@[simp] theorem State.sendAction_schedule (s : State) (a : CueAction) : (s.sendAction a).schedule = s.schedule := by cases a <;> rfl
@[simp] theorem State.sendAction_seat (s : State) (a : CueAction) : (s.sendAction a).seat = s.seat := by cases a <;> rfl
@[simp] theorem State.sendAction_builder (s : State) (a : CueAction) : (s.sendAction a).builder = s.builder := by cases a <;> rfl
@[simp] theorem State.sendAction_notice (s : State) (a : CueAction) : (s.sendAction a).notice = s.notice := by cases a <;> rfl
@[simp] theorem State.sendAction_rotation (s : State) (a : CueAction) : (s.sendAction a).rotation = s.rotation := by cases a <;> rfl
@[simp] theorem State.sendAction_render (s : State) (a : CueAction) : (s.sendAction a).render = s.render := by cases a <;> rfl
@[simp] theorem State.sendAction_composer (s : State) (a : CueAction) : (s.sendAction a).composer = s.composer := by cases a <;> rfl
@[simp] theorem State.sendAction_memory (s : State) (a : CueAction) : (s.sendAction a).memory = s.memory := by cases a <;> rfl
@[simp] theorem State.sendAction_output (s : State) (a : CueAction) : (s.sendAction a).output = s.output := by cases a <;> rfl
@[simp] theorem State.sendAction_feedLine (s : State) (a : CueAction) : (s.sendAction a).feedLine = s.feedLine := by cases a <;> rfl
@[simp] theorem State.sendAction_deskLine (s : State) (a : CueAction) : (s.sendAction a).deskLine = s.deskLine := by cases a <;> rfl
@[simp] theorem State.sendAction_choices (s : State) (a : CueAction) : (s.sendAction a).choices = s.choices := by cases a <;> rfl
@[simp] theorem State.sendAction_mail_conditions (s : State) (a : CueAction) : (s.sendAction a).mail.conditions = s.mail.conditions := by cases a <;> rfl
@[simp] theorem State.sendAction_mail_tiles (s : State) (a : CueAction) : (s.sendAction a).mail.tiles = s.mail.tiles := by cases a <;> rfl
@[simp] theorem State.sendAction_mail_restarts (s : State) (a : CueAction) : (s.sendAction a).mail.restarts = s.mail.restarts := by cases a <;> rfl
@[simp] theorem State.sendAction_mail_seconds (s : State) (a : CueAction) : (s.sendAction a).mail.seconds = s.mail.seconds := by cases a <;> rfl
@[simp] theorem State.sendAction_mail_linkToClock (s : State) (a : CueAction) : (s.sendAction a).mail.linkToClock = s.mail.linkToClock := by cases a <;> rfl
@[simp] theorem State.sendAction_mail_segments (s : State) (a : CueAction) : (s.sendAction a).mail.segments = s.mail.segments := by cases a <;> rfl
@[simp] theorem State.sendAction_mail_linkToMemory (s : State) (a : CueAction) : (s.sendAction a).mail.linkToMemory = s.mail.linkToMemory := by cases a <;> rfl
@[simp] theorem State.sendAction_mail_clockToSchedule (s : State) (a : CueAction) : (s.sendAction a).mail.clockToSchedule = s.mail.clockToSchedule := by cases a <;> rfl
@[simp] theorem State.sendAction_mail_clockToBuilder (s : State) (a : CueAction) : (s.sendAction a).mail.clockToBuilder = s.mail.clockToBuilder := by cases a <;> rfl
@[simp] theorem State.sendAction_mail_ticksToRotation (s : State) (a : CueAction) : (s.sendAction a).mail.ticksToRotation = s.mail.ticksToRotation := by cases a <;> rfl
@[simp] theorem State.sendAction_mail_ticksToOutput (s : State) (a : CueAction) : (s.sendAction a).mail.ticksToOutput = s.mail.ticksToOutput := by cases a <;> rfl
@[simp] theorem State.sendAction_mail_scheduleToBuilder (s : State) (a : CueAction) : (s.sendAction a).mail.scheduleToBuilder = s.mail.scheduleToBuilder := by cases a <;> rfl
@[simp] theorem State.sendAction_mail_scheduleToSeat (s : State) (a : CueAction) : (s.sendAction a).mail.scheduleToSeat = s.mail.scheduleToSeat := by cases a <;> rfl
@[simp] theorem State.sendAction_mail_scheduleToNotice (s : State) (a : CueAction) : (s.sendAction a).mail.scheduleToNotice = s.mail.scheduleToNotice := by cases a <;> rfl
@[simp] theorem State.sendAction_mail_figuresToBuilder (s : State) (a : CueAction) : (s.sendAction a).mail.figuresToBuilder = s.mail.figuresToBuilder := by cases a <;> rfl
@[simp] theorem State.sendAction_mail_outputToComposer (s : State) (a : CueAction) : (s.sendAction a).mail.outputToComposer = s.mail.outputToComposer := by cases a <;> rfl
@[simp] theorem State.sendAction_mail_composerToMemory (s : State) (a : CueAction) : (s.sendAction a).mail.composerToMemory = s.mail.composerToMemory := by cases a <;> rfl
@[simp] theorem State.sendAction_mail_memoryToComposer (s : State) (a : CueAction) : (s.sendAction a).mail.memoryToComposer = s.mail.memoryToComposer := by cases a <;> rfl
@[simp] theorem State.sendAction_mail_memoryToRender (s : State) (a : CueAction) : (s.sendAction a).mail.memoryToRender = s.mail.memoryToRender := by cases a <;> rfl

/-! `State.reportWork` -/
@[simp] theorem State.reportWork_pending (s : State) (c : ChannelName) (r : WorkReport) : (s.reportWork c r).pending = s.pending := by cases c <;> rfl
@[simp] theorem State.reportWork_link (s : State) (c : ChannelName) (r : WorkReport) : (s.reportWork c r).link = s.link := by cases c <;> rfl
@[simp] theorem State.reportWork_clock (s : State) (c : ChannelName) (r : WorkReport) : (s.reportWork c r).clock = s.clock := by cases c <;> rfl
@[simp] theorem State.reportWork_schedule (s : State) (c : ChannelName) (r : WorkReport) : (s.reportWork c r).schedule = s.schedule := by cases c <;> rfl
@[simp] theorem State.reportWork_seat (s : State) (c : ChannelName) (r : WorkReport) : (s.reportWork c r).seat = s.seat := by cases c <;> rfl
@[simp] theorem State.reportWork_builder (s : State) (c : ChannelName) (r : WorkReport) : (s.reportWork c r).builder = s.builder := by cases c <;> rfl
@[simp] theorem State.reportWork_notice (s : State) (c : ChannelName) (r : WorkReport) : (s.reportWork c r).notice = s.notice := by cases c <;> rfl
@[simp] theorem State.reportWork_rotation (s : State) (c : ChannelName) (r : WorkReport) : (s.reportWork c r).rotation = s.rotation := by cases c <;> rfl
@[simp] theorem State.reportWork_render (s : State) (c : ChannelName) (r : WorkReport) : (s.reportWork c r).render = s.render := by cases c <;> rfl
@[simp] theorem State.reportWork_composer (s : State) (c : ChannelName) (r : WorkReport) : (s.reportWork c r).composer = s.composer := by cases c <;> rfl
@[simp] theorem State.reportWork_memory (s : State) (c : ChannelName) (r : WorkReport) : (s.reportWork c r).memory = s.memory := by cases c <;> rfl
@[simp] theorem State.reportWork_output (s : State) (c : ChannelName) (r : WorkReport) : (s.reportWork c r).output = s.output := by cases c <;> rfl
@[simp] theorem State.reportWork_feedLine (s : State) (c : ChannelName) (r : WorkReport) : (s.reportWork c r).feedLine = s.feedLine := by cases c <;> rfl
@[simp] theorem State.reportWork_deskLine (s : State) (c : ChannelName) (r : WorkReport) : (s.reportWork c r).deskLine = s.deskLine := by cases c <;> rfl
@[simp] theorem State.reportWork_choices (s : State) (c : ChannelName) (r : WorkReport) : (s.reportWork c r).choices = s.choices := by cases c <;> rfl
@[simp] theorem State.reportWork_mail_conditions (s : State) (c : ChannelName) (r : WorkReport) : (s.reportWork c r).mail.conditions = s.mail.conditions := by cases c <;> rfl
@[simp] theorem State.reportWork_mail_tiles (s : State) (c : ChannelName) (r : WorkReport) : (s.reportWork c r).mail.tiles = s.mail.tiles := by cases c <;> rfl
@[simp] theorem State.reportWork_mail_restarts (s : State) (c : ChannelName) (r : WorkReport) : (s.reportWork c r).mail.restarts = s.mail.restarts := by cases c <;> rfl
@[simp] theorem State.reportWork_mail_seconds (s : State) (c : ChannelName) (r : WorkReport) : (s.reportWork c r).mail.seconds = s.mail.seconds := by cases c <;> rfl
@[simp] theorem State.reportWork_mail_linkToClock (s : State) (c : ChannelName) (r : WorkReport) : (s.reportWork c r).mail.linkToClock = s.mail.linkToClock := by cases c <;> rfl
@[simp] theorem State.reportWork_mail_segments (s : State) (c : ChannelName) (r : WorkReport) : (s.reportWork c r).mail.segments = s.mail.segments := by cases c <;> rfl
@[simp] theorem State.reportWork_mail_linkToMemory (s : State) (c : ChannelName) (r : WorkReport) : (s.reportWork c r).mail.linkToMemory = s.mail.linkToMemory := by cases c <;> rfl
@[simp] theorem State.reportWork_mail_clockToSchedule (s : State) (c : ChannelName) (r : WorkReport) : (s.reportWork c r).mail.clockToSchedule = s.mail.clockToSchedule := by cases c <;> rfl
@[simp] theorem State.reportWork_mail_clockToBuilder (s : State) (c : ChannelName) (r : WorkReport) : (s.reportWork c r).mail.clockToBuilder = s.mail.clockToBuilder := by cases c <;> rfl
@[simp] theorem State.reportWork_mail_ticksToRotation (s : State) (c : ChannelName) (r : WorkReport) : (s.reportWork c r).mail.ticksToRotation = s.mail.ticksToRotation := by cases c <;> rfl
@[simp] theorem State.reportWork_mail_ticksToOutput (s : State) (c : ChannelName) (r : WorkReport) : (s.reportWork c r).mail.ticksToOutput = s.mail.ticksToOutput := by cases c <;> rfl
@[simp] theorem State.reportWork_mail_cuesToComposer (s : State) (c : ChannelName) (r : WorkReport) : (s.reportWork c r).mail.cuesToComposer = s.mail.cuesToComposer := by cases c <;> rfl
@[simp] theorem State.reportWork_mail_cuesToRotation (s : State) (c : ChannelName) (r : WorkReport) : (s.reportWork c r).mail.cuesToRotation = s.mail.cuesToRotation := by cases c <;> rfl
@[simp] theorem State.reportWork_mail_cuesToOutput (s : State) (c : ChannelName) (r : WorkReport) : (s.reportWork c r).mail.cuesToOutput = s.mail.cuesToOutput := by cases c <;> rfl
@[simp] theorem State.reportWork_mail_scheduleToBuilder (s : State) (c : ChannelName) (r : WorkReport) : (s.reportWork c r).mail.scheduleToBuilder = s.mail.scheduleToBuilder := by cases c <;> rfl
@[simp] theorem State.reportWork_mail_scheduleToSeat (s : State) (c : ChannelName) (r : WorkReport) : (s.reportWork c r).mail.scheduleToSeat = s.mail.scheduleToSeat := by cases c <;> rfl
@[simp] theorem State.reportWork_mail_scheduleToNotice (s : State) (c : ChannelName) (r : WorkReport) : (s.reportWork c r).mail.scheduleToNotice = s.mail.scheduleToNotice := by cases c <;> rfl
@[simp] theorem State.reportWork_mail_figuresToBuilder (s : State) (c : ChannelName) (r : WorkReport) : (s.reportWork c r).mail.figuresToBuilder = s.mail.figuresToBuilder := by cases c <;> rfl
@[simp] theorem State.reportWork_mail_outputToComposer (s : State) (c : ChannelName) (r : WorkReport) : (s.reportWork c r).mail.outputToComposer = s.mail.outputToComposer := by cases c <;> rfl
@[simp] theorem State.reportWork_mail_composerToMemory (s : State) (c : ChannelName) (r : WorkReport) : (s.reportWork c r).mail.composerToMemory = s.mail.composerToMemory := by cases c <;> rfl

/-! `State.cancelWork` -/
@[simp] theorem State.cancelWork_pending (s : State) (c : ChannelName) : (s.cancelWork c).pending = s.pending := by cases c <;> rfl
@[simp] theorem State.cancelWork_link (s : State) (c : ChannelName) : (s.cancelWork c).link = s.link := by cases c <;> rfl
@[simp] theorem State.cancelWork_clock (s : State) (c : ChannelName) : (s.cancelWork c).clock = s.clock := by cases c <;> rfl
@[simp] theorem State.cancelWork_schedule (s : State) (c : ChannelName) : (s.cancelWork c).schedule = s.schedule := by cases c <;> rfl
@[simp] theorem State.cancelWork_seat (s : State) (c : ChannelName) : (s.cancelWork c).seat = s.seat := by cases c <;> rfl
@[simp] theorem State.cancelWork_builder (s : State) (c : ChannelName) : (s.cancelWork c).builder = s.builder := by cases c <;> rfl
@[simp] theorem State.cancelWork_notice (s : State) (c : ChannelName) : (s.cancelWork c).notice = s.notice := by cases c <;> rfl
@[simp] theorem State.cancelWork_rotation (s : State) (c : ChannelName) : (s.cancelWork c).rotation = s.rotation := by cases c <;> rfl
@[simp] theorem State.cancelWork_render (s : State) (c : ChannelName) : (s.cancelWork c).render = s.render := by cases c <;> rfl
@[simp] theorem State.cancelWork_composer (s : State) (c : ChannelName) : (s.cancelWork c).composer = s.composer := by cases c <;> rfl
@[simp] theorem State.cancelWork_output (s : State) (c : ChannelName) : (s.cancelWork c).output = s.output := by cases c <;> rfl
@[simp] theorem State.cancelWork_feedLine (s : State) (c : ChannelName) : (s.cancelWork c).feedLine = s.feedLine := by cases c <;> rfl
@[simp] theorem State.cancelWork_deskLine (s : State) (c : ChannelName) : (s.cancelWork c).deskLine = s.deskLine := by cases c <;> rfl
@[simp] theorem State.cancelWork_choices (s : State) (c : ChannelName) : (s.cancelWork c).choices = s.choices := by cases c <;> rfl
@[simp] theorem State.cancelWork_mail_conditions (s : State) (c : ChannelName) : (s.cancelWork c).mail.conditions = s.mail.conditions := by cases c <;> rfl
@[simp] theorem State.cancelWork_mail_tiles (s : State) (c : ChannelName) : (s.cancelWork c).mail.tiles = s.mail.tiles := by cases c <;> rfl
@[simp] theorem State.cancelWork_mail_restarts (s : State) (c : ChannelName) : (s.cancelWork c).mail.restarts = s.mail.restarts := by cases c <;> rfl
@[simp] theorem State.cancelWork_mail_seconds (s : State) (c : ChannelName) : (s.cancelWork c).mail.seconds = s.mail.seconds := by cases c <;> rfl
@[simp] theorem State.cancelWork_mail_linkToClock (s : State) (c : ChannelName) : (s.cancelWork c).mail.linkToClock = s.mail.linkToClock := by cases c <;> rfl
@[simp] theorem State.cancelWork_mail_segments (s : State) (c : ChannelName) : (s.cancelWork c).mail.segments = s.mail.segments := by cases c <;> rfl
@[simp] theorem State.cancelWork_mail_linkToMemory (s : State) (c : ChannelName) : (s.cancelWork c).mail.linkToMemory = s.mail.linkToMemory := by cases c <;> rfl
@[simp] theorem State.cancelWork_mail_clockToSchedule (s : State) (c : ChannelName) : (s.cancelWork c).mail.clockToSchedule = s.mail.clockToSchedule := by cases c <;> rfl
@[simp] theorem State.cancelWork_mail_clockToBuilder (s : State) (c : ChannelName) : (s.cancelWork c).mail.clockToBuilder = s.mail.clockToBuilder := by cases c <;> rfl
@[simp] theorem State.cancelWork_mail_ticksToRotation (s : State) (c : ChannelName) : (s.cancelWork c).mail.ticksToRotation = s.mail.ticksToRotation := by cases c <;> rfl
@[simp] theorem State.cancelWork_mail_ticksToOutput (s : State) (c : ChannelName) : (s.cancelWork c).mail.ticksToOutput = s.mail.ticksToOutput := by cases c <;> rfl
@[simp] theorem State.cancelWork_mail_cuesToComposer (s : State) (c : ChannelName) : (s.cancelWork c).mail.cuesToComposer = s.mail.cuesToComposer := by cases c <;> rfl
@[simp] theorem State.cancelWork_mail_cuesToRotation (s : State) (c : ChannelName) : (s.cancelWork c).mail.cuesToRotation = s.mail.cuesToRotation := by cases c <;> rfl
@[simp] theorem State.cancelWork_mail_cuesToOutput (s : State) (c : ChannelName) : (s.cancelWork c).mail.cuesToOutput = s.mail.cuesToOutput := by cases c <;> rfl
@[simp] theorem State.cancelWork_mail_scheduleToBuilder (s : State) (c : ChannelName) : (s.cancelWork c).mail.scheduleToBuilder = s.mail.scheduleToBuilder := by cases c <;> rfl
@[simp] theorem State.cancelWork_mail_scheduleToSeat (s : State) (c : ChannelName) : (s.cancelWork c).mail.scheduleToSeat = s.mail.scheduleToSeat := by cases c <;> rfl
@[simp] theorem State.cancelWork_mail_scheduleToNotice (s : State) (c : ChannelName) : (s.cancelWork c).mail.scheduleToNotice = s.mail.scheduleToNotice := by cases c <;> rfl
@[simp] theorem State.cancelWork_mail_figuresToBuilder (s : State) (c : ChannelName) : (s.cancelWork c).mail.figuresToBuilder = s.mail.figuresToBuilder := by cases c <;> rfl
@[simp] theorem State.cancelWork_mail_outputToComposer (s : State) (c : ChannelName) : (s.cancelWork c).mail.outputToComposer = s.mail.outputToComposer := by cases c <;> rfl
@[simp] theorem State.cancelWork_mail_composerToMemory (s : State) (c : ChannelName) : (s.cancelWork c).mail.composerToMemory = s.mail.composerToMemory := by cases c <;> rfl

/-! `State.sendScheduleAll` -/
@[simp] theorem State.sendScheduleAll_pending (s : State) (es : List ScheduleEvent) : (s.sendScheduleAll es).pending = s.pending :=
  foldl_keeps State.sendSchedule (fun s => s.pending) (fun s e => State.sendSchedule_pending s e) es s
@[simp] theorem State.sendScheduleAll_link (s : State) (es : List ScheduleEvent) : (s.sendScheduleAll es).link = s.link :=
  foldl_keeps State.sendSchedule (fun s => s.link) (fun s e => State.sendSchedule_link s e) es s
@[simp] theorem State.sendScheduleAll_clock (s : State) (es : List ScheduleEvent) : (s.sendScheduleAll es).clock = s.clock :=
  foldl_keeps State.sendSchedule (fun s => s.clock) (fun s e => State.sendSchedule_clock s e) es s
@[simp] theorem State.sendScheduleAll_schedule (s : State) (es : List ScheduleEvent) : (s.sendScheduleAll es).schedule = s.schedule :=
  foldl_keeps State.sendSchedule (fun s => s.schedule) (fun s e => State.sendSchedule_schedule s e) es s
@[simp] theorem State.sendScheduleAll_seat (s : State) (es : List ScheduleEvent) : (s.sendScheduleAll es).seat = s.seat :=
  foldl_keeps State.sendSchedule (fun s => s.seat) (fun s e => State.sendSchedule_seat s e) es s
@[simp] theorem State.sendScheduleAll_builder (s : State) (es : List ScheduleEvent) : (s.sendScheduleAll es).builder = s.builder :=
  foldl_keeps State.sendSchedule (fun s => s.builder) (fun s e => State.sendSchedule_builder s e) es s
@[simp] theorem State.sendScheduleAll_notice (s : State) (es : List ScheduleEvent) : (s.sendScheduleAll es).notice = s.notice :=
  foldl_keeps State.sendSchedule (fun s => s.notice) (fun s e => State.sendSchedule_notice s e) es s
@[simp] theorem State.sendScheduleAll_rotation (s : State) (es : List ScheduleEvent) : (s.sendScheduleAll es).rotation = s.rotation :=
  foldl_keeps State.sendSchedule (fun s => s.rotation) (fun s e => State.sendSchedule_rotation s e) es s
@[simp] theorem State.sendScheduleAll_render (s : State) (es : List ScheduleEvent) : (s.sendScheduleAll es).render = s.render :=
  foldl_keeps State.sendSchedule (fun s => s.render) (fun s e => State.sendSchedule_render s e) es s
@[simp] theorem State.sendScheduleAll_composer (s : State) (es : List ScheduleEvent) : (s.sendScheduleAll es).composer = s.composer :=
  foldl_keeps State.sendSchedule (fun s => s.composer) (fun s e => State.sendSchedule_composer s e) es s
@[simp] theorem State.sendScheduleAll_memory (s : State) (es : List ScheduleEvent) : (s.sendScheduleAll es).memory = s.memory :=
  foldl_keeps State.sendSchedule (fun s => s.memory) (fun s e => State.sendSchedule_memory s e) es s
@[simp] theorem State.sendScheduleAll_output (s : State) (es : List ScheduleEvent) : (s.sendScheduleAll es).output = s.output :=
  foldl_keeps State.sendSchedule (fun s => s.output) (fun s e => State.sendSchedule_output s e) es s
@[simp] theorem State.sendScheduleAll_feedLine (s : State) (es : List ScheduleEvent) : (s.sendScheduleAll es).feedLine = s.feedLine :=
  foldl_keeps State.sendSchedule (fun s => s.feedLine) (fun s e => State.sendSchedule_feedLine s e) es s
@[simp] theorem State.sendScheduleAll_deskLine (s : State) (es : List ScheduleEvent) : (s.sendScheduleAll es).deskLine = s.deskLine :=
  foldl_keeps State.sendSchedule (fun s => s.deskLine) (fun s e => State.sendSchedule_deskLine s e) es s
@[simp] theorem State.sendScheduleAll_choices (s : State) (es : List ScheduleEvent) : (s.sendScheduleAll es).choices = s.choices :=
  foldl_keeps State.sendSchedule (fun s => s.choices) (fun s e => State.sendSchedule_choices s e) es s
@[simp] theorem State.sendScheduleAll_mail_conditions (s : State) (es : List ScheduleEvent) : (s.sendScheduleAll es).mail.conditions = s.mail.conditions :=
  foldl_keeps State.sendSchedule (fun s => s.mail.conditions) (fun s e => State.sendSchedule_mail_conditions s e) es s
@[simp] theorem State.sendScheduleAll_mail_tiles (s : State) (es : List ScheduleEvent) : (s.sendScheduleAll es).mail.tiles = s.mail.tiles :=
  foldl_keeps State.sendSchedule (fun s => s.mail.tiles) (fun s e => State.sendSchedule_mail_tiles s e) es s
@[simp] theorem State.sendScheduleAll_mail_restarts (s : State) (es : List ScheduleEvent) : (s.sendScheduleAll es).mail.restarts = s.mail.restarts :=
  foldl_keeps State.sendSchedule (fun s => s.mail.restarts) (fun s e => State.sendSchedule_mail_restarts s e) es s
@[simp] theorem State.sendScheduleAll_mail_seconds (s : State) (es : List ScheduleEvent) : (s.sendScheduleAll es).mail.seconds = s.mail.seconds :=
  foldl_keeps State.sendSchedule (fun s => s.mail.seconds) (fun s e => State.sendSchedule_mail_seconds s e) es s
@[simp] theorem State.sendScheduleAll_mail_linkToClock (s : State) (es : List ScheduleEvent) : (s.sendScheduleAll es).mail.linkToClock = s.mail.linkToClock :=
  foldl_keeps State.sendSchedule (fun s => s.mail.linkToClock) (fun s e => State.sendSchedule_mail_linkToClock s e) es s
@[simp] theorem State.sendScheduleAll_mail_segments (s : State) (es : List ScheduleEvent) : (s.sendScheduleAll es).mail.segments = s.mail.segments :=
  foldl_keeps State.sendSchedule (fun s => s.mail.segments) (fun s e => State.sendSchedule_mail_segments s e) es s
@[simp] theorem State.sendScheduleAll_mail_linkToMemory (s : State) (es : List ScheduleEvent) : (s.sendScheduleAll es).mail.linkToMemory = s.mail.linkToMemory :=
  foldl_keeps State.sendSchedule (fun s => s.mail.linkToMemory) (fun s e => State.sendSchedule_mail_linkToMemory s e) es s
@[simp] theorem State.sendScheduleAll_mail_clockToSchedule (s : State) (es : List ScheduleEvent) : (s.sendScheduleAll es).mail.clockToSchedule = s.mail.clockToSchedule :=
  foldl_keeps State.sendSchedule (fun s => s.mail.clockToSchedule) (fun s e => State.sendSchedule_mail_clockToSchedule s e) es s
@[simp] theorem State.sendScheduleAll_mail_clockToBuilder (s : State) (es : List ScheduleEvent) : (s.sendScheduleAll es).mail.clockToBuilder = s.mail.clockToBuilder :=
  foldl_keeps State.sendSchedule (fun s => s.mail.clockToBuilder) (fun s e => State.sendSchedule_mail_clockToBuilder s e) es s
@[simp] theorem State.sendScheduleAll_mail_ticksToRotation (s : State) (es : List ScheduleEvent) : (s.sendScheduleAll es).mail.ticksToRotation = s.mail.ticksToRotation :=
  foldl_keeps State.sendSchedule (fun s => s.mail.ticksToRotation) (fun s e => State.sendSchedule_mail_ticksToRotation s e) es s
@[simp] theorem State.sendScheduleAll_mail_ticksToOutput (s : State) (es : List ScheduleEvent) : (s.sendScheduleAll es).mail.ticksToOutput = s.mail.ticksToOutput :=
  foldl_keeps State.sendSchedule (fun s => s.mail.ticksToOutput) (fun s e => State.sendSchedule_mail_ticksToOutput s e) es s
@[simp] theorem State.sendScheduleAll_mail_cuesToComposer (s : State) (es : List ScheduleEvent) : (s.sendScheduleAll es).mail.cuesToComposer = s.mail.cuesToComposer :=
  foldl_keeps State.sendSchedule (fun s => s.mail.cuesToComposer) (fun s e => State.sendSchedule_mail_cuesToComposer s e) es s
@[simp] theorem State.sendScheduleAll_mail_cuesToRotation (s : State) (es : List ScheduleEvent) : (s.sendScheduleAll es).mail.cuesToRotation = s.mail.cuesToRotation :=
  foldl_keeps State.sendSchedule (fun s => s.mail.cuesToRotation) (fun s e => State.sendSchedule_mail_cuesToRotation s e) es s
@[simp] theorem State.sendScheduleAll_mail_cuesToOutput (s : State) (es : List ScheduleEvent) : (s.sendScheduleAll es).mail.cuesToOutput = s.mail.cuesToOutput :=
  foldl_keeps State.sendSchedule (fun s => s.mail.cuesToOutput) (fun s e => State.sendSchedule_mail_cuesToOutput s e) es s
@[simp] theorem State.sendScheduleAll_mail_figuresToBuilder (s : State) (es : List ScheduleEvent) : (s.sendScheduleAll es).mail.figuresToBuilder = s.mail.figuresToBuilder :=
  foldl_keeps State.sendSchedule (fun s => s.mail.figuresToBuilder) (fun s e => State.sendSchedule_mail_figuresToBuilder s e) es s
@[simp] theorem State.sendScheduleAll_mail_outputToComposer (s : State) (es : List ScheduleEvent) : (s.sendScheduleAll es).mail.outputToComposer = s.mail.outputToComposer :=
  foldl_keeps State.sendSchedule (fun s => s.mail.outputToComposer) (fun s e => State.sendSchedule_mail_outputToComposer s e) es s
@[simp] theorem State.sendScheduleAll_mail_composerToMemory (s : State) (es : List ScheduleEvent) : (s.sendScheduleAll es).mail.composerToMemory = s.mail.composerToMemory :=
  foldl_keeps State.sendSchedule (fun s => s.mail.composerToMemory) (fun s e => State.sendSchedule_mail_composerToMemory s e) es s
@[simp] theorem State.sendScheduleAll_mail_memoryToComposer (s : State) (es : List ScheduleEvent) : (s.sendScheduleAll es).mail.memoryToComposer = s.mail.memoryToComposer :=
  foldl_keeps State.sendSchedule (fun s => s.mail.memoryToComposer) (fun s e => State.sendSchedule_mail_memoryToComposer s e) es s
@[simp] theorem State.sendScheduleAll_mail_memoryToRender (s : State) (es : List ScheduleEvent) : (s.sendScheduleAll es).mail.memoryToRender = s.mail.memoryToRender :=
  foldl_keeps State.sendSchedule (fun s => s.mail.memoryToRender) (fun s e => State.sendSchedule_mail_memoryToRender s e) es s

/-! `State.withSchedule` -/
@[simp] theorem State.withSchedule_pending (s : State) (x : ScheduleUnit × List ScheduleEvent) : (s.withSchedule x).pending = s.pending :=
  by simp [State.withSchedule]
@[simp] theorem State.withSchedule_link (s : State) (x : ScheduleUnit × List ScheduleEvent) : (s.withSchedule x).link = s.link :=
  by simp [State.withSchedule]
@[simp] theorem State.withSchedule_clock (s : State) (x : ScheduleUnit × List ScheduleEvent) : (s.withSchedule x).clock = s.clock :=
  by simp [State.withSchedule]
@[simp] theorem State.withSchedule_seat (s : State) (x : ScheduleUnit × List ScheduleEvent) : (s.withSchedule x).seat = s.seat :=
  by simp [State.withSchedule]
@[simp] theorem State.withSchedule_builder (s : State) (x : ScheduleUnit × List ScheduleEvent) : (s.withSchedule x).builder = s.builder :=
  by simp [State.withSchedule]
@[simp] theorem State.withSchedule_notice (s : State) (x : ScheduleUnit × List ScheduleEvent) : (s.withSchedule x).notice = s.notice :=
  by simp [State.withSchedule]
@[simp] theorem State.withSchedule_rotation (s : State) (x : ScheduleUnit × List ScheduleEvent) : (s.withSchedule x).rotation = s.rotation :=
  by simp [State.withSchedule]
@[simp] theorem State.withSchedule_render (s : State) (x : ScheduleUnit × List ScheduleEvent) : (s.withSchedule x).render = s.render :=
  by simp [State.withSchedule]
@[simp] theorem State.withSchedule_composer (s : State) (x : ScheduleUnit × List ScheduleEvent) : (s.withSchedule x).composer = s.composer :=
  by simp [State.withSchedule]
@[simp] theorem State.withSchedule_memory (s : State) (x : ScheduleUnit × List ScheduleEvent) : (s.withSchedule x).memory = s.memory :=
  by simp [State.withSchedule]
@[simp] theorem State.withSchedule_output (s : State) (x : ScheduleUnit × List ScheduleEvent) : (s.withSchedule x).output = s.output :=
  by simp [State.withSchedule]
@[simp] theorem State.withSchedule_feedLine (s : State) (x : ScheduleUnit × List ScheduleEvent) : (s.withSchedule x).feedLine = s.feedLine :=
  by simp [State.withSchedule]
@[simp] theorem State.withSchedule_deskLine (s : State) (x : ScheduleUnit × List ScheduleEvent) : (s.withSchedule x).deskLine = s.deskLine :=
  by simp [State.withSchedule]
@[simp] theorem State.withSchedule_choices (s : State) (x : ScheduleUnit × List ScheduleEvent) : (s.withSchedule x).choices = s.choices :=
  by simp [State.withSchedule]
@[simp] theorem State.withSchedule_mail_conditions (s : State) (x : ScheduleUnit × List ScheduleEvent) : (s.withSchedule x).mail.conditions = s.mail.conditions :=
  by simp [State.withSchedule]
@[simp] theorem State.withSchedule_mail_tiles (s : State) (x : ScheduleUnit × List ScheduleEvent) : (s.withSchedule x).mail.tiles = s.mail.tiles :=
  by simp [State.withSchedule]
@[simp] theorem State.withSchedule_mail_restarts (s : State) (x : ScheduleUnit × List ScheduleEvent) : (s.withSchedule x).mail.restarts = s.mail.restarts :=
  by simp [State.withSchedule]
@[simp] theorem State.withSchedule_mail_seconds (s : State) (x : ScheduleUnit × List ScheduleEvent) : (s.withSchedule x).mail.seconds = s.mail.seconds :=
  by simp [State.withSchedule]
@[simp] theorem State.withSchedule_mail_linkToClock (s : State) (x : ScheduleUnit × List ScheduleEvent) : (s.withSchedule x).mail.linkToClock = s.mail.linkToClock :=
  by simp [State.withSchedule]
@[simp] theorem State.withSchedule_mail_segments (s : State) (x : ScheduleUnit × List ScheduleEvent) : (s.withSchedule x).mail.segments = s.mail.segments :=
  by simp [State.withSchedule]
@[simp] theorem State.withSchedule_mail_linkToMemory (s : State) (x : ScheduleUnit × List ScheduleEvent) : (s.withSchedule x).mail.linkToMemory = s.mail.linkToMemory :=
  by simp [State.withSchedule]
@[simp] theorem State.withSchedule_mail_clockToSchedule (s : State) (x : ScheduleUnit × List ScheduleEvent) : (s.withSchedule x).mail.clockToSchedule = s.mail.clockToSchedule :=
  by simp [State.withSchedule]
@[simp] theorem State.withSchedule_mail_clockToBuilder (s : State) (x : ScheduleUnit × List ScheduleEvent) : (s.withSchedule x).mail.clockToBuilder = s.mail.clockToBuilder :=
  by simp [State.withSchedule]
@[simp] theorem State.withSchedule_mail_ticksToRotation (s : State) (x : ScheduleUnit × List ScheduleEvent) : (s.withSchedule x).mail.ticksToRotation = s.mail.ticksToRotation :=
  by simp [State.withSchedule]
@[simp] theorem State.withSchedule_mail_ticksToOutput (s : State) (x : ScheduleUnit × List ScheduleEvent) : (s.withSchedule x).mail.ticksToOutput = s.mail.ticksToOutput :=
  by simp [State.withSchedule]
@[simp] theorem State.withSchedule_mail_cuesToComposer (s : State) (x : ScheduleUnit × List ScheduleEvent) : (s.withSchedule x).mail.cuesToComposer = s.mail.cuesToComposer :=
  by simp [State.withSchedule]
@[simp] theorem State.withSchedule_mail_cuesToRotation (s : State) (x : ScheduleUnit × List ScheduleEvent) : (s.withSchedule x).mail.cuesToRotation = s.mail.cuesToRotation :=
  by simp [State.withSchedule]
@[simp] theorem State.withSchedule_mail_cuesToOutput (s : State) (x : ScheduleUnit × List ScheduleEvent) : (s.withSchedule x).mail.cuesToOutput = s.mail.cuesToOutput :=
  by simp [State.withSchedule]
@[simp] theorem State.withSchedule_mail_figuresToBuilder (s : State) (x : ScheduleUnit × List ScheduleEvent) : (s.withSchedule x).mail.figuresToBuilder = s.mail.figuresToBuilder :=
  by simp [State.withSchedule]
@[simp] theorem State.withSchedule_mail_outputToComposer (s : State) (x : ScheduleUnit × List ScheduleEvent) : (s.withSchedule x).mail.outputToComposer = s.mail.outputToComposer :=
  by simp [State.withSchedule]
@[simp] theorem State.withSchedule_mail_composerToMemory (s : State) (x : ScheduleUnit × List ScheduleEvent) : (s.withSchedule x).mail.composerToMemory = s.mail.composerToMemory :=
  by simp [State.withSchedule]
@[simp] theorem State.withSchedule_mail_memoryToComposer (s : State) (x : ScheduleUnit × List ScheduleEvent) : (s.withSchedule x).mail.memoryToComposer = s.mail.memoryToComposer :=
  by simp [State.withSchedule]
@[simp] theorem State.withSchedule_mail_memoryToRender (s : State) (x : ScheduleUnit × List ScheduleEvent) : (s.withSchedule x).mail.memoryToRender = s.mail.memoryToRender :=
  by simp [State.withSchedule]

/-! `State.withSeat` -/
@[simp] theorem State.withSeat_pending (s : State) (x : SeatUnit × List SeatEvent) : (s.withSeat x).pending = s.pending :=
  foldl_keeps State.sendSeat (fun s => s.pending) (fun s e => State.sendSeat_pending s e) x.2 { s with seat := x.1 }
@[simp] theorem State.withSeat_link (s : State) (x : SeatUnit × List SeatEvent) : (s.withSeat x).link = s.link :=
  foldl_keeps State.sendSeat (fun s => s.link) (fun s e => State.sendSeat_link s e) x.2 { s with seat := x.1 }
@[simp] theorem State.withSeat_clock (s : State) (x : SeatUnit × List SeatEvent) : (s.withSeat x).clock = s.clock :=
  foldl_keeps State.sendSeat (fun s => s.clock) (fun s e => State.sendSeat_clock s e) x.2 { s with seat := x.1 }
@[simp] theorem State.withSeat_schedule (s : State) (x : SeatUnit × List SeatEvent) : (s.withSeat x).schedule = s.schedule :=
  foldl_keeps State.sendSeat (fun s => s.schedule) (fun s e => State.sendSeat_schedule s e) x.2 { s with seat := x.1 }
@[simp] theorem State.withSeat_builder (s : State) (x : SeatUnit × List SeatEvent) : (s.withSeat x).builder = s.builder :=
  foldl_keeps State.sendSeat (fun s => s.builder) (fun s e => State.sendSeat_builder s e) x.2 { s with seat := x.1 }
@[simp] theorem State.withSeat_notice (s : State) (x : SeatUnit × List SeatEvent) : (s.withSeat x).notice = s.notice :=
  foldl_keeps State.sendSeat (fun s => s.notice) (fun s e => State.sendSeat_notice s e) x.2 { s with seat := x.1 }
@[simp] theorem State.withSeat_rotation (s : State) (x : SeatUnit × List SeatEvent) : (s.withSeat x).rotation = s.rotation :=
  foldl_keeps State.sendSeat (fun s => s.rotation) (fun s e => State.sendSeat_rotation s e) x.2 { s with seat := x.1 }
@[simp] theorem State.withSeat_render (s : State) (x : SeatUnit × List SeatEvent) : (s.withSeat x).render = s.render :=
  foldl_keeps State.sendSeat (fun s => s.render) (fun s e => State.sendSeat_render s e) x.2 { s with seat := x.1 }
@[simp] theorem State.withSeat_composer (s : State) (x : SeatUnit × List SeatEvent) : (s.withSeat x).composer = s.composer :=
  foldl_keeps State.sendSeat (fun s => s.composer) (fun s e => State.sendSeat_composer s e) x.2 { s with seat := x.1 }
@[simp] theorem State.withSeat_memory (s : State) (x : SeatUnit × List SeatEvent) : (s.withSeat x).memory = s.memory :=
  foldl_keeps State.sendSeat (fun s => s.memory) (fun s e => State.sendSeat_memory s e) x.2 { s with seat := x.1 }
@[simp] theorem State.withSeat_output (s : State) (x : SeatUnit × List SeatEvent) : (s.withSeat x).output = s.output :=
  foldl_keeps State.sendSeat (fun s => s.output) (fun s e => State.sendSeat_output s e) x.2 { s with seat := x.1 }
@[simp] theorem State.withSeat_feedLine (s : State) (x : SeatUnit × List SeatEvent) : (s.withSeat x).feedLine = s.feedLine :=
  foldl_keeps State.sendSeat (fun s => s.feedLine) (fun s e => State.sendSeat_feedLine s e) x.2 { s with seat := x.1 }
@[simp] theorem State.withSeat_deskLine (s : State) (x : SeatUnit × List SeatEvent) : (s.withSeat x).deskLine = s.deskLine :=
  foldl_keeps State.sendSeat (fun s => s.deskLine) (fun s e => State.sendSeat_deskLine s e) x.2 { s with seat := x.1 }
@[simp] theorem State.withSeat_choices (s : State) (x : SeatUnit × List SeatEvent) : (s.withSeat x).choices = s.choices :=
  foldl_keeps State.sendSeat (fun s => s.choices) (fun s e => State.sendSeat_choices s e) x.2 { s with seat := x.1 }
@[simp] theorem State.withSeat_mail_tiles (s : State) (x : SeatUnit × List SeatEvent) : (s.withSeat x).mail.tiles = s.mail.tiles :=
  foldl_keeps State.sendSeat (fun s => s.mail.tiles) (fun s e => State.sendSeat_mail_tiles s e) x.2 { s with seat := x.1 }
@[simp] theorem State.withSeat_mail_restarts (s : State) (x : SeatUnit × List SeatEvent) : (s.withSeat x).mail.restarts = s.mail.restarts :=
  foldl_keeps State.sendSeat (fun s => s.mail.restarts) (fun s e => State.sendSeat_mail_restarts s e) x.2 { s with seat := x.1 }
@[simp] theorem State.withSeat_mail_seconds (s : State) (x : SeatUnit × List SeatEvent) : (s.withSeat x).mail.seconds = s.mail.seconds :=
  foldl_keeps State.sendSeat (fun s => s.mail.seconds) (fun s e => State.sendSeat_mail_seconds s e) x.2 { s with seat := x.1 }
@[simp] theorem State.withSeat_mail_linkToClock (s : State) (x : SeatUnit × List SeatEvent) : (s.withSeat x).mail.linkToClock = s.mail.linkToClock :=
  foldl_keeps State.sendSeat (fun s => s.mail.linkToClock) (fun s e => State.sendSeat_mail_linkToClock s e) x.2 { s with seat := x.1 }
@[simp] theorem State.withSeat_mail_segments (s : State) (x : SeatUnit × List SeatEvent) : (s.withSeat x).mail.segments = s.mail.segments :=
  foldl_keeps State.sendSeat (fun s => s.mail.segments) (fun s e => State.sendSeat_mail_segments s e) x.2 { s with seat := x.1 }
@[simp] theorem State.withSeat_mail_linkToMemory (s : State) (x : SeatUnit × List SeatEvent) : (s.withSeat x).mail.linkToMemory = s.mail.linkToMemory :=
  foldl_keeps State.sendSeat (fun s => s.mail.linkToMemory) (fun s e => State.sendSeat_mail_linkToMemory s e) x.2 { s with seat := x.1 }
@[simp] theorem State.withSeat_mail_clockToSchedule (s : State) (x : SeatUnit × List SeatEvent) : (s.withSeat x).mail.clockToSchedule = s.mail.clockToSchedule :=
  foldl_keeps State.sendSeat (fun s => s.mail.clockToSchedule) (fun s e => State.sendSeat_mail_clockToSchedule s e) x.2 { s with seat := x.1 }
@[simp] theorem State.withSeat_mail_clockToBuilder (s : State) (x : SeatUnit × List SeatEvent) : (s.withSeat x).mail.clockToBuilder = s.mail.clockToBuilder :=
  foldl_keeps State.sendSeat (fun s => s.mail.clockToBuilder) (fun s e => State.sendSeat_mail_clockToBuilder s e) x.2 { s with seat := x.1 }
@[simp] theorem State.withSeat_mail_ticksToRotation (s : State) (x : SeatUnit × List SeatEvent) : (s.withSeat x).mail.ticksToRotation = s.mail.ticksToRotation :=
  foldl_keeps State.sendSeat (fun s => s.mail.ticksToRotation) (fun s e => State.sendSeat_mail_ticksToRotation s e) x.2 { s with seat := x.1 }
@[simp] theorem State.withSeat_mail_ticksToOutput (s : State) (x : SeatUnit × List SeatEvent) : (s.withSeat x).mail.ticksToOutput = s.mail.ticksToOutput :=
  foldl_keeps State.sendSeat (fun s => s.mail.ticksToOutput) (fun s e => State.sendSeat_mail_ticksToOutput s e) x.2 { s with seat := x.1 }
@[simp] theorem State.withSeat_mail_cuesToComposer (s : State) (x : SeatUnit × List SeatEvent) : (s.withSeat x).mail.cuesToComposer = s.mail.cuesToComposer :=
  foldl_keeps State.sendSeat (fun s => s.mail.cuesToComposer) (fun s e => State.sendSeat_mail_cuesToComposer s e) x.2 { s with seat := x.1 }
@[simp] theorem State.withSeat_mail_cuesToRotation (s : State) (x : SeatUnit × List SeatEvent) : (s.withSeat x).mail.cuesToRotation = s.mail.cuesToRotation :=
  foldl_keeps State.sendSeat (fun s => s.mail.cuesToRotation) (fun s e => State.sendSeat_mail_cuesToRotation s e) x.2 { s with seat := x.1 }
@[simp] theorem State.withSeat_mail_cuesToOutput (s : State) (x : SeatUnit × List SeatEvent) : (s.withSeat x).mail.cuesToOutput = s.mail.cuesToOutput :=
  foldl_keeps State.sendSeat (fun s => s.mail.cuesToOutput) (fun s e => State.sendSeat_mail_cuesToOutput s e) x.2 { s with seat := x.1 }
@[simp] theorem State.withSeat_mail_scheduleToBuilder (s : State) (x : SeatUnit × List SeatEvent) : (s.withSeat x).mail.scheduleToBuilder = s.mail.scheduleToBuilder :=
  foldl_keeps State.sendSeat (fun s => s.mail.scheduleToBuilder) (fun s e => State.sendSeat_mail_scheduleToBuilder s e) x.2 { s with seat := x.1 }
@[simp] theorem State.withSeat_mail_scheduleToSeat (s : State) (x : SeatUnit × List SeatEvent) : (s.withSeat x).mail.scheduleToSeat = s.mail.scheduleToSeat :=
  foldl_keeps State.sendSeat (fun s => s.mail.scheduleToSeat) (fun s e => State.sendSeat_mail_scheduleToSeat s e) x.2 { s with seat := x.1 }
@[simp] theorem State.withSeat_mail_scheduleToNotice (s : State) (x : SeatUnit × List SeatEvent) : (s.withSeat x).mail.scheduleToNotice = s.mail.scheduleToNotice :=
  foldl_keeps State.sendSeat (fun s => s.mail.scheduleToNotice) (fun s e => State.sendSeat_mail_scheduleToNotice s e) x.2 { s with seat := x.1 }
@[simp] theorem State.withSeat_mail_outputToComposer (s : State) (x : SeatUnit × List SeatEvent) : (s.withSeat x).mail.outputToComposer = s.mail.outputToComposer :=
  foldl_keeps State.sendSeat (fun s => s.mail.outputToComposer) (fun s e => State.sendSeat_mail_outputToComposer s e) x.2 { s with seat := x.1 }
@[simp] theorem State.withSeat_mail_composerToMemory (s : State) (x : SeatUnit × List SeatEvent) : (s.withSeat x).mail.composerToMemory = s.mail.composerToMemory :=
  foldl_keeps State.sendSeat (fun s => s.mail.composerToMemory) (fun s e => State.sendSeat_mail_composerToMemory s e) x.2 { s with seat := x.1 }
@[simp] theorem State.withSeat_mail_memoryToComposer (s : State) (x : SeatUnit × List SeatEvent) : (s.withSeat x).mail.memoryToComposer = s.mail.memoryToComposer :=
  foldl_keeps State.sendSeat (fun s => s.mail.memoryToComposer) (fun s e => State.sendSeat_mail_memoryToComposer s e) x.2 { s with seat := x.1 }
@[simp] theorem State.withSeat_mail_memoryToRender (s : State) (x : SeatUnit × List SeatEvent) : (s.withSeat x).mail.memoryToRender = s.mail.memoryToRender :=
  foldl_keeps State.sendSeat (fun s => s.mail.memoryToRender) (fun s e => State.sendSeat_mail_memoryToRender s e) x.2 { s with seat := x.1 }

/-! What the operations change -/

@[simp] theorem State.putPort_port_same (s : State) (p : Port) (x : PortState) : (s.putPort p x).port p = x := by
  cases p <;> rfl
theorem State.putPort_port_other (s : State) (p p' : Port) (x : PortState) (h : p' ≠ p) :
    (s.putPort p x).port p' = s.port p' := by
  cases p <;> cases p' <;> first | rfl | exact absurd rfl h
@[simp] theorem State.putHandoff_port (s : State) (u : Block) (p p' : Port) (q : List Packet) :
    (s.putHandoff u p q).port p' = s.port p' := by
  cases p' <;> rfl
@[simp] theorem State.putHandoff_handoffOf_same (s : State) (u : Block) (p : Port) (q : List Packet) :
    (s.putHandoff u p q).handoffOf u p = q := by
  cases p <;> simp [State.putHandoff, State.handoffOf, Machine.put, PerPort.put, PerPort.get]
@[simp] theorem State.putHandoff_hasRoom (s : State) (u : Block) (p p' : Port) (q : List Packet) :
    (s.putHandoff u p q).hasRoom p' = s.hasRoom p' := by
  cases p' <;> rfl
@[simp] theorem State.withSchedule_schedule (s : State) (x : ScheduleUnit × List ScheduleEvent) :
    (s.withSchedule x).schedule = x.1 := by
  simp [State.withSchedule]
@[simp] theorem State.withSeat_seat (s : State) (x : SeatUnit × List SeatEvent) : (s.withSeat x).seat = x.1 := by
  exact foldl_keeps State.sendSeat (fun s => s.seat) (fun s e => State.sendSeat_seat s e) x.2 { s with seat := x.1 }
@[simp] theorem State.withBuilder_builder (s : State) (x : BuilderUnit × List TileRequest) : (s.withBuilder x).builder = x.1 := rfl
@[simp] theorem State.withNotice_notice (s : State) (x : NoticeUnit × List TileRequest) : (s.withNotice x).notice = x.1 := rfl

end Sys2Proof.Machine
end

