-- ==== Sys2Proof/Laws/Take.lean ====
section
/-! SUPPORT. Taking a directive: what `State.take`, `State.takeAndAnswer` and `State.takeQuery` can do, said once. A command that
takes a directive either acts on it, answers it NOT_OWNER, or leaves everything as it is. -/

namespace Sys2Proof.Machine

open Sys2Proof

/-- R8: the three things that taking a directive can come to. -/
theorem State.take_cases {α : Type} (u : Block) (p : Port) (select : Directive → Option α) (act : Packet → α → State → State)
    (s : State) :
    s.take u p select act = s
      ∨ (∃ q d a, s.Takes u p q d (s.putHandoff u p (s.handoffOf u p).tail) ∧ select d = some a
          ∧ s.take u p select act = act q a (s.putHandoff u p (s.handoffOf u p).tail))
      ∨ ∃ q d a, (s.handoffOf u p).head? = some q ∧ q.directive = some d ∧ select d = some a ∧ s.mayTake p d = false
          ∧ s.take u p select act = (s.putHandoff u p (s.handoffOf u p).tail).answered p q .notOwner := by
  unfold State.take
  split
  · exact .inl rfl
  · rename_i q rest hq
    split
    · exact .inl rfl
    · rename_i d hd
      split
      · exact .inl rfl
      · rename_i a ha
        split
        · rename_i hr
          rw [Bool.and_eq_true] at hr
          split
          · rename_i hm
            exact .inr (.inl ⟨q, d, a, ⟨by simp [hq], hd, hr.1, hr.2, hm, rfl⟩, ha, by simp [hq]⟩)
          · rename_i hm
            exact .inr (.inr ⟨q, d, a, by simp [hq], hd, ha, by simpa using hm, by simp [hq]⟩)
        · exact .inl rfl

/-- R8: a directive that stands at the head and may be taken is acted on. -/
theorem State.take_of_takes {α : Type} {u : Block} {p : Port} {select : Directive → Option α}
    {act : Packet → α → State → State} {s t : State} {q : Packet} {d : Directive} {a : α} (h : s.Takes u p q d t)
    (ha : select d = some a) : s.take u p select act = act q a t := by
  obtain ⟨hq, hd, hr, hm, ho, rfl⟩ := h
  obtain ⟨rest, hq⟩ : ∃ rest, s.handoffOf u p = q :: rest := by
    cases hs : s.handoffOf u p with
    | nil => simp [hs] at hq
    | cons x rest => exact ⟨rest, by simpa [hs] using hq⟩
  simp [State.take, hq, hd, ha, hr, hm, ho]

/-- R8: the answer is issued in the same step. -/
theorem State.takeAndAnswer_of_takes {α : Type} {u : Block} {p : Port} {select : Directive → Option α}
    {act : α → State → State × Reply} {s t : State} {q : Packet} {d : Directive} {a : α} (h : s.Takes u p q d t)
    (ha : select d = some a) : s.takeAndAnswer u p select act = (act a t).1.issue p (q.answer (act a t).2) :=
  State.take_of_takes h ha

/-- R12: a QUERY that may be taken is answered from the record. -/
theorem State.takeQuery_of_takes {u : Block} {p : Port} {kind key : Nat} {record : Nat → State → Reply} {s t : State} {q : Packet}
    (h : s.Takes u p q (.query kind key) t) :
    s.takeQuery u p kind record = t.issue p (q.answer ((record key t).limited p)) :=
  State.takeAndAnswer_of_takes h (by simp [Directive.queryKey])

/-- R9: a directive from a port that does not own its group is answered NOT_OWNER. -/
theorem State.take_of_notOwner {α : Type} {u : Block} {p : Port} {select : Directive → Option α}
    {act : Packet → α → State → State} {s : State} {q : Packet} {rest : List Packet} {d : Directive} {a : α}
    (hq : s.handoffOf u p = q :: rest) (hd : q.directive = some d) (ha : select d = some a) (hr : s.ready u = true)
    (hm : s.hasRoom p = true) (ho : s.mayTake p d = false) :
    s.take u p select act = (s.putHandoff u p rest).answered p q .notOwner := by
  simp [State.take, hq, hd, ha, hr, hm, ho]

/-- What the action keeps and what moving packets keeps, taking a directive keeps. -/
theorem State.take_keeps {α β : Type} (g : State → β) {u : Block} {p : Port} {select : Directive → Option α}
    {act : Packet → α → State → State} (s : State)
    (hput : g (s.putHandoff u p (s.handoffOf u p).tail) = g s)
    (hissue : ∀ t a, g (State.issue t p a) = g t)
    (hact : ∀ q a, g (act q a (s.putHandoff u p (s.handoffOf u p).tail)) = g (s.putHandoff u p (s.handoffOf u p).tail)) :
    g (s.take u p select act) = g s := by
  obtain h | ⟨q, d, a, -, -, h⟩ | ⟨q, d, a, -, -, -, -, h⟩ := State.take_cases u p select act s
  · rw [h]
  · rw [h, hact, hput]
  · rw [h, hissue, hput]

/-- What the action keeps and what moving packets keeps, taking and answering a directive keeps. -/
theorem State.takeAndAnswer_keeps {α β : Type} (g : State → β) {u : Block} {p : Port} {select : Directive → Option α}
    {act : α → State → State × Reply} (s : State)
    (hput : g (s.putHandoff u p (s.handoffOf u p).tail) = g s)
    (hissue : ∀ t a, g (State.issue t p a) = g t)
    (hact : ∀ a, g (act a (s.putHandoff u p (s.handoffOf u p).tail)).1 = g (s.putHandoff u p (s.handoffOf u p).tail)) :
    g (s.takeAndAnswer u p select act) = g s :=
  State.take_keeps g s hput hissue fun q a => by rw [hissue, hact]

/-- A QUERY keeps all that moving packets keeps (R12: "QUERY changes nothing"). -/
theorem State.takeQuery_keeps {β : Type} (g : State → β) {u : Block} {p : Port} {kind : Nat} {record : Nat → State → Reply}
    (s : State) (hput : g (s.putHandoff u p (s.handoffOf u p).tail) = g s) (hissue : ∀ t a, g (State.issue t p a) = g t) :
    g (s.takeQuery u p kind record) = g s :=
  State.takeAndAnswer_keeps g s hput hissue fun _ => rfl

end Sys2Proof.Machine
end

