-- ==== Sys2Proof/Laws/Directives.lean ====
section
/-! SUPPORT. What each directive's command does when its directive may be taken: one lemma per command, so that no proof unfolds
the taking (R8). -/

namespace Sys2Proof.Machine

open Sys2Proof

theorem exec_grant {s t : State} {p : Port} {q : Packet} {group owner : Nat}
    (h : s.Takes .link p q (.grant group owner) t) :
    exec (.grant p) s = .next ((grantOwner group owner t).1.issue p (q.answer (grantOwner group owner t).2)) :=
  congrArg Host.Outcome.next (State.takeAndAnswer_of_takes (a := (group, owner)) h rfl)

theorem exec_setReports {s t : State} {p : Port} {q : Packet} {conditions : List Nat}
    (h : s.Takes .link p q (.setReports conditions) t) :
    exec (.setReports p) s = .next ((setReportEnables conditions t).1.issue p (q.answer (setReportEnables conditions t).2)) :=
  congrArg Host.Outcome.next (State.takeAndAnswer_of_takes (a := (conditions)) h rfl)

theorem exec_acknowledge {s t : State} {p : Port} {q : Packet} {conditions : List Nat}
    (h : s.Takes .link p q (.acknowledge conditions) t) :
    exec (.acknowledge p) s = .next ((acknowledgeConditions conditions t).1.issue p (q.answer (acknowledgeConditions conditions t).2)) :=
  congrArg Host.Outcome.next (State.takeAndAnswer_of_takes (a := (conditions)) h rfl)

theorem exec_reset {s t : State} {p : Port} {q : Packet}
    (h : s.Takes .link p q .reset t) :
    exec (.reset p) s = .next ((done t.arrangeReset).1.issue p (q.answer (done t.arrangeReset).2)) :=
  congrArg Host.Outcome.next (State.takeAndAnswer_of_takes (a := ()) h rfl)

theorem exec_displayRestart {s t : State} {p : Port} {q : Packet}
    (h : s.Takes .link p q .displayRestart t) :
    exec (.displayRestart p) s = .next (t.arrangeRestart p q) :=
  congrArg Host.Outcome.next (State.take_of_takes (a := ()) h rfl)

theorem exec_queryLink {s t : State} {p : Port} {q : Packet} {key : Nat} (h : s.Takes .link p q (.query 19 key) t) :
    exec (.queryLink p) s = .next (t.issue p (q.answer ((⟨.done, linkRecord t⟩ : Reply).limited p))) :=
  congrArg Host.Outcome.next (State.takeQuery_of_takes h)

theorem exec_setClock {s t : State} {p : Port} {q : Packet} {time : TimeFields}
    (h : s.Takes .clock p q (.setClock time) t) :
    exec (.setClock p) s = .next ((setClock time t).1.issue p (q.answer (setClock time t).2)) :=
  congrArg Host.Outcome.next (State.takeAndAnswer_of_takes (a := (time)) h rfl)

theorem exec_setHouse {s t : State} {p : Port} {q : Packet} {hourFormat dayStart : Nat}
    (h : s.Takes .clock p q (.setHouse hourFormat dayStart) t) :
    exec (.setHouse p) s = .next ((setHouse hourFormat dayStart t).1.issue p (q.answer (setHouse hourFormat dayStart t).2)) :=
  congrArg Host.Outcome.next (State.takeAndAnswer_of_takes (a := (hourFormat, dayStart)) h rfl)

theorem exec_setCue {s t : State} {p : Port} {q : Packet} {cue : Nat} {fields : CueFields}
    (h : s.Takes .clock p q (.setCue cue fields) t) :
    exec (.setCue p) s = .next ((setCue cue fields t).1.issue p (q.answer (setCue cue fields t).2)) :=
  congrArg Host.Outcome.next (State.takeAndAnswer_of_takes (a := (cue, fields)) h rfl)

theorem exec_clearCue {s t : State} {p : Port} {q : Packet} {cue : Nat}
    (h : s.Takes .clock p q (.clearCue cue) t) :
    exec (.clearCue p) s = .next ((clearCue cue t).1.issue p (q.answer (clearCue cue t).2)) :=
  congrArg Host.Outcome.next (State.takeAndAnswer_of_takes (a := (cue)) h rfl)

theorem exec_queryClock {s t : State} {p : Port} {q : Packet} {key : Nat} (h : s.Takes .clock p q (.query 10 key) t) :
    exec (.queryClock p) s = .next (t.issue p (q.answer ((⟨.done, t.clock.record⟩ : Reply).limited p))) :=
  congrArg Host.Outcome.next (State.takeQuery_of_takes h)

theorem exec_queryCue {s t : State} {p : Port} {q : Packet} {key : Nat} (h : s.Takes .clock p q (.query 11 key) t) :
    exec (.queryCue p) s = .next (t.issue p (q.answer ((cueReply key t).limited p))) :=
  congrArg Host.Outcome.next (State.takeQuery_of_takes h)

theorem exec_loadTitle {s t : State} {p : Port} {q : Packet} {title : Nat} {text rating : List Byte} {runtime : Nat}
    (h : s.Takes .schedule p q (.loadTitle title text rating runtime) t) :
    exec (.loadTitle p) s = .next ((loadTitle title text rating runtime t).1.issue p (q.answer (loadTitle title text rating runtime t).2)) :=
  congrArg Host.Outcome.next (State.takeAndAnswer_of_takes (a := (title, text, rating, runtime)) h rfl)

theorem exec_setPhaseTimes {s t : State} {p : Port} {q : Packet} {settings : PhaseSettings}
    (h : s.Takes .schedule p q (.setPhaseTimes settings) t) :
    exec (.setPhaseTimes p) s = .next ((setPhaseTimes settings t).1.issue p (q.answer (setPhaseTimes settings t).2)) :=
  congrArg Host.Outcome.next (State.takeAndAnswer_of_takes (a := (settings)) h rfl)

theorem exec_loadScreening {s t : State} {p : Port} {q : Packet} {fields : ScreeningFields}
    (h : s.Takes .schedule p q (.loadScreening fields) t) :
    exec (.loadScreening p) s = .next ((loadScreening fields t).1.issue p (q.answer (loadScreening fields t).2)) :=
  congrArg Host.Outcome.next (State.takeAndAnswer_of_takes (a := (fields)) h rfl)

theorem exec_amendScreening {s t : State} {p : Port} {q : Packet} {screening : Nat} {delay capacity : Option Nat} {badges : Option (List Nat)} {note : Option (List Byte)}
    (h : s.Takes .schedule p q (.amendScreening screening delay capacity badges note) t) :
    exec (.amendScreening p) s = .next ((amendScreening screening ⟨delay, capacity, badges, note⟩ t).1.issue p (q.answer (amendScreening screening ⟨delay, capacity, badges, note⟩ t).2)) :=
  congrArg Host.Outcome.next (State.takeAndAnswer_of_takes (a := (screening, AmendFields.mk delay capacity badges note)) h rfl)

theorem exec_cancelScreening {s t : State} {p : Port} {q : Packet} {screening : Nat}
    (h : s.Takes .schedule p q (.cancelScreening screening) t) :
    exec (.cancelScreening p) s = .next ((cancelScreening screening t).1.issue p (q.answer (cancelScreening screening t).2)) :=
  congrArg Host.Outcome.next (State.takeAndAnswer_of_takes (a := (screening)) h rfl)

theorem exec_dropScreening {s t : State} {p : Port} {q : Packet} {screening : Nat}
    (h : s.Takes .schedule p q (.dropScreening screening) t) :
    exec (.dropScreening p) s = .next ((dropScreening screening t).1.issue p (q.answer (dropScreening screening t).2)) :=
  congrArg Host.Outcome.next (State.takeAndAnswer_of_takes (a := (screening)) h rfl)

theorem exec_queryTitle {s t : State} {p : Port} {q : Packet} {key : Nat} (h : s.Takes .schedule p q (.query 1 key) t) :
    exec (.queryTitle p) s = .next (t.issue p (q.answer ((titleReply key t).limited p))) :=
  congrArg Host.Outcome.next (State.takeQuery_of_takes h)

theorem exec_queryScreening {s t : State} {p : Port} {q : Packet} {key : Nat} (h : s.Takes .schedule p q (.query 2 key) t) :
    exec (.queryScreening p) s = .next (t.issue p (q.answer ((screeningReply key t).limited p))) :=
  congrArg Host.Outcome.next (State.takeQuery_of_takes h)

theorem exec_queryPhaseTimes {s t : State} {p : Port} {q : Packet} {key : Nat} (h : s.Takes .schedule p q (.query 3 key) t) :
    exec (.queryPhaseTimes p) s = .next (t.issue p (q.answer ((⟨.done, t.schedule.settings.record⟩ : Reply).limited p))) :=
  congrArg Host.Outcome.next (State.takeQuery_of_takes h)

theorem exec_sell {s t : State} {p : Port} {q : Packet} {screening n : Nat}
    (h : s.Takes .seat p q (.sell screening n) t) :
    exec (.sell p) s = .next ((sell screening n t).1.issue p (q.answer (sell screening n t).2)) :=
  congrArg Host.Outcome.next (State.takeAndAnswer_of_takes (a := (screening, n)) h rfl)

theorem exec_refund {s t : State} {p : Port} {q : Packet} {screening n : Nat}
    (h : s.Takes .seat p q (.refund screening n) t) :
    exec (.refund p) s = .next ((refund screening n t).1.issue p (q.answer (refund screening n t).2)) :=
  congrArg Host.Outcome.next (State.takeAndAnswer_of_takes (a := (screening, n)) h rfl)

theorem exec_setSold {s t : State} {p : Port} {q : Packet} {screening sold blocked : Nat}
    (h : s.Takes .seat p q (.setSold screening sold blocked) t) :
    exec (.setSold p) s = .next ((setSold screening sold blocked t).1.issue p (q.answer (setSold screening sold blocked t).2)) :=
  congrArg Host.Outcome.next (State.takeAndAnswer_of_takes (a := (screening, sold, blocked)) h rfl)

theorem exec_hold {s t : State} {p : Port} {q : Packet} {screening id seats minutes : Nat}
    (h : s.Takes .seat p q (.hold screening id seats minutes) t) :
    exec (.hold p) s = .next ((hold screening id seats minutes t).1.issue p (q.answer (hold screening id seats minutes t).2)) :=
  congrArg Host.Outcome.next (State.takeAndAnswer_of_takes (a := (screening, id, seats, minutes)) h rfl)

theorem exec_confirm {s t : State} {p : Port} {q : Packet} {id : Nat}
    (h : s.Takes .seat p q (.confirm id) t) :
    exec (.confirm p) s = .next ((confirm id t).1.issue p (q.answer (confirm id t).2)) :=
  congrArg Host.Outcome.next (State.takeAndAnswer_of_takes (a := (id)) h rfl)

theorem exec_release {s t : State} {p : Port} {q : Packet} {id : Nat}
    (h : s.Takes .seat p q (.release id) t) :
    exec (.release p) s = .next ((release id t).1.issue p (q.answer (release id t).2)) :=
  congrArg Host.Outcome.next (State.takeAndAnswer_of_takes (a := (id)) h rfl)

theorem exec_setBands {s t : State} {p : Port} {q : Packet} {settings : BandSettings}
    (h : s.Takes .seat p q (.setBands settings) t) :
    exec (.setBands p) s = .next ((setBands settings t).1.issue p (q.answer (setBands settings t).2)) :=
  congrArg Host.Outcome.next (State.takeAndAnswer_of_takes (a := (settings)) h rfl)

theorem exec_queryTally {s t : State} {p : Port} {q : Packet} {key : Nat} (h : s.Takes .seat p q (.query 4 key) t) :
    exec (.queryTally p) s = .next (t.issue p (q.answer ((tallyReply key t).limited p))) :=
  congrArg Host.Outcome.next (State.takeQuery_of_takes h)

theorem exec_queryHold {s t : State} {p : Port} {q : Packet} {key : Nat} (h : s.Takes .seat p q (.query 5 key) t) :
    exec (.queryHold p) s = .next (t.issue p (q.answer ((holdReply key t).limited p))) :=
  congrArg Host.Outcome.next (State.takeQuery_of_takes h)

theorem exec_queryBands {s t : State} {p : Port} {q : Packet} {key : Nat} (h : s.Takes .seat p q (.query 6 key) t) :
    exec (.queryBands p) s = .next (t.issue p (q.answer ((⟨.done, t.seat.bands.record⟩ : Reply).limited p))) :=
  congrArg Host.Outcome.next (State.takeQuery_of_takes h)

theorem exec_defineBoard {s t : State} {p : Port} {q : Packet} {board : Nat} {fields : BoardFields}
    (h : s.Takes .builder p q (.defineBoard board fields) t) :
    exec (.defineBoard p) s = .next ((defineBoard board fields t).1.issue p (q.answer (defineBoard board fields t).2)) :=
  congrArg Host.Outcome.next (State.takeAndAnswer_of_takes (a := (board, fields)) h rfl)

theorem exec_clearBoard {s t : State} {p : Port} {q : Packet} {board : Nat}
    (h : s.Takes .builder p q (.clearBoard board) t) :
    exec (.clearBoard p) s = .next ((clearBoard board t).1.issue p (q.answer (clearBoard board t).2)) :=
  congrArg Host.Outcome.next (State.takeAndAnswer_of_takes (a := (board)) h rfl)

theorem exec_queryBoard {s t : State} {p : Port} {q : Packet} {key : Nat} (h : s.Takes .builder p q (.query 7 key) t) :
    exec (.queryBoard p) s = .next (t.issue p (q.answer ((boardReply key t).limited p))) :=
  congrArg Host.Outcome.next (State.takeQuery_of_takes h)

theorem exec_postNotice {s t : State} {p : Port} {q : Packet} {fields : NoticeFields}
    (h : s.Takes .notice p q (.postNotice fields) t) :
    exec (.postNotice p) s = .next ((postNotice fields t).1.issue p (q.answer (postNotice fields t).2)) :=
  congrArg Host.Outcome.next (State.takeAndAnswer_of_takes (a := (fields)) h rfl)

theorem exec_withdrawNotice {s t : State} {p : Port} {q : Packet} {notice : Nat}
    (h : s.Takes .notice p q (.withdrawNotice notice) t) :
    exec (.withdrawNotice p) s = .next ((withdrawNotice notice t).1.issue p (q.answer (withdrawNotice notice t).2)) :=
  congrArg Host.Outcome.next (State.takeAndAnswer_of_takes (a := (notice)) h rfl)

theorem exec_setNoticeStyle {s t : State} {p : Port} {q : Packet} {style : NoticeStyle}
    (h : s.Takes .notice p q (.setNoticeStyle style) t) :
    exec (.setNoticeStyle p) s = .next ((setNoticeStyle style t).1.issue p (q.answer (setNoticeStyle style t).2)) :=
  congrArg Host.Outcome.next (State.takeAndAnswer_of_takes (a := (style)) h rfl)

theorem exec_queryNotice {s t : State} {p : Port} {q : Packet} {key : Nat} (h : s.Takes .notice p q (.query 8 key) t) :
    exec (.queryNotice p) s = .next (t.issue p (q.answer ((noticeReply key t).limited p))) :=
  congrArg Host.Outcome.next (State.takeQuery_of_takes h)

theorem exec_queryUrgentList {s t : State} {p : Port} {q : Packet} {key : Nat} (h : s.Takes .notice p q (.query 9 key) t) :
    exec (.queryUrgentList p) s = .next (t.issue p (q.answer ((urgentReply key t).limited p))) :=
  congrArg Host.Outcome.next (State.takeQuery_of_takes h)

theorem exec_setCarousel {s t : State} {p : Port} {q : Packet} {carousel mode : Nat} {primary secondary : List Coded}
    (h : s.Takes .rotation p q (.setCarousel carousel mode primary secondary) t) :
    exec (.setCarousel p) s = .next ((setCarousel carousel mode primary secondary t).1.issue p (q.answer (setCarousel carousel mode primary secondary t).2)) :=
  congrArg Host.Outcome.next (State.takeAndAnswer_of_takes (a := (carousel, mode, primary, secondary)) h rfl)

theorem exec_setPeriods {s t : State} {p : Port} {q : Packet} {carousel : Nat} {primaryMark primarySpace secondaryMark secondarySpace : Option Nat}
    (h : s.Takes .rotation p q (.setPeriods carousel primaryMark primarySpace secondaryMark secondarySpace) t) :
    exec (.setPeriods p) s = .next ((setPeriods carousel primaryMark primarySpace secondaryMark secondarySpace t).1.issue p (q.answer (setPeriods carousel primaryMark primarySpace secondaryMark secondarySpace t).2)) :=
  congrArg Host.Outcome.next (State.takeAndAnswer_of_takes (a := (carousel, primaryMark, primarySpace, secondaryMark, secondarySpace)) h rfl)

theorem exec_setQuiet {s t : State} {p : Port} {q : Packet} {carousels : List Nat} {value : Nat}
    (h : s.Takes .rotation p q (.setQuiet carousels value) t) :
    exec (.setQuiet p) s = .next ((setQuiet carousels value t).1.issue p (q.answer (setQuiet carousels value t).2)) :=
  congrArg Host.Outcome.next (State.takeAndAnswer_of_takes (a := (carousels, value)) h rfl)

theorem exec_carouselOn {s t : State} {p : Port} {q : Packet} {carousels : List Nat}
    (h : s.Takes .rotation p q (.carouselOn carousels) t) :
    exec (.carouselOn p) s = .next ((carouselOn carousels t).1.issue p (q.answer (carouselOn carousels t).2)) :=
  congrArg Host.Outcome.next (State.takeAndAnswer_of_takes (a := (carousels)) h rfl)

theorem exec_carouselOff {s t : State} {p : Port} {q : Packet} {carousels : List Nat}
    (h : s.Takes .rotation p q (.carouselOff carousels) t) :
    exec (.carouselOff p) s = .next ((carouselOff carousels t).1.issue p (q.answer (carouselOff carousels t).2)) :=
  congrArg Host.Outcome.next (State.takeAndAnswer_of_takes (a := (carousels)) h rfl)

theorem exec_setSyncGroup {s t : State} {p : Port} {q : Packet} {group leader : Nat} {members : List Nat}
    (h : s.Takes .rotation p q (.setSyncGroup group leader members) t) :
    exec (.setSyncGroup p) s = .next ((setSyncGroup group leader members t).1.issue p (q.answer (setSyncGroup group leader members t).2)) :=
  congrArg Host.Outcome.next (State.takeAndAnswer_of_takes (a := (group, leader, members)) h rfl)

theorem exec_queryCarousel {s t : State} {p : Port} {q : Packet} {key : Nat} (h : s.Takes .rotation p q (.query 12 key) t) :
    exec (.queryCarousel p) s = .next (t.issue p (q.answer ((carouselReply key t).limited p))) :=
  congrArg Host.Outcome.next (State.takeQuery_of_takes h)

theorem exec_querySyncGroup {s t : State} {p : Port} {q : Packet} {key : Nat} (h : s.Takes .rotation p q (.query 13 key) t) :
    exec (.querySyncGroup p) s = .next (t.issue p (q.answer ((syncGroupReply key t).limited p))) :=
  congrArg Host.Outcome.next (State.takeQuery_of_takes h)

theorem exec_loadImage {s t : State} {p : Port} {q : Packet} {tile width height total : Nat}
    (h : s.Takes .render p q (.loadImage tile width height total) t) :
    exec (.loadImage p) s = .next ((loadImage tile width height total t).1.issue p (q.answer (loadImage tile width height total t).2)) :=
  congrArg Host.Outcome.next (State.takeAndAnswer_of_takes (a := (tile, width, height, total)) h rfl)

theorem exec_imagePiece {s t : State} {p : Port} {q : Packet} {tile offset : Nat} {piece : List Byte}
    (h : s.Takes .render p q (.imagePiece tile offset piece) t) :
    exec (.imagePiece p) s = .next (takePiece p q tile offset piece t) :=
  congrArg Host.Outcome.next (State.take_of_takes (a := (tile, offset, piece)) h rfl)

theorem exec_loadTextTile {s t : State} {p : Port} {q : Packet} {tile width height glyphSet : Nat} {text : List Byte}
    (h : s.Takes .render p q (.loadTextTile tile width height glyphSet text) t) :
    exec (.loadTextTile p) s = .next ((loadTextTile tile width height glyphSet text t).1.issue p (q.answer (loadTextTile tile width height glyphSet text t).2)) :=
  congrArg Host.Outcome.next (State.takeAndAnswer_of_takes (a := (tile, width, height, glyphSet, text)) h rfl)

theorem exec_clearTile {s t : State} {p : Port} {q : Packet} {tile : Nat}
    (h : s.Takes .render p q (.clearTile tile) t) :
    exec (.clearTile p) s = .next ((clearTile tile t).1.issue p (q.answer (clearTile tile t).2)) :=
  congrArg Host.Outcome.next (State.takeAndAnswer_of_takes (a := (tile)) h rfl)

theorem exec_queryTile {s t : State} {p : Port} {q : Packet} {key : Nat} (h : s.Takes .render p q (.query 14 key) t) :
    exec (.queryTile p) s = .next (t.issue p (q.answer ((tileReply key t).limited p))) :=
  congrArg Host.Outcome.next (State.takeQuery_of_takes h)

theorem exec_loadLayout {s t : State} {p : Port} {q : Packet} {layout : Nat} {fields : LayoutFields}
    (h : s.Takes .composer p q (.loadLayout layout fields) t) :
    exec (.loadLayout p) s = .next ((loadLayout layout fields t).1.issue p (q.answer (loadLayout layout fields t).2)) :=
  congrArg Host.Outcome.next (State.takeAndAnswer_of_takes (a := (layout, fields)) h rfl)

theorem exec_applyLayout {s t : State} {p : Port} {q : Packet} {layout : Nat} {panels : List Nat}
    (h : s.Takes .composer p q (.applyLayout layout panels) t) :
    exec (.applyLayout p) s = .next ((applyLayout layout panels t).1.issue p (q.answer (applyLayout layout panels t).2)) :=
  congrArg Host.Outcome.next (State.takeAndAnswer_of_takes (a := (layout, panels)) h rfl)

theorem exec_setOverride {s t : State} {p : Port} {q : Packet} {layout : Nat} {panels : List Nat}
    (h : s.Takes .composer p q (.setOverride layout panels) t) :
    exec (.setOverride p) s = .next ((setOverride layout panels t).1.issue p (q.answer (setOverride layout panels t).2)) :=
  congrArg Host.Outcome.next (State.takeAndAnswer_of_takes (a := (layout, panels)) h rfl)

theorem exec_queryLayout {s t : State} {p : Port} {q : Packet} {key : Nat} (h : s.Takes .composer p q (.query 15 key) t) :
    exec (.queryLayout p) s = .next (t.issue p (q.answer ((layoutReply key t).limited p))) :=
  congrArg Host.Outcome.next (State.takeQuery_of_takes h)

theorem exec_queryPanel {s t : State} {p : Port} {q : Packet} {key : Nat} (h : s.Takes .composer p q (.query 16 key) t) :
    exec (.queryPanel p) s = .next (t.issue p (q.answer ((panelReply key t).limited p))) :=
  congrArg Host.Outcome.next (State.takeQuery_of_takes h)

theorem exec_queryStream {s t : State} {p : Port} {q : Packet} {key : Nat} (h : s.Takes .memory p q (.query 18 key) t) :
    exec (.queryStream p) s = .next (t.issue p (q.answer ((streamReply key t).limited p))) :=
  congrArg Host.Outcome.next (State.takeQuery_of_takes h)

theorem exec_panelStandby {s t : State} {p : Port} {q : Packet} {panels : List Nat}
    (h : s.Takes .output p q (.panelStandby panels) t) :
    exec (.panelStandby p) s = .next ((panelStandby panels t).1.issue p (q.answer (panelStandby panels t).2)) :=
  congrArg Host.Outcome.next (State.takeAndAnswer_of_takes (a := (panels)) h rfl)

theorem exec_wake {s t : State} {p : Port} {q : Packet} {panels : List Nat}
    (h : s.Takes .output p q (.wake panels) t) :
    exec (.wake p) s = .next ((wakePanels panels t).1.issue p (q.answer (wakePanels panels t).2)) :=
  congrArg Host.Outcome.next (State.takeAndAnswer_of_takes (a := (panels)) h rfl)

theorem exec_setBrightness {s t : State} {p : Port} {q : Packet} {level : Nat} {panels : List Nat}
    (h : s.Takes .output p q (.setBrightness level panels) t) :
    exec (.setBrightness p) s = .next ((setBrightness level panels t).1.issue p (q.answer (setBrightness level panels t).2)) :=
  congrArg Host.Outcome.next (State.takeAndAnswer_of_takes (a := (level, panels)) h rfl)

theorem exec_setPanel {s t : State} {p : Port} {q : Packet} {panel rate orientation : Nat}
    (h : s.Takes .output p q (.setPanel panel rate orientation) t) :
    exec (.setPanel p) s = .next ((setPanel panel rate orientation t).1.issue p (q.answer (setPanel panel rate orientation t).2)) :=
  congrArg Host.Outcome.next (State.takeAndAnswer_of_takes (a := (panel, rate, orientation)) h rfl)

theorem exec_queryOutput {s t : State} {p : Port} {q : Packet} {key : Nat} (h : s.Takes .output p q (.query 17 key) t) :
    exec (.queryOutput p) s = .next (t.issue p (q.answer ((outputReply key t).limited p))) :=
  congrArg Host.Outcome.next (State.takeQuery_of_takes h)

end Sys2Proof.Machine
end

