-- ==== Sys2Proof/Laws/Ops.lean ====
section
/-! SUPPORT. What each shared operation does, said once: the record it writes, the queue it lengthens, the flag it sets, and the
neighbours of that record, queue or flag that it leaves. What an operation leaves of the rest of the state is in Laws/State.lean. -/

namespace Sys2Proof.Machine

open Sys2Proof

/-! ### Tables of records -/

theorem put_getElem {α : Type} {n : Nat} (v : Vector α n) (i k : Fin n) (a : α) :
    (put v i a)[k] = if k = i then a else v[k] := by
  simp [put, Vector.getElem_set, Fin.ext_iff, eq_comm]

@[simp] theorem put_getElem_self {α : Type} {n : Nat} (v : Vector α n) (i : Fin n) (a : α) : (put v i a)[i.val] = a := by
  simp [put]

theorem put_getElem_of_ne {α : Type} {n : Nat} (v : Vector α n) {i k : Fin n} (a : α) (h : k ≠ i) : (put v i a)[k] = v[k] := by
  rw [put_getElem, if_neg h]

/-- The record at the number is changed by the function; every other record stays. -/
theorem modifyAt_getElem {α : Type} {n : Nat} (v : Vector α n) (i : Nat) (f : α → α) (k : Nat) (hk : k < n) :
    (modifyAt v i f)[k] = if k = i then f v[k] else v[k] := by
  unfold modifyAt
  split
  · by_cases h : k = i
    · subst h; simp
    · simp [h, Ne.symm h]
  · have : k ≠ i := by omega
    simp [this]

theorem modifyAt_of_le {α : Type} {n i : Nat} (v : Vector α n) (f : α → α) (h : n ≤ i) : modifyAt v i f = v := by
  simp [modifyAt, Nat.not_lt.mpr h]

@[simp] theorem mapAll_getElem {α β : Type} {n : Nat} (f : α → β) (v : Vector α n) (k : Nat) (hk : k < n) :
    (mapAll f v)[k] = f v[k] := by
  simp [mapAll]

@[simp] theorem PerPort.get_put_self {α : Type} (x : PerPort α) (p : Port) (a : α) : (x.put p a).get p = a := by
  cases p <;> rfl

theorem PerPort.get_put_of_ne {α : Type} (x : PerPort α) {p r : Port} (a : α) (h : r ≠ p) : (x.put p a).get r = x.get r := by
  cases p <;> cases r <;> first | rfl | exact absurd rfl h

theorem Block.index_injective {a b : Block} (h : a.index = b.index) : a = b := by
  cases a <;> cases b <;> first | rfl | exact absurd h (by decide)

theorem Condition.index_injective {a b : Condition} (h : a.index = b.index) : a = b := by
  cases a <;> cases b <;> first | rfl | exact absurd h (by decide)

/-! ### Numbers held at their highest value -/

theorem saturate16_le (n : Nat) : saturate16 n ≤ maxCount16 := Nat.min_le_right ..

theorem saturate16_of_lt {n : Nat} (h : n < maxCount16) : saturate16 n = n + 1 := Nat.min_eq_left h

theorem addTime_le (t d : Nat) : addTime t d ≤ maxCount32 := Nat.min_le_right ..

theorem addTime_of_le {t d : Nat} (h : t + d ≤ maxCount32) : addTime t d = t + d := Nat.min_eq_left h

theorem validSet_iff (xs : List Nat) : validSet xs = true ↔ xs ≠ [] ∧ (∀ x ∈ xs, x ≤ 11) ∧ xs.Nodup := by
  simp [validSet, hasRepeat, and_assoc]

/-! ### A port's queues -/

@[simp] theorem State.port_putPort_self (s : State) (p : Port) (x : PortState) : (s.putPort p x).port p = x :=
  PerPort.get_put_self ..

theorem State.port_putPort_of_ne (s : State) {p r : Port} (x : PortState) (h : r ≠ p) : (s.putPort p x).port r = s.port r :=
  PerPort.get_put_of_ne _ x h

@[simp] theorem State.handoffOf_putHandoff_self (s : State) (u : Block) (p : Port) (q : List Packet) :
    (s.putHandoff u p q).handoffOf u p = q :=
  (congrArg (PerPort.get · p) (put_getElem_self ..)).trans (PerPort.get_put_self ..)

/-- Only the queue of that unit and that port is replaced. -/
theorem State.handoffOf_putHandoff_of_ne (s : State) {u v : Block} {p r : Port} (q : List Packet) (h : v ≠ u ∨ r ≠ p) :
    (s.putHandoff u p q).handoffOf v r = s.handoffOf v r := by
  by_cases hv : v = u
  · subst hv
    exact (congrArg (PerPort.get · r) (put_getElem_self ..)).trans (PerPort.get_put_of_ne _ _ (h.resolve_left fun hn => hn rfl))
  · exact congrArg (PerPort.get · r) (put_getElem_of_ne _ _ fun hi => hv (Block.index_injective hi))

/-- R10: an issued answer stands at the tail, and no place is reserved or given back. -/
@[simp] theorem State.port_issue_self (s : State) (p : Port) (a : Answer) :
    (s.issue p a).port p
      = { s.port p with answers := { (s.port p).answers with answers := (s.port p).answers.answers ++ [a] } } :=
  State.port_putPort_self ..

theorem State.port_issue_of_ne (s : State) {p r : Port} (a : Answer) (h : r ≠ p) : (s.issue p a).port r = s.port r :=
  State.port_putPort_of_ne _ _ h

/-- R8: a reserved place is counted, and no answer is issued. -/
@[simp] theorem State.port_reserve_self (s : State) (p : Port) :
    (s.reserve p).port p
      = { s.port p with answers := { (s.port p).answers with reserved := (s.port p).answers.reserved + 1 } } :=
  State.port_putPort_self ..

theorem State.port_reserve_of_ne (s : State) {p r : Port} (h : r ≠ p) : (s.reserve p).port r = s.port r :=
  State.port_putPort_of_ne _ _ h

/-- R8: the answer of a reserved place stands at the tail, and the place is no longer reserved. -/
@[simp] theorem State.port_issueReserved_self (s : State) (p : Port) (a : Answer) :
    (s.issueReserved p a).port p
      = { s.port p with answers := ⟨(s.port p).answers.answers ++ [a], (s.port p).answers.reserved - 1⟩ } :=
  State.port_putPort_self ..

theorem State.port_issueReserved_of_ne (s : State) {p r : Port} (a : Answer) (h : r ≠ p) :
    (s.issueReserved p a).port r = s.port r :=
  State.port_putPort_of_ne _ _ h

/-- R8, R10: a port with room has room for the answer: the queue never holds or promises more than 16. -/
theorem State.hasRoom_iff (s : State) (p : Port) :
    s.hasRoom p = true ↔ (s.port p).answers.answers.length + (s.port p).answers.reserved < 16 := by
  simp [State.hasRoom]

/-! ### Condition flags (R13 to R16) -/

/-- R13: after a raise the flag is set. -/
theorem LinkUnit.raise_flag_self (l : LinkUnit) (c : Condition) : (l.raise c).flags[c.index] = true := by
  unfold LinkUnit.raise
  split
  · assumption
  · exact put_getElem_self ..

theorem LinkUnit.raise_flag_of_ne (l : LinkUnit) {c d : Condition} (h : d ≠ c) :
    (l.raise c).flags[d.index] = l.flags[d.index] := by
  unfold LinkUnit.raise
  split
  · rfl
  · exact put_getElem_of_ne _ _ fun hi => h (Condition.index_injective hi)

/-- R13: a raise of a flag that is set does nothing. -/
theorem LinkUnit.raise_of_set (l : LinkUnit) (c : Condition) (h : l.flags[c.index] = true) : l.raise c = l := by
  unfold LinkUnit.raise; rw [if_pos h]

/-- R13: the report of a condition that rises becomes due only if it is enabled. -/
theorem LinkUnit.raise_due_self (l : LinkUnit) (c : Condition) (h : l.flags[c.index] = false) :
    (l.raise c).due[c.index] = (l.due[c.index] || l.enables[c.index]) := by
  have hf : ¬ l.flags[c.index] = true := by rw [h]; exact Bool.false_ne_true
  unfold LinkUnit.raise
  rw [if_neg hf]
  by_cases he : l.enables[c.index] = true
  · simp only [he, if_true, Bool.or_true]; exact put_getElem_self ..
  · rw [Bool.not_eq_true] at he
    simp only [he, Bool.false_eq_true, if_false, Bool.or_false]

theorem LinkUnit.raise_due_of_ne (l : LinkUnit) {c d : Condition} (h : d ≠ c) : (l.raise c).due[d.index] = l.due[d.index] := by
  unfold LinkUnit.raise
  split
  · rfl
  · dsimp only
    split
    · exact put_getElem_of_ne _ _ fun hi => h (Condition.index_injective hi)
    · rfl

/-- R13: an end clears the flag of its condition and leaves every due mark. -/
@[simp] theorem LinkUnit.endCondition_flag_self (l : LinkUnit) (c : Condition) :
    (l.endCondition c).flags[c.index.val] = false := put_getElem_self ..

theorem LinkUnit.endCondition_flag_of_ne (l : LinkUnit) {c d : Condition} (h : d ≠ c) :
    (l.endCondition c).flags[d.index] = l.flags[d.index] :=
  put_getElem_of_ne _ _ fun hi => h (Condition.index_injective hi)

/-! ### The DONE of DISPLAY RESTART (R21) -/

/-- An end leaves the link unit as it is where no DISPLAY RESTART waits. -/
theorem State.countTowardRestart_of_none {s : State} (b : Block) (c : Condition) (h : s.link.restartPending = none) :
    s.countTowardRestart b c = s := by
  unfold State.countTowardRestart; rw [h]

/-- An end of another block, and an end but that of MEMORY_FAULT and then of STREAM_LOST, leaves a DISPLAY RESTART waiting. -/
theorem State.countTowardRestart_of_other {s : State} {b : Block} {c : Condition} {r : RestartPending}
    (h : s.link.restartPending = some r) (hc : b ≠ .memory ∨ (c ≠ .memoryFault ∧ ¬(c = .streamLost ∧ r.faultEnded = true))) :
    s.countTowardRestart b c = s := by
  unfold State.countTowardRestart; rw [h]; dsimp only
  obtain hb | ⟨hf, hs⟩ := hc
  · rw [if_pos hb]
  · rw [if_neg hf, if_neg hs, ite_self]

theorem State.countTowardRestart_fault {s : State} {r : RestartPending} (h : s.link.restartPending = some r) :
    s.countTowardRestart .memory .memoryFault
      = { s with link := { s.link with restartPending := some { r with faultEnded := true } } } := by
  unfold State.countTowardRestart; rw [h]; rfl

/-- The second of the two ends brings DONE. -/
theorem State.countTowardRestart_stream {s : State} {r : RestartPending} (h : s.link.restartPending = some r)
    (hf : r.faultEnded = true) :
    s.countTowardRestart .memory .streamLost
      = ({ s with link := { s.link with restartPending := none } } : State).issueReserved r.port ⟨r.tag, r.code, .done, []⟩ := by
  unfold State.countTowardRestart; rw [h]; simp [hf]

/-! ### Events from block to block -/

@[simp] theorem State.sendCondition_self (s : State) (b : Block) (e : ConditionEvent) :
    (s.sendCondition b e).mail.conditions[b.index.val] = s.mail.conditions[b.index.val] ++ [e] := put_getElem_self ..

theorem State.sendCondition_of_ne (s : State) {b c : Block} (e : ConditionEvent) (h : c ≠ b) :
    (s.sendCondition b e).mail.conditions[c.index] = s.mail.conditions[c.index] :=
  put_getElem_of_ne _ _ fun hi => h (Block.index_injective hi)

@[simp] theorem State.requestTiles_self (s : State) (b : Block) (rs : List TileRequest) :
    (s.requestTiles b rs).mail.tiles[b.index.val] = s.mail.tiles[b.index.val] ++ rs := put_getElem_self ..

theorem State.requestTiles_of_ne (s : State) {b c : Block} (rs : List TileRequest) (h : c ≠ b) :
    (s.requestTiles b rs).mail.tiles[c.index] = s.mail.tiles[c.index] :=
  put_getElem_of_ne _ _ fun hi => h (Block.index_injective hi)

@[simp] theorem State.sendRestart_self (s : State) (b : Block) :
    (s.sendRestart b).mail.restarts[b.index.val] = s.mail.restarts[b.index.val] + 1 := put_getElem_self ..

theorem State.sendRestart_of_ne (s : State) {b c : Block} (h : c ≠ b) :
    (s.sendRestart b).mail.restarts[c.index] = s.mail.restarts[c.index] :=
  put_getElem_of_ne _ _ fun hi => h (Block.index_injective hi)

@[simp] theorem State.dropRestart_self (s : State) (b : Block) :
    (s.dropRestart b).mail.restarts[b.index.val] = s.mail.restarts[b.index.val] - 1 := put_getElem_self ..

theorem State.dropRestart_of_ne (s : State) {b c : Block} (h : c ≠ b) :
    (s.dropRestart b).mail.restarts[c.index] = s.mail.restarts[c.index] :=
  put_getElem_of_ne _ _ fun hi => h (Block.index_injective hi)

@[simp] theorem State.sendSecond_self (s : State) (b : Block) (t : Nat) :
    (s.sendSecond b t).mail.seconds[b.index.val] = s.mail.seconds[b.index.val] ++ [t] := put_getElem_self ..

theorem State.sendSecond_of_ne (s : State) {b c : Block} (t : Nat) (h : c ≠ b) :
    (s.sendSecond b t).mail.seconds[c.index] = s.mail.seconds[c.index] :=
  put_getElem_of_ne _ _ fun hi => h (Block.index_injective hi)

@[simp] theorem State.dropSecond_self (s : State) (b : Block) :
    (s.dropSecond b).mail.seconds[b.index.val] = s.mail.seconds[b.index.val].tail := put_getElem_self ..

theorem State.dropSecond_of_ne (s : State) {b c : Block} (h : c ≠ b) :
    (s.dropSecond b).mail.seconds[c.index] = s.mail.seconds[c.index] :=
  put_getElem_of_ne _ _ fun hi => h (Block.index_injective hi)

/-! ### Memory channels (R173, R174) -/

@[simp] theorem MemoryUnit.channel_putChannel_self (m : MemoryUnit) (name : ChannelName) (c : Channel) :
    (m.putChannel name c).channel name = c := by
  cases name <;> rfl

theorem MemoryUnit.channel_putChannel_of_ne (m : MemoryUnit) {name other : ChannelName} (c : Channel) (h : other ≠ name) :
    (m.putChannel name c).channel other = m.channel other := by
  cases name <;> cases other <;> first | rfl | exact absurd rfl h

@[simp] theorem State.giveWork_channel_self (s : State) (name : ChannelName) (n : Nat) :
    (s.giveWork name n).memory.channel name = (s.memory.channel name).give n :=
  MemoryUnit.channel_putChannel_self ..

theorem State.giveWork_channel_of_ne (s : State) {name other : ChannelName} (n : Nat) (h : other ≠ name) :
    (s.giveWork name n).memory.channel other = s.memory.channel other :=
  MemoryUnit.channel_putChannel_of_ne _ _ h

@[simp] theorem State.cancelWork_channel_self (s : State) (name : ChannelName) :
    (s.cancelWork name).memory.channel name = (s.memory.channel name).drop := by
  cases name <;> rfl

theorem State.cancelWork_channel_of_ne (s : State) {name other : ChannelName} (h : other ≠ name) :
    (s.cancelWork name).memory.channel other = s.memory.channel other := by
  cases name <;> cases other <;> first | rfl | exact absurd rfl h

end Sys2Proof.Machine
end

