-- ==== Sys2Proof/Laws/PerInstr.lean ====
section
/-! SUPPORT. A statement of each command by itself, one lemma per constructor: a directive is handed off to the block whose step
its command is (Table 1-2, R7, R12), so that a command never takes a directive meant for another block. -/

namespace Sys2Proof.Laws

open Sys2Proof Sys2Proof.Machine

/-- Every directive that a command takes has the command's own block for its target unit; and a QUERY's command takes the QUERY of
its record kind, and no other. -/
def HandedToItsBlock.Statement (i : Instr) : Prop :=
  (∀ p f d, i.takes = some (p, f) → f d = true → d.target = i.block)
    ∧ ∀ kind, i.queryKind = some kind → ∃ p f, i.takes = some (p, f) ∧ ∀ k key, f (.query k key) = true ↔ k = kind

/-- A command that takes no directive meets the statement. -/
theorem HandedToItsBlock.of_none {i : Instr} (h : i.takes = none) (hq : i.queryKind = none) : HandedToItsBlock.Statement i :=
  ⟨fun p f d hi => (by rw [h] at hi; cases hi), fun k hi => (by rw [hq] at hi; cases hi)⟩

/-- A command of a directive that is no QUERY meets it when its directive's target is its block. -/
theorem HandedToItsBlock.of_takes {i : Instr} {p : Port} {f : Directive → Bool} (h : i.takes = some (p, f))
    (hq : i.queryKind = none) (ht : ∀ d, f d = true → d.target = i.block) : HandedToItsBlock.Statement i :=
  ⟨fun p f d hi hd => (by rw [h] at hi; cases hi; exact ht d hd), fun k hi => (by rw [hq] at hi; cases hi)⟩

/-- A QUERY's command meets it when its record kind's owner is its block. -/
theorem HandedToItsBlock.of_query {i : Instr} {p : Port} {f : Directive → Bool} {kind : Nat} (h : i.takes = some (p, f))
    (hq : i.queryKind = some kind) (hf : ∀ d, f d = true → ∃ key, d = .query kind key)
    (hk : ∀ k key, f (.query k key) = true ↔ k = kind) (ht : queryOwner kind = i.block) : HandedToItsBlock.Statement i := by
  refine ⟨fun p f d hi hd => ?_, fun k hi => ?_⟩
  · rw [h] at hi; cases hi
    obtain ⟨key, rfl⟩ := hf d hd
    exact ht
  · rw [hq] at hi; cases hi
    exact ⟨_, _, h, hk⟩

theorem HandedToItsBlock.feedFrame (frame : List Byte) (damaged : Bool) : HandedToItsBlock.Statement (.feedFrame frame damaged) :=
  of_none rfl rfl

theorem HandedToItsBlock.deskByte (value : Byte) (error : Bool) : HandedToItsBlock.Statement (.deskByte value error) :=
  of_none rfl rfl

theorem HandedToItsBlock.intakeHeadMove (port : Port) : HandedToItsBlock.Statement (.intakeHeadMove port) :=
  of_none rfl rfl

theorem HandedToItsBlock.answerSent (port : Port) : HandedToItsBlock.Statement (.answerSent port) :=
  of_none rfl rfl

theorem HandedToItsBlock.reportSent : HandedToItsBlock.Statement .reportSent :=
  of_none rfl rfl

theorem HandedToItsBlock.conditionRaise (sender : Block) : HandedToItsBlock.Statement (.conditionRaise sender) :=
  of_none rfl rfl

theorem HandedToItsBlock.conditionEnd (sender : Block) : HandedToItsBlock.Statement (.conditionEnd sender) :=
  of_none rfl rfl

theorem HandedToItsBlock.beaconWatch : HandedToItsBlock.Statement .beaconWatch :=
  of_none rfl rfl

theorem HandedToItsBlock.grant (port : Port) : HandedToItsBlock.Statement (.grant port) :=
  of_takes rfl rfl fun d h => by split at h; exacts [rfl, (nomatch h)]

theorem HandedToItsBlock.setReports (port : Port) : HandedToItsBlock.Statement (.setReports port) :=
  of_takes rfl rfl fun d h => by split at h; exacts [rfl, (nomatch h)]

theorem HandedToItsBlock.acknowledge (port : Port) : HandedToItsBlock.Statement (.acknowledge port) :=
  of_takes rfl rfl fun d h => by split at h; exacts [rfl, (nomatch h)]

theorem HandedToItsBlock.reset (port : Port) : HandedToItsBlock.Statement (.reset port) :=
  of_takes rfl rfl fun d h => by split at h; exacts [rfl, (nomatch h)]

theorem HandedToItsBlock.fullReset : HandedToItsBlock.Statement .fullReset :=
  of_none rfl rfl

theorem HandedToItsBlock.displayRestart (port : Port) : HandedToItsBlock.Statement (.displayRestart port) :=
  of_takes rfl rfl fun d h => by split at h; exacts [rfl, (nomatch h)]

theorem HandedToItsBlock.queryLink (port : Port) : HandedToItsBlock.Statement (.queryLink port) :=
  of_query rfl rfl (fun d h => by split at h; exacts [⟨_, rfl⟩, (nomatch h)]) (fun k key => by split <;> simp_all) rfl

theorem HandedToItsBlock.linkUp (panel : Nat) : HandedToItsBlock.Statement (.linkUp panel) :=
  of_none rfl rfl

theorem HandedToItsBlock.linkDown (panel : Nat) : HandedToItsBlock.Statement (.linkDown panel) :=
  of_none rfl rfl

theorem HandedToItsBlock.panelFrameSlot (panel : Nat) : HandedToItsBlock.Statement (.panelFrameSlot panel) :=
  of_none rfl rfl

theorem HandedToItsBlock.tenthTick : HandedToItsBlock.Statement .tenthTick :=
  of_none rfl rfl

theorem HandedToItsBlock.runTimeSecond : HandedToItsBlock.Statement .runTimeSecond :=
  of_none rfl rfl

theorem HandedToItsBlock.beacon : HandedToItsBlock.Statement .beacon :=
  of_none rfl rfl

theorem HandedToItsBlock.beaconOverdue : HandedToItsBlock.Statement .beaconOverdue :=
  of_none rfl rfl

theorem HandedToItsBlock.setClock (port : Port) : HandedToItsBlock.Statement (.setClock port) :=
  of_takes rfl rfl fun d h => by split at h; exacts [rfl, (nomatch h)]

theorem HandedToItsBlock.setHouse (port : Port) : HandedToItsBlock.Statement (.setHouse port) :=
  of_takes rfl rfl fun d h => by split at h; exacts [rfl, (nomatch h)]

theorem HandedToItsBlock.setCue (port : Port) : HandedToItsBlock.Statement (.setCue port) :=
  of_takes rfl rfl fun d h => by split at h; exacts [rfl, (nomatch h)]

theorem HandedToItsBlock.clearCue (port : Port) : HandedToItsBlock.Statement (.clearCue port) :=
  of_takes rfl rfl fun d h => by split at h; exacts [rfl, (nomatch h)]

theorem HandedToItsBlock.queryClock (port : Port) : HandedToItsBlock.Statement (.queryClock port) :=
  of_query rfl rfl (fun d h => by split at h; exacts [⟨_, rfl⟩, (nomatch h)]) (fun k key => by split <;> simp_all) rfl

theorem HandedToItsBlock.queryCue (port : Port) : HandedToItsBlock.Statement (.queryCue port) :=
  of_query rfl rfl (fun d h => by split at h; exacts [⟨_, rfl⟩, (nomatch h)]) (fun k key => by split <;> simp_all) rfl

theorem HandedToItsBlock.loadTitle (port : Port) : HandedToItsBlock.Statement (.loadTitle port) :=
  of_takes rfl rfl fun d h => by split at h; exacts [rfl, (nomatch h)]

theorem HandedToItsBlock.loadScreening (port : Port) : HandedToItsBlock.Statement (.loadScreening port) :=
  of_takes rfl rfl fun d h => by split at h; exacts [rfl, (nomatch h)]

theorem HandedToItsBlock.amendScreening (port : Port) : HandedToItsBlock.Statement (.amendScreening port) :=
  of_takes rfl rfl fun d h => by split at h; exacts [rfl, (nomatch h)]

theorem HandedToItsBlock.cancelScreening (port : Port) : HandedToItsBlock.Statement (.cancelScreening port) :=
  of_takes rfl rfl fun d h => by split at h; exacts [rfl, (nomatch h)]

theorem HandedToItsBlock.dropScreening (port : Port) : HandedToItsBlock.Statement (.dropScreening port) :=
  of_takes rfl rfl fun d h => by split at h; exacts [rfl, (nomatch h)]

theorem HandedToItsBlock.setPhaseTimes (port : Port) : HandedToItsBlock.Statement (.setPhaseTimes port) :=
  of_takes rfl rfl fun d h => by split at h; exacts [rfl, (nomatch h)]

theorem HandedToItsBlock.queryTitle (port : Port) : HandedToItsBlock.Statement (.queryTitle port) :=
  of_query rfl rfl (fun d h => by split at h; exacts [⟨_, rfl⟩, (nomatch h)]) (fun k key => by split <;> simp_all) rfl

theorem HandedToItsBlock.queryScreening (port : Port) : HandedToItsBlock.Statement (.queryScreening port) :=
  of_query rfl rfl (fun d h => by split at h; exacts [⟨_, rfl⟩, (nomatch h)]) (fun k key => by split <;> simp_all) rfl

theorem HandedToItsBlock.queryPhaseTimes (port : Port) : HandedToItsBlock.Statement (.queryPhaseTimes port) :=
  of_query rfl rfl (fun d h => by split at h; exacts [⟨_, rfl⟩, (nomatch h)]) (fun k key => by split <;> simp_all) rfl

theorem HandedToItsBlock.scheduleMinuteEvent : HandedToItsBlock.Statement .scheduleMinuteEvent :=
  of_none rfl rfl

theorem HandedToItsBlock.scheduleRollover : HandedToItsBlock.Statement .scheduleRollover :=
  of_none rfl rfl

theorem HandedToItsBlock.lingerEnd : HandedToItsBlock.Statement .lingerEnd :=
  of_none rfl rfl

theorem HandedToItsBlock.screeningAdded : HandedToItsBlock.Statement .screeningAdded :=
  of_none rfl rfl

theorem HandedToItsBlock.capacityChanged : HandedToItsBlock.Statement .capacityChanged :=
  of_none rfl rfl

theorem HandedToItsBlock.seatPhaseChanged : HandedToItsBlock.Statement .seatPhaseChanged :=
  of_none rfl rfl

theorem HandedToItsBlock.seatScreeningRemoved : HandedToItsBlock.Statement .seatScreeningRemoved :=
  of_none rfl rfl

theorem HandedToItsBlock.sell (port : Port) : HandedToItsBlock.Statement (.sell port) :=
  of_takes rfl rfl fun d h => by split at h; exacts [rfl, (nomatch h)]

theorem HandedToItsBlock.refund (port : Port) : HandedToItsBlock.Statement (.refund port) :=
  of_takes rfl rfl fun d h => by split at h; exacts [rfl, (nomatch h)]

theorem HandedToItsBlock.setSold (port : Port) : HandedToItsBlock.Statement (.setSold port) :=
  of_takes rfl rfl fun d h => by split at h; exacts [rfl, (nomatch h)]

theorem HandedToItsBlock.hold (port : Port) : HandedToItsBlock.Statement (.hold port) :=
  of_takes rfl rfl fun d h => by split at h; exacts [rfl, (nomatch h)]

theorem HandedToItsBlock.confirm (port : Port) : HandedToItsBlock.Statement (.confirm port) :=
  of_takes rfl rfl fun d h => by split at h; exacts [rfl, (nomatch h)]

theorem HandedToItsBlock.release (port : Port) : HandedToItsBlock.Statement (.release port) :=
  of_takes rfl rfl fun d h => by split at h; exacts [rfl, (nomatch h)]

theorem HandedToItsBlock.holdExpiry : HandedToItsBlock.Statement .holdExpiry :=
  of_none rfl rfl

theorem HandedToItsBlock.setBands (port : Port) : HandedToItsBlock.Statement (.setBands port) :=
  of_takes rfl rfl fun d h => by split at h; exacts [rfl, (nomatch h)]

theorem HandedToItsBlock.queryTally (port : Port) : HandedToItsBlock.Statement (.queryTally port) :=
  of_query rfl rfl (fun d h => by split at h; exacts [⟨_, rfl⟩, (nomatch h)]) (fun k key => by split <;> simp_all) rfl

theorem HandedToItsBlock.queryHold (port : Port) : HandedToItsBlock.Statement (.queryHold port) :=
  of_query rfl rfl (fun d h => by split at h; exacts [⟨_, rfl⟩, (nomatch h)]) (fun k key => by split <;> simp_all) rfl

theorem HandedToItsBlock.queryBands (port : Port) : HandedToItsBlock.Statement (.queryBands port) :=
  of_query rfl rfl (fun d h => by split at h; exacts [⟨_, rfl⟩, (nomatch h)]) (fun k key => by split <;> simp_all) rfl

theorem HandedToItsBlock.defineBoard (port : Port) : HandedToItsBlock.Statement (.defineBoard port) :=
  of_takes rfl rfl fun d h => by split at h; exacts [rfl, (nomatch h)]

theorem HandedToItsBlock.clearBoard (port : Port) : HandedToItsBlock.Statement (.clearBoard port) :=
  of_takes rfl rfl fun d h => by split at h; exacts [rfl, (nomatch h)]

theorem HandedToItsBlock.queryBoard (port : Port) : HandedToItsBlock.Statement (.queryBoard port) :=
  of_query rfl rfl (fun d h => by split at h; exacts [⟨_, rfl⟩, (nomatch h)]) (fun k key => by split <;> simp_all) rfl

theorem HandedToItsBlock.builderPhaseChanged : HandedToItsBlock.Statement .builderPhaseChanged :=
  of_none rfl rfl

theorem HandedToItsBlock.builderScreeningRemoved : HandedToItsBlock.Statement .builderScreeningRemoved :=
  of_none rfl rfl

theorem HandedToItsBlock.screeningChanged : HandedToItsBlock.Statement .screeningChanged :=
  of_none rfl rfl

theorem HandedToItsBlock.builderRollover : HandedToItsBlock.Statement .builderRollover :=
  of_none rfl rfl

theorem HandedToItsBlock.builderMinuteEvent : HandedToItsBlock.Statement .builderMinuteEvent :=
  of_none rfl rfl

theorem HandedToItsBlock.figureChanged : HandedToItsBlock.Statement .figureChanged :=
  of_none rfl rfl

theorem HandedToItsBlock.titleChanged : HandedToItsBlock.Statement .titleChanged :=
  of_none rfl rfl

theorem HandedToItsBlock.hourFormatChanged : HandedToItsBlock.Statement .hourFormatChanged :=
  of_none rfl rfl

theorem HandedToItsBlock.builderTenthTick : HandedToItsBlock.Statement .builderTenthTick :=
  of_none rfl rfl

theorem HandedToItsBlock.pageDwellExpiry (board : Nat) : HandedToItsBlock.Statement (.pageDwellExpiry board) :=
  of_none rfl rfl

theorem HandedToItsBlock.boardRestart : HandedToItsBlock.Statement .boardRestart :=
  of_none rfl rfl

theorem HandedToItsBlock.postNotice (port : Port) : HandedToItsBlock.Statement (.postNotice port) :=
  of_takes rfl rfl fun d h => by split at h; exacts [rfl, (nomatch h)]

theorem HandedToItsBlock.withdrawNotice (port : Port) : HandedToItsBlock.Statement (.withdrawNotice port) :=
  of_takes rfl rfl fun d h => by split at h; exacts [rfl, (nomatch h)]

theorem HandedToItsBlock.noticeExpiry : HandedToItsBlock.Statement .noticeExpiry :=
  of_none rfl rfl

theorem HandedToItsBlock.urgentDwellExpiry (panel : Nat) : HandedToItsBlock.Statement (.urgentDwellExpiry panel) :=
  of_none rfl rfl

theorem HandedToItsBlock.noticePhaseChanged : HandedToItsBlock.Statement .noticePhaseChanged :=
  of_none rfl rfl

theorem HandedToItsBlock.noticeScreeningRemoved : HandedToItsBlock.Statement .noticeScreeningRemoved :=
  of_none rfl rfl

theorem HandedToItsBlock.setNoticeStyle (port : Port) : HandedToItsBlock.Statement (.setNoticeStyle port) :=
  of_takes rfl rfl fun d h => by split at h; exacts [rfl, (nomatch h)]

theorem HandedToItsBlock.queryNotice (port : Port) : HandedToItsBlock.Statement (.queryNotice port) :=
  of_query rfl rfl (fun d h => by split at h; exacts [⟨_, rfl⟩, (nomatch h)]) (fun k key => by split <;> simp_all) rfl

theorem HandedToItsBlock.queryUrgentList (port : Port) : HandedToItsBlock.Statement (.queryUrgentList port) :=
  of_query rfl rfl (fun d h => by split at h; exacts [⟨_, rfl⟩, (nomatch h)]) (fun k key => by split <;> simp_all) rfl

theorem HandedToItsBlock.noticeRestart : HandedToItsBlock.Statement .noticeRestart :=
  of_none rfl rfl

theorem HandedToItsBlock.setCarousel (port : Port) : HandedToItsBlock.Statement (.setCarousel port) :=
  of_takes rfl rfl fun d h => by split at h; exacts [rfl, (nomatch h)]

theorem HandedToItsBlock.setPeriods (port : Port) : HandedToItsBlock.Statement (.setPeriods port) :=
  of_takes rfl rfl fun d h => by split at h; exacts [rfl, (nomatch h)]

theorem HandedToItsBlock.setQuiet (port : Port) : HandedToItsBlock.Statement (.setQuiet port) :=
  of_takes rfl rfl fun d h => by split at h; exacts [rfl, (nomatch h)]

theorem HandedToItsBlock.carouselOn (port : Port) : HandedToItsBlock.Statement (.carouselOn port) :=
  of_takes rfl rfl fun d h => by split at h; exacts [rfl, (nomatch h)]

theorem HandedToItsBlock.carouselOff (port : Port) : HandedToItsBlock.Statement (.carouselOff port) :=
  of_takes rfl rfl fun d h => by split at h; exacts [rfl, (nomatch h)]

theorem HandedToItsBlock.setSyncGroup (port : Port) : HandedToItsBlock.Statement (.setSyncGroup port) :=
  of_takes rfl rfl fun d h => by split at h; exacts [rfl, (nomatch h)]

theorem HandedToItsBlock.queryCarousel (port : Port) : HandedToItsBlock.Statement (.queryCarousel port) :=
  of_query rfl rfl (fun d h => by split at h; exacts [⟨_, rfl⟩, (nomatch h)]) (fun k key => by split <;> simp_all) rfl

theorem HandedToItsBlock.querySyncGroup (port : Port) : HandedToItsBlock.Statement (.querySyncGroup port) :=
  of_query rfl rfl (fun d h => by split at h; exacts [⟨_, rfl⟩, (nomatch h)]) (fun k key => by split <;> simp_all) rfl

theorem HandedToItsBlock.carouselTenthTick : HandedToItsBlock.Statement .carouselTenthTick :=
  of_none rfl rfl

theorem HandedToItsBlock.markEnd (carousel : Nat) : HandedToItsBlock.Statement (.markEnd carousel) :=
  of_none rfl rfl

theorem HandedToItsBlock.cycleEnd (carousel : Nat) : HandedToItsBlock.Statement (.cycleEnd carousel) :=
  of_none rfl rfl

theorem HandedToItsBlock.cueQuiet : HandedToItsBlock.Statement .cueQuiet :=
  of_none rfl rfl

theorem HandedToItsBlock.loadImage (port : Port) : HandedToItsBlock.Statement (.loadImage port) :=
  of_takes rfl rfl fun d h => by split at h; exacts [rfl, (nomatch h)]

theorem HandedToItsBlock.imagePiece (port : Port) : HandedToItsBlock.Statement (.imagePiece port) :=
  of_takes rfl rfl fun d h => by split at h; exacts [rfl, (nomatch h)]

theorem HandedToItsBlock.loadTextTile (port : Port) : HandedToItsBlock.Statement (.loadTextTile port) :=
  of_takes rfl rfl fun d h => by split at h; exacts [rfl, (nomatch h)]

theorem HandedToItsBlock.clearTile (port : Port) : HandedToItsBlock.Statement (.clearTile port) :=
  of_takes rfl rfl fun d h => by split at h; exacts [rfl, (nomatch h)]

theorem HandedToItsBlock.queryTile (port : Port) : HandedToItsBlock.Statement (.queryTile port) :=
  of_query rfl rfl (fun d h => by split at h; exacts [⟨_, rfl⟩, (nomatch h)]) (fun k key => by split <;> simp_all) rfl

theorem HandedToItsBlock.redrawRequest (sender : Block) : HandedToItsBlock.Statement (.redrawRequest sender) :=
  of_none rfl rfl

theorem HandedToItsBlock.sizeRequest (sender : Block) : HandedToItsBlock.Statement (.sizeRequest sender) :=
  of_none rfl rfl

theorem HandedToItsBlock.emptyTile (sender : Block) : HandedToItsBlock.Statement (.emptyTile sender) :=
  of_none rfl rfl

theorem HandedToItsBlock.pieceWriteStart : HandedToItsBlock.Statement .pieceWriteStart :=
  of_none rfl rfl

theorem HandedToItsBlock.pieceWriteComplete : HandedToItsBlock.Statement .pieceWriteComplete :=
  of_none rfl rfl

theorem HandedToItsBlock.pieceWriteEnded : HandedToItsBlock.Statement .pieceWriteEnded :=
  of_none rfl rfl

theorem HandedToItsBlock.renderJobStart : HandedToItsBlock.Statement .renderJobStart :=
  of_none rfl rfl

theorem HandedToItsBlock.renderJobComplete : HandedToItsBlock.Statement .renderJobComplete :=
  of_none rfl rfl

theorem HandedToItsBlock.renderJobAbandon : HandedToItsBlock.Statement .renderJobAbandon :=
  of_none rfl rfl

theorem HandedToItsBlock.renderRestart : HandedToItsBlock.Statement .renderRestart :=
  of_none rfl rfl

theorem HandedToItsBlock.loadLayout (port : Port) : HandedToItsBlock.Statement (.loadLayout port) :=
  of_takes rfl rfl fun d h => by split at h; exacts [rfl, (nomatch h)]

theorem HandedToItsBlock.applyLayout (port : Port) : HandedToItsBlock.Statement (.applyLayout port) :=
  of_takes rfl rfl fun d h => by split at h; exacts [rfl, (nomatch h)]

theorem HandedToItsBlock.setOverride (port : Port) : HandedToItsBlock.Statement (.setOverride port) :=
  of_takes rfl rfl fun d h => by split at h; exacts [rfl, (nomatch h)]

theorem HandedToItsBlock.cueApplyLayout : HandedToItsBlock.Statement .cueApplyLayout :=
  of_none rfl rfl

theorem HandedToItsBlock.queryLayout (port : Port) : HandedToItsBlock.Statement (.queryLayout port) :=
  of_query rfl rfl (fun d h => by split at h; exacts [⟨_, rfl⟩, (nomatch h)]) (fun k key => by split <;> simp_all) rfl

theorem HandedToItsBlock.queryPanel (port : Port) : HandedToItsBlock.Statement (.queryPanel port) :=
  of_query rfl rfl (fun d h => by split at h; exacts [⟨_, rfl⟩, (nomatch h)]) (fun k key => by split <;> simp_all) rfl

theorem HandedToItsBlock.panelLive : HandedToItsBlock.Statement .panelLive :=
  of_none rfl rfl

theorem HandedToItsBlock.panelStandbyEvent : HandedToItsBlock.Statement .panelStandbyEvent :=
  of_none rfl rfl

theorem HandedToItsBlock.panelDark : HandedToItsBlock.Statement .panelDark :=
  of_none rfl rfl

theorem HandedToItsBlock.frameSlot : HandedToItsBlock.Statement .frameSlot :=
  of_none rfl rfl

theorem HandedToItsBlock.composeJobStart : HandedToItsBlock.Statement .composeJobStart :=
  of_none rfl rfl

theorem HandedToItsBlock.pinRequest : HandedToItsBlock.Statement .pinRequest :=
  of_none rfl rfl

theorem HandedToItsBlock.pinRelease : HandedToItsBlock.Statement .pinRelease :=
  of_none rfl rfl

theorem HandedToItsBlock.composeJobComplete : HandedToItsBlock.Statement .composeJobComplete :=
  of_none rfl rfl

theorem HandedToItsBlock.composeJobAbandon : HandedToItsBlock.Statement .composeJobAbandon :=
  of_none rfl rfl

theorem HandedToItsBlock.composerRestart : HandedToItsBlock.Statement .composerRestart :=
  of_none rfl rfl

theorem HandedToItsBlock.segment : HandedToItsBlock.Statement .segment :=
  of_none rfl rfl

theorem HandedToItsBlock.unitGrant : HandedToItsBlock.Statement .unitGrant :=
  of_none rfl rfl

theorem HandedToItsBlock.transferUnitComplete : HandedToItsBlock.Statement .transferUnitComplete :=
  of_none rfl rfl

theorem HandedToItsBlock.unitFault : HandedToItsBlock.Statement .unitFault :=
  of_none rfl rfl

theorem HandedToItsBlock.resume : HandedToItsBlock.Statement .resume :=
  of_none rfl rfl

theorem HandedToItsBlock.streamWatch : HandedToItsBlock.Statement .streamWatch :=
  of_none rfl rfl

theorem HandedToItsBlock.queryStream (port : Port) : HandedToItsBlock.Statement (.queryStream port) :=
  of_query rfl rfl (fun d h => by split at h; exacts [⟨_, rfl⟩, (nomatch h)]) (fun k key => by split <;> simp_all) rfl

theorem HandedToItsBlock.frameMemoryRestart : HandedToItsBlock.Statement .frameMemoryRestart :=
  of_none rfl rfl

theorem HandedToItsBlock.panelStandby (port : Port) : HandedToItsBlock.Statement (.panelStandby port) :=
  of_takes rfl rfl fun d h => by split at h; exacts [rfl, (nomatch h)]

theorem HandedToItsBlock.wake (port : Port) : HandedToItsBlock.Statement (.wake port) :=
  of_takes rfl rfl fun d h => by split at h; exacts [rfl, (nomatch h)]

theorem HandedToItsBlock.setBrightness (port : Port) : HandedToItsBlock.Statement (.setBrightness port) :=
  of_takes rfl rfl fun d h => by split at h; exacts [rfl, (nomatch h)]

theorem HandedToItsBlock.setPanel (port : Port) : HandedToItsBlock.Statement (.setPanel port) :=
  of_takes rfl rfl fun d h => by split at h; exacts [rfl, (nomatch h)]

theorem HandedToItsBlock.cueStandby : HandedToItsBlock.Statement .cueStandby :=
  of_none rfl rfl

theorem HandedToItsBlock.cueWake : HandedToItsBlock.Statement .cueWake :=
  of_none rfl rfl

theorem HandedToItsBlock.cueBrightness : HandedToItsBlock.Statement .cueBrightness :=
  of_none rfl rfl

theorem HandedToItsBlock.queryOutput (port : Port) : HandedToItsBlock.Statement (.queryOutput port) :=
  of_query rfl rfl (fun d h => by split at h; exacts [⟨_, rfl⟩, (nomatch h)]) (fun k key => by split <;> simp_all) rfl

theorem HandedToItsBlock.backlightStep : HandedToItsBlock.Statement .backlightStep :=
  of_none rfl rfl

theorem HandedToItsBlock.panelOutputRestart : HandedToItsBlock.Statement .panelOutputRestart :=
  of_none rfl rfl

end Sys2Proof.Laws
end

