-- ==== Sys2Proof/Tests/Slice0.lean ====
section
/-! SUPPORT. The model's own tests: what `wellFormed` refuses; for each statement with hypotheses, states and operands that meet
them, clause by clause at the bounds of their ranges; and single steps whose results the manual gives. -/

namespace Sys2Proof.Tests

-- One theorem after another: side by side, their kernel evaluations take a thread and its stack each.
set_option Elab.async false

open Sys2Proof Sys2Proof.Machine

/-! ### Small states -/

/-- The state after power-on. -/
abbrev R : State := State.reset

/-- The state after power-on with a command in front. -/
abbrev front (i : Instr) : State := { R with pending := [i] }

/-- The events under way after power-on. -/
abbrev M : Mail := State.reset.mail

/-- A state with one directive waiting for a unit, from a port. -/
def given (s : State) (u : Block) (p : Port) (d : Directive) : State := s.putHandoff u p [⟨7, 0, some d⟩]

/-- Whether a unit may take a directive and act on it. -/
abbrev Asks (s : State) (u : Block) (p : Port) (d : Directive) : Prop := ∃ q t, s.Takes u p q d t

/-- A directive given to a ready unit by a port that may send it is one the unit may take. -/
theorem asks {s : State} {u : Block} {p : Port} {d : Directive} (h : ((given s u p d).handoffOf u p) = [⟨7, 0, some d⟩] := by rfl)
    (h1 : (given s u p d).ready u = true := by decide +kernel) (h2 : (given s u p d).hasRoom p = true := by decide +kernel)
    (h3 : (given s u p d).mayTake p d = true := by decide +kernel) : Asks (given s u p d) u p d :=
  ⟨⟨7, 0, some d⟩, _, by rw [h]; rfl, rfl, h1, h2, h3, rfl⟩

/-- Two screenings: 1 LISTED for title 0 in auditorium 3, and 96 more are easily made from it. -/
def listed : Screening := ⟨1, 10, 3, 0, 900, 0, 100, [], none, .listed, none⟩

/-- A schedule with title 0 and some screenings, on day 10. -/
def withTable (rs : List Screening) : State :=
  { R with schedule := { R.schedule with
      titles := R.schedule.titles.set 0 (some ⟨[65], [], 90⟩), table := rs, viewDay := 10, viewMinute := some 840 } }

/-- A tally of screening 1. -/
def tally1 : Tally := ⟨1, 100, 10, 2, 0, 88, 120, .plenty, none, false⟩

/-- Screening 1 with a tally and one hold. -/
def selling : State :=
  { withTable [listed] with seat := { R.seat with tallies := [tally1], holds := [⟨5, 1, 2, 60⟩] } }

/-- A board of two rows. -/
def board2 : BoardDef := ⟨none, none, .byTime, 2, 8, true, 27⟩

/-- Board 0 defined with one row. -/
def boarded : State :=
  { withTable [listed] with builder := { R.builder with
      boards := R.builder.boards.set 0 ⟨some board2, [⟨1, 3, 0, 900, .listed⟩], 0, some 80⟩, viewDay := 10, viewMinute := some 840 } }

/-- URGENT notice 1, and SERVICE notice 2 bound to screening 1, both for panel 0. -/
def noticed : State :=
  { withTable [listed] with notice := { R.notice with
      notices := [⟨1, .urgent, [65], [0], none, none, none, 0, 0⟩, ⟨2, .service, [66], [0], some 1, some 1, some 60, 0, 1⟩]
      urgent := R.notice.urgent.set 0 ⟨[1], some 1, some 8⟩ } }

/-! ### What `wellFormed` refuses: a name that does not exist, or a sender that sends no such event -/

theorem test_wf_raise_of_schedule : wellFormed (.conditionRaise .schedule) = false := by decide
theorem test_wf_end_of_rotation : wellFormed (.conditionEnd .rotation) = false := by decide
theorem test_wf_link_up_12 : wellFormed (.linkUp 12) = false := by decide
theorem test_wf_link_down_12 : wellFormed (.linkDown 12) = false := by decide
theorem test_wf_frame_slot_12 : wellFormed (.panelFrameSlot 12) = false := by decide
theorem test_wf_page_dwell_8 : wellFormed (.pageDwellExpiry 8) = false := by decide
theorem test_wf_urgent_dwell_12 : wellFormed (.urgentDwellExpiry 12) = false := by decide
theorem test_wf_mark_end_12 : wellFormed (.markEnd 12) = false := by decide
theorem test_wf_cycle_end_12 : wellFormed (.cycleEnd 12) = false := by decide
theorem test_wf_redraw_of_seat : wellFormed (.redrawRequest .seat) = false := by decide
theorem test_wf_size_of_clock : wellFormed (.sizeRequest .clock) = false := by decide
theorem test_wf_empty_of_render : wellFormed (.emptyTile .render) = false := by decide
theorem test_wf_accepts : wellFormed (.linkUp 11) && wellFormed (.conditionRaise .seat) && wellFormed (.pageDwellExpiry 7)
    && wellFormed (.redrawRequest .clock) && wellFormed (.sizeRequest .notice) = true := by decide

/-! ### States and operands that meet the statements' hypotheses -/

theorem witness_StepRunsTheFrontCommand :
    (∃ (s : State) (c : Instr) (rest : List Instr), s.pending = c :: rest) ∧ ∃ s : State, s.pending = [] :=
  ⟨⟨{ R with pending := [.tenthTick] }, _, _, rfl⟩, R, rfl⟩

theorem witness_CommandsChangeTheirOwnBlock : Block.seat ≠ Instr.block .beacon ∧ Block.seat ∉ Instr.alsoChanges .beacon := by
  decide

theorem witness_DirectivesWaitOrAreRefused :
    (∃ (s : State) (q : Packet) (rest : List Packet), s.handoffOf .link .desk = q :: rest ∧ q.directive = some (.grant 0 1)
      ∧ s.ready .link = true ∧ s.hasRoom .desk = true ∧ s.mayTake .desk (.grant 0 1) = false)
    ∧ (∃ s : State, s.ready (Instr.block (.clearBoard .feed)) = false)
    ∧ (∃ s : State, s.hasRoom .feed = false)
    ∧ (∃ s : State, s.handoffOf (Instr.block (.grant .feed)) .feed = [])
    ∧ ∃ (s : State) (q : Packet) (rest : List Packet), s.handoffOf (Instr.block (.grant .feed)) .feed = q :: rest
      ∧ q.directive = some .reset :=
  ⟨⟨given R .link .desk (.grant 0 1), _, _, rfl, rfl, by decide +kernel, by decide +kernel, by decide +kernel⟩,
    ⟨{ boarded with builder := { R.builder with boards := R.builder.boards.set 0 ⟨some board2, [], 0, some 0⟩ } },
      by decide +kernel⟩,
    ⟨R.putPort .feed ⟨[], ⟨[], 16⟩, 0, 0⟩, by decide +kernel⟩, ⟨R, rfl⟩, given R .link .feed .reset, _, _, rfl, rfl⟩

/-- Every group has its place in the ownership table, an owner that is not the sender and one that is; QUERY kinds 1 and 19 have
their commands. -/
theorem witness_Directives_groups :
    (∃ place : Machine.Group → Fin 5, place .schedule = 0 ∧ place .tally = 1 ∧ place .notices = 2 ∧ place .display = 3
      ∧ place .house = 4)
    ∧ (∃ (s : State) (g : Machine.Group), (Directive.sell 1 1).group = some g ∧ s.link.owners[g.index] ≠ .feed)
    ∧ (∃ (s : State) (g : Machine.Group), (Directive.sell 1 1).group = some g ∧ ¬s.link.owners[g.index] ≠ .desk)
    ∧ (∃ (i : Instr) (accepts : Directive → Bool), i.takes = some (.desk, accepts) ∧ accepts (.query 1 127) = true)
    ∧ ∃ (i : Instr) (accepts : Directive → Bool), i.takes = some (.feed, accepts) ∧ accepts (.query 19 0) = true :=
  ⟨⟨Group.index, rfl, rfl, rfl, rfl, rfl⟩, ⟨R, .tally, rfl, by decide +kernel⟩, ⟨R, .tally, rfl, by decide +kernel⟩,
    ⟨.queryTitle .desk, _, rfl, rfl⟩, .queryLink .feed, _, rfl, rfl⟩

theorem witness_QueriesAnswerFromTheRecord :
    Instr.queryKind (.queryLink .desk) = some 19 ∧ Asks (given R .link .desk (.query 19 0)) .link .desk (.query 19 0) :=
  ⟨rfl, asks⟩

/-- A cue of every minute, cue 15, and hold 5 of a tally; board 0, notice 2 and layout 31 are in states of their own. -/
def cued : State := { selling with clock := { R.clock with cues := put R.clock.cues 15 (some ⟨true, none, none, none, .wake [0]⟩) } }

theorem witness_QueriesAnswerFromTheRecord_by_key :
    (∀ x ∈ [(1, 128), (2, 0), (5, 0), (7, 8), (8, 0), (8, 256), (11, 16), (9, 12), (17, 12), (13, 4), (18, 4), (14, 256), (15, 32)],
      (x.1 = 1 ∧ 127 < x.2) ∨ ((x.1 = 2 ∨ x.1 = 4 ∨ x.1 = 5) ∧ x.2 = 0) ∨ (x.1 = 7 ∧ 7 < x.2)
        ∨ (x.1 = 8 ∧ (x.2 = 0 ∨ 255 < x.2)) ∨ (x.1 = 11 ∧ 15 < x.2)
        ∨ ((x.1 = 9 ∨ x.1 = 12 ∨ x.1 = 16 ∨ x.1 = 17) ∧ 11 < x.2) ∨ ((x.1 = 13 ∨ x.1 = 18) ∧ 3 < x.2)
        ∨ (x.1 = 14 ∧ 255 < x.2) ∨ (x.1 = 15 ∧ 31 < x.2))
    ∧ (R.schedule.titles[127]? = some none ∧ (0 < 1 ∧ (∀ r ∈ R.schedule.table, r.number ≠ 1) ∧ (∀ x ∈ R.seat.tallies, x.number ≠ 1)
        ∧ ∀ h ∈ R.seat.holds, h.id ≠ 1) ∧ (∃ b, R.builder.boards[7]? = some b ∧ b.defn = none)
      ∧ (1 ≤ 255 ∧ ∀ x ∈ R.notice.notices, x.number ≠ 255) ∧ R.clock.cues[15]? = some none ∧ R.composer.layouts[31]? = some none)
    ∧ (cued.schedule.titles[0]? = some (some ⟨[65], [], 90⟩) ∧ findScreening cued.schedule.table 1 = some listed
      ∧ findTally cued.seat.tallies 1 = some tally1 ∧ findHold cued.seat.holds 5 = some ⟨5, 1, 2, 60⟩
      ∧ cued.clock.cues[15]? = some (some ⟨true, none, none, none, .wake [0]⟩)
      ∧ (boarded.builder.boards[0]?).map Board.defn = some (some board2)
      ∧ findNotice noticed.notice.notices 2 = some ⟨2, .service, [66], [0], some 1, some 1, some 60, 0, 1⟩
      ∧ noticed.notice.urgent[0]? = some ⟨[1], some 1, some 8⟩ ∧ (R.rotation.carousels[11]?).isSome = true
      ∧ R.rotation.leaders[3]? = some none ∧ (R.render.tiles[255]?).isSome = true ∧ (R.composer.panels[11]?).isSome = true
      ∧ (R.output.panels[11]?).isSome = true ∧ (R.memory.streams[3]?).isSome = true) := by
  refine ⟨by decide, ⟨by decide +kernel, by decide, ⟨_, rfl, by decide +kernel⟩, by decide, by decide +kernel, by decide +kernel⟩, ?_⟩
  decide +kernel

theorem witness_EnvelopesReadAsSent :
    ((1 ≤ 1 ∧ 1 ≤ 3) ∧ 255 ≤ 255 ∧ (List.replicate 8192 (0 : Byte)).length ≤ 8192)
    ∧ (List.replicate 253 (0xFE : Byte)).length ≤ 253 ∧ R.link.deskReceiver = .hunting ∧ R.link.resetPending = none := by
  refine ⟨⟨by decide, by decide, ?_⟩, ?_, rfl, rfl⟩ <;> rw [List.length_replicate]

/-- A feed frame and a desk packet that are read, and bytes of the desk line in each of its receiver's states. -/
theorem witness_EnvelopesReadAsSent_bytes :
    readFeedFrame (feedPacket 3 9 [20]) false = some (3, 9, [20])
    ∧ (.length false : DeskReceiver) ≠ .hunting ∧ (0 : Byte) ≠ 0xFE ∧ (0xFF : Byte) ≠ 0xFE ∧ (0xFD : Byte) ≠ 0xFE
    ∧ ([3, 1, 0] : List Nat).length = 2 + 1 := by decide +kernel

/-- The fields of bodies at the ends of their ranges: a beacon's, a tally message's, a directive's numbers, texts, sets and lists,
the kinds of a cue's action and of a QUERY. -/
theorem witness_Bodies_at_their_bounds :
    TimeFields.Ok ⟨65535, 7, 23, 59, 59⟩ ∧ TimeFields.Ok ⟨0, 1, 0, 0, 0⟩
    ∧ (∀ v ∈ [65535, 0, 65535, 0, 65535, 0, 65535], v ≤ 65535) ∧ 4294967295 ≤ 4294967295
    ∧ (∀ v ∈ [none, some 0, some 65535, none], ∀ m, v = some m → m ≤ 65535)
    ∧ (List.replicate 255 (32 : Byte)).length ≤ 255
    ∧ ((List.replicate 255 65535).length ≤ 255 ∧ ∀ m ∈ List.replicate 255 65535, m ≤ 65535)
    ∧ ((List.replicate 254 65535).length ≤ 254 ∧ ∀ m ∈ List.replicate 254 65535, m ≤ 65535)
    ∧ (∀ m ∈ [(⟨255, 255⟩ : Coded)], m.kind ≤ 255 ∧ m.value ≤ 255)
    ∧ (∀ r ∈ [(⟨65535, 65535, 65535, 65535, ⟨255, 255⟩⟩ : RegionFields)], r.col ≤ 65535 ∧ r.row ≤ 65535 ∧ r.width ≤ 65535
      ∧ r.height ≤ 65535 ∧ r.content.kind ≤ 255 ∧ r.content.value ≤ 255)
    ∧ ([5] : List Byte) ≠ [] ∧ (46 : Byte).toNat = 46 ∧ (∀ k ∈ [1, 6], k = 1 ∨ k = 6) ∧ (∀ k ∈ [2, 5], 2 ≤ k ∧ k ≤ 5)
    ∧ ∀ kind ∈ [1, 3, 19], kind ≤ 255 ∧ 1 ≤ kind ∧ kind ≤ 19 := by
  refine ⟨by simp [TimeFields.Ok], by simp [TimeFields.Ok], by decide, by decide, by simp,
    by rw [List.length_replicate], ⟨by rw [List.length_replicate], fun m h => (List.eq_of_mem_replicate h).le⟩,
    ⟨by rw [List.length_replicate], fun m h => (List.eq_of_mem_replicate h).le⟩, by simp, by simp,
    by decide, by decide, by decide, by decide, by decide⟩

theorem witness_PortsReceivePackets :
    R.link.resetPending = none
    ∧ readFeedFrame (feedPacket 1 0 [1, 2]) false = some (1, 0, [1, 2])
    ∧ readFeedFrame (feedPacket 2 0 (put2 1 ++ put1 7 ++ put1 23 ++ put1 59 ++ put1 59)) false
        = some (2, 0, put2 1 ++ put1 7 ++ put1 23 ++ put1 59 ++ put1 59)
    ∧ readBeacon (put2 1 ++ put1 7 ++ put1 23 ++ put1 59 ++ put1 59) = some ⟨1, 7, 23, 59, 59⟩
    ∧ readFeedFrame (feedPacket 3 9 [20]) false = some (3, 9, [20])
    ∧ readFeedFrame (feedPacket 4 0 []) false = none
    ∧ readBeacon (put2 1 ++ put1 8 ++ put1 0 ++ put1 0 ++ put1 0) = none
    ∧ deskReceive .hunting 0xFE false = (.length false, .nothing)
    ∧ deskReceive (.collecting 2 [3, 1, 0] false false) 6 false = (.hunting, .completed 2 [3, 1, 0, 6] false)
    ∧ readDeskPacket 2 [3, 1, 0, 6] false = some (3, 1, [])
    ∧ deskReceive (.length false) 1 false = (.hunting, .discarded)
    ∧ readDeskPacket 2 [3, 1, 0, 7] false = none
    ∧ ({ R.link with resetPending := some ⟨1, 0⟩ } : LinkUnit).resetPending.isSome = true
    ∧ (R.port .feed).intake.length < 32
    ∧ 32 ≤ ((R.putPort .desk ⟨List.replicate 32 ⟨0, 0, none⟩, ⟨[], 0⟩, 65535, 0⟩).port .desk).intake.length := by
  decide +kernel

/-- A link unit that carries out a RESET: events of the desk receiver that discard a packet and that complete one. -/
theorem witness_PortsReceivePackets_in_reset : ∃ s : State, s.link.resetPending.isSome = true
    ∧ deskReceive s.link.deskReceiver 0xFE false = (.length false, .discarded)
    ∧ ∃ r, deskReceive (.collecting 2 [3, 1, 0] false false) 6 false = (r, .completed 2 [3, 1, 0, 6] false) :=
  ⟨{ R with link := { R.link with resetPending := some ⟨1, 0⟩, deskReceiver := .collecting 2 [3] false false } }, rfl, by decide, _, rfl⟩

/-- A part in which a DISPLAY RESTART of tag 7 waits for the ends of its conditions. -/
def restarting (faultEnded : Bool) : State :=
  { R.reserve .feed with link := { (R.reserve .feed).link with restartPending := some ⟨.feed, 7, 43, faultEnded⟩ } }

theorem witness_HeadsAnswersReportsAndConditionsMove :
    (∃ (s : State) (q : Packet) (rest : List Packet), (s.port .desk).intake = q :: rest ∧ q.directive = none
      ∧ s.hasRoom .desk = true)
    ∧ (∃ (s : State) (q : Packet) (rest : List Packet), (s.port .feed).intake = q :: rest ∧ q.directive = some .reset
      ∧ (s.handoffOf .link .feed).length = 7 ∧ s.link.resetPending = none)
    ∧ (∃ (s : State) (q : Packet) (rest : List Packet), (s.port .feed).intake = q :: rest ∧ q.directive = some .reset
      ∧ (s.handoffOf .link .feed).length = 8)
    ∧ (∃ (s : State) (a : Answer) (rest : List Answer), (s.port .feed).answers.answers = a :: rest ∧ s.link.resetPending = none)
    ∧ R.link.due[(0 : Fin 12)] = true
    ∧ (∃ s : State, s.mail.conditions[Block.seat.index] = [.raise .oversold] ∧ s.link.flags[Condition.oversold.index] = false)
    ∧ (∃ s : State, s.mail.conditions[Block.clock.index] = [.raise .clockUnset]
      ∧ s.link.flags[Condition.clockUnset.index] = true)
    ∧ (∃ s : State, s.mail.conditions[Block.clock.index] = [.ends .clockUnset])
    ∧ (∃ s : State, s.mail.conditions[Block.memory.index] = [.ends .memoryFault] ∧ s.link.restartPending = some ⟨.feed, 7, 43, false⟩)
    ∧ ∃ s : State, s.mail.conditions[Block.memory.index] = [.ends .streamLost] ∧ s.link.restartPending = some ⟨.feed, 7, 43, true⟩ :=
  ⟨⟨R.putPort .desk ⟨[⟨0, 0, none⟩], ⟨[], 15⟩, 0, 0⟩, _, _, rfl, rfl, by decide +kernel⟩,
    ⟨(R.putPort .feed ⟨[⟨1, 19, some .reset⟩], ⟨[], 0⟩, 0, 0⟩).putHandoff .link .feed (List.replicate 7 ⟨0, 0, none⟩), _, _, rfl, rfl,
      by decide +kernel, rfl⟩,
    ⟨(R.putPort .feed ⟨[⟨1, 19, some .reset⟩], ⟨[], 0⟩, 0, 0⟩).putHandoff .link .feed (List.replicate 8 ⟨0, 0, none⟩), _, _, rfl, rfl,
      by decide +kernel⟩,
    ⟨R.putPort .feed ⟨[], ⟨[⟨1, 0, .done, []⟩], 0⟩, 0, 0⟩, _, _, rfl, rfl⟩, by decide +kernel,
    ⟨R.sendCondition .seat (.raise .oversold), by decide +kernel, by decide +kernel⟩,
    ⟨R.sendCondition .clock (.raise .clockUnset), by decide +kernel, by decide +kernel⟩,
    ⟨R.sendCondition .clock (.ends .clockUnset), by decide +kernel⟩,
    ⟨(restarting false).sendCondition .memory (.ends .memoryFault), by decide +kernel, rfl⟩,
    (restarting true).sendCondition .memory (.ends .streamLost), by decide +kernel, rfl⟩

theorem witness_HeadsMove_not_in_reset : ∃ (s : State) (q : Packet) (rest : List Packet), (s.port .desk).intake = q :: rest
    ∧ q.directive.isSome = true ∧ s.link.resetPending.isSome = true :=
  ⟨{ R with link := { R.link with ports := ⟨.atReset, ⟨[⟨1, 1, some (.sell 1 1)⟩], ⟨[], 0⟩, 0, 0⟩⟩, resetPending := some ⟨1, 0⟩ } },
    _, _, rfl, rfl, rfl⟩

theorem witness_SetReportsChoosesTheReports :
    Asks (given R .link .feed (.setReports [12])) .link .feed (.setReports [12]) ∧ (∃ m ∈ [12], 11 < m)
    ∧ Asks (given R .link .feed (.setReports [0, 11])) .link .feed (.setReports [0, 11]) ∧ (∀ m ∈ [0, 11], m ≤ 11)
    ∧ R.link.flags[Condition.panelLost.index] = false ∧ R.link.enables[Condition.panelLost.index] = true :=
  ⟨asks, by decide, asks, by decide, by decide +kernel, by decide +kernel⟩

theorem witness_LinkUnitTakesItsDirectives :
    Asks (given R .link .feed (.grant 3 2)) .link .feed (.grant 3 2) ∧ (3 : Fin 5) ≠ 4
    ∧ Asks (given R .link .feed (.grant 4 1)) .link .feed (.grant 4 1)
    ∧ Asks (given R .link .desk (.acknowledge [11])) .link .desk (.acknowledge [11])
    ∧ (∀ c : Condition, c.endedByBlock = true → c.index.val ∈ [11] → R.link.flags[c.index] = false)
    ∧ Asks (given R .link .desk (.acknowledge [12])) .link .desk (.acknowledge [12])
    ∧ Asks (given R .link .desk (.acknowledge [0])) .link .desk (.acknowledge [0])
    ∧ (Condition.clockUnset.endedByBlock = true ∧ R.link.flags[Condition.clockUnset.index] = true)
    ∧ (∃ (q : Packet) (t : State), (given R .link .feed .reset).Takes .link .feed q .reset t)
    ∧ Asks (given R .link .feed .displayRestart) .link .feed .displayRestart
    ∧ (∃ s : State, s.link.restartPending = some ⟨.feed, 7, 43, false⟩
      ∧ s.mail.conditions[Block.memory.index] = [.ends .memoryFault, .ends .streamLost])
    ∧ (∃ s : State, s.nextSecond .link = some 600 ∧ s.link.watch.overdue = false ∧ s.clock.state = .set
      ∧ s.link.watch.last + 600 ≤ 600)
    ∧ ∃ s : State, s.nextSecond .link = some 599 ∧ ¬(s.link.watch.last + 600 ≤ 599) :=
  ⟨asks, by decide, asks, asks, by intro c; cases c <;> decide +kernel, asks, asks, ⟨by decide, by decide +kernel⟩, asks, asks,
    ⟨((restarting false).sendCondition .memory (.ends .memoryFault)).sendCondition .memory (.ends .streamLost), rfl, by decide +kernel⟩,
    ⟨({ R with clock := { R.clock with state := .set } } : State).sendSecond .link 600, by decide +kernel, rfl, rfl, by decide +kernel⟩,
    R.sendSecond .link 599, by decide +kernel, by decide +kernel⟩

theorem witness_FullResetActsOnTheWholePart :
    (∃ (s : State) (a : Answer) (rest : List Answer), (s.port .feed).answers.answers = a :: rest
      ∧ s.link.resetPending = some ⟨1, 0⟩)
    ∧ (∃ (s : State) (a : Answer) (rest : List Answer), (s.port .desk).answers.answers = a :: rest
      ∧ s.link.resetPending = some ⟨0, 1⟩)
    ∧ ∃ (s : State) (a : Answer) (rest : List Answer), (s.port .desk).answers.answers = a :: rest
      ∧ s.link.resetPending = some ⟨1, 1⟩ :=
  ⟨⟨{ R with link := { R.link with ports := ⟨⟨[], ⟨[⟨1, 0, .done, []⟩], 0⟩, 0, 0⟩, .atReset⟩, resetPending := some ⟨1, 0⟩ } },
      _, _, rfl, rfl⟩,
    ⟨{ R with link := { R.link with ports := ⟨.atReset, ⟨[], ⟨[⟨1, 0, .done, []⟩], 0⟩, 0, 0⟩⟩, resetPending := some ⟨0, 1⟩ } },
      _, _, rfl, rfl⟩,
    { R with link := { R.link with ports := ⟨.atReset, ⟨[], ⟨[⟨1, 0, .done, []⟩], 0⟩, 0, 0⟩⟩, resetPending := some ⟨1, 1⟩ } },
      _, _, rfl, rfl⟩

/-- Answers that a RESET has made lost: a desk answer issued after it, and a feed answer behind its own. -/
theorem witness_FullReset_lost_answers :
    (∃ s : State, s.link.resetPending = some ⟨1, 0⟩ ∧ (s.port .desk).answers.answers ≠ [])
    ∧ ∃ s : State, s.link.resetPending = some ⟨0, 1⟩ ∧ (s.port .feed).answers.answers ≠ [] :=
  ⟨⟨{ R with link := { R.link with ports := ⟨.atReset, ⟨[], ⟨[⟨1, 0, .done, []⟩], 0⟩, 0, 0⟩⟩, resetPending := some ⟨1, 0⟩ } },
      rfl, by decide⟩,
    { R with link := { R.link with ports := ⟨⟨[], ⟨[⟨1, 0, .done, []⟩], 0⟩, 0, 0⟩, .atReset⟩, resetPending := some ⟨0, 1⟩ } },
    rfl, by decide⟩

/-- A clock that is SET on day 400 at 02:10:30, day start 06:00, with the mark on its minute. -/
def night : Clock := { R.clock with state := .set, hour := 2, minute := 10, second := 30, weekday := 3, day := 399, mark := some 1210 }

theorem witness_TicksAndSecondsKeepTime :
    R.clock.secondOwed = false ∧ (∃ s : State, s.clock.secondOwed = false ∧ s.clock.tenths = 9)
    ∧ ∃ s : State, s.clock.secondOwed = true ∧ s.clock.runTime = 4294967295 ∧ s.clock.hour = 23 ∧ s.clock.minute = 59
      ∧ s.clock.second = 59 ∧ s.clock.weekday = 7 ∧ s.clock.state = .set :=
  ⟨rfl, ⟨{ R with clock := { night with tenths := 9 } }, rfl, rfl⟩,
    { R with clock := { night with secondOwed := true, runTime := 4294967295, hour := 23, minute := 59, second := 59, weekday := 7 } },
    rfl, rfl, rfl, rfl, rfl, rfl, rfl⟩

theorem witness_MinutesAreActedOnInOrder :
    (∃ s : State, s.clock.mark = some 1210 ∧ 1210 ≤ 1210) ∧ ∃ s : State, ∀ m, s.clock.mark = some m → m < 1211 :=
  ⟨⟨{ R with clock := night }, rfl, by decide⟩, { R with clock := night }, by decide⟩

theorem witness_BeaconsActOnTheClockState :
    (∃ (s : State) (t : TimeFields), s.mail.linkToClock = [.beacon t] ∧ s.clock.state = .set)
    ∧ (∃ (s : State) (t : TimeFields), s.mail.linkToClock = [.beacon t] ∧ s.clock.state = .unconfirmed)
    ∧ (∃ (s : State) (t : TimeFields), s.mail.linkToClock = [.beacon t] ∧ s.clock.state = .unset)
    ∧ ∃ s : State, s.mail.linkToClock = [.overdue] ∧ s.clock.state = .set :=
  ⟨⟨{ R with clock := night, mail := { M with linkToClock := [.beacon ⟨400, 3, 2, 10, 31⟩] } }, _, rfl, rfl⟩,
    ⟨{ R with clock := { night with state := .unconfirmed }, mail := { M with linkToClock := [.beacon ⟨400, 3, 2, 10, 31⟩] } }, _, rfl,
      rfl⟩,
    ⟨{ R with mail := { M with linkToClock := [.beacon ⟨0, 1, 0, 0, 0⟩] } }, _, rfl, rfl⟩,
    { R with clock := night, mail := { M with linkToClock := [.overdue] } }, rfl, rfl⟩

/-- The state with the clock `night`. -/
def atNight : State := { R with clock := night }

theorem atNight_sound : atNight.ClockSound := by
  refine ⟨by decide, by decide, by decide, by decide, by decide, by decide, by decide, by decide, by decide, by decide, ?_⟩
  intro e he; cases he

theorem witness_BeaconTimeIsAppliedByPosition :
    atNight.ClockSound
    ∧ (TimeFields.Ok ⟨399, 7, 5, 59, 59⟩ ∧ atNight.clock.dayOf ⟨399, 7, 5, 59, 59⟩ < atNight.clock.day)
    ∧ (TimeFields.Ok ⟨400, 1, 2, 10, 30⟩ ∧ atNight.clock.positionOf ⟨400, 1, 2, 10, 30⟩ = atNight.clock.position)
    ∧ (TimeFields.Ok ⟨400, 3, 2, 9, 59⟩ ∧ atNight.clock.day = atNight.clock.dayOf ⟨400, 3, 2, 9, 59⟩
      ∧ atNight.clock.positionOf ⟨400, 3, 2, 9, 59⟩ < atNight.clock.position)
    ∧ (TimeFields.Ok ⟨400, 3, 2, 10, 31⟩ ∧ atNight.clock.position < atNight.clock.positionOf ⟨400, 3, 2, 10, 31⟩
      ∧ atNight.clock.minuteOf ⟨400, 3, 2, 10, 31⟩ = atNight.clock.businessMinute)
    ∧ (TimeFields.Ok ⟨400, 3, 2, 11, 0⟩ ∧ atNight.clock.businessMinute < atNight.clock.minuteOf ⟨400, 3, 2, 11, 0⟩)
    ∧ TimeFields.Ok ⟨400, 3, 6, 0, 0⟩ ∧ atNight.clock.day < atNight.clock.dayOf ⟨400, 3, 6, 0, 0⟩
    ∧ atNight.clock.position + 600 < atNight.clock.positionOf ⟨400, 3, 6, 0, 0⟩ :=
  ⟨atNight_sound, by unfold TimeFields.Ok; decide +kernel⟩

/-- Clocks and beacons at the ends of their ranges: a day start of 23:00, an hour at it and one before it, serial 0 before it. -/
theorem witness_BeaconTime_business_days :
    TimeFields.Ok ⟨0, 1, 0, 0, 0⟩ ∧ TimeFields.Ok ⟨65535, 7, 23, 59, 59⟩
    ∧ ({ R.clock with dayStart := 23, hour := 23, minute := 59, second := 59 } : Clock).dayOf ⟨0, 1, 22, 59, 59⟩ = 0
    ∧ ({ R.clock with dayStart := 23 } : Clock).dayOf ⟨400, 1, 22, 59, 59⟩ = 399
    ∧ ({ R.clock with dayStart := 23 } : Clock).dayOf ⟨400, 1, 23, 0, 0⟩ = 400
    ∧ ({ R.clock with dayStart := 23 } : Clock).minuteOf ⟨400, 1, 22, 59, 59⟩ = 1439
    ∧ ({ R.clock with dayStart := 23 } : Clock).minuteOf ⟨400, 1, 23, 0, 0⟩ = 0 := by
  simp [TimeFields.Ok, Clock.dayOf, Clock.minuteOf, Machine.businessMinute]

/-- A forward set of exactly 600 s, and one of 601 s. -/
theorem witness_BeaconTime_near_and_far :
    (TimeFields.Ok ⟨400, 3, 2, 20, 30⟩ ∧ atNight.clock.day ≤ atNight.clock.dayOf ⟨400, 3, 2, 20, 30⟩
      ∧ atNight.clock.positionOf ⟨400, 3, 2, 20, 30⟩ = atNight.clock.position + 600
      ∧ atNight.clock.businessMinute < atNight.clock.minuteOf ⟨400, 3, 2, 20, 30⟩)
    ∧ TimeFields.Ok ⟨400, 3, 2, 20, 31⟩ ∧ atNight.clock.position + 600 < atNight.clock.positionOf ⟨400, 3, 2, 20, 31⟩ := by
  unfold TimeFields.Ok; decide +kernel

theorem witness_ClockDirectivesAreChecked :
    (Asks (given R .clock .feed (.setClock ⟨1, 8, 0, 0, 0⟩)) .clock .feed (.setClock ⟨1, 8, 0, 0, 0⟩)
      ∧ ¬TimeFields.Ok ⟨1, 8, 0, 0, 0⟩)
    ∧ (Asks (given atNight .clock .feed (.setClock ⟨399, 7, 5, 59, 59⟩)) .clock .feed (.setClock ⟨399, 7, 5, 59, 59⟩)
      ∧ atNight.clock.state ≠ .unset ∧ atNight.clock.dayOf ⟨399, 7, 5, 59, 59⟩ < atNight.clock.day)
    ∧ (Asks (given R .clock .feed (.setClock ⟨0, 1, 0, 0, 0⟩)) .clock .feed (.setClock ⟨0, 1, 0, 0, 0⟩)
      ∧ TimeFields.Ok ⟨0, 1, 0, 0, 0⟩ ∧ R.clock.state = .unset)
    ∧ Asks (given R .clock .feed (.setHouse 12 24)) .clock .feed (.setHouse 12 24)
    ∧ (Asks (given atNight .clock .feed (.setHouse 24 5)) .clock .feed (.setHouse 24 5) ∧ 5 ≠ atNight.clock.dayStart)
    ∧ (Asks (given R .clock .feed (.setHouse 12 23)) .clock .feed (.setHouse 12 23) ∧ HourFormat.h12.number = 12)
    ∧ Asks (given R .clock .feed (.setCue 16 ⟨1, 65535, 65535, 65535, 2, 0, [0]⟩)) .clock .feed
        (.setCue 16 ⟨1, 65535, 65535, 65535, 2, 0, [0]⟩)
    ∧ Asks (given R .clock .feed (.setCue 15 ⟨1, 7, 23, 59, 6, 15, [11]⟩)) .clock .feed (.setCue 15 ⟨1, 7, 23, 59, 6, 15, [11]⟩)
    ∧ Asks (given R .clock .feed (.clearCue 16)) .clock .feed (.clearCue 16)
    ∧ Asks (given R .clock .feed (.clearCue 15)) .clock .feed (.clearCue 15) :=
  ⟨⟨asks, by unfold TimeFields.Ok; decide⟩, ⟨asks, by decide, by decide⟩, ⟨asks, by unfold TimeFields.Ok; decide, rfl⟩, asks,
    ⟨asks, by decide⟩, ⟨asks, rfl⟩, asks, asks, asks, asks⟩

theorem witness_MarkNeverMovesBackWithinADay : ∃ t, atNight.ClockSound ∧ exec .tenthTick atNight = .next t
    ∧ t.clock.state ≠ .unset ∧ atNight.clock.mark = some 1210 ∧ t.clock.day = atNight.clock.day ∧ atNight.clock.day < 65535 :=
  ⟨_, atNight_sound, rfl, by decide, rfl, rfl, by decide⟩

theorem witness_TimeMovesTheScreenings :
    ((withTable [listed]).schedule.viewMinute = some 840 ∧ listed.day = (withTable [listed]).schedule.viewDay)
    ∧ R.schedule.viewMinute = none
    ∧ (∃ s : State, s.mail.clockToSchedule = [.minute 1439]) ∧ (∃ s : State, s.mail.clockToSchedule = [.rollover 11])
    ∧ ∃ (s : State) (ended : Screening → Bool), s.nextSecond .schedule = some 600
      ∧ ∀ r, ended r = true ↔ r.phase = .cancelled
        ∧ ∃ c, r.cancelTime = some c ∧ min (c + 60 * s.schedule.settings.linger) 4294967295 ≤ 600 := by
  refine ⟨⟨rfl, rfl⟩, rfl, ⟨{ R with mail := { M with clockToSchedule := [.minute 1439] } }, rfl⟩,
    ⟨{ R with mail := { M with clockToSchedule := [.rollover 11] } }, rfl⟩, R.sendSecond .schedule 600,
    fun r => r.lingerOver 10 600, by decide +kernel, ?_⟩
  intro r
  have h : (R.sendSecond .schedule 600).schedule.settings.linger = 10 := rfl
  rw [h]
  cases hc : r.cancelTime with
  | none => simp [Screening.lingerOver, hc]
  | some c => simp [Screening.lingerOver, addTime, hc]; intro _ h; exact absurd h (by decide)

theorem witness_TitlesPhasesAndCancellations :
    Asks (given R .schedule .feed (.loadTitle 128 [65] [] 90)) .schedule .feed (.loadTitle 128 [65] [] 90)
    ∧ Asks (given R .schedule .feed (.loadTitle 127 (List.replicate 48 65) [1, 2, 3, 4, 5] 400)) .schedule .feed
        (.loadTitle 127 (List.replicate 48 65) [1, 2, 3, 4, 5] 400)
    ∧ Asks (given R .schedule .feed (.setPhaseTimes ⟨21, 15, 20, 10, 15⟩)) .schedule .feed (.setPhaseTimes ⟨21, 15, 20, 10, 15⟩)
    ∧ Asks (given R .schedule .feed (.setPhaseTimes ⟨60, 60, 720, 60, 60⟩)) .schedule .feed (.setPhaseTimes ⟨60, 60, 720, 60, 60⟩)
    ∧ Asks (given R .schedule .feed (.cancelScreening 1)) .schedule .feed (.cancelScreening 1)
    ∧ findScreening R.schedule.table 1 = none
    ∧ Asks (given (withTable [listed]) .schedule .feed (.cancelScreening 1)) .schedule .feed (.cancelScreening 1)
    ∧ findScreening (withTable [listed]).schedule.table 1 = some listed
    ∧ findScreening (withTable [{ listed with phase := .running }]).schedule.table 1 = some { listed with phase := .running }
    ∧ findScreening (withTable [{ listed with phase := .cancelled }]).schedule.table 1 = some { listed with phase := .cancelled }
    ∧ Asks (given R .schedule .feed (.dropScreening 1)) .schedule .feed (.dropScreening 1)
    ∧ Asks (given (withTable [listed]) .schedule .feed (.dropScreening 1)) .schedule .feed (.dropScreening 1) :=
  ⟨asks, asks, asks, asks, asks, rfl, asks, rfl, rfl, rfl, asks, asks⟩

/-- The fields of a LOAD SCREENING for title 0 with a show time. -/
def loads (number title showTime : Nat) : ScreeningFields := ⟨number, 10, 24, title, showTime, 0, 999, [], []⟩

theorem witness_ScreeningsAreLoadedAndAmended :
    (Asks (given (withTable []) .schedule .feed (.loadScreening (loads 9 0 1440))) .schedule .feed (.loadScreening (loads 9 0 1440))
      ∧ 1439 < (loads 9 0 1440).showTime + (loads 9 0 1440).delay)
    ∧ (Asks (given (withTable []) .schedule .feed (.loadScreening (loads 9 1 1439))) .schedule .feed (.loadScreening (loads 9 1 1439))
      ∧ (loads 9 1 1439).inRange = true ∧ (withTable []).schedule.titles[1]? = some none)
    ∧ (Asks (given (withTable []) .schedule .feed (.loadScreening (loads 9 0 1439))) .schedule .feed (.loadScreening (loads 9 0 1439))
      ∧ (withTable []).schedule.titles[0]? = some (some ⟨[65], [], 90⟩) ∧ findScreening (withTable []).schedule.table 9 = none)
    ∧ (Asks (given (withTable [listed]) .schedule .feed (.loadScreening (loads 1 0 1439))) .schedule .feed
        (.loadScreening (loads 1 0 1439)) ∧ findScreening (withTable [listed]).schedule.table 1 = some listed)
    ∧ (Asks (given (withTable []) .schedule .feed (.amendScreening 1 none none none none)) .schedule .feed
        (.amendScreening 1 none none none none) ∧ findScreening (withTable []).schedule.table 1 = none)
    ∧ (Asks (given (withTable [listed]) .schedule .feed (.amendScreening 1 (some 540) none none none)) .schedule .feed
        (.amendScreening 1 (some 540) none none none) ∧ 1439 < listed.showTime + 540)
    ∧ (Asks (given (withTable [{ listed with phase := .running }]) .schedule .feed (.amendScreening 1 (some 0) none none none))
        .schedule .feed (.amendScreening 1 (some 0) none none none) ∧ 3 ≤ Phase.running.number
      ∧ (AmendFields.mk (some 0) none none none).inRange = true)
    ∧ (Asks (given (withTable [listed]) .schedule .feed (.amendScreening 1 none (some 999) none (some []))) .schedule .feed
        (.amendScreening 1 none (some 999) none (some [])) ∧ ¬4 ≤ listed.phase.number
      ∧ (AmendFields.mk none (some 999) none (some [])).inRange = true) := by
  refine ⟨⟨asks, ?_⟩, ⟨asks, ?_, ?_⟩, ⟨asks, ?_, ?_⟩, ⟨asks, ?_⟩, ⟨asks, ?_⟩, ⟨asks, ?_⟩, ⟨asks, ?_, ?_⟩, asks, ?_, ?_⟩ <;>
    decide +kernel

/-- A full table: 96 screenings, the first CLOSED or not. -/
def fullTable (first : Phase) : State :=
  withTable ({ listed with phase := first } :: (List.range' 2 95).map fun n => { listed with number := n })

theorem witness_FullTableGivesUpTheEarliestClosed :
    (Asks (given (fullTable .listed) .schedule .feed (.loadScreening (loads 200 0 900))) .schedule .feed
        (.loadScreening (loads 200 0 900))
      ∧ (∀ r ∈ (fullTable .listed).schedule.table, r.phase ≠ .closed) ∧ 96 ≤ (fullTable .listed).schedule.table.length)
    ∧ (Asks (given (fullTable .closed) .schedule .feed (.loadScreening (loads 200 0 900))) .schedule .feed
        (.loadScreening (loads 200 0 900))
      ∧ { listed with phase := .closed } ∈ (fullTable .closed).schedule.table
      ∧ (∀ x ∈ (fullTable .closed).schedule.table, x.phase = .closed → x = { listed with phase := .closed })
      ∧ (loads 200 0 900).inRange = true ∧ (fullTable .closed).schedule.dayAccepted 10 = true
      ∧ findScreening (fullTable .closed).schedule.table 200 = none)
    ∧ ∃ t, exec (.loadScreening .feed) (given (withTable [listed]) .schedule .feed (.loadScreening (loads 1 0 1439))) = .next t
      ∧ listed ∈ (withTable [listed]).schedule.table ∧ listed ∉ t.schedule.table :=
  ⟨⟨asks, by decide +kernel, by decide +kernel⟩,
    ⟨asks, by decide +kernel, by decide +kernel, by decide +kernel, by decide +kernel, by decide +kernel⟩,
    _, rfl, by decide +kernel, by decide +kernel⟩

theorem listed_sound : (withTable [listed]).schedule.Sound := ⟨by decide +kernel, by decide +kernel, by decide +kernel⟩

/-- A record joins a table between two others, and in the place of its own number. -/
theorem witness_Screenings_in_order :
    (∀ x ∈ [listed], x.number < 5) ∧ (∀ x ∈ [{ listed with number := 9 }], 5 < x.number)
    ∧ (∃ x : Screening, [{ listed with number := 5 }] = [x] ∧ x.number = 5)
    ∧ List.Pairwise (fun x y : Screening => x.number < y.number) [listed, { listed with number := 9 }] := by
  refine ⟨by decide, by decide, ⟨_, rfl, rfl⟩, by decide⟩

theorem witness_ScreeningTableStaysInOrder : ∃ t, (withTable [listed]).schedule.Sound ∧ step (withTable [listed]) = .next t :=
  ⟨_, listed_sound, rfl⟩

theorem witness_PhasesMoveOnlyForward : ∃ (s t : State) (r : Screening), s.schedule.Sound
    ∧ exec .scheduleMinuteEvent s = .next t ∧ listed ∈ s.schedule.table ∧ r ∈ t.schedule.table ∧ r.number = listed.number
    ∧ listed.phase.number < r.phase.number :=
  ⟨{ withTable [listed] with mail := { M with clockToSchedule := [.minute 900] } }, _, { listed with phase := .running }, listed_sound,
    rfl, by decide +kernel, by decide +kernel, rfl, by decide⟩

/-- LOAD SCREENING of another number leaves screening 1 as it was. -/
theorem witness_LoadScreening_leaves_others : ∃ t, exec (.loadScreening .feed) (given (withTable [listed]) .schedule .feed
      (.loadScreening (loads 9 0 1439))) = .next t ∧ listed ∈ (withTable [listed]).schedule.table ∧ listed ∈ t.schedule.table
    ∧ t.schedule.table.length = 2 ∧ (loads 9 0 1439).number ≠ listed.number :=
  ⟨_, rfl, by decide +kernel, by decide +kernel, by decide +kernel, by decide⟩

theorem witness_BandsRiseAtOnceAndFallByStages :
    (1 ≤ 20 ∧ 20 ≤ R.seat.bands.fewSeats ∧ 0 < 1)
    ∧ (Band.plenty.number ≤ (rawBand R.seat.bands 0 1000).number)
    ∧ ((rawBand R.seat.bands 21 0).number < Band.soldOut.number)
    ∧ (newBand R.seat.bands 21 0 .soldOut).number < Band.soldOut.number := by decide

/-- A tally stands between two others in the tally table. -/
theorem witness_AvailabilityIsComputed : ∃ before same after : List Tally,
    [tally1, { tally1 with number := 2 }, { tally1 with number := 3 }] = before ++ same ++ after
    ∧ (∀ x ∈ before, x.number < 2) ∧ (same = [] ∨ ∃ x, same = [x] ∧ x.number = 2) ∧ ∀ x ∈ after, 2 < x.number :=
  ⟨[tally1], [{ tally1 with number := 2 }], [{ tally1 with number := 3 }], rfl, by decide, .inr ⟨_, rfl, rfl⟩, by decide⟩

theorem witness_SeatUnitFollowsTheSchedule :
    ((∃ s : State, s.mail.scheduleToSeat = [.added 1 100] ∧ findTally s.seat.tallies 1 = none)
      ∧ (∃ s : State, s.mail.scheduleToSeat = [.added 1 100] ∧ findTally s.seat.tallies 1 = some tally1)
      ∧ (∃ s : State, s.mail.scheduleToSeat = [.capacityChanged 1 999] ∧ findTally s.seat.tallies 1 = none)
      ∧ (∃ s : State, s.mail.scheduleToSeat = [.capacityChanged 1 999] ∧ findTally s.seat.tallies 1 = some tally1)
      ∧ (∃ s : State, s.mail.scheduleToSeat = [.phaseChanged 1 .running])
      ∧ (∃ s : State, s.mail.scheduleToSeat = [.phaseChanged 1 .cancelled] ∧ findTally s.seat.tallies 1 = some tally1)
      ∧ (∃ s : State, s.mail.scheduleToSeat = [.removed 1] ∧ findTally s.seat.tallies 1 = none)
      ∧ (∃ s : State, s.mail.scheduleToSeat = [.removed 1] ∧ findTally s.seat.tallies 1 = some tally1)
      ∧ ∃ s : State, s.nextSecond .seat = some 60 ∧ s.seat.holds = [⟨5, 1, 2, 60⟩] ++ [] ∧ ∀ h ∈ [(⟨5, 1, 2, 60⟩ : Hold)], h.expiry ≤ 60)
    ∧ Asks (given R .seat .feed (.setBands ⟨99, 1000, 900, 20, 100, 20⟩)) .seat .feed (.setBands ⟨99, 1000, 900, 20, 100, 20⟩)
    ∧ Asks (given R .seat .feed (.setBands ⟨1, 500, 500, 0, 0, 1⟩)) .seat .feed (.setBands ⟨1, 500, 500, 0, 0, 1⟩) :=
  ⟨⟨⟨{ R with mail := { M with scheduleToSeat := [.added 1 100] } }, rfl, rfl⟩,
    ⟨{ selling with mail := { M with scheduleToSeat := [.added 1 100] } }, rfl, rfl⟩,
    ⟨{ R with mail := { M with scheduleToSeat := [.capacityChanged 1 999] } }, rfl, rfl⟩,
    ⟨{ selling with mail := { M with scheduleToSeat := [.capacityChanged 1 999] } }, rfl, rfl⟩,
    ⟨{ selling with mail := { M with scheduleToSeat := [.phaseChanged 1 .running] } }, rfl⟩,
    ⟨{ selling with mail := { M with scheduleToSeat := [.phaseChanged 1 .cancelled] } }, rfl, rfl⟩,
    ⟨{ R with mail := { M with scheduleToSeat := [.removed 1] } }, rfl, rfl⟩,
    ⟨{ selling with mail := { M with scheduleToSeat := [.removed 1] } }, rfl, rfl⟩,
    selling.sendSecond .seat 60, by decide +kernel, rfl, by decide⟩, asks, asks⟩

theorem witness_TallyMessagesCountSeats :
    (findScreening selling.schedule.table 1 = some listed ∧ listed.phase ≠ .closed ∧ listed.phase ≠ .cancelled
      ∧ findTally selling.seat.tallies 1 = some tally1 ∧ findHold selling.seat.holds 5 = some ⟨5, 1, 2, 60⟩)
    ∧ Asks (given selling .seat .desk (.sell 1 50)) .seat .desk (.sell 1 50)
    ∧ Asks (given selling .seat .desk (.refund 1 11)) .seat .desk (.refund 1 11)
    ∧ Asks (given selling .seat .desk (.setSold 1 999 999)) .seat .desk (.setSold 1 999 999)
    ∧ (Asks (given selling .seat .desk (.hold 1 6 20 30)) .seat .desk (.hold 1 6 20 30)
      ∧ (∀ x ∈ selling.seat.holds, x.id ≠ 6) ∧ selling.seat.holds.length ≤ 63 ∧ tally1.held + 20 ≤ 999
      ∧ selling.seat.holds = [⟨5, 1, 2, 60⟩] ++ [] ∧ 60 ≤ min (selling.clock.runTime + 60 * 30) 4294967295)
    ∧ Asks (given selling .seat .desk (.confirm 5)) .seat .desk (.confirm 5)
    ∧ Asks (given selling .seat .desk (.release 5)) .seat .desk (.release 5)
    ∧ (Asks (given selling .seat .desk (.hold 1 5 1 1)) .seat .desk (.hold 1 5 1 1) ∧ ∃ x ∈ selling.seat.holds, x.id = 5)
    ∧ (∃ s : State, Asks (given s .seat .desk (.hold 1 99 1 1)) .seat .desk (.hold 1 99 1 1) ∧ 64 ≤ s.seat.holds.length
      ∧ ∀ x ∈ s.seat.holds, x.id ≠ 99)
    ∧ (∃ s : State, Asks (given s .seat .desk (.hold 1 99 20 1)) .seat .desk (.hold 1 99 20 1)
      ∧ findTally s.seat.tallies 1 = some { tally1 with held := 980 } ∧ 999 < 980 + 20)
    ∧ (Asks (given selling .seat .desk (.confirm 6)) .seat .desk (.confirm 6) ∧ ∀ x ∈ selling.seat.holds, x.id ≠ 6) :=
  ⟨⟨rfl, by decide, by decide, rfl, rfl⟩, asks, asks, asks, ⟨asks, by decide, by decide, by decide, rfl, by decide +kernel⟩, asks, asks,
    ⟨asks, by decide⟩,
    ⟨{ selling with seat := { selling.seat with holds := (List.range 64).map fun n => ⟨n + 1, 1, 0, 60⟩ } }, asks, by decide,
      by decide⟩,
    ⟨{ selling with seat := { selling.seat with tallies := [{ tally1 with held := 980 }] } }, asks, rfl, by decide⟩, asks, by decide⟩

/-- The six messages with a field just outside its range, and a RELEASE of a hold that is not there. -/
theorem witness_TallyMessages_out_of_range :
    Asks (given selling .seat .desk (.sell 1 51)) .seat .desk (.sell 1 51)
    ∧ Asks (given selling .seat .desk (.sell 0 1)) .seat .desk (.sell 0 1)
    ∧ Asks (given selling .seat .desk (.refund 1 0)) .seat .desk (.refund 1 0)
    ∧ Asks (given selling .seat .desk (.setSold 1 1000 0)) .seat .desk (.setSold 1 1000 0)
    ∧ Asks (given selling .seat .desk (.setSold 1 0 1000)) .seat .desk (.setSold 1 0 1000)
    ∧ Asks (given selling .seat .desk (.hold 1 9 21 1)) .seat .desk (.hold 1 9 21 1)
    ∧ Asks (given selling .seat .desk (.hold 1 9 1 31)) .seat .desk (.hold 1 9 1 31)
    ∧ Asks (given selling .seat .desk (.confirm 0)) .seat .desk (.confirm 0)
    ∧ Asks (given selling .seat .desk (.release 0)) .seat .desk (.release 0)
    ∧ (Asks (given selling .seat .desk (.release 6)) .seat .desk (.release 6) ∧ ∀ x ∈ selling.seat.holds, x.id ≠ 6) :=
  ⟨asks, asks, asks, asks, asks, asks, asks, asks, asks, asks, by decide⟩

theorem witness_ClosedScreeningsTakeNoSeats :
    (∃ (q : Packet) (t : State), (((given selling .seat .desk (.sell 2 1)).handoffOf .seat .desk).head? = some q
      ∧ q.directive = some (.sell 2 1)) ∧ (∀ r, findScreening selling.schedule.table 2 = some r → r.phase = .closed ∨ r.phase = .cancelled)
      ∧ exec (.sell .desk) (given selling .seat .desk (.sell 2 1)) = .next t)
    ∧ (Asks (given selling .seat .desk (.sell 2 1)) .seat .desk (.sell 2 1) ∧ findScreening selling.schedule.table 2 = none)
    ∧ ∃ s : State, Asks (given s .seat .desk (.sell 1 50)) .seat .desk (.sell 1 50)
      ∧ findScreening s.schedule.table 1 = some { listed with phase := .closed } ∧ findTally s.seat.tallies 1 = some tally1 :=
  ⟨⟨_, _, ⟨rfl, rfl⟩, by decide, rfl⟩, ⟨asks, rfl⟩,
    { selling with schedule := (withTable [{ listed with phase := .closed }]).schedule }, asks, rfl, rfl⟩

/-- A screening that is given: without a tally, and CANCELLED with one. -/
def untallied : State := { selling with seat := { selling.seat with tallies := [] } }

/-- Screening 1 CANCELLED, with its tally and hold. -/
def called : State := { selling with schedule := (withTable [{ listed with phase := .cancelled }]).schedule }

theorem witness_ClosedScreenings_each_message : ∀ s ∈ [untallied, called],
    (findTally s.seat.tallies 1 = none ∨ ∃ r, findScreening s.schedule.table 1 = some r ∧ r.phase = .cancelled)
    ∧ findHold s.seat.holds 5 = some ⟨5, 1, 2, 60⟩
    ∧ Asks (given s .seat .desk (.refund 1 50)) .seat .desk (.refund 1 50)
    ∧ Asks (given s .seat .desk (.setSold 1 999 0)) .seat .desk (.setSold 1 999 0)
    ∧ Asks (given s .seat .desk (.hold 1 9 20 30)) .seat .desk (.hold 1 9 20 30)
    ∧ Asks (given s .seat .desk (.confirm 5)) .seat .desk (.confirm 5)
    ∧ Asks (given s .seat .desk (.release 5)) .seat .desk (.release 5) := by
  intro s hs
  simp only [List.mem_cons, List.not_mem_nil, or_false] at hs
  rcases hs with rfl | rfl
  · exact ⟨.inl rfl, rfl, asks, asks, asks, asks, asks⟩
  · exact ⟨.inr ⟨_, rfl, rfl⟩, rfl, asks, asks, asks, asks, asks⟩

theorem selling_sound : selling.seat.Sound :=
  ⟨by decide, by decide, by unfold SeatUnit.LeftRight; decide, by unfold SeatUnit.HeldRight; decide,
    ⟨by decide, by decide, by decide⟩, by decide, by decide⟩

theorem witness_SeatLawsAreKept : ∃ t, selling.seat.Sound ∧ step selling = .next t := ⟨_, selling_sound, rfl⟩

theorem witness_RowListHoldsTheFirstAdmitted : ∃ admitted : Screening → Prop,
    (∀ r, admitted r ↔ (∀ xs, board2.auditoriums = some xs → r.auditorium ∈ xs) ∧ (∀ t, board2.title = some t → r.title = t)
      ∧ (r.phase = .listed ∨ r.phase = .boarding ∨ r.phase = .running
        ∨ r.phase = .cancelled ∧ board2.showCancelled = true ∧ (some 840 : Option Nat).isSome = true ∧ r.day = 10))
    ∧ admitted listed := by
  refine ⟨_, fun r => Iff.rfl, ?_, ?_, .inl rfl⟩
  · intro xs h; cases h
  · intro t h; cases h

/-- No entry is one page, a full page one, one entry more two, and 32 entries of one row each 32. -/
theorem witness_Rebuilds_pages : 1 ≤ 1 ∧ pageCount 0 16 = 1 ∧ pageCount 16 16 = 1 ∧ pageCount 17 16 = 2 ∧ pageCount 32 1 = 32 := by
  decide

theorem witness_RebuildsRedrawWhatMoved : ∃ (old new : Fin 8 → Board), (∀ i, old i = boarded.builder.boards[i])
    ∧ (∀ i, new i = (boarded.builder.rebuildAll [] (some 1)).1.boards[i]) ∧ (old 0).defn = some board2 ∧ (old 7).defn = none :=
  ⟨_, _, fun _ => rfl, fun _ => rfl, rfl, by decide +kernel⟩

theorem witness_BoardBuilderTakesItsEvents :
    boarded.builder.settled = true
    ∧ (∀ e ∈ [ScheduleEvent.phaseChanged 1 .closed, .removed 1, .changed 1, .titleChanged 127],
        ∃ s : State, s.mail.scheduleToBuilder = [e] ∧ s.builder.settled = true)
    ∧ (∀ e ∈ [BuilderEvent.rollover 11, .minute 1439, .hourFormatChanged, .tick],
        ∃ s : State, s.mail.clockToBuilder = [e] ∧ s.builder.settled = true)
    ∧ (∃ s : State, s.mail.figuresToBuilder = [1] ∧ s.builder.settled = true)
    ∧ (∃ s : State, s.builder.boards[(0 : Fin 8)].defn = some board2 ∧ s.builder.boards[(0 : Fin 8)].dwell = some 0)
    ∧ ∃ s : State, 0 < s.mail.restarts[Block.builder.index] ∧ s.builder.settled = true := by
  have h : boarded.builder.settled = true := by decide +kernel
  exact ⟨h, fun e _ => ⟨{ boarded with mail := { M with scheduleToBuilder := [e] } }, rfl, h⟩,
    fun e _ => ⟨{ boarded with mail := { M with clockToBuilder := [e] } }, rfl, h⟩,
    ⟨{ boarded with mail := { M with figuresToBuilder := [1] } }, rfl, h⟩,
    ⟨{ boarded with builder := { R.builder with boards := R.builder.boards.set 0 ⟨some board2, [], 0, some 0⟩ } }, rfl, rfl⟩,
    boarded.sendRestart .builder, by decide +kernel, h⟩

theorem witness_BoardsAreDefinedAndCleared :
    Asks (given R .builder .feed (.defineBoard 8 ⟨none, 65535, 1, 1, 2, 0, 27⟩)) .builder .feed
        (.defineBoard 8 ⟨none, 65535, 1, 1, 2, 0, 27⟩)
    ∧ Asks (given R .builder .feed (.defineBoard 7 ⟨some [1, 24], 127, 2, 16, 60, 1, 48⟩)) .builder .feed
        (.defineBoard 7 ⟨some [1, 24], 127, 2, 16, 60, 1, 48⟩)
    ∧ Asks (given R .builder .feed (.defineBoard 0 ⟨none, 65535, 1, 1, 2, 0, 27⟩)) .builder .feed
        (.defineBoard 0 ⟨none, 65535, 1, 1, 2, 0, 27⟩)
    ∧ Asks (given R .builder .feed (.clearBoard 8)) .builder .feed (.clearBoard 8)
    ∧ (Asks (given R .builder .feed (.clearBoard 7)) .builder .feed (.clearBoard 7) ∧ R.builder.boards[7].defn = none)
    ∧ Asks (given boarded .builder .feed (.clearBoard 0)) .builder .feed (.clearBoard 0)
    ∧ boarded.builder.boards[0].defn = some board2 :=
  ⟨asks, asks, asks, asks, ⟨asks, by decide +kernel⟩, asks, rfl⟩

theorem boarded_sound : boarded.builder.Sound := by
  intro b hb
  have h : ∀ b ∈ boarded.builder.boards.toList, b = ⟨some board2, [⟨1, 3, 0, 900, .listed⟩], 0, some 80⟩ ∨ b = ⟨none, [], 0, none⟩ := by
    decide +kernel
  rcases h b hb with rfl | rfl
  · exact ⟨by decide, by decide, by decide, by decide, rfl⟩
  · exact ⟨rfl, rfl, rfl⟩

theorem witness_RowListsStayInOrder : ∃ t, boarded.schedule.Sound ∧ boarded.builder.Sound ∧ step boarded = .next t :=
  ⟨_, listed_sound, boarded_sound, rfl⟩

/-- A POST NOTICE for panel 0. -/
def posts (number cls : Nat) (bound lifetime : Option Nat) : NoticeFields := ⟨number, cls, [65], [0, 11], bound, lifetime⟩

theorem witness_NoticesArePosted :
    Asks (given R .notice .desk (.postNotice (posts 256 1 none none))) .notice .desk (.postNotice (posts 256 1 none none))
    ∧ (Asks (given R .notice .desk (.postNotice (posts 255 2 (some 1) none))) .notice .desk (.postNotice (posts 255 2 (some 1) none))
      ∧ findScreening R.schedule.table 1 = none)
    ∧ (∃ s : State, Asks (given s .notice .desk (.postNotice (posts 255 2 (some 1) none))) .notice .desk
        (.postNotice (posts 255 2 (some 1) none)) ∧ findScreening s.schedule.table 1 = some { listed with phase := .cancelled })
    ∧ (∃ s : State, Asks (given s .notice .desk (.postNotice (posts 255 3 (some 1) (some 720)))) .notice .desk
        (.postNotice (posts 255 3 (some 1) (some 720))) ∧ findScreening s.schedule.table 1 = some listed
      ∧ (∀ x ∈ s.notice.notices, x.number ≠ 255) ∧ ∀ k < 32, ∃ x ∈ s.notice.notices, x.slot = k)
    ∧ (Asks (given noticed .notice .desk (.postNotice (posts 2 1 none (some 1)))) .notice .desk (.postNotice (posts 2 1 none (some 1)))
      ∧ ∃ x, findNotice noticed.notice.notices 2 = some x ∧ x.slot = 1)
    ∧ (Asks (given noticed .notice .desk (.postNotice (posts 3 3 none none))) .notice .desk (.postNotice (posts 3 3 none none))
      ∧ findNotice noticed.notice.notices 3 = none ∧ (∀ x ∈ noticed.notice.notices, x.slot ≠ 2)
      ∧ ∀ k < 2, ∃ x ∈ noticed.notice.notices, x.slot = k) :=
  ⟨asks, ⟨asks, rfl⟩, ⟨withTable [{ listed with phase := .cancelled }], asks, rfl⟩,
    ⟨{ withTable [listed] with notice := { R.notice with
        notices := (List.range 32).map fun k => ⟨k + 1, .service, [65], [0], none, none, none, 0, k⟩ } }, asks, rfl,
      by decide +kernel, by decide +kernel⟩,
    ⟨asks, _, rfl, rfl⟩, asks, rfl, by decide, by decide⟩

theorem witness_UrgentListsFollowTheirNotices :
    (3 ∉ (⟨[1, 2], some 1, some 0⟩ : UrgentState).list)
    ∧ ((⟨[1, 2], some 1, some 0⟩ : UrgentState).list = [] ++ 1 :: [2] ∧ 1 ∉ [2])
    ∧ (∃ v, noticed.notice.stepPanel ⟨3, .urgent, [65], [0], none, none, none, 0, 2⟩ (0 : Fin 12).val = (v, []))
    ∧ (∃ v, noticed.notice.stepPanel ⟨3, .service, [65], [0], none, none, none, 0, 2⟩ (0 : Fin 12).val = (v, []))
    ∧ (∃ v, noticed.notice.stepPanel ⟨1, .urgent, [65], [0], none, none, none, 0, 0⟩ (0 : Fin 12).val = (v, []))
    ∧ ∃ u v : NoticeUnit, u.stepPanel ⟨9, .urgent, [65], [0], none, none, none, 0, 9⟩ (0 : Fin 12).val = (v, [])
      ∧ u.urgent[(0 : Fin 12)].list = 1 :: [2, 3, 4] ∧ 9 ∉ [1, 2, 3, 4] :=
  ⟨by decide, ⟨rfl, by decide⟩, ⟨_, rfl⟩, ⟨_, rfl⟩, ⟨_, rfl⟩,
    { R.notice with
      notices := [⟨1, .urgent, [65], [0, 1], none, none, none, 0, 0⟩]
      urgent := R.notice.urgent.set 0 ⟨[1, 2, 3, 4], some 1, some 8⟩ },
    _, rfl, rfl, by decide⟩

/-- A full urgent list whose head names no other panel: the head is withdrawn. -/
theorem witness_UrgentLists_push_out : ∃ (u : NoticeUnit) (y : Notice), (0 : Fin 12).val ∈ [0] ∧ 9 ∉ u.urgent[(0 : Fin 12)].list
    ∧ u.urgent[(0 : Fin 12)].list = 1 :: [2, 3, 4] ∧ findNotice u.notices 1 = some y ∧ ∀ k ∈ y.targets, k = (0 : Fin 12).val :=
  ⟨{ R.notice with
      notices := [⟨1, .urgent, [65], [0], none, none, none, 0, 31⟩]
      urgent := R.notice.urgent.set 0 ⟨[1, 2, 3, 4], some 1, some 8⟩ },
    ⟨1, .urgent, [65], [0], none, none, none, 0, 31⟩, by decide, by decide +kernel, by decide +kernel, by decide +kernel, by decide⟩

theorem witness_NoticesAreWithdrawn :
    (findNotice noticed.notice.notices 2 = some ⟨2, .service, [66], [0], some 1, some 1, some 60, 0, 1⟩)
    ∧ Asks (given R .notice .desk (.withdrawNotice 256)) .notice .desk (.withdrawNotice 256)
    ∧ (Asks (given R .notice .desk (.withdrawNotice 255)) .notice .desk (.withdrawNotice 255)
      ∧ ∀ x ∈ R.notice.notices, x.number ≠ 255)
    ∧ (Asks (given noticed .notice .desk (.withdrawNotice 1)) .notice .desk (.withdrawNotice 1)
      ∧ ∃ x ∈ noticed.notice.notices, x.number = 1)
    ∧ (∃ s : State, s.nextSecond .notice = some 60 ∧ s.notice.settled = true
      ∧ [2].Perm ((s.notice.notices.filter fun n => n.expiry.any (· ≤ 60)).map Notice.number))
    ∧ (∃ s : State, s.notice.urgent[(0 : Fin 12)] = ⟨[] ++ 1 :: [2], some 1, some 0⟩ ∧ 1 ∉ ([] : List Nat))
    ∧ (∀ e ∈ [ScheduleEvent.phaseChanged 1 .closed, .phaseChanged 1 .running, .removed 1], ∃ s : State,
        s.mail.scheduleToNotice = [e] ∧ s.notice.settled = true
        ∧ [2].Perm ((s.notice.notices.filter fun n => n.bound = some 1).map Notice.number))
    ∧ Asks (given R .notice .feed (.setNoticeStyle ⟨61, 48, 48, 48, 48, 65535⟩)) .notice .feed
        (.setNoticeStyle ⟨61, 48, 48, 48, 48, 65535⟩)
    ∧ Asks (given R .notice .feed (.setNoticeStyle ⟨60, 48, 48, 48, 48, 65535⟩)) .notice .feed
        (.setNoticeStyle ⟨60, 48, 48, 48, 48, 65535⟩)
    ∧ ∃ s : State, 0 < s.mail.restarts[Block.notice.index] ∧ s.notice.settled = true :=
  ⟨rfl, asks, ⟨asks, by decide⟩, ⟨asks, by decide⟩,
    ⟨noticed.sendSecond .notice 60, by decide +kernel, by decide +kernel, by decide +kernel⟩,
    ⟨{ noticed with notice := { R.notice with urgent := R.notice.urgent.set 0 ⟨[1, 2], some 1, some 0⟩ } }, rfl, by decide⟩,
    fun e _ => ⟨{ noticed with mail := { M with scheduleToNotice := [e] } }, rfl, (by decide +kernel : noticed.notice.settled = true),
      (by decide +kernel : [2].Perm ((noticed.notice.notices.filter fun n => n.bound = some 1).map Notice.number))⟩,
    asks, asks, noticed.sendRestart .notice, by decide +kernel, by decide +kernel⟩

theorem noticed_panel_0 : noticed.notice.urgent[0] = ⟨[1], some 1, some 8⟩ := rfl

theorem noticed_other_panels : ∀ q : Fin 12, q.val ≠ 0 → noticed.notice.urgent[q] = ⟨[], none, none⟩ := by decide +kernel

theorem noticed_sound : noticed.notice.Sound := by
  refine ⟨by decide, by decide, by decide, fun p hp => ?_⟩
  by_cases h : p = 0
  · subst h
    rw [noticed_panel_0]
    refine ⟨by simp, by simp, fun n => ?_, by simp⟩
    simp [noticed]
    omega
  · have hx : noticed.notice.urgent[p] = ⟨[], none, none⟩ := noticed_other_panels ⟨p, hp⟩ h
    rw [hx]
    refine ⟨by simp, by simp, fun n => ?_, by simp⟩
    simp [noticed, h]

/-- Notices in slots of their own, and a number that no notice has. -/
theorem witness_Notices_by_slot : (noticed.notice.notices.map Notice.slot).Nodup ∧ (∀ x ∈ noticed.notice.notices, x.slot < 32)
    ∧ ∀ x ∈ noticed.notice.notices, x.number ≠ 3 := by decide

theorem witness_UrgentListsMatchTheNotices : ∃ t, noticed.notice.Sound ∧ step noticed = .next t := ⟨_, noticed_sound, rfl⟩

theorem witness_LinesFitTheirTiles : 27 ≤ 27 ∧ 1 ≤ 1 ∧ (wrap 1 [65, 32, 66]).length = 2 := by decide

/-- The kinds of tiles drawn, at the bounds of their ranges. -/
theorem witness_TilesAreDrawn :
    (1439 < 1440 ∧ (192 ≤ 192 ∧ 192 ≤ 199) ∧ 199 ≤ 199 ∧ (0 : Nat) < 32 ∧ 31 < 32 ∧ (200 ≤ 223 ∧ 223 ≤ 223))
    ∧ (∃ b, boarded.builder.boards[0 / 16]? = some b ∧ b.defn = some board2 ∧ 0 % 16 < board2.rowsPerPage ∧ board2.rowsPerPage ≤ 2 % 16
      ∧ b.rows[b.page * board2.rowsPerPage + 0 % 16]? = some ⟨1, 3, 0, 900, .listed⟩
      ∧ findScreening boarded.schedule.table 1 = some listed
      ∧ b.rows[b.page * board2.rowsPerPage + 1 % 16]? = none)
    ∧ (∃ b, boarded.builder.boards[127 / 16]? = some b ∧ b.defn = none)
    ∧ ((∃ n, noticeInSlot noticed.notice.notices 0 = some n ∧ n.cls = .urgent)
      ∧ (∃ n, noticeInSlot noticed.notice.notices 1 = some n ∧ n.cls ≠ .urgent) ∧ ∀ n ∈ noticed.notice.notices, n.slot ≠ 31)
    ∧ ∃ x, R.render.tiles[223]? = some x := by
  refine ⟨by decide, ⟨_, rfl, rfl, by decide, by decide, rfl, rfl, rfl⟩, ⟨_, rfl, by decide +kernel⟩,
    ⟨⟨_, rfl, rfl⟩, ⟨_, rfl, by decide⟩, by decide⟩, _, rfl⟩

/-- A text with spaces before, between and after its words, one longer than the line; a text with a break; lines that are cut. -/
theorem witness_TextsAreWrapped :
    ((∀ x ∈ [(ascii "ab", 2), (ascii "abcdefg", 1)], x.1 ≠ [] ∧ 32 ∉ x.1 ∧ 10 ∉ x.1)
      ∧ (∀ x ∈ ([(ascii "ab", 2), (ascii "abcdefg", 1)] : List (List Byte × Nat)).dropLast, 1 ≤ x.2)
      ∧ ascii " ab  abcdefg " = List.replicate 1 32 ++ [(ascii "ab", 2), (ascii "abcdefg", 1)].flatMap
          (fun x => x.1 ++ List.replicate x.2 32))
    ∧ 10 ∉ ascii "ab" ∧ ([ascii "ab", ascii "cd"])[0]? = some (ascii "ab") ∧ 0 + 1 < [ascii "ab", ascii "cd"].length := by
  decide +kernel

/-- A carousel that runs: a notice item, a stream and a tile, two tenth-ticks of MARK left. -/
def runner : Carousel := { Carousel.atReset with
  run := .running, content := ⟨.alternate, [.notices, .stream 3, .tile 255], [.tile 0]⟩, phase := some .mark, remaining := some 2
  active := ⟨100, 50, 30, 0⟩ }

/-- Carousels 0 and 1 running, in group 0 with leader 0, each with a given phase and remaining. -/
def rotating (phase : CyclePhase) (remaining : Nat) : State :=
  { noticed with rotation := {
      carousels := (R.rotation.carousels.set 0 { runner with group := some 0, phase := some phase, remaining := some remaining }).set 1
        { runner with group := some 0 }
      leaders := R.rotation.leaders.set 0 (some 0) } }

theorem witness_CyclesSelectStartAndEnd :
    (runner.cursor < runner.items.length ∧ 1 < runner.items.length
      ∧ runner.items[(runner.cursor + 1) % runner.items.length]? = some (.stream 3)
      ∧ ∀ j < 1, runner.items[(runner.cursor + j) % runner.items.length]? = some .notices
        ∧ ([] : List Nat).length ≤ (if j = 0 then runner.noticeStep else 0))
    ∧ (∀ j < Carousel.atReset.items.length, Carousel.atReset.items[j]? = some .notices)
    ∧ (runner.quiet = true ∨ runner.shown = none)
    ∧ ({ runner with shown := some (.tile 0) } : Carousel).shown ≠ none
    ∧ ({ runner with pendingContent := some ⟨.single, [], []⟩ } : Carousel).pendingContent = some ⟨.single, [], []⟩ := by
  decide

/-- A carousel on each of its lists, with no content pending. -/
theorem witness_Cycles_lists : R.rotation.carousels[(0 : Fin 12)].choice = .primary
    ∧ ({ R.rotation.carousels[(0 : Fin 12)] with choice := .secondary } : Carousel).choice = .secondary
    ∧ R.rotation.carousels[(0 : Fin 12)].pendingContent = none := by decide

theorem witness_TicksRunTheCarousels :
    (∃ s : State, 0 < s.mail.ticksToRotation ∧ s.rotation.settled = true)
    ∧ (∃ s : State, s.rotation.carousels[(0 : Fin 12)].phase = some .mark ∧ s.rotation.carousels[(0 : Fin 12)].remaining = some 0
      ∧ 0 < s.rotation.carousels[(0 : Fin 12)].activeSpace)
    ∧ (∃ s : State, s.rotation.carousels[(0 : Fin 12)].phase = some .space ∧ s.rotation.carousels[(0 : Fin 12)].remaining = some 0
      ∧ s.rotation.carousels[(0 : Fin 12)].group = some 0 ∧ s.rotation.leaders[0]? = some (some 0)
      ∧ (s.rotation.carousels[(0 : Fin 12)].endCycle (expansion s.notice.notices 0)).run = .running
      ∧ s.rotation.carousels[(1 : Fin 12)].group = some 0 ∧ s.rotation.carousels[(1 : Fin 12)].run = .running)
    ∧ ∃ s : State, s.rotation.carousels[(11 : Fin 12)].remaining = some 0 ∧ s.rotation.carousels[(11 : Fin 12)].phase = some .mark
      ∧ s.rotation.carousels[(11 : Fin 12)].activeSpace = 0 ∧ s.rotation.carousels[(11 : Fin 12)].group = none :=
  ⟨⟨{ rotating .mark 2 with mail := { M with ticksToRotation := 1 } }, by decide, by decide +kernel⟩,
    ⟨rotating .mark 0, rfl, rfl, by decide +kernel⟩, ⟨rotating .space 0, rfl, rfl, rfl, rfl, by decide +kernel, rfl, rfl⟩,
    { R with rotation := { R.rotation with
        carousels := R.rotation.carousels.set 11 { runner with remaining := some 0, choice := .secondary } } },
    by decide +kernel, by decide +kernel, by decide +kernel, by decide +kernel⟩

theorem witness_CarouselDirectivesAct :
    Asks (given R .rotation .feed (.setCarousel 12 1 [] [])) .rotation .feed (.setCarousel 12 1 [] [])
    ∧ (Asks (given R .rotation .feed (.setCarousel 11 2 [⟨1, 3⟩, ⟨2, 255⟩, ⟨3, 0⟩] [])) .rotation .feed
        (.setCarousel 11 2 [⟨1, 3⟩, ⟨2, 255⟩, ⟨3, 0⟩] []) ∧ Mode.alternate.number = 2
      ∧ List.Forall₂ (fun f i => f.kind = 1 ∧ f.value ≤ 3 ∧ i = Item.stream f.value
        ∨ f.kind = 2 ∧ f.value ≤ 255 ∧ i = .tile f.value ∨ f.kind = 3 ∧ f.value = 0 ∧ i = .notices)
        [⟨1, 3⟩, ⟨2, 255⟩, (⟨3, 0⟩ : Coded)] [.stream 3, .tile 255, .notices])
    ∧ Asks (given R .rotation .feed (.setPeriods 0 (some 0) none none none)) .rotation .feed (.setPeriods 0 (some 0) none none none)
    ∧ Asks (given R .rotation .feed (.setPeriods 11 (some 1) (some 6000) (some 6000) none)) .rotation .feed
        (.setPeriods 11 (some 1) (some 6000) (some 6000) none)
    ∧ (Asks (given R .rotation .feed (.setQuiet [0, 0] 1)) .rotation .feed (.setQuiet [0, 0] 1) ∧ ¬[0, 0].Nodup)
    ∧ (Asks (given R .rotation .feed (.carouselOn [])) .rotation .feed (.carouselOn []))
    ∧ (Asks (given R .rotation .feed (.carouselOff [12])) .rotation .feed (.carouselOff [12]) ∧ ∃ m ∈ [12], 11 < m)
    ∧ Asks (given R .rotation .feed (.setQuiet [0, 11] 1)) .rotation .feed (.setQuiet [0, 11] 1)
    ∧ Asks (given R .rotation .feed (.setQuiet [0, 11] 2)) .rotation .feed (.setQuiet [0, 11] 2)
    ∧ (∃ s : State, s.mail.cuesToRotation = [(true, [0, 11])] ∧ s.rotation.settled = true)
    ∧ Asks (given R .rotation .feed (.carouselOn [0, 11])) .rotation .feed (.carouselOn [0, 11])
    ∧ Asks (given R .rotation .feed (.carouselOff [0, 11])) .rotation .feed (.carouselOff [0, 11])
    ∧ (Asks (given R .rotation .feed (.setSyncGroup 4 0 [0])) .rotation .feed (.setSyncGroup 4 0 [0]))
    ∧ (Asks (given R .rotation .feed (.setSyncGroup 3 11 [0, 11])) .rotation .feed (.setSyncGroup 3 11 [0, 11]))
    ∧ Asks (given R .rotation .feed (.setSyncGroup 0 255 [])) .rotation .feed (.setSyncGroup 0 255 []) :=
  ⟨asks, ⟨asks, rfl, by simp⟩, asks, asks, ⟨asks, by decide⟩, asks, ⟨asks, by decide⟩, asks, asks,
    ⟨{ R with mail := { M with cuesToRotation := [(true, [0, 11])] } }, rfl, by decide +kernel⟩, asks, asks, asks, asks, asks⟩

/-- SET CAROUSEL with an item kind there is none of, a stream 4, and a notice item with a number. -/
theorem witness_CarouselDirectives_bad_items : ∀ f ∈ [(⟨4, 0⟩ : Coded), ⟨1, 4⟩, ⟨3, 1⟩],
    Asks (given R .rotation .feed (.setCarousel 11 1 [f] [])) .rotation .feed (.setCarousel 11 1 [f] [])
    ∧ ((f.kind ≠ 1 ∧ f.kind ≠ 2 ∧ f.kind ≠ 3) ∨ (f.kind = 1 ∧ 3 < f.value) ∨ (f.kind = 3 ∧ f.value ≠ 0)) := by
  intro f hf
  simp only [List.mem_cons, List.not_mem_nil, or_false] at hf
  rcases hf with rfl | rfl | rfl <;> exact ⟨asks, by decide⟩

theorem witness_CycleLengthsAreLatched : ∃ s t : State, exec (.cycleEnd 0) s = .next t
    ∧ t.rotation.carousels[(0 : Fin 12)].active ≠ s.rotation.carousels[(0 : Fin 12)].active :=
  ⟨{ R with rotation := { R.rotation with
      carousels := R.rotation.carousels.set 0 { runner with
        phase := some .space, remaining := some 0, pending := ⟨⟨10, true⟩, ⟨0, false⟩, ⟨100, false⟩, ⟨0, false⟩⟩ } } },
    _, rfl, by decide +kernel⟩

/-- A tile of 27 × 1 cells in a state. -/
def tileIn (state : TileState) : Tile := { Tile.atReset (some (27, 1)) with state := state }

/-- A state with one tile in a given state, and the lanes as given. -/
def tiled (t : Fin 256) (x : Tile) (urgent normal : List Nat) : State :=
  { R with render := { R.render with tiles := put R.render.tiles t x, urgentLane := urgent, normalLane := normal } }

/-- An IMAGE tile that is LOADING: one cell, 3199 of its 3200 bytes received. -/
def loading : Tile := { tileIn .loading with size := some (1, 1), byteTotal := 3200, bytesReceived := 3199 }

theorem witness_LoadedTilesTakeTheirDirectives :
    Asks (given R .render .feed (.loadImage 192 1 1 3200)) .render .feed (.loadImage 192 1 1 3200)
    ∧ (Asks (given R .render .feed (.loadImage 191 48 48 7372800)) .render .feed (.loadImage 191 48 48 7372800)
      ∧ ∃ x, R.render.tiles[191]? = some x)
    ∧ Asks (given R .render .feed (.imagePiece 127 0 [0])) .render .feed (.imagePiece 127 0 [0])
    ∧ (tiled 128 loading [] []).render.tiles[128]? = some loading
    ∧ Asks (given (tiled 128 loading [] []) .render .feed (.imagePiece 128 3200 [0])) .render .feed (.imagePiece 128 3200 [0])
    ∧ Asks (given (tiled 128 loading [] []) .render .feed (.imagePiece 128 3198 [0])) .render .feed (.imagePiece 128 3198 [0])
    ∧ Asks (given (tiled 128 loading [] []) .render .feed (.imagePiece 128 3198 [0, 0])) .render .feed (.imagePiece 128 3198 [0, 0])
    ∧ Asks (given (tiled 128 loading [] []) .render .feed (.imagePiece 128 3199 [0])) .render .feed (.imagePiece 128 3199 [0])
    ∧ Asks (given R .render .feed (.loadTextTile 223 48 1 2 [])) .render .feed (.loadTextTile 223 48 1 2 [])
    ∧ (Asks (given R .render .feed (.loadTextTile 223 48 2 2 [])) .render .feed (.loadTextTile 223 48 2 2 [])
      ∧ ∃ x, R.render.tiles[223]? = some x)
    ∧ Asks (given R .render .feed (.clearTile 199)) .render .feed (.clearTile 199)
    ∧ (Asks (given R .render .feed (.clearTile 200)) .render .feed (.clearTile 200) ∧ (R.render.tiles[200]?).map Tile.state = some .empty)
    ∧ Asks (given (tiled 128 loading [] []) .render .feed (.clearTile 128)) .render .feed (.clearTile 128) :=
  ⟨asks, ⟨asks, _, rfl⟩, asks, by decide +kernel, asks, asks, asks, asks, asks, ⟨asks, _, rfl⟩, asks, ⟨asks, by decide +kernel⟩,
    asks⟩

theorem witness_TileRequestsActByTheTilesState :
    (∀ x : Tile, ∀ r : TileRequest, ∃ s : State, s.render.tiles[127]? = some x ∧ s.mail.tiles[Block.builder.index] = [r])
    ∧ (tileIn .queued).lane = .normal ∧ (127 ∉ R.render.urgentLane) ∧ (tileIn .clean).size ≠ none
    ∧ (tileIn .clean).size = some (27, 1) ∧ (tileIn .clean).size ≠ some (27, 2) :=
  ⟨fun x r => ⟨{ R with
        render := { R.render with tiles := put R.render.tiles 127 x }
        mail := { M with tiles := M.tiles.set Block.builder.index [r] } }, by simp [put], by simp⟩,
    rfl, by decide, by decide, rfl, by decide⟩

/-- A piece write of the last byte of tile 128. -/
def lastPiece : PieceWrite := ⟨128, [0], .feed, 7, 26⟩

/-- The render unit with some work in its engine, and its channel's report. -/
def rendering (t : Fin 256) (x : Tile) (e : RenderEngine) (r : WorkReport) : State :=
  { tiled t x [] [] with
    render := { (tiled t x [] []).render with engine := e }
    mail := { M with memoryToRender := [r] } }

theorem witness_RenderEngineDoesOneThingAtATime :
    (∃ s : State, s.render.engine = .idle ∧ s.render.waiting = some lastPiece)
    ∧ (∃ (s : State) (x : Tile), s.render.engine = .idle ∧ s.render.waiting = none ∧ s.render.urgentLane = 224 :: []
      ∧ s.render.normalLane = [3] ∧ s.render.tiles[224]? = some x ∧ x.size = some (27, 1))
    ∧ (∃ (s : State) (x : Tile), s.render.engine = .idle ∧ s.render.waiting = none ∧ s.render.urgentLane = []
      ∧ s.render.normalLane = 0 :: [] ∧ s.render.tiles[0]? = some x ∧ x.size = some (27, 1))
    ∧ (∀ r, (rendering 128 loading (.piece lastPiece) r).render.engine = .piece lastPiece
      ∧ (rendering 128 loading (.piece lastPiece) r).mail.memoryToRender = [r]
      ∧ (rendering 128 loading (.piece lastPiece) r).render.tiles[lastPiece.tile]? = some loading)
    ∧ (∀ state r, (rendering 0 (tileIn state) (.job ⟨0, 27, 1, .text 27 1 .small []⟩) r).mail.memoryToRender = [r]
      ∧ (rendering 0 (tileIn state) (.job ⟨0, 27, 1, .text 27 1 .small []⟩) r).render.tiles[0]? = some (tileIn state))
    ∧ ∃ (s : State) (again pending : Fin 256 → Bool), 0 < s.mail.restarts[Block.render.index]
      ∧ (∀ k, again k = true ↔ s.render.tiles[k].size ≠ none ∧ (k.val < 128 ∨ (192 ≤ k.val ∧ k.val ≤ 199) ∨ 224 ≤ k.val))
      ∧ (∀ k, pending k = true ↔ (200 ≤ k.val ∧ k.val ≤ 223) ∧ (s.render.tiles[k].state = .queued
        ∨ s.render.tiles[k].state = .rendering ∨ s.render.tiles[k].state = .renderingStale))
      ∧ s.render.engine = .piece lastPiece :=
  ⟨⟨{ R with render := { R.render with waiting := some lastPiece } }, rfl, rfl⟩,
    ⟨tiled 224 (tileIn .queued) [224] [3], tileIn .queued, rfl, rfl, rfl, rfl, by decide +kernel, rfl⟩,
    ⟨tiled 0 (tileIn .queued) [] [0], tileIn .queued, rfl, rfl, rfl, rfl, by decide +kernel, rfl⟩,
    fun r => ⟨rfl, rfl, by simp [rendering, tiled, lastPiece, put]⟩,
    fun state r => ⟨rfl, by simp [rendering, tiled, put]⟩,
    (rendering 128 loading (.piece lastPiece) .complete).sendRestart .render,
    fun k => decide ((rendering 128 loading (.piece lastPiece) .complete).render.tiles[k].size ≠ none
      ∧ (k.val < 128 ∨ (192 ≤ k.val ∧ k.val ≤ 199) ∨ 224 ≤ k.val)),
    fun k => decide ((200 ≤ k.val ∧ k.val ≤ 223) ∧ ((rendering 128 loading (.piece lastPiece) .complete).render.tiles[k].state = .queued
      ∨ (rendering 128 loading (.piece lastPiece) .complete).render.tiles[k].state = .rendering
      ∨ (rendering 128 loading (.piece lastPiece) .complete).render.tiles[k].state = .renderingStale)),
    by decide +kernel, fun _ => decide_eq_true_iff, fun _ => decide_eq_true_iff, rfl⟩

theorem reset_tile_facts : ∀ k : Fin 256, R.render.tiles[k].state = .empty := by decide +kernel

theorem reset_render_sound : R.render.Sound := by
  have h : ∀ (t : Nat) (x : Tile), R.render.tiles[t]? = some x → x.state = .empty := by
    intro t x hx
    obtain ⟨hi, rfl⟩ := Vector.getElem?_eq_some_iff.1 hx
    exact reset_tile_facts ⟨t, hi⟩
  refine ⟨by decide, fun t => ⟨?_, ?_⟩, fun t => ⟨?_, ?_⟩, fun t x hx _ _ => h t x hx, fun t x hx _ => .inl (h t x hx), ?_, ?_, ?_⟩
  · intro ht; cases ht
  · rintro ⟨x, hx, hq, -⟩; rw [h t x hx] at hq; cases hq
  · intro ht; cases ht
  · rintro ⟨x, hx, hq, -⟩; rw [h t x hx] at hq; cases hq
  · intro w hw; cases hw
  · intro w hw; cases hw
  · intro j hj; cases hj

theorem witness_RedrawQueueHoldsTheQueuedTiles : ∃ t, (front (.emptyTile .notice)).render.Sound ∧ step (front (.emptyTile .notice)) = .next t := ⟨_, reset_render_sound, rfl⟩

/-- A LANDSCAPE layout: two regions that reach the edges of the grid, the second FEATURE. -/
def layout1 : Layout :=
  ⟨.landscape, .stream 3, .tile 255, [⟨⟨0, 0, 48, 1⟩, .clock 7⟩, ⟨⟨47, 26, 1, 1⟩, .feature⟩]⟩

/-- The fields of `layout1` as they are carried. -/
def fields1 : LayoutFields := ⟨1, ⟨2, 3⟩, ⟨3, 255⟩, [⟨0, 0, 48, 1, ⟨5, 7⟩⟩, ⟨47, 26, 1, 1, ⟨4, 0⟩⟩]⟩

/-- Layout 31 loaded, notices posted, and a carousel in its MARK phase. -/
def laidOut : State :=
  { rotating .mark 2 with composer := { R.composer with layouts := R.composer.layouts.set 31 (some layout1) } }

theorem witness_LayoutsAreLoadedAndApplied :
    Asks (given R .composer .feed (.loadLayout 32 fields1)) .composer .feed (.loadLayout 32 fields1)
    ∧ (Asks (given R .composer .feed (.loadLayout 31 fields1)) .composer .feed (.loadLayout 31 fields1)
      ∧ fields1.background.kind ≠ 3 ∧ fields1.regions.length ≤ 12 ∧ fields1.orientation = 1 ∧ layout1.orientation = .landscape
      ∧ (fields1.regions.filter fun r => decide (r.content.kind = 4)).length ≤ 1
      ∧ List.Forall₂ (fun (r : RegionFields) (x : Region) => x.rect = ⟨r.col, r.row, r.width, r.height⟩ ∧ r.width ≠ 0 ∧ r.height ≠ 0
          ∧ r.col + r.width ≤ 48 ∧ r.row + r.height ≤ 27) fields1.regions layout1.regions)
    ∧ Asks (given laidOut .composer .feed (.applyLayout 32 [0])) .composer .feed (.applyLayout 32 [0])
    ∧ Asks (given laidOut .composer .feed (.setOverride 254 [0])) .composer .feed (.setOverride 254 [0])
    ∧ Asks (given laidOut .composer .feed (.setOverride 255 [0, 11])) .composer .feed (.setOverride 255 [0, 11])
    ∧ (Asks (given laidOut .composer .feed (.applyLayout 30 [0, 11])) .composer .feed (.applyLayout 30 [0, 11])
      ∧ laidOut.composer.layouts[30]? = some none)
    ∧ (Asks (given laidOut .composer .feed (.setOverride 30 [0, 11])) .composer .feed (.setOverride 30 [0, 11]))
    ∧ (Asks (given laidOut .composer .feed (.applyLayout 31 [0, 11])) .composer .feed (.applyLayout 31 [0, 11])
      ∧ laidOut.composer.layouts[31]? = some (some layout1)
      ∧ ∀ k : Fin 12, k.val ∈ [0, 11] → laidOut.output.panels[k].orientation = layout1.orientation)
    ∧ (Asks (given laidOut .composer .feed (.setOverride 31 [0, 11])) .composer .feed (.setOverride 31 [0, 11]))
    ∧ (∃ s : State, s.composer.layouts[31]? = some (some layout1) ∧ s.mail.cuesToComposer = [(31, [0, 11])]
      ∧ ∃ k : Fin 12, k.val ∈ [0, 11] ∧ s.output.panels[k].orientation ≠ layout1.orientation)
    ∧ ∀ f : Panel → Panel, ∃ panels : Vector Panel 12,
        ∀ k : Fin 12, panels[k] = if k.val ∈ [0, 11] then f laidOut.composer.panels[k] else laidOut.composer.panels[k] :=
  ⟨asks, ⟨asks, by decide, by decide, rfl, rfl, by decide, by simp [fields1, layout1]⟩, asks, asks, asks,
    ⟨asks, by decide +kernel⟩, asks, ⟨asks, by decide +kernel, by decide +kernel⟩, asks,
    ⟨{ laidOut with
        mail := { M with cuesToComposer := [(31, [0, 11])] }
        output := ⟨R.output.panels.set 11 { Output.atReset with orientation := .portrait }⟩ },
      by decide +kernel, rfl, 11, by decide, by decide +kernel⟩,
    fun f => ⟨Vector.ofFn fun k => if k.val ∈ [0, 11] then f laidOut.composer.panels[k] else laidOut.composer.panels[k],
      fun k => by simp⟩⟩

/-- A cue's APPLY LAYOUT of a layout there is none of, and of an empty set. -/
theorem witness_Layouts_bad_cues : ∃ s : State, s.mail.cuesToComposer = (32, [0]) :: [(31, []), (31, [12]), (31, [0, 0])]
    ∧ 31 < 32 ∧ (∃ m ∈ [12], 11 < m) ∧ ¬[0, 0].Nodup :=
  ⟨{ R with mail := { M with cuesToComposer := [(32, [0]), (31, []), (31, [12]), (31, [0, 0])] } }, rfl, by decide, by decide, by decide⟩

/-- A panel with given buffer roles. -/
def showing (state : PanelState) (a b : BufferRole) (request : RequestState) : Panel :=
  { Panel.atReset with
    state := state, bufA := ⟨a, 1, .black .landscape⟩, bufB := ⟨b, 2, .black .landscape⟩, request := request
    pendingLayout := some 31 }

/-- One panel of a state, and one event of its output on its way to the composer. -/
def paneled (k : Fin 12) (x : Panel) (e : PanelEvent) : State :=
  { R with
    composer := { R.composer with panels := put R.composer.panels k x }
    mail := { M with outputToComposer := [e] } }

theorem witness_PanelsFollowTheirEvents :
    (∀ (k : Fin 12) (x : Panel) (e : PanelEvent), ∃ s : State, s.mail.outputToComposer = [e] ∧ s.composer.panels[k] = x)
    ∧ (showing .live .ready .front .none).state = .live
    ∧ (showing .live .ready .front .none).bufA.role = .ready ∧ (showing .live .ready .front .none).request = .none
    ∧ (showing .live .free .front .queued).bufB.role = .front ∧ (showing .live .free .front .queued).request ≠ .none
    ∧ (showing .dark .free .free .none).state ≠ .live
    ∧ ∃ turn : Buffer → Buffer, ∀ b,
        turn b = { b with role := match b.role with | .ready => .front | .front => .free | r => r } :=
  ⟨fun k x e => ⟨paneled k x e, rfl, by simp [paneled, put]⟩, rfl, rfl, rfl, rfl, by decide, by decide, _, fun _ => rfl⟩

/-- Panel 11 at the head of the compose queue. -/
def toCompose : State :=
  { laidOut with composer := { laidOut.composer with
      panels := put laidOut.composer.panels 11 (showing .live .front .free .queued), queue := [11] } }

/-- Panel 11 in the compose engine, writing its buffer B, and the channel's report of the job. -/
def composing (x : Panel) (r : WorkReport) : State :=
  { laidOut with
    composer := { laidOut.composer with
      panels := put laidOut.composer.panels 11 x, engine := some ⟨11, .b, .black .landscape⟩ }
    mail := { M with memoryToComposer := [r] } }

theorem witness_ComposeJobsRunTheirCourse :
    (toCompose.composer.engine = none ∧ toCompose.composer.queue = (11 : Fin 12).val :: []
      ∧ toCompose.rotation.settled = true ∧ toCompose.notice.settled = true
      ∧ toCompose.composer.panels[(11 : Fin 12)].bufB.role = .free)
    ∧ (∀ x r, (composing x r).composer.engine = some ⟨11, .b, .black .landscape⟩
      ∧ (composing x r).mail.memoryToComposer = [r] ∧ (composing x r).composer.panels[(11 : Fin 12)] = x)
    ∧ 0 < (R.sendRestart .composer).mail.restarts[Block.composer.index] :=
  ⟨by decide +kernel, fun x r => ⟨rfl, rfl, by simp [composing, put]⟩, by decide +kernel⟩

theorem witness_FramesAreDrawnFromTheRightSource :
    (laidOut.inTakeover 0 = true ∧ laidOut.inTakeover 1 = false ∧ laidOut.orientationOf 0 = .landscape
      ∧ laidOut.composer.layouts[31]? = some (some layout1) ∧ layout1.orientation = laidOut.orientationOf 0)
    ∧ ∃ (s : State) (y : Layer) (n : Notice), s.notice.notices = [n] ∧ n.bound = some 1 ∧ y.tile = some (224 + n.slot)
      ∧ y ∈ (s.frameFor 0 Panel.atReset).1.layers :=
  ⟨by decide +kernel,
    { withTable [listed] with
      notice := { R.notice with
        notices := [⟨1, .urgent, [65], [0], some 1, none, none, 0, 0⟩]
        urgent := R.notice.urgent.set 0 ⟨[1], some 1, some 8⟩ }
      render := { R.render with tiles := R.render.tiles.set 224 { tileIn .clean with image := some (.text 27 1 .small [[]]) } } },
    ⟨⟨0, 0, 48, 27⟩, .image (.text 27 1 .small [[]]), .urgent, some 224⟩, _, rfl, rfl, rfl, by decide +kernel⟩

/-- The urgent notice of panel 0, its list, and notice 2, bound to a screening; panel 11 has no urgent list. -/
theorem witness_Frames_urgent :
    noticed.notice.Sound ∧ noticed.notice.urgent[(0 : Fin 12)].list = [1] ∧ noticed.notice.urgent[(0 : Fin 12)].shown = some 1
    ∧ ([1] : List Nat)[0]? = some 1 ∧ noticed.notice.urgent[(11 : Fin 12)].list = []
    ∧ (noticed.notice.notices.map Notice.bound) = [none, some 1] :=
  ⟨noticed_sound, rfl, rfl, rfl, by decide +kernel, rfl⟩

/-- The notice unit's empty request for tile 224 under way while a frame has layers. -/
def emptying : State := { laidOut with mail := { laidOut.mail with tiles := put laidOut.mail.tiles Block.notice.index [.empty 224] } }

theorem witness_Frames_while_emptying : TileRequest.empty (224 + 0) ∈ emptying.mail.tiles[Block.notice.index]
    ∧ (emptying.frameFor 0 Panel.atReset).1.layers ≠ [] := by decide +kernel

/-- The layers of a tile and of a fill meet their hypotheses; a carousel in its MARK phase that shows a stream, a tile, a notice. -/
theorem witness_Frames_layers :
    (∀ (s : State), (∀ (rect : Rect) (origin : Origin) (t : Nat) (z : Tile), s.render.tiles[t]? = some z →
        (s.tileGuarded t = false → ∀ i, z.image = some i → s.tileLayers rect origin t = [⟨rect, .image i, origin, some t⟩])
        ∧ ((s.tileGuarded t = true ∨ z.image = none) → s.tileLayers rect origin t = []))
      ∧ (∀ rect origin t, 256 ≤ t → s.tileLayers rect origin t = [])
      ∧ ∀ rect origin t, s.fillLayers rect origin (.tile t) = s.tileLayers rect origin t)
    ∧ (laidOut.rotation.carousels[0]?.map fun c => (c.run, c.phase)) = some (.running, some .mark)
    ∧ (∃ y, findNotice laidOut.notice.notices 2 = some y ∧ y.cls = .service ∧ 0 ∈ y.targets ∧ laidOut.guardedOut y = false)
    ∧ (findNotice laidOut.notice.notices 3 = none) ∧ laidOut.inTakeover 0 = true ∧ laidOut.inTakeover 11 = false := by
  refine ⟨fun s => ⟨fun rect origin t z hz => ⟨fun hg i hi => ?_, fun h => ?_⟩, fun rect origin t ht => ?_, fun _ _ _ => rfl⟩,
    by decide +kernel, ⟨_, rfl, rfl, by decide, by decide +kernel⟩, rfl, by decide +kernel, by decide +kernel⟩
  · simp [State.tileLayers, State.tileImage, hg, hz, hi]
  · rcases h with h | h <;> simp [State.tileLayers, State.tileImage, h, hz]
  · simp [State.tileLayers, State.tileImage, ht]

/-- A composer with no job and no request is sound when no panel has two FRONT, two READY or a COMPOSING buffer. -/
theorem idle_composer_sound {u : ComposerUnit} (he : u.engine = none) (hq : u.queue = [])
    (h : ∀ p : Fin 12, ¬(u.panels[p].bufA.role = .front ∧ u.panels[p].bufB.role = .front)
      ∧ ¬(u.panels[p].bufA.role = .ready ∧ u.panels[p].bufB.role = .ready)
      ∧ u.panels[p].bufA.role ≠ .composing ∧ u.panels[p].bufB.role ≠ .composing ∧ u.panels[p].request = .none) : u.Sound := by
  refine ⟨fun p hp => ?_, by simp [hq], by simp [hq]⟩
  obtain ⟨h1, h2, h3, h4, h5⟩ := h ⟨p, hp⟩
  have h1 : ¬(u.panels[p].bufA.role = .front ∧ u.panels[p].bufB.role = .front) := h1
  have h2 : ¬(u.panels[p].bufA.role = .ready ∧ u.panels[p].bufB.role = .ready) := h2
  have h3 : u.panels[p].bufA.role ≠ .composing := h3
  have h4 : u.panels[p].bufB.role ≠ .composing := h4
  have h5 : u.panels[p].request = .none := h5
  simp [ComposerUnit.PanelSound, ComposerUnit.writes, he, hq, h1, h2, h3, h4, h5]

theorem reset_composer_sound : R.composer.Sound := idle_composer_sound rfl rfl (by decide +kernel)

theorem witness_BuffersKeepTheirRoles : ∃ t, (front .panelDark).composer.Sound ∧ step (front .panelDark) = .next t := ⟨_, reset_composer_sound, rfl⟩

/-- A segment body of two cells' bytes at most: its six fields and its data. -/
def segment (n number index last w h : Nat) (data : List Byte) : List Byte :=
  put2 n ++ put2 number ++ put2 index ++ put2 last ++ put2 w ++ put2 h ++ data

/-- Frame memory with the stores and the reception of stream 3 as given. -/
def streaming (x : Stream) : State := { R with memory := { R.memory with streams := R.memory.streams.set 3 x } }

/-- A stream in reception of frame 9, one cell, 3198 bytes in three segments so far. -/
def receiving : Stream := { Stream.atReset with reception := some ⟨0, 9, 1, 1, 3, 3198⟩, nextFrameId := 1 }

theorem witness_SegmentsBuildFramesAndStreamsAreWatched :
    (∃ s : State, s.mail.segments = [List.replicate 11 0] ∧ (List.replicate 11 (0 : Byte)).length < 12)
    ∧ (∃ s : State, s.mail.segments = [segment 4 9 0 0 1 1 []])
    ∧ (∃ s : State, s.mail.segments = [segment 3 9 0 2 48 49 []] ∧ s.memory.streams[3]? = some receiving)
    ∧ (∃ s : State, s.mail.segments = [segment 3 9 1 1 48 48 [1]] ∧ (s.memory.streams[3]?).map Stream.reception = some none)
    ∧ (∃ s : State, s.mail.segments = [segment 3 9 3 1 1 1 [1, 2]] ∧ s.memory.streams[3]? = some receiving
      ∧ (3198 : Nat) + [1, 2].length = 3200 * 1 * 1 ∧ s.memory.ingest.state ≠ .halted ∧ s.memory.ingestQueue.length ≤ 3)
    ∧ (∃ s : State, s.mail.segments = [segment 3 9 3 1 1 1 [1]] ∧ s.memory.streams[3]? = some receiving
      ∧ (3198 : Nat) + [1].length < 3200 * 1 * 1)
    ∧ (∃ s : State, s.mail.segments = [segment 3 9 0 0 1 1 [1]] ∧ s.memory.streams[3]? = some receiving)
    ∧ (∃ (s : State) (n : Fin 4), s.mail.composerToMemory = [.pin n true])
    ∧ (∃ s : State, s.mail.composerToMemory = [.release])
    ∧ ∃ s : State, s.nextSecond .memory = some 2 ∧ (∃ x : Stream, s.memory.streams[3]? = some x ∧ x.lost = false
      ∧ x.lastUse = some 1 ∧ x.lastFrame + 2 ≤ 2) :=
  ⟨⟨{ R with mail := { M with segments := [List.replicate 11 0] } }, rfl, by decide⟩,
    ⟨{ R with mail := { M with segments := [segment 4 9 0 0 1 1 []] } }, rfl⟩,
    ⟨{ streaming receiving with mail := { M with segments := [segment 3 9 0 2 48 49 []] } }, rfl, by decide +kernel⟩,
    ⟨{ R with mail := { M with segments := [segment 3 9 1 1 48 48 [1]] } }, rfl, by decide +kernel⟩,
    ⟨{ streaming receiving with mail := { M with segments := [segment 3 9 3 1 1 1 [1, 2]] } }, rfl, by decide +kernel, rfl,
      by decide +kernel, by decide +kernel⟩,
    ⟨{ streaming receiving with mail := { M with segments := [segment 3 9 3 1 1 1 [1]] } }, rfl, by decide +kernel, by decide⟩,
    ⟨{ streaming receiving with mail := { M with segments := [segment 3 9 0 0 1 1 [1]] } }, rfl, by decide +kernel⟩,
    ⟨{ R with mail := { M with composerToMemory := [.pin 3 true] } }, 3, rfl⟩,
    ⟨{ R with mail := { M with composerToMemory := [.release] } }, rfl⟩,
    (streaming { Stream.atReset with lastUse := some 1 }).sendSecond .memory 2, by decide +kernel,
    { Stream.atReset with lastUse := some 1 }, by decide +kernel, rfl, rfl, by decide +kernel⟩

/-- The last write of a frame of stream 3. -/
def lastWrite : SegmentWrite := ⟨3, 0, 9, 1, 1, false, true, [1, 2]⟩

/-- Frame memory with given work in its channels and a given unit in flight. -/
def channeled (ingest compose render : Channel) (queue : List SegmentWrite) (unit : Option UnitInFlight) : State :=
  { R with memory := { R.memory with
      ingest := ingest, compose := compose, render := render, ingestQueue := queue, inFlight := unit } }

theorem witness_MemoryGoesToTheHighestChannel :
    (∃ s : State, s.memory.inFlight = none ∧ s.memory.ingest.waits = true ∧ s.memory.ingestQueue = [lastWrite]
      ∧ s.memory.compose.waits = true)
    ∧ (∃ s : State, s.memory.inFlight = none ∧ s.memory.ingest.waits = false ∧ s.memory.compose.waits = true
      ∧ s.memory.render.waits = true ∧ s.mail.composerToMemory = [])
    ∧ (∃ s : State, s.memory.inFlight = none ∧ s.memory.ingest.waits = false ∧ s.memory.compose.waits = false
      ∧ s.memory.render.waits = true)
    ∧ (∃ s : State, s.memory.inFlight = none ∧ s.memory.ingest.waits = false ∧ s.memory.compose.waits = false
      ∧ s.memory.render.waits = false)
    ∧ (∀ u, ∃ s : State, s.memory.inFlight = some u ∧ s.memory.streams[lastWrite.stream]? = some Stream.atReset
      ∧ s.memory.compose.remaining = 2 ∧ s.memory.render.remaining = 1) :=
  ⟨⟨channeled ⟨.preempted, 1, false, true⟩ ⟨.preempted, 1, false, true⟩ .atReset [lastWrite] none, rfl, rfl, rfl, rfl⟩,
    ⟨channeled .atReset ⟨.preempted, 2, false, true⟩ ⟨.preempted, 1, false, true⟩ [] none, rfl, rfl, rfl, rfl, rfl⟩,
    ⟨channeled .atReset ⟨.preempted, 0, false, true⟩ ⟨.preempted, 1, false, true⟩ [] none, rfl, rfl, rfl, rfl⟩,
    ⟨R, rfl, rfl, rfl, rfl⟩,
    fun u => ⟨channeled .atReset ⟨.active, 2, false, true⟩ ⟨.active, 1, false, true⟩ [] (some u), rfl, rfl, rfl, rfl⟩⟩

/-- COMPOSE next in turn with a pin request outstanding; INGEST counted with its unit in flight and with none. -/
theorem witness_Memory_pins_and_counts :
    (∃ s : State, s.memory.inFlight = none ∧ s.memory.ingest.waits = false ∧ s.memory.compose.waits = true
      ∧ PinEvent.pin 3 true ∈ s.mail.composerToMemory)
    ∧ R.memory.inFlight = none
    ∧ ∃ m : MemoryUnit, m.inFlight = some ⟨.ingest, false, some lastWrite, false⟩ :=
  ⟨⟨{ channeled .atReset ⟨.preempted, 2, false, true⟩ ⟨.preempted, 1, false, true⟩ [] none with
      mail := { M with composerToMemory := [.pin 3 true] } }, rfl, rfl, rfl, List.mem_singleton.mpr rfl⟩, rfl,
    { R.memory with inFlight := some ⟨.ingest, false, some lastWrite, false⟩ }, rfl⟩

/-- A stream with one store pinned, and a frame with no layer and one with a layer of a stream. -/
theorem witness_Memory_pinned_store : ∃ m : MemoryUnit, m.streams[(3 : Fin 4)].stores[(2 : Fin 3)].pinned = true
    ∧ (∀ j : Fin 3, j ≠ 2 → m.streams[(3 : Fin 4)].stores[j].pinned = false)
    ∧ (Frame.mk .landscape .black []).layers = []
    ∧ (Frame.mk .landscape .black [⟨⟨0, 0, 1, 1⟩, .stream 3, .region, none⟩]).layers
      = [⟨⟨0, 0, 1, 1⟩, .stream 3, .region, none⟩] :=
  ⟨{ R.memory with streams := put R.memory.streams 3 { R.memory.streams[(3 : Fin 4)] with
      stores := put R.memory.streams[(3 : Fin 4)].stores 2 { R.memory.streams[(3 : Fin 4)].stores[(2 : Fin 3)] with pinned := true } } },
    by decide +kernel, by decide +kernel, rfl, rfl⟩

theorem witness_FaultsHaltTheChannelsUntilTheResume :
    (∃ (s : State) (u : UnitInFlight), s.memory.inFlight = some u ∧ u.channel = .compose ∧ u.ignored = false
      ∧ s.memory.ingestQueue = [lastWrite])
    ∧ (∃ (s : State) (u : UnitInFlight), s.memory.inFlight = some u ∧ u.channel = .ingest ∧ u.write = some lastWrite)
    ∧ (∃ (lowered : ChannelName → Channel → Channel), ∀ n c, lowered n c = if ChannelName.compose = n ∧ false = false then
        { c with remaining := c.remaining - 1, fault := true, state := .halted } else { c with state := .halted })
    ∧ (∃ s : State, s.mail.linkToMemory = [.resume] ∧ s.memory.compose.fault = true ∧ s.memory.compose.hasWork = true)
    ∧ ∃ s : State, s.mail.linkToMemory = [.restart] ∧ s.memory.inFlight ≠ none :=
  ⟨⟨channeled .atReset ⟨.active, 2, false, true⟩ .atReset [lastWrite] (some ⟨.compose, false, none, false⟩), _, rfl, rfl, rfl, rfl⟩,
    ⟨channeled ⟨.active, 1, false, true⟩ .atReset .atReset [] (some ⟨.ingest, false, some lastWrite, false⟩), _, rfl, rfl, rfl⟩,
    ⟨_, fun _ _ => rfl⟩,
    ⟨{ channeled .atReset ⟨.halted, 1, true, true⟩ .atReset [] none with mail := { M with linkToMemory := [.resume] } }, rfl, rfl, rfl⟩,
    { channeled .atReset ⟨.halted, 1, true, true⟩ .atReset [] (some ⟨.render, true, none, false⟩) with
      mail := { M with linkToMemory := [.restart] } }, rfl, by decide +kernel⟩

theorem witness_OutputsFollowLinksAndDirectives :
    (∀ (k : Fin 12) (o : Output), ∃ s : State, s.output.panels[k] = o)
    ∧ Asks (given R .output .feed (.panelStandby [0, 11])) .output .feed (.panelStandby [0, 11])
    ∧ Asks (given R .output .feed (.wake [0, 11])) .output .feed (.wake [0, 11])
    ∧ Asks (given R .output .feed (.setBrightness 15 [0, 11])) .output .feed (.setBrightness 15 [0, 11])
    ∧ (∃ s : State, s.mail.cuesToOutput = [.standby [0, 11]]) ∧ (∃ s : State, s.mail.cuesToOutput = [.wake [0, 11]])
    ∧ (∃ s : State, s.mail.cuesToOutput = [.brightness 15 [0, 11]])
    ∧ Asks (given R .output .feed (.panelStandby [])) .output .feed (.panelStandby [])
    ∧ Asks (given R .output .feed (.wake [12])) .output .feed (.wake [12])
    ∧ Asks (given R .output .feed (.setBrightness 16 [0])) .output .feed (.setBrightness 16 [0])
    ∧ Asks (given R .output .feed (.setPanel 12 60 1)) .output .feed (.setPanel 12 60 1)
    ∧ Asks (given R .output .feed (.setPanel 11 25 2)) .output .feed (.setPanel 11 25 2)
    ∧ 0 < (R.sendRestart .output).mail.restarts[Block.output.index] :=
  ⟨fun k o => ⟨{ R with output := ⟨put R.output.panels k o⟩ }, by simp [put]⟩, asks, asks, asks,
    ⟨{ R with mail := { M with cuesToOutput := [.standby [0, 11]] } }, rfl⟩,
    ⟨{ R with mail := { M with cuesToOutput := [.wake [0, 11]] } }, rfl⟩,
    ⟨{ R with mail := { M with cuesToOutput := [.brightness 15 [0, 11]] } }, rfl⟩,
    asks, asks, asks, asks, asks, by decide +kernel⟩

/-- A LIVE panel 11 with a READY and a FRONT buffer, at a frame slot; after reset no panel has a FRONT. -/
theorem witness_Outputs_send_the_front : (paneled 11 (showing .live .ready .front .none) (.slot 11)).composer.Sound
    ∧ (paneled 11 (showing .live .ready .front .none) (.slot 11)).composer.panels[(11 : Fin 12)] = showing .live .ready .front .none
    ∧ (∀ b ∈ [R.composer.panels[(0 : Fin 12)].bufA, R.composer.panels[(0 : Fin 12)].bufB], b.role ≠ .front) :=
  ⟨idle_composer_sound rfl rfl (by decide +kernel), by decide +kernel, by decide +kernel⟩

theorem witness_BacklightsMoveTowardTheirTargets :
    (∃ s : State, 2 ≤ s.mail.ticksToOutput ∧ s.output.panels[(0 : Fin 12)].level ≤ s.output.panels[(0 : Fin 12)].target)
    ∧ ∃ s : State, 0 < s.mail.ticksToOutput ∧ s.output.panels[(11 : Fin 12)].target ≤ s.output.panels[(11 : Fin 12)].level :=
  ⟨⟨{ R with mail := { M with ticksToOutput := 2 } }, by decide, by decide +kernel⟩,
    { R with mail := { M with ticksToOutput := 1 }, output := ⟨R.output.panels.set 11 { Output.atReset with level := 15, target := 15 }⟩ },
    by decide, by decide +kernel⟩

/-! ### Power-on meets the invariants a step keeps -/

theorem reset_queues_sound : R.QueuesSound :=
  ⟨⟨by decide, by decide, by decide⟩, ⟨by decide, by decide, by decide⟩, by decide, by decide +kernel⟩

theorem reset_clock_sound : R.ClockSound := by
  refine ⟨by decide, by decide, by decide, by decide, by decide, by decide, by decide, by decide, ?_, fun _ => rfl, ?_⟩
  · intro m hm; cases hm
  · intro e he; cases he

theorem reset_stores_sound : R.StoresSound := by
  have h : R.memory.streams.toList = List.replicate 4 Stream.atReset := rfl
  have e : R.memory.pinnedStreams = [] := by decide +kernel
  refine ⟨fun x hx => ?_, trivial, fun _ => ⟨.inl rfl, fun _ => e⟩⟩
  rw [h] at hx
  rw [List.eq_of_mem_replicate hx]
  exact ⟨by decide, by decide, by decide, by decide⟩

theorem reset_output_sound : R.output.Sound := by
  have h : R.output.panels.toList = List.replicate 12 Output.atReset := rfl
  intro o ho
  rw [h] at ho
  rw [List.eq_of_mem_replicate ho]
  exact ⟨rfl, by decide, by decide, by decide, fun h => nomatch h⟩

theorem reset_rotation_sound : R.rotation.Sound := by
  have h : R.rotation.carousels.toList = List.replicate 12 Carousel.atReset := rfl
  refine ⟨fun c hc => ?_, fun g hg c hc => ?_⟩
  · rw [h] at hc
    rw [List.eq_of_mem_replicate hc]
    exact ⟨by decide, by decide, .inr rfl, .inr rfl, fun _ => rfl⟩
  · have : R.rotation.leaders[g] = none := by simp [State.reset, RotationUnit.atReset]
    rw [this] at hc; cases hc

theorem witness_QueuesKeepTheirCapacities : ∃ t, (front (.deskByte 0xFE false)).QueuesSound ∧ step (front (.deskByte 0xFE false)) = .next t := ⟨_, reset_queues_sound, rfl⟩

theorem witness_StoresKeepTheirRoles : ∃ t, (front .pinRelease).StoresSound ∧ step (front .pinRelease) = .next t := ⟨_, reset_stores_sound, rfl⟩

theorem witness_RangesAreKept :
    ∃ t, (front .tenthTick).ClockSound ∧ (front .tenthTick).rotation.Sound ∧ (front .tenthTick).memory.IngestSound ∧ (front .tenthTick).output.Sound ∧ step (front .tenthTick) = .next t :=
  ⟨_, reset_clock_sound, reset_rotation_sound, Nat.zero_le 4, reset_output_sound, rfl⟩

/-! ### Single steps whose results the manual gives -/

/-- The state after a command that answers a next state. -/
def after (i : Instr) (s : State) : State := s.run [i]

/-- The answers waiting at a port, as tags and outcomes. -/
def answersOf (s : State) (p : Port) : List (Nat × OutcomeCode) := (s.port p).answers.answers.map fun a => (a.tag, a.outcome)

/-- 1.4, order A: NOTICES is the FEED's when the desk's POST NOTICE is taken. -/
theorem test_post_notice_of_a_port_that_does_not_own :
    answersOf (after (.postNotice .desk) (given { R with link := { R.link with owners := R.link.owners.set 2 .feed } } .notice .desk
      (.postNotice ⟨9, 1, [65], [0], none, none⟩))) .desk = [(7, .notOwner)] := by decide +kernel

/-- 1.4, order B: NOTICES is the DESK's. -/
theorem test_post_notice_of_the_owner :
    answersOf (after (.postNotice .desk) (given { R with link := { R.link with owners := R.link.owners.set 2 .desk } } .notice .desk
      (.postNotice ⟨9, 1, [65], [0], none, none⟩))) .desk = [(7, .done)] := by decide +kernel

/-- R1: a carry out of the top bit is added back in at the bottom, and an odd last byte is a high byte; an empty body sums to 0. -/
theorem test_feed_sum : onesSum [0xFF, 0xFF, 0x00, 0x01, 0x80] = 0x8001 ∧ onesSum [] = 0 := by decide

/-- R143: one piece byte makes a body of seven: the code, the tile in one byte, the offset in four. -/
theorem test_image_piece_of_one_byte : readDirective [26, 128, 0, 0, 12, 127, 5] = some (.imagePiece 128 3199 [5])
    ∧ readDirective [26, 128, 0, 0, 12, 127] = none := by decide +kernel

/-- R3, R19: a packet abandoned while a RESET waits is counted. -/
theorem test_abandoned_in_reset : ((after (.deskByte 0xFE false) { R with link := { R.link with
      resetPending := some ⟨1, 0⟩, deskReceiver := .collecting 2 [3] false false } }).port .desk).lineErrors = 1 := by decide +kernel

/-- R118, by hand: filling, a long word in pieces, an empty line between two breaks, and a line cut to c − 1 characters and "…". -/
theorem test_wrap : wrap 5 (ascii "ab cd abcdefg hi") = [ascii "ab cd", ascii "abcde", ascii "fg", ascii "hi"]
    ∧ wrap 5 [97, 10, 10, 98] = [[97], [], [98]]
    ∧ keepLines 5 1 [ascii "ab cd", ascii "ef"] = [glyphs (ascii "ab c") ++ [.ellipsis]]
    ∧ keepLines 5 1 [ascii "ab c", ascii "ef"] = [glyphs (ascii "ab c") ++ [.ellipsis]] := by decide +kernel

/-- R157: a colour's parts. -/
theorem test_colour_parts : rgbOf 63488 = ⟨31, 0, 0⟩ ∧ rgbOf 2016 = ⟨0, 63, 0⟩ ∧ rgbOf 31 = ⟨0, 0, 31⟩ := by decide

/-- R21: DISPLAY RESTART is not answered in its own step; the link unit then takes no other directive. -/
theorem test_restart_waits : ∃ s, s = after (.displayRestart .feed) (given R .link .feed .displayRestart)
    ∧ answersOf s .feed = [] ∧ s.mail.linkToMemory = [.restart] ∧ s.ready .link = false := ⟨_, rfl, by decide +kernel⟩

/-- R21: with MEMORY_FAULT ended, the end of STREAM_LOST brings DONE. -/
theorem test_restart_done :
    answersOf (after (.conditionEnd .memory) ((restarting true).sendCondition .memory (.ends .streamLost))) .feed = [(7, .done)] := by
  decide +kernel

/-- 1.10: a malformed head is answered when it is reached, whatever the queues of the units. -/
theorem test_malformed_head :
    answersOf (after (.intakeHeadMove .desk) (R.putPort .desk ⟨[⟨63, 200, none⟩, ⟨64, 1, some (.sell 1 1)⟩], ⟨[], 0⟩, 0, 0⟩)) .desk
      = [(63, .malformed)] := by decide +kernel

/-- 1.10: a head whose unit's handoff queue holds eight stays where it is. -/
theorem test_blocked_head :
    ((after (.intakeHeadMove .desk) ((R.putPort .desk ⟨[⟨61, 1, some (.sell 1 1)⟩], ⟨[], 0⟩, 0, 0⟩).putHandoff .seat .desk
      (List.replicate 8 ⟨60, 1, some (.sell 1 1)⟩))).port .desk).intake = [⟨61, 1, some (.sell 1 1)⟩] := by decide +kernel

/-- A clock that is SET, with a business day, a wall time, a high-water mark and cues. -/
def clocked (day hour minute second mark : Nat) (cues : List (Nat × Cue)) (e : LinkClockEvent) : State :=
  { R with
    clock := { R.clock with
      state := .set, day := day, hour := hour, minute := minute, second := second, mark := some mark
      cues := cues.foldl (fun v c => v.setIfInBounds c.1 (some c.2)) R.clock.cues }
    mail := { M with linkToClock := [e] } }

/-- 2.9: a forward step of 250 s over four minutes, two of which have a cue. -/
def forward : State :=
  after .beacon (clocked 400 18 57 20 777
    [(3, ⟨true, none, some 19, some 0, .applyLayout 5 [0, 1]⟩), (4, ⟨true, none, some 18, some 58, .quiet true [2]⟩),
      (5, ⟨true, none, some 19, some 5, .brightness 10 [0]⟩)] (.beacon ⟨400, 1, 19, 1, 30⟩))

theorem test_forward_step : (forward.clock.hour, forward.clock.minute, forward.clock.second, forward.clock.mark) = (19, 1, 30, some 781)
    ∧ forward.mail.cuesToComposer = [(5, [0, 1])] ∧ forward.mail.cuesToRotation = [(true, [2])] ∧ forward.mail.cuesToOutput = []
    ∧ forward.mail.clockToSchedule = [.minute 781] := by decide +kernel

/-- 2.9: a forward step of 760 s evaluates no minute. -/
theorem test_long_step : ∃ s, s = after .beacon (clocked 400 18 57 20 777
      [(4, ⟨true, none, some 18, some 58, .quiet true [2]⟩)] (.beacon ⟨400, 1, 19, 10, 0⟩))
    ∧ s.clock.mark = some 790 ∧ s.mail.cuesToRotation = [] ∧ s.mail.clockToSchedule = [.minute 790] :=
  ⟨_, rfl, by decide +kernel⟩

/-- 2.9: a backward set of 3 s keeps the mark. -/
theorem test_backward_set : ∃ s, s = after .beacon (clocked 400 20 0 1 840 [] (.beacon ⟨400, 1, 19, 59, 58⟩))
    ∧ s.clock.mark = some 840 ∧ s.mail.clockToSchedule = [.minute 839] := ⟨_, rfl, by decide +kernel⟩

/-- 2.9: a forward step over the day start. -/
theorem test_crossing_the_day_start : ∃ s, s = after .beacon (clocked 399 5 59 40 1439
      [(0, ⟨true, none, some 6, some 0, .standby [7]⟩)] (.beacon ⟨400, 1, 6, 0, 15⟩))
    ∧ s.clock.day = 400 ∧ s.clock.mark = some 0 ∧ s.mail.cuesToOutput = [.standby [7]]
    ∧ s.mail.clockToSchedule = [.rollover 400, .minute 0] := ⟨_, rfl, by decide +kernel⟩

/-- 2.9: an earlier business day is ignored and raises CLOCK_CONFLICT. -/
theorem test_earlier_day : ∃ s, s = after .beacon (clocked 400 6 0 1 0 [] (.beacon ⟨400, 1, 5, 59, 59⟩))
    ∧ (s.clock.hour, s.clock.minute, s.clock.second) = (6, 0, 1)
    ∧ s.mail.conditions[Block.clock.index] = [.raise .clockConflict] := ⟨_, rfl, by decide +kernel⟩

/-- R36's own examples. -/
theorem test_times : timeText .h24 495 = ascii "08:15" ∧ timeText .h24 30 = ascii "00:30" ∧ timeText .h12 495 = ascii "8:15 AM"
    ∧ timeText .h12 1215 = ascii "8:15 PM" ∧ timeText .h12 30 = ascii "12:30 AM" ∧ timeText .h12 725 = ascii "12:05 PM" := by
  decide +kernel

/-- 3.10: screening 4101 in a phase, with a delay. -/
def scr4101 (phase : Phase) (delay : Nat) : Screening := ⟨4101, 400, 7, 12, 840, delay, 180, [2], none, phase, none⟩

/-- 3.10: the schedule on day 400, with a minute event under way. -/
def evening (r : Screening) (minute : Nat) : State :=
  { withTable [r] with
    schedule := { (withTable [r]).schedule with viewDay := 400 }
    mail := { M with clockToSchedule := [.minute minute] } }

/-- 3.10: the phases of the evening, a clock step back to 845 while RUNNING, and a step from 825 to 870. -/
theorem test_phases_of_an_evening :
    [(Phase.pending, 0, 599), (.pending, 0, 600), (.listed, 0, 820), (.boarding, 10, 840), (.boarding, 10, 850), (.running, 10, 845),
      (.running, 10, 865), (.boarding, 10, 870)].map (fun x =>
        (after .scheduleMinuteEvent (evening (scr4101 x.1 x.2.1) x.2.2)).schedule.table.map Screening.phase)
    = [[.pending], [.listed], [.boarding], [.boarding], [.running], [.running], [.closed], [.closed]] := by decide +kernel

/-- 3.10: an AMEND of the delay of a RUNNING screening is refused. -/
theorem test_amend_too_late : answersOf (after (.amendScreening .feed) (given (evening (scr4101 .running 10) 852) .schedule .feed
    (.amendScreening 4101 (some 15) none none none))) .feed = [(7, .tooLate)] := by decide +kernel

/-- 4.8: screening 4101 with its seats, its shown pair and hold 501. -/
def seats (s h b : Nat) (band : Band) (figure : Option Nat) : State :=
  { withTable [scr4101 .boarding 0] with
    seat := { R.seat with
      tallies := [⟨4101, 180, s, h, b, 180 - s - h - b, (s + h + b) * 1000 / 180, band, figure, false⟩]
      holds := if h = 0 then [] else [⟨501, 4101, h, 45600⟩] }
    clock := { R.clock with runTime := 45000 } }

/-- The counts, left, fill and shown pair of the first tally, and the events sent to the board builder. -/
def shownSeats (s : State) : List (List Nat × Band × Option Nat) × List Nat :=
  (s.seat.tallies.map fun t => ([t.sold, t.held, t.blocked, t.left, t.fill], t.band, t.figure), s.mail.figuresToBuilder)

/-- 4.8: the rows of the table. -/
theorem test_sell_10 : shownSeats (after (.sell .desk) (given (seats 100 0 4 .plenty none) .seat .desk (.sell 4101 10)))
    = ([([110, 0, 4, 66, 633], .filling, some 60)], [4101]) := by decide +kernel
theorem test_hold_501 : shownSeats (after (.hold .desk) (given (seats 110 0 4 .filling (some 60)) .seat .desk (.hold 4101 501 6 10)))
    = ([([110, 6, 4, 60, 666], .filling, some 60)], []) := by decide +kernel
theorem test_sell_45 : shownSeats (after (.sell .desk) (given (seats 110 6 4 .filling (some 60)) .seat .desk (.sell 4101 45)))
    = ([([155, 6, 4, 15, 916], .few, some 15)], [4101]) := by decide +kernel
theorem test_release_501 : shownSeats (after (.release .desk) (given (seats 155 6 4 .few (some 15)) .seat .desk (.release 501)))
    = ([([155, 0, 4, 21, 883], .few, some 21)], [4101]) := by decide +kernel
theorem test_refund_10 : shownSeats (after (.refund .desk) (given (seats 155 0 4 .few (some 21)) .seat .desk (.refund 4101 10)))
    = ([([145, 0, 4, 31, 827], .filling, some 30)], [4101]) := by decide +kernel
theorem test_refund_1 : shownSeats (after (.refund .desk) (given (seats 176 0 4 .soldOut none) .seat .desk (.refund 4101 1)))
    = ([([175, 0, 4, 1, 994], .soldOut, none)], []) := by decide +kernel

/-- 5.9: the screenings of board 2 at 19:45, each of title 0. -/
def row (n a e : Nat) (p : Phase) : Screening := ⟨n, 400, a, 0, e, 0, 100, [], none, p, if p = .cancelled then some 818 else none⟩

/-- 5.9: board 2 at 19:45, the schedule having closed 4090. -/
def board2At1945 : State :=
  let rows := [row 4095 1 830 .boarding, row 4101 7 840 .boarding, row 4104 9 870 .cancelled, row 4105 2 880 .listed,
    row 4107 4 900 .listed, row 4110 11 915 .listed, row 4112 6 930 .listed, row 4115 8 960 .listed]
  { withTable (row 4090 5 810 .closed :: rows) with
    schedule := { (withTable (row 4090 5 810 .closed :: rows)).schedule with viewDay := 400, viewMinute := some 825 }
    builder := { R.builder with
      viewDay := 400
      viewMinute := some 825
      boards := R.builder.boards.set 2 ⟨some ⟨none, none, .byTime, 4, 8, true, 48⟩,
        (row 4090 5 810 .running :: rows).map fun r => ⟨r.number, r.auditorium, r.title, r.showTime, r.phase⟩, 2, some 33⟩ }
    mail := { M with scheduleToBuilder := [.phaseChanged 4090 .closed] } }

/-- 5.9: the list shrinks under page 2; page 1 is shown with a full dwell and its four tiles are redrawn. -/
theorem test_page_rebuild : ∃ s, s = after .builderPhaseChanged board2At1945
    ∧ (s.builder.boards[2]).page = 1 ∧ (s.builder.boards[2]).dwell = some 80
    ∧ (s.builder.boards[2]).rows.map RowEntry.screening = [4095, 4101, 4104, 4105, 4107, 4110, 4112, 4115]
    ∧ s.mail.tiles[Block.builder.index] = [.redraw 32 .normal, .redraw 33 .normal, .redraw 34 .normal, .redraw 35 .normal] :=
  ⟨_, rfl, by decide +kernel⟩

/-- R98's countdown, at its limits. -/
theorem test_countdown : timeColumn (scr4101 .boarding 0) (some 825) 15 R.clock = ascii "in 15 min"
    ∧ timeColumn (scr4101 .boarding 0) (some 824) 15 R.clock = ascii "20:00"
    ∧ timeColumn (scr4101 .boarding 0) (some 840) 15 R.clock = ascii "20:00" := by decide +kernel

/-- 6.8: URGENT notices 21 to 24 on panel 4, 21 on panel 5 too, 22 shown on panel 4 with 4 seconds left. -/
def urgent4 : State :=
  { R with notice := { R.notice with
      notices := [⟨21, .urgent, [65], [4, 5], none, none, none, 0, 3⟩, ⟨22, .urgent, [65], [4], none, none, none, 1, 4⟩,
        ⟨23, .urgent, [65], [4], none, none, none, 2, 5⟩, ⟨24, .urgent, [65], [4], none, none, none, 3, 6⟩]
      urgent := (R.notice.urgent.set 4 ⟨[21, 22, 23, 24], some 22, some 4⟩).set 5 ⟨[21], some 21, some 8⟩ } }

/-- 6.8: notice 25 joins the full list of panel 4; 21 is pushed out of it and stays on panel 5's. -/
theorem test_post_25 : ∃ s, s = after (.postNotice .desk) (given
      { urgent4 with link := { R.link with owners := R.link.owners.set 2 .desk } } .notice .desk
      (.postNotice ⟨25, 1, [65], [4], none, none⟩))
    ∧ s.notice.urgent[4] = ⟨[22, 23, 24, 25], some 22, some 4⟩ ∧ s.notice.urgent[5] = ⟨[21], some 21, some 8⟩
    ∧ (s.notice.notices.find? fun n => n.number = 21).map Notice.targets = some [5] := ⟨_, rfl, by decide +kernel⟩

/-- 6.8: the shown notice 22 is withdrawn; 23 is shown at once with a full dwell, and tile 228 is emptied. -/
theorem test_withdraw_22 : ∃ s, s = after (.withdrawNotice .desk) (given
      { urgent4 with link := { R.link with owners := R.link.owners.set 2 .desk } } .notice .desk (.withdrawNotice 22))
    ∧ s.notice.urgent[4] = ⟨[21, 23, 24], some 23, some 8⟩ ∧ .empty 228 ∈ s.mail.tiles[Block.notice.index] := ⟨_, rfl, by decide +kernel⟩

/-- 7.9: carousels 2 and 3 at the end of the leader's cycle at t = 370, where NOTICE 31 has been shown and 33 follows. -/
def at370 : State :=
  { R with
    notice := { R.notice with
      notices := [⟨31, .service, [65], [2], none, none, none, 0, 0⟩, ⟨33, .service, [65], [2], none, none, none, 1, 1⟩] }
    rotation := {
      carousels := (R.rotation.carousels.set 2 { Carousel.atReset with
          run := .running, content := ⟨.single, [.stream 0, .tile 130, .notices], []⟩, primaryCursor := 2
          phase := some .space, remaining := some 0, shown := some (.notice 31), active := ⟨80, 20, 100, 0⟩, group := some 0 }).set 3
        { Carousel.atReset with
          run := .running, content := ⟨.single, [.tile 131, .tile 132], []⟩
          phase := some .mark, remaining := some 0, shown := some (.tile 131), quiet := true, group := some 0 }
      leaders := R.rotation.leaders.set 0 (some 2) } }

/-- 7.9, t = 370: the leader shows NOTICE 33; the member is restarted at cursor 0 with TILE 131, quiet, all SPACE for 100. -/
theorem test_leader_restart : ∃ s, s = after (.cycleEnd 2) at370
    ∧ (s.rotation.carousels[2]).shown = some (.notice 33) ∧ (s.rotation.carousels[2]).noticeStep = 1
    ∧ ((s.rotation.carousels[2]).phase, (s.rotation.carousels[2]).remaining) = (some .mark, some 80)
    ∧ (s.rotation.carousels[3]).shown = some (.tile 131) ∧ (s.rotation.carousels[3]).noticeStep = 0
    ∧ ((s.rotation.carousels[3]).phase, (s.rotation.carousels[3]).remaining) = (some .space, some 100) := ⟨_, rfl, by decide +kernel⟩

/-- 8.7: the job for tile 33 completes while the tile is RENDERING_STALE: its image is drawn and it is queued again behind 32. -/
theorem test_stale_render : ∃ s, s = after .renderJobComplete { R with
      render := { R.render with
        tiles := (R.render.tiles.set 33 { tileIn .renderingStale with size := some (48, 1) }).set 32 (tileIn .queued)
        urgentLane := [231], normalLane := [32], engine := .job ⟨33, 48, 1, .text 48 1 .small []⟩ }
      mail := { M with memoryToRender := [.complete] } }
    ∧ (s.render.tiles[33]).state = .queued ∧ (s.render.tiles[33]).image = some (.text 48 1 .small [])
    ∧ (s.render.urgentLane, s.render.normalLane) = ([231], [32, 33]) := ⟨_, rfl, by decide +kernel⟩

/-- 9.6: slot 2 of panel 6 while its job 41 writes buffer B. -/
theorem test_late_slot : ∃ s, s = after .frameSlot (paneled 6
      { showing .live .front .composing .composing with
        current := some 3, pendingLayout := some 4, shown := 1000, repeated := 13 } (.slot 6))
    ∧ ((s.composer.panels[6]).current, (s.composer.panels[6]).pendingLayout) = (some 4, none)
    ∧ ((s.composer.panels[6]).shown, (s.composer.panels[6]).repeated) = (1000, 14)
    ∧ s.mail.conditions[Block.composer.index] = [.raise .frameLate] := ⟨_, rfl, by decide +kernel⟩

/-- 9.6: slot 3 of panel 6 with buffer B READY. -/
theorem test_swapping_slot : ∃ s, s = after .frameSlot (paneled 6
      { showing .live .front .ready .none with pendingLayout := none, shown := 1000, repeated := 14 } (.slot 6))
    ∧ ((s.composer.panels[6]).bufA.role, (s.composer.panels[6]).bufB.role) = (.free, .front)
    ∧ ((s.composer.panels[6]).shown, (s.composer.panels[6]).repeated) = (1001, 14) ∧ s.composer.queue = [6] := ⟨_, rfl, by decide +kernel⟩

/-- 10.6: unit 3 of job 42 faults. -/
theorem test_unit_fault : ∃ s, s = after .unitFault
      (channeled ⟨.preempted, 1, false, true⟩ ⟨.active, 4, false, true⟩ ⟨.preempted, 2, false, true⟩ [lastWrite]
        (some ⟨.compose, false, none, false⟩))
    ∧ s.memory.ingest = ⟨.halted, 0, false, false⟩ ∧ s.memory.ingestQueue = [] ∧ s.memory.compose = ⟨.halted, 3, true, true⟩
    ∧ s.memory.render = ⟨.halted, 2, false, true⟩ ∧ s.mail.conditions[Block.memory.index] = [.raise .memoryFault] :=
  ⟨_, rfl, by decide +kernel⟩

/-- 10.6: at the resume COMPOSE gives up its marked job and RENDER keeps its two units. -/
theorem test_resume : ∃ s, s = after .resume { channeled ⟨.halted, 0, false, false⟩ ⟨.halted, 3, true, true⟩ ⟨.halted, 2, false, true⟩ []
      none with mail := { M with linkToMemory := [.resume] } }
    ∧ s.memory.compose = .atReset ∧ s.memory.render = ⟨.preempted, 2, false, true⟩ ∧ s.mail.memoryToComposer = [.ended] :=
  ⟨_, rfl, by decide +kernel⟩

/-- The host's question: no row spells a command by its bits, so a word places none. -/
theorem test_no_words : decodeTableWord 16 0 = none ∧ State.withFetchWord R 16 0 = R := by decide +kernel

end Sys2Proof.Tests
end

section
/-! SUPPORT. The frame of every command: which parts of the state it may change. Said once for each command's action, so that a
fact about one part is proved of the few commands that touch the part, and holds for all others by the frame. -/

namespace Sys2Proof.Machine

open Sys2Proof

/-- A part of the state that commands share or own: the queue of waiting commands; the intake, handoff and answer queues with the
DISPLAY RESTART and the IMAGE PIECE that hold reserved places; the events under way from the link unit to the board clock; and each block. -/
inductive Part where
  | pending
  | queues
  | beacons
  | block (b : Block)

/-- Whether a part is the same in two states. -/
def State.samePart (s t : State) : Part → Prop
  | .pending => t.pending = s.pending
  | .queues => t.link.ports = s.link.ports ∧ t.link.handoff = s.link.handoff
      ∧ t.link.restartPending = s.link.restartPending ∧ ∀ p, t.render.piecesOf p = s.render.piecesOf p
  | .beacons => t.mail.linkToClock = s.mail.linkToClock
  | .block b => s.sameBlock t b

/-- Every part but those listed is the same in two states. -/
structure State.Frame (ps : List Part) (s t : State) : Prop where
  same : ∀ p, p ∉ ps → s.samePart t p

/-- A frame, part by part. -/
theorem State.frame_iff (ps : List Part) (s t : State) :
    s.Frame ps t ↔ (.pending ∉ ps → t.pending = s.pending)
      ∧ (.queues ∉ ps → t.link.ports = s.link.ports ∧ t.link.handoff = s.link.handoff
          ∧ t.link.restartPending = s.link.restartPending ∧ ∀ p, t.render.piecesOf p = s.render.piecesOf p)
      ∧ (.beacons ∉ ps → t.mail.linkToClock = s.mail.linkToClock)
      ∧ (.block .link ∉ ps → t.link = s.link) ∧ (.block .clock ∉ ps → t.clock = s.clock)
      ∧ (.block .schedule ∉ ps → t.schedule = s.schedule) ∧ (.block .seat ∉ ps → t.seat = s.seat)
      ∧ (.block .builder ∉ ps → t.builder = s.builder) ∧ (.block .notice ∉ ps → t.notice = s.notice)
      ∧ (.block .rotation ∉ ps → t.rotation = s.rotation) ∧ (.block .render ∉ ps → t.render = s.render)
      ∧ (.block .composer ∉ ps → t.composer = s.composer) ∧ (.block .memory ∉ ps → t.memory = s.memory)
      ∧ (.block .output ∉ ps → t.output = s.output) := by
  constructor
  · rintro ⟨h⟩
    exact ⟨h .pending, h .queues, h .beacons, fun n => (h (.block .link) n).symm, fun n => (h (.block .clock) n).symm,
      fun n => (h (.block .schedule) n).symm, fun n => (h (.block .seat) n).symm, fun n => (h (.block .builder) n).symm,
      fun n => (h (.block .notice) n).symm, fun n => (h (.block .rotation) n).symm, fun n => (h (.block .render) n).symm,
      fun n => (h (.block .composer) n).symm, fun n => (h (.block .memory) n).symm, fun n => (h (.block .output) n).symm⟩
  · rintro ⟨hp, hq, hb, h0, h1, h2, h3, h4, h5, h6, h7, h8, h9, h10⟩
    refine ⟨fun p hn => ?_⟩
    match p with
    | .pending => exact hp hn
    | .queues => exact hq hn
    | .beacons => exact hb hn
    | .block .link => exact (h0 hn).symm
    | .block .clock => exact (h1 hn).symm
    | .block .schedule => exact (h2 hn).symm
    | .block .seat => exact (h3 hn).symm
    | .block .builder => exact (h4 hn).symm
    | .block .notice => exact (h5 hn).symm
    | .block .rotation => exact (h6 hn).symm
    | .block .render => exact (h7 hn).symm
    | .block .composer => exact (h8 hn).symm
    | .block .memory => exact (h9 hn).symm
    | .block .output => exact (h10 hn).symm

theorem State.Frame.refl {ps : List Part} {s : State} : s.Frame ps s := by
  refine ⟨fun p _ => ?_⟩
  match p with
  | .pending | .beacons => rfl
  | .queues => exact ⟨rfl, rfl, rfl, fun _ => rfl⟩
  | .block b => cases b <;> rfl

theorem State.samePart.trans {s t u : State} {p : Part} (h : s.samePart t p) (k : t.samePart u p) : s.samePart u p := by
  match p with
  | .pending | .beacons => exact Eq.trans k h
  | .queues =>
    obtain ⟨hp, hh, hr, hu⟩ := h
    obtain ⟨kp, kh, kr, ku⟩ := k
    exact ⟨kp.trans hp, kh.trans hh, kr.trans hr, fun p => (ku p).trans (hu p)⟩
  | .block b => cases b <;> exact Eq.trans h k

theorem State.Frame.trans {ps : List Part} {s t u : State} (h : s.Frame ps t) (k : t.Frame ps u) : s.Frame ps u :=
  ⟨fun p hp => (h.same p hp).trans (k.same p hp)⟩

/-- A frame holds for every longer list of parts. -/
theorem State.Frame.mono {ps qs : List Part} {s t : State} (h : s.Frame ps t) (hs : ps ⊆ qs) : s.Frame qs t :=
  ⟨fun p hp => h.same p fun hm => hp (hs hm)⟩

/-- What each step of a fold leaves, the fold leaves. -/
theorem State.Frame.foldl {α : Type} {ps : List Part} {f : State → α → State} (h : ∀ s a, State.Frame ps s (f s a)) (as : List α)
    (s : State) : s.Frame ps (as.foldl f s) := by
  induction as generalizing s with
  | nil => exact .refl
  | cons a as ih => exact (h s a).trans (ih _)

@[simp] theorem refuse_fst (s : State) (o : OutcomeCode) : (refuse s o).1 = s := rfl
@[simp] theorem done_fst (s : State) : (done s).1 = s := rfl

/-! ### Moving packets and taking directives -/

theorem State.putPort_frame (s : State) (p : Port) (x : PortState) : s.Frame [.queues, .block .link] (s.putPort p x) := by
  simp [State.frame_iff]

theorem State.putHandoff_frame (s : State) (u : Block) (p : Port) (q : List Packet) :
    s.Frame [.queues, .block .link] (s.putHandoff u p q) := by
  simp [State.frame_iff]

theorem State.issue_frame (s : State) (p : Port) (a : Answer) : s.Frame [.queues, .block .link] (s.issue p a) :=
  s.putPort_frame ..

/-- The parts a directive's command may change: its unit's action, the queues and the link unit that holds them (R8). -/
theorem State.take_frame {α : Type} {ps : List Part} {u : Block} {p : Port} {select : Directive → Option α}
    {act : Packet → α → State → State} (hq : [.queues, .block .link] ⊆ ps) (h : ∀ q a t, State.Frame ps t (act q a t)) (s : State) :
    s.Frame ps (s.take u p select act) := by
  have hput := (s.putHandoff_frame u p (s.handoffOf u p).tail).mono hq
  obtain e | ⟨q, d, a, -, -, e⟩ | ⟨q, d, a, -, -, -, -, e⟩ := State.take_cases u p select act s
  · rw [e]; exact .refl
  · rw [e]; exact hput.trans (h ..)
  · rw [e]; exact hput.trans ((State.issue_frame ..).mono hq)

theorem State.takeAndAnswer_frame {α : Type} {ps : List Part} {u : Block} {p : Port} {select : Directive → Option α}
    {act : α → State → State × Reply} (h : ∀ a t, State.Frame ps t (act a t).1) (s : State) :
    s.Frame (.queues :: .block .link :: ps) (s.takeAndAnswer u p select act) :=
  State.take_frame (by simp) (fun _ a t =>
    ((h a t).mono (by simp)).trans ((State.issue_frame ..).mono (by simp))) s

theorem State.takeQuery_frame {u : Block} {p : Port} {kind : Nat} {record : Nat → State → Reply} (s : State) :
    s.Frame [.queues, .block .link] (s.takeQuery u p kind record) :=
  State.takeAndAnswer_frame (ps := []) (fun _ _ => .refl) s

end Sys2Proof.Machine

end

section
/-! SUPPORT. The parts that each unit's own operations and directive actions may change. -/

namespace Sys2Proof.Machine

open Sys2Proof

/-! ### The link unit (chapter 1) -/

theorem grantOwner_frame (g o : Nat) (s : State) : s.Frame [.block .link] (grantOwner g o s).1 := by
  unfold grantOwner
  split
  · exact .refl
  · split
    · simp [State.frame_iff]
    · exact .refl

theorem setReportEnables_frame (ms : List Nat) (s : State) : s.Frame [.block .link] (setReportEnables ms s).1 := by
  unfold setReportEnables
  split
  · simp [State.frame_iff, LinkUnit.setEnables]
  · exact .refl

theorem acknowledgeConditions_frame (ms : List Nat) (s : State) :
    s.Frame [.block .link] (acknowledgeConditions ms s).1 := by
  unfold acknowledgeConditions
  split
  · exact .refl
  · split
    · exact .refl
    · simp only [State.frame_iff, done_fst]
      split <;> simp [LinkUnit.clearFlags]

theorem State.arrangeReset_frame (s : State) : s.Frame [.block .link] s.arrangeReset := by
  unfold State.arrangeReset
  split
  · exact .refl
  · simp [State.frame_iff]

theorem State.arrangeRestart_frame (p : Port) (q : Packet) (s : State) :
    s.Frame [.queues, .block .link] (s.arrangeRestart p q) := by
  simp [State.frame_iff]

/-! ### The board clock (chapter 2) -/

theorem State.sendAction_frame (s : State) (a : CueAction) : s.Frame [] (s.sendAction a) := by
  simp [State.frame_iff]

theorem State.evaluateCues_frame (s : State) (x w h m : Nat) : s.Frame [.block .clock] (s.evaluateCues x w h m) := by
  unfold State.evaluateCues
  split
  · exact .refl
  · have hfold := State.Frame.foldl State.sendAction_frame (s.clock.firing w h m) s
    refine (hfold.mono (List.nil_subset _)).trans ?_
    simp [State.frame_iff]

theorem State.evaluateCrossed_frame (s : State) (t : TimeFields) (last : Nat) (ms : List Nat) :
    s.Frame [.block .clock] (s.evaluateCrossed t last ms) :=
  State.Frame.foldl (fun _ _ => State.evaluateCues_frame ..) ms s

theorem State.rollover_frame (s : State) (d : Nat) : s.Frame [.block .clock] (s.rollover d) := by
  simp [State.frame_iff]

theorem State.raiseMark_frame (s : State) (n : Nat) : s.Frame [.block .clock] (s.raiseMark n) := by
  unfold State.raiseMark
  split
  · exact .refl
  · simp [State.frame_iff]

/-- The clock's fields change, and nothing else. -/
theorem State.withClock_frame (s : State) (c : Clock) : s.Frame [.block .clock] { s with clock := c } := by
  simp [State.frame_iff]

theorem State.sendCondition_frame (s : State) (b : Block) (e : ConditionEvent) : s.Frame [] (s.sendCondition b e) := by
  simp [State.frame_iff]

theorem State.sendMinute_frame (s : State) (n : Nat) : s.Frame [] (s.sendMinute n) := by
  simp [State.frame_iff]

theorem State.redrawClockTiles_frame (s : State) : s.Frame [] s.redrawClockTiles := by
  simp [State.frame_iff]

theorem State.minuteBoundary_frame (s : State) : s.Frame [.block .clock] s.minuteBoundary := by
  have hroll : s.Frame [.block .clock] (if s.clock.hour = s.clock.dayStart ∧ s.clock.minute = 0 then
      s.rollover (min (s.clock.day + 1) maxCount16) else s) := by
    split
    · exact s.rollover_frame _
    · exact .refl
  exact ((hroll.trans ((State.sendMinute_frame ..).mono (by simp))).trans (State.evaluateCues_frame ..)).trans
    ((State.redrawClockTiles_frame _).mono (by simp))

theorem State.countWallTime_frame (s : State) : s.Frame [.block .clock] s.countWallTime := by
  unfold State.countWallTime
  split
  · exact .refl
  · dsimp only
    split
    · exact (State.withClock_frame ..).trans (State.minuteBoundary_frame _)
    · exact State.withClock_frame ..

theorem State.setFromUnset_frame (s : State) (t : TimeFields) : s.Frame [.block .clock] (s.setFromUnset t) := by
  unfold State.setFromUnset
  dsimp only
  split <;> simp [State.frame_iff]

theorem State.backwardSet_frame (s : State) (t : TimeFields) : s.Frame [.block .clock] (s.backwardSet t) := by
  unfold State.backwardSet
  dsimp only
  split <;> simp [State.frame_iff]

/-- A conditional step leaves what both its branches leave. -/
theorem State.Frame.ite {ps : List Part} {s t u : State} {c : Prop} {_ : Decidable c} (h : s.Frame ps t) (k : s.Frame ps u) :
    s.Frame ps (if c then t else u) := by
  split
  · exact h
  · exact k

theorem State.forwardSet_frame (s : State) (t : TimeFields) : s.Frame [.block .clock] (s.forwardSet t) := by
  unfold State.forwardSet
  dsimp only
  refine .ite ((State.withClock_frame ..).trans ((State.redrawClockTiles_frame _).mono (by simp))) ?_
  refine .trans ?_ ((State.redrawClockTiles_frame _).mono (by simp))
  refine .trans ?_ ((State.sendMinute_frame ..).mono (by simp))
  refine .trans ?_ (.ite .refl (State.raiseMark_frame ..))
  refine .trans ?_ (State.evaluateCrossed_frame ..)
  refine .trans ?_ (State.withClock_frame ..)
  refine .trans ?_ (.ite (State.rollover_frame ..) .refl)
  exact .ite (State.evaluateCrossed_frame ..) .refl

theorem State.applyTime_frame (s : State) (t : TimeFields) : s.Frame [.block .clock] (s.applyTime t) := by
  unfold State.applyTime
  exact .ite ((State.sendCondition_frame ..).mono (by simp)) <| .ite (State.withClock_frame ..) <|
    .ite (State.backwardSet_frame ..) (State.forwardSet_frame ..)

theorem State.takeBeacon_frame (s : State) (t : TimeFields) : s.Frame [.block .clock] (s.takeBeacon t) := by
  unfold State.takeBeacon
  split
  · exact s.setFromUnset_frame t
  · exact s.applyTime_frame t
  · exact ((State.withClock_frame ..).trans ((State.sendCondition_frame ..).mono (by simp))).trans (State.applyTime_frame ..)

theorem State.restartWatch_frame (s : State) : s.Frame [.block .link] s.restartWatch := by
  simp [State.frame_iff]

theorem setClock_frame (t : TimeFields) (s : State) : s.Frame [.block .clock, .block .link] (setClock t s).1 := by
  unfold setClock
  split
  · exact .refl
  · split
    · exact (s.sendCondition_frame ..).mono (by simp)
    · exact ((s.takeBeacon_frame t).mono (by simp)).trans ((State.restartWatch_frame _).mono (by simp))

theorem setHouse_frame (f d : Nat) (s : State) : s.Frame [.block .clock] (setHouse f d s).1 := by
  unfold setHouse
  split
  · exact .refl
  · split
    · exact .refl
    · split
      · exact .refl
      · dsimp only
        split <;> simp [State.frame_iff]

theorem setCue_frame (n : Nat) (f : CueFields) (s : State) : s.Frame [.block .clock] (setCue n f s).1 := by
  unfold setCue
  split
  · exact .refl
  · split
    · exact State.withClock_frame ..
    · exact .refl

theorem clearCue_frame (n : Nat) (s : State) : s.Frame [.block .clock] (clearCue n s).1 := by
  unfold clearCue
  split
  · split
    · exact .refl
    · exact State.withClock_frame ..
  · exact .refl

/-! ### The schedule unit (chapter 3) -/

theorem State.withSchedule_frame (s : State) (x : ScheduleUnit × List ScheduleEvent) :
    s.Frame [.block .schedule] (s.withSchedule x) := by
  simp [State.frame_iff]

theorem loadTitle_frame (n : Nat) (text rating : List Byte) (m : Nat) (s : State) :
    s.Frame [.block .schedule] (loadTitle n text rating m s).1 := by
  unfold loadTitle
  split
  · exact .refl
  · split
    · simp [State.frame_iff]
    · exact .refl

theorem setPhaseTimes_frame (x : PhaseSettings) (s : State) : s.Frame [.block .schedule] (setPhaseTimes x s).1 := by
  unfold setPhaseTimes
  split
  · exact s.withSchedule_frame _
  · exact .refl

theorem loadScreening_frame (f : ScreeningFields) (s : State) : s.Frame [.block .schedule] (loadScreening f s).1 := by
  unfold loadScreening
  split; · exact .refl
  split; · exact .refl
  split; · exact .refl
  split; · exact .refl
  split
  · exact s.withSchedule_frame _
  · split
    · exact .refl
    · exact s.withSchedule_frame _

theorem amendScreening_frame (n : Nat) (f : AmendFields) (s : State) :
    s.Frame [.block .schedule] (amendScreening n f s).1 := by
  unfold amendScreening
  split; · exact .refl
  split; · exact .refl
  split; · exact .refl
  split; · exact .refl
  exact s.withSchedule_frame _

theorem cancelScreening_frame (n : Nat) (s : State) : s.Frame [.block .schedule] (cancelScreening n s).1 := by
  unfold cancelScreening
  split; · exact .refl
  split
  · exact .refl
  · exact .refl
  · exact .refl
  · exact s.withSchedule_frame _
  · exact s.withSchedule_frame _
  · exact s.withSchedule_frame _

theorem dropScreening_frame (n : Nat) (s : State) : s.Frame [.block .schedule] (dropScreening n s).1 := by
  unfold dropScreening
  split
  · exact .refl
  · exact s.withSchedule_frame _

/-! ### The seat unit (chapter 4) -/

theorem State.withSeat_frame (s : State) (x : SeatUnit × List SeatEvent) : s.Frame [.block .seat] (s.withSeat x) := by
  simp [State.frame_iff]

theorem countTally_frame (s : State) (u : SeatUnit) (t : Tally) (o : OutcomeCode) :
    s.Frame [.block .seat] (countTally s u t o).1 := s.withSeat_frame _

theorem sell_frame (scr n : Nat) (s : State) : s.Frame [.block .seat] (sell scr n s).1 := by
  unfold sell
  split; · exact .refl
  split
  · exact .refl
  · exact countTally_frame ..

theorem refund_frame (scr n : Nat) (s : State) : s.Frame [.block .seat] (refund scr n s).1 := by
  unfold refund
  split; · exact .refl
  split
  · exact .refl
  · split
    · exact ((s.sendCondition_frame ..).mono (by simp)).trans (countTally_frame ..)
    · exact countTally_frame ..

theorem setSold_frame (scr a b : Nat) (s : State) : s.Frame [.block .seat] (setSold scr a b s).1 := by
  unfold setSold
  split; · exact .refl
  split
  · exact .refl
  · exact countTally_frame ..

theorem hold_frame (scr id n m : Nat) (s : State) : s.Frame [.block .seat] (hold scr id n m s).1 := by
  unfold hold
  split; · exact .refl
  split; · exact .refl
  split; · exact .refl
  split
  · exact (s.sendCondition_frame ..).mono (by simp)
  · split
    · exact .refl
    · exact countTally_frame ..

theorem confirm_frame (id : Nat) (s : State) : s.Frame [.block .seat] (confirm id s).1 := by
  unfold confirm
  split
  · exact .refl
  · exact countTally_frame ..

theorem release_frame (id : Nat) (s : State) : s.Frame [.block .seat] (release id s).1 := by
  unfold release
  split
  · exact .refl
  · exact countTally_frame ..

theorem setBands_frame (b : BandSettings) (s : State) : s.Frame [.block .seat] (setBands b s).1 := by
  unfold setBands
  split
  · exact s.withSeat_frame _
  · exact .refl

/-! ### The board builder (chapter 5) -/

theorem State.withBuilder_frame (s : State) (x : BuilderUnit × List TileRequest) :
    s.Frame [.block .builder] (s.withBuilder x) := by
  simp [State.frame_iff]

theorem defineBoard_frame (b : Nat) (f : BoardFields) (s : State) : s.Frame [.block .builder] (defineBoard b f s).1 := by
  unfold defineBoard
  split; · exact .refl
  split
  · exact s.withBuilder_frame _
  · exact .refl

theorem clearBoard_frame (b : Nat) (s : State) : s.Frame [.block .builder] (clearBoard b s).1 := by
  unfold clearBoard
  split
  · split
    · exact .refl
    · exact s.withBuilder_frame _
  · exact .refl

/-! ### The notice unit (chapter 6) -/

theorem State.withNotice_frame (s : State) (x : NoticeUnit × List TileRequest) :
    s.Frame [.block .notice] (s.withNotice x) := by
  simp [State.frame_iff]

theorem postNotice_frame (f : NoticeFields) (s : State) : s.Frame [.block .notice] (postNotice f s).1 := by
  unfold postNotice
  split; · exact .refl
  split; · exact .refl
  split
  · exact .refl
  · exact s.withNotice_frame _

theorem withdrawNotice_frame (n : Nat) (s : State) : s.Frame [.block .notice] (withdrawNotice n s).1 := by
  unfold withdrawNotice
  split; · exact .refl
  split
  · exact .refl
  · exact s.withNotice_frame _

theorem setNoticeStyle_frame (x : NoticeStyle) (s : State) : s.Frame [.block .notice] (setNoticeStyle x s).1 := by
  unfold setNoticeStyle
  split
  · exact s.withNotice_frame _
  · exact .refl

/-! ### The rotation unit (chapter 7) -/

theorem State.changeCarousel_frame (s : State) (i : Nat) (f : Carousel → Carousel) :
    s.Frame [.block .rotation] (s.changeCarousel i f) := by
  simp [State.frame_iff]

theorem State.changeCarousels_frame (s : State) (set : List Nat) (f : Nat → Carousel → Carousel) :
    s.Frame [.block .rotation] (s.changeCarousels set f) := by
  simp [State.frame_iff]

theorem setCarousel_frame (c m : Nat) (a b : List Coded) (s : State) :
    s.Frame [.block .rotation] (setCarousel c m a b s).1 := by
  unfold setCarousel
  split; · exact .refl
  split
  · exact .refl
  · exact s.changeCarousel_frame ..

theorem setPeriods_frame (c : Nat) (a b x y : Option Nat) (s : State) :
    s.Frame [.block .rotation] (setPeriods c a b x y s).1 := by
  unfold setPeriods
  dsimp only
  split
  · exact s.changeCarousel_frame ..
  · exact .refl

theorem setQuiet_frame (set : List Nat) (v : Nat) (s : State) : s.Frame [.block .rotation] (setQuiet set v s).1 := by
  unfold setQuiet
  split
  · exact s.changeCarousels_frame ..
  · exact .refl

theorem carouselOn_frame (set : List Nat) (s : State) : s.Frame [.block .rotation] (carouselOn set s).1 := by
  unfold carouselOn
  split
  · exact s.changeCarousels_frame ..
  · exact .refl

theorem carouselOff_frame (set : List Nat) (s : State) : s.Frame [.block .rotation] (carouselOff set s).1 := by
  unfold carouselOff
  split
  · exact s.changeCarousels_frame ..
  · exact .refl

/-- The rotation unit's records change, and nothing else. -/
theorem State.withRotation_frame (s : State) (r : RotationUnit) : s.Frame [.block .rotation] { s with rotation := r } := by
  simp [State.frame_iff]

theorem setSyncGroup_frame (g l : Nat) (ms : List Nat) (s : State) :
    s.Frame [.block .rotation] (setSyncGroup g l ms s).1 := by
  unfold setSyncGroup
  split; · exact .refl
  split
  · split
    · exact s.withRotation_frame _
    · exact .refl
  · split
    · exact s.withRotation_frame _
    · exact .refl

/-! ### The render unit (chapter 8) -/

/-- The IMAGE PIECEs that hold reserved places are those of the engine and of the waiting piece write. -/
theorem RenderUnit.piecesOf_congr {u v : RenderUnit} (he : v.engine = u.engine) (hw : v.waiting = u.waiting) (p : Port) :
    v.piecesOf p = u.piecesOf p := by
  simp [RenderUnit.piecesOf, he, hw]

/-- What the render unit does to the tile table and the lanes leaves its engine and its waiting piece write alone. -/
def RenderUnit.SameEngine (u v : RenderUnit) : Prop := v.engine = u.engine ∧ v.waiting = u.waiting

theorem RenderUnit.SameEngine.trans {u v w : RenderUnit} (h : u.SameEngine v) (k : v.SameEngine w) : u.SameEngine w :=
  ⟨k.1.trans h.1, k.2.trans h.2⟩

theorem RenderUnit.joinLane_sameEngine (u : RenderUnit) (t : Nat) (l : Lane) : u.SameEngine (u.joinLane t l) := by
  cases l <;> exact ⟨rfl, rfl⟩

theorem RenderUnit.redraw_sameEngine (u : RenderUnit) (t : Nat) (l : Lane) : u.SameEngine (u.redraw t l) := by
  unfold RenderUnit.redraw
  split
  · exact ⟨rfl, rfl⟩
  · split
    · exact ⟨rfl, rfl⟩
    · split
      · exact .trans ⟨rfl, rfl⟩ (RenderUnit.joinLane_sameEngine ..)
      · exact .trans ⟨rfl, rfl⟩ (RenderUnit.joinLane_sameEngine ..)
      · split
        · exact .trans ⟨rfl, rfl⟩ (RenderUnit.joinLane_sameEngine ..)
        · exact ⟨rfl, rfl⟩
      · exact ⟨rfl, rfl⟩
      · exact ⟨rfl, rfl⟩
      · exact ⟨rfl, rfl⟩

theorem RenderUnit.resize_sameEngine (u : RenderUnit) (t w h : Nat) : u.SameEngine (u.resize t w h) := by
  unfold RenderUnit.resize
  split
  · exact ⟨rfl, rfl⟩
  · split <;> exact ⟨rfl, rfl⟩

theorem RenderUnit.empty_sameEngine (u : RenderUnit) (t : Nat) : u.SameEngine (u.empty t) := by
  unfold RenderUnit.empty
  split <;> exact ⟨rfl, rfl⟩

theorem RenderUnit.loadText_sameEngine (u : RenderUnit) (t w h : Nat) (g : GlyphSet) (x : List Byte) :
    u.SameEngine (u.loadText t w h g x) := by
  refine .trans ?_ (RenderUnit.redraw_sameEngine ..)
  refine .trans ?_ (RenderUnit.resize_sameEngine ..)
  exact ⟨rfl, rfl⟩

theorem RenderUnit.clearLoaded_sameEngine (u : RenderUnit) (t : Nat) : u.SameEngine (u.clearLoaded t) := by
  unfold RenderUnit.clearLoaded
  split
  · exact ⟨rfl, rfl⟩
  · split
    · exact ⟨rfl, rfl⟩
    · split
      · exact (u.empty_sameEngine t).trans ⟨rfl, rfl⟩
      · exact u.empty_sameEngine t

/-- The tile table and the lanes change, and nothing else. -/
theorem State.withRender_frame {s : State} {u : RenderUnit} (h : s.render.SameEngine u) :
    s.Frame [.block .render] { s with render := u } := by
  simp [State.frame_iff, RenderUnit.piecesOf_congr h.1 h.2]

theorem loadImage_frame (t w h g : Nat) (s : State) : s.Frame [.block .render] (loadImage t w h g s).1 := by
  unfold loadImage
  split
  · exact State.withRender_frame ⟨rfl, rfl⟩
  · exact .refl

theorem takePiece_frame (p : Port) (q : Packet) (t o : Nat) (x : List Byte) (s : State) :
    s.Frame [.block .render, .queues, .block .link] (takePiece p q t o x s) := by
  unfold takePiece
  split
  · exact (s.issue_frame ..).mono (by simp)
  · simp [State.frame_iff]

theorem loadTextTile_frame (t w h g : Nat) (x : List Byte) (s : State) :
    s.Frame [.block .render] (loadTextTile t w h g x s).1 := by
  unfold loadTextTile
  split; · exact .refl
  split
  · exact .refl
  · exact State.withRender_frame (RenderUnit.loadText_sameEngine ..)

theorem clearTile_frame (t : Nat) (s : State) : s.Frame [.block .render] (clearTile t s).1 := by
  unfold clearTile
  split
  · exact State.withRender_frame (RenderUnit.clearLoaded_sameEngine ..)
  · exact .refl

/-! ### The composer (chapter 9) -/

/-- The composer's records change, and nothing else. -/
theorem State.withComposer_frame (s : State) (u : ComposerUnit) : s.Frame [.block .composer] { s with composer := u } := by
  simp [State.frame_iff]

theorem State.changePanel_frame (s : State) (p : Nat) (f : Panel → Panel) :
    s.Frame [.block .composer] (s.changePanel p f) := s.withComposer_frame _

theorem State.changePanels_frame (s : State) (set : List Nat) (f : Panel → Panel) :
    s.Frame [.block .composer] (s.changePanels set f) := s.withComposer_frame _

theorem loadLayout_frame (n : Nat) (f : LayoutFields) (s : State) : s.Frame [.block .composer] (loadLayout n f s).1 := by
  unfold loadLayout
  split; · exact .refl
  split
  · exact s.withComposer_frame _
  · exact .refl

theorem applyLayout_frame (n : Nat) (set : List Nat) (s : State) : s.Frame [.block .composer] (applyLayout n set s).1 := by
  unfold applyLayout
  split; · exact .refl
  split
  · exact .refl
  · exact s.changePanels_frame ..

theorem setOverride_frame (n : Nat) (set : List Nat) (s : State) : s.Frame [.block .composer] (setOverride n set s).1 := by
  unfold setOverride
  split; · exact .refl
  split
  · exact s.changePanels_frame ..
  · split
    · exact .refl
    · exact s.changePanels_frame ..

/-! ### The panel output (chapter 10) -/

theorem State.sendPanelEvent_frame (s : State) (e : PanelEvent) : s.Frame [] (s.sendPanelEvent e) := by
  simp [State.frame_iff]

/-- The output records change, and nothing else. -/
theorem State.withOutput_frame (s : State) (u : OutputUnit) : s.Frame [.block .output] { s with output := u } := by
  simp [State.frame_iff]

theorem State.changeOutput_frame (s : State) (p : Nat) (f : Output → Output) :
    s.Frame [.block .output] (s.changeOutput p f) := by
  unfold State.changeOutput
  split
  · exact .refl
  · dsimp only
    refine .ite ?_ <| .ite (.trans ?_ ((State.sendCondition_frame ..).mono (by simp))) <|
      .ite ?_ (.trans ?_ ((State.sendCondition_frame ..).mono (by simp)))
    all_goals
      split
      · exact s.withOutput_frame _
      · exact (s.withOutput_frame _).trans ((State.sendPanelEvent_frame ..).mono (by simp))

theorem State.changeOutputs_frame (s : State) (set : List Nat) (f : Output → Output) :
    s.Frame [.block .output] (s.changeOutputs set f) :=
  State.Frame.foldl (fun _ _ => State.changeOutput_frame ..) set s

theorem panelStandby_frame (set : List Nat) (s : State) : s.Frame [.block .output] (panelStandby set s).1 :=  by
  unfold panelStandby
  split
  · exact s.changeOutputs_frame ..
  · exact .refl

theorem wakePanels_frame (set : List Nat) (s : State) : s.Frame [.block .output] (wakePanels set s).1 := by
  unfold wakePanels
  split
  · exact s.changeOutputs_frame ..
  · exact .refl

theorem setBrightness_frame (n : Nat) (set : List Nat) (s : State) : s.Frame [.block .output] (setBrightness n set s).1 := by
  unfold setBrightness
  split
  · exact s.changeOutputs_frame ..
  · exact .refl

theorem setPanel_frame (n r o : Nat) (s : State) : s.Frame [.block .output] (setPanel n r o s).1 := by
  unfold setPanel
  split; · exact .refl
  split
  · exact s.changeOutput_frame ..
  · exact .refl

end Sys2Proof.Machine

end

section
/-! SUPPORT. The parts that each command other than a directive's may change. -/

namespace Sys2Proof.Machine

open Sys2Proof

/-- A command takes place, and changes no part but those listed. -/
def Result.Frames (ps : List Part) (s : State) (r : Result) : Prop := ∃ t, r = .next t ∧ s.Frame ps t

theorem Result.Frames.of_frame {ps : List Part} {s t : State} (h : s.Frame ps t) : Result.Frames ps s (.next t) := ⟨t, rfl, h⟩

/-- Events under way change, but not those to the board clock; and nothing else does. -/
theorem State.withMail_frame (s : State) (m : Mail) (h : m.linkToClock = s.mail.linkToClock := by rfl) :
    s.Frame [] { s with mail := m } := by
  simp [State.frame_iff, h]

/-- A step of a block that takes an event and then acts. -/
theorem State.Frame.after {ps : List Part} {s t u : State} (h : s.Frame [] t) (k : t.Frame ps u) : s.Frame ps u :=
  (h.mono (List.nil_subset _)).trans k

/-! ### The link unit (chapter 1) -/

/-- The link unit changes but for its queues, and nothing else does. -/
theorem State.withLink_frame (s : State) (l : LinkUnit) (hp : l.ports = s.link.ports) (hh : l.handoff = s.link.handoff)
    (hr : l.restartPending = s.link.restartPending) : s.Frame [.block .link] { s with link := l } := by
  simp [State.frame_iff, hp, hh, hr]

@[simp] theorem LinkUnit.raise_ports (l : LinkUnit) (c : Condition) : (l.raise c).ports = l.ports := by
  unfold LinkUnit.raise; split <;> rfl

@[simp] theorem LinkUnit.raise_handoff (l : LinkUnit) (c : Condition) : (l.raise c).handoff = l.handoff := by
  unfold LinkUnit.raise; split <;> rfl

@[simp] theorem LinkUnit.raise_restartPending (l : LinkUnit) (c : Condition) :
    (l.raise c).restartPending = l.restartPending := by
  unfold LinkUnit.raise; split <;> rfl

theorem State.raiseOwn_frame (s : State) (c : Condition) : s.Frame [.block .link] (s.raiseOwn c) :=
  s.withLink_frame _ (by simp) (by simp) (by simp)

theorem State.discardPacket_frame (s : State) (p : Port) : s.Frame [.queues, .block .link] (s.discardPacket p) :=
  (s.putPort_frame ..).trans ((State.raiseOwn_frame ..).mono (by simp))

theorem State.joinIntake_frame (s : State) (p : Port) (q : Packet) : s.Frame [.queues, .block .link] (s.joinIntake p q) := by
  unfold State.joinIntake
  exact .ite (s.putPort_frame ..) ((s.putPort_frame ..).trans ((State.raiseOwn_frame ..).mono (by simp)))

theorem State.routeFeed_frame (s : State) (kind tag : Nat) (body : List Byte) :
    s.Frame [.queues, .beacons, .block .link] (s.routeFeed kind tag body) := by
  unfold State.routeFeed
  split
  · exact (s.withMail_frame _).mono (by simp)
  · split
    · split
      · simp [State.frame_iff]
      · exact (s.discardPacket_frame _).mono (by simp)
    · exact (s.joinIntake_frame ..).mono (by simp)

theorem execFeedFrame_frame (frame : List Byte) (damaged : Bool) (s : State) :
    Result.Frames [.queues, .beacons, .block .link] s (execFeedFrame frame damaged s) := by
  refine .of_frame (.trans ((s.withLink_frame { s.link with feedReceiver := .idle } rfl rfl rfl).mono (by simp)) ?_)
  dsimp only
  split
  · exact .refl
  · split
    · exact State.routeFeed_frame ..
    · exact (State.discardPacket_frame ..).mono (by simp)

theorem State.applyDeskEvent_frame (s : State) (e : DeskEvent) : s.Frame [.queues, .block .link] (s.applyDeskEvent e) := by
  unfold State.applyDeskEvent
  split
  · exact .refl
  · exact s.discardPacket_frame _
  · split
    · exact .refl
    · split
      · exact s.joinIntake_frame ..
      · exact s.discardPacket_frame _

theorem execDeskByte_frame (b : Byte) (error : Bool) (s : State) :
    Result.Frames [.queues, .block .link] s (execDeskByte b error s) :=
  .of_frame (((s.withLink_frame { s.link with deskReceiver := (deskReceive s.link.deskReceiver b error).1 } rfl rfl rfl).mono
    (by simp)).trans (State.applyDeskEvent_frame ..))

theorem execIntakeHeadMove_frame (p : Port) (s : State) :
    Result.Frames [.queues, .block .link] s (execIntakeHeadMove p s) := by
  refine .of_frame ?_
  dsimp only
  split
  · exact .refl
  · split
    · exact .ite ((s.putPort_frame ..).trans (State.issue_frame ..)) .refl
    · exact .ite ((s.putPort_frame ..).trans (State.putHandoff_frame ..)) .refl

/-- R20: a full reset may change every part but the queue of waiting commands. -/
def Part.all : List Part :=
  [.queues, .beacons, .block .link, .block .clock, .block .schedule, .block .seat, .block .builder, .block .notice,
    .block .rotation, .block .render, .block .composer, .block .memory, .block .output]

theorem State.Frame.all {s t : State} (h : t.pending = s.pending) : s.Frame Part.all t := by
  simp [State.frame_iff, Part.all, h]

theorem execFullReset_frame (s : State) : Result.Frames Part.all s (execFullReset s) := .of_frame (.all rfl)

theorem State.countTowardReset_frame (s : State) (p : Port) : s.Frame Part.all (s.countTowardReset p) := by
  unfold State.countTowardReset
  split
  · exact .refl
  · exact .ite (.all rfl) (.all rfl)

theorem execAnswerSent_frame (p : Port) (s : State) : Result.Frames Part.all s (execAnswerSent p s) := by
  refine .of_frame ?_
  dsimp only
  split
  · exact .refl
  · exact .ite .refl (.trans (.all (by simp)) (State.countTowardReset_frame ..))

theorem execReportSent_frame (s : State) : Result.Frames [.block .link] s (execReportSent s) := by
  refine .of_frame ?_
  dsimp only
  split
  · exact .refl
  · simp [State.frame_iff]

theorem execConditionRaise_frame (b : Block) (s : State) : Result.Frames [.block .link] s (execConditionRaise b s) := by
  refine .of_frame ?_
  dsimp only
  split
  · simp [State.frame_iff]
  · exact .refl

theorem State.countTowardRestart_frame (s : State) (b : Block) (c : Condition) :
    s.Frame [.queues, .block .link] (s.countTowardRestart b c) := by
  obtain ⟨l, h, -⟩ := s.countTowardRestart_eq b c
  rw [h]
  simp [State.frame_iff]

theorem execConditionEnd_frame (b : Block) (s : State) : Result.Frames [.queues, .block .link] s (execConditionEnd b s) := by
  refine .of_frame ?_
  dsimp only
  split
  · exact .trans (by simp [State.frame_iff]) (State.countTowardRestart_frame ..)
  · exact .refl

theorem execBeaconWatch_frame (s : State) : Result.Frames [.beacons, .block .link] s (execBeaconWatch s) := by
  refine .of_frame ?_
  dsimp only
  split
  · exact .refl
  · exact .ite (by simp [State.frame_iff]) (by simp [State.frame_iff])

/-! ### The board clock (chapter 2) -/

theorem execTenthTick_frame (s : State) : Result.Frames [.block .clock] s (execTenthTick s) := by
  refine .of_frame (.ite .refl ?_)
  exact .ite (by simp [State.frame_iff]) (by simp [State.frame_iff])

theorem execRunTimeSecond_frame (s : State) : Result.Frames [.block .clock] s (execRunTimeSecond s) := by
  refine .of_frame (.ite .refl (.trans ?_ (State.countWallTime_frame _)))
  simp [State.frame_iff]

theorem execBeacon_frame (s : State) : Result.Frames [.beacons, .block .clock] s (execBeacon s) := by
  refine .of_frame ?_
  dsimp only
  split
  · exact .trans (by simp [State.frame_iff]) ((State.takeBeacon_frame ..).mono (by simp))
  · exact .refl

theorem execBeaconOverdue_frame (s : State) : Result.Frames [.beacons, .block .clock] s (execBeaconOverdue s) := by
  refine .of_frame ?_
  dsimp only
  split
  · exact .ite (by simp [State.frame_iff]) (by simp [State.frame_iff])
  · exact .refl

/-! ### The schedule unit and the seat unit (chapters 3 and 4) -/

theorem State.dropSecond_frame (s : State) (b : Block) : s.Frame [] (s.dropSecond b) := s.withMail_frame _

theorem State.dropRestart_frame (s : State) (b : Block) : s.Frame [] (s.dropRestart b) := s.withMail_frame _

theorem execScheduleMinuteEvent_frame (s : State) : Result.Frames [.block .schedule] s (execScheduleMinuteEvent s) := by
  refine .of_frame ?_
  dsimp only
  split
  · exact .after (s.withMail_frame _) (State.withSchedule_frame ..)
  · exact .refl

theorem execScheduleRollover_frame (s : State) : Result.Frames [.block .schedule] s (execScheduleRollover s) := by
  refine .of_frame ?_
  dsimp only
  split
  · exact .after (s.withMail_frame _) (State.withSchedule_frame ..)
  · exact .refl

theorem execLingerEnd_frame (s : State) : Result.Frames [.block .schedule] s (execLingerEnd s) := by
  refine .of_frame ?_
  dsimp only
  split
  · exact .refl
  · exact (s.dropSecond_frame _).after (State.withSchedule_frame ..)

theorem State.takeSeatEvent_frame (s : State) (act : ScheduleEvent → Option (SeatUnit × List SeatEvent)) :
    s.Frame [.block .seat] (s.takeSeatEvent act) := by
  unfold State.takeSeatEvent
  split
  · exact .refl
  · split
    · exact .refl
    · exact .after (s.withMail_frame _) (State.withSeat_frame ..)

theorem execHoldExpiry_frame (s : State) : Result.Frames [.block .seat] s (execHoldExpiry s) := by
  refine .of_frame ?_
  split
  · exact .refl
  · exact (s.dropSecond_frame _).after (State.withSeat_frame ..)

/-! ### The board builder and the notice unit (chapters 5 and 6) -/

theorem State.takeBuilderClock_frame (s : State) (act : BuilderEvent → Option (BuilderUnit × List TileRequest)) :
    s.Frame [.block .builder] (s.takeBuilderClock act) := by
  unfold State.takeBuilderClock
  split
  · exact .refl
  · split
    · exact .refl
    · exact .ite (.after (s.withMail_frame _) (State.withBuilder_frame ..)) .refl

theorem State.takeBuilderSchedule_frame (s : State) (act : ScheduleEvent → Option (BuilderUnit × List TileRequest)) :
    s.Frame [.block .builder] (s.takeBuilderSchedule act) := by
  unfold State.takeBuilderSchedule
  split
  · exact .refl
  · split
    · exact .refl
    · exact .ite (.after (s.withMail_frame _) (State.withBuilder_frame ..)) .refl

theorem execFigureChanged_frame (s : State) : Result.Frames [.block .builder] s (execFigureChanged s) := by
  refine .of_frame ?_
  dsimp only
  split
  · exact .refl
  · exact .ite (.after (s.withMail_frame _) (State.withBuilder_frame ..)) .refl

theorem execBoardRestart_frame (s : State) : Result.Frames [.block .builder] s (execBoardRestart s) :=
  .of_frame (.ite .refl ((s.dropRestart_frame _).after (State.withBuilder_frame ..)))

theorem State.takeNoticeEvent_frame (s : State) (act : ScheduleEvent → Option (NoticeUnit × List TileRequest)) :
    s.Frame [.block .notice] (s.takeNoticeEvent act) := by
  unfold State.takeNoticeEvent
  split
  · exact .refl
  · split
    · exact .refl
    · exact .ite (.after (s.withMail_frame _) (State.withNotice_frame ..)) .refl

theorem execNoticeExpiry_frame (s : State) : Result.Frames [.block .notice] s (execNoticeExpiry s) := by
  refine .of_frame ?_
  split
  · exact .refl
  · exact .ite ((s.dropSecond_frame _).after (State.withNotice_frame ..)) .refl

theorem execUrgentDwellExpiry_frame (p : Nat) (s : State) : Result.Frames [.block .notice] s (execUrgentDwellExpiry p s) :=
  .of_frame (by simp [State.frame_iff])

theorem execNoticeRestart_frame (s : State) : Result.Frames [.block .notice] s (execNoticeRestart s) :=
  .of_frame (.ite .refl ((s.dropRestart_frame _).after (State.withNotice_frame ..)))

/-! ### The rotation unit (chapter 7) -/

theorem execCarouselTenthTick_frame (s : State) : Result.Frames [.block .rotation] s (execCarouselTenthTick s) :=
  .of_frame (.ite .refl (by simp [State.frame_iff]))

theorem execCueQuiet_frame (s : State) : Result.Frames [.block .rotation] s (execCueQuiet s) := by
  refine .of_frame ?_
  dsimp only
  split
  · exact .refl
  · exact .ite (.after (s.withMail_frame _) (setQuiet_frame ..)) .refl

/-! ### The memory channels (R173) -/

/-- The frame memory unit's records change, and nothing else. -/
theorem State.withMemory_frame (s : State) (m : MemoryUnit) : s.Frame [.block .memory] { s with memory := m } := by
  simp [State.frame_iff]

theorem State.giveWork_frame (s : State) (name : ChannelName) (n : Nat) : s.Frame [.block .memory] (s.giveWork name n) :=
  s.withMemory_frame _

theorem State.cancelWork_frame (s : State) (name : ChannelName) : s.Frame [.block .memory] (s.cancelWork name) := by
  simp [State.frame_iff]

theorem State.reportWork_frame (s : State) (name : ChannelName) (r : WorkReport) : s.Frame [] (s.reportWork name r) := by
  simp [State.frame_iff]

/-! ### The render unit (chapter 8) -/

theorem RenderUnit.requeue_sameEngine (u : RenderUnit) (t : Nat) (x : Tile) : u.SameEngine (u.requeue t x) :=
  .trans ⟨rfl, rfl⟩ (RenderUnit.joinLane_sameEngine ..)

theorem RenderUnit.finish_sameEngine (u : RenderUnit) (j : RenderJob) : u.SameEngine (u.finish j) := by
  unfold RenderUnit.finish
  split
  · exact ⟨rfl, rfl⟩
  · dsimp only
    split
    · exact ⟨rfl, rfl⟩
    · exact u.requeue_sameEngine ..
    · exact ⟨rfl, rfl⟩
    · exact ⟨rfl, rfl⟩
    · exact ⟨rfl, rfl⟩
    · exact ⟨rfl, rfl⟩

theorem RenderUnit.abandon_sameEngine (u : RenderUnit) (j : RenderJob) : u.SameEngine (u.abandon j) := by
  unfold RenderUnit.abandon
  split
  · exact ⟨rfl, rfl⟩
  · split
    · exact u.requeue_sameEngine ..
    · exact u.requeue_sameEngine ..
    · exact ⟨rfl, rfl⟩
    · exact ⟨rfl, rfl⟩
    · exact ⟨rfl, rfl⟩
    · exact ⟨rfl, rfl⟩

theorem State.takeTileRequest_frame (s : State) (b : Block) (act : TileRequest → Option RenderUnit)
    (h : ∀ r u, act r = some u → s.render.SameEngine u) : s.Frame [.block .render] (s.takeTileRequest b act) := by
  unfold State.takeTileRequest
  split
  · exact .refl
  · split
    · exact .refl
    · rename_i hu
      obtain ⟨he, hw⟩ := h _ _ hu
      simp [State.frame_iff, RenderUnit.piecesOf_congr he hw]

theorem execRedrawRequest_frame (b : Block) (s : State) : Result.Frames [.block .render] s (execRedrawRequest b s) := by
  refine .of_frame (s.takeTileRequest_frame b _ fun r u hu => ?_)
  split at hu
  · cases hu; exact RenderUnit.redraw_sameEngine ..
  · cases hu

theorem execSizeRequest_frame (b : Block) (s : State) : Result.Frames [.block .render] s (execSizeRequest b s) := by
  refine .of_frame (s.takeTileRequest_frame b _ fun r u hu => ?_)
  split at hu
  · cases hu; exact RenderUnit.resize_sameEngine ..
  · cases hu

theorem execEmptyTile_frame (b : Block) (s : State) : Result.Frames [.block .render] s (execEmptyTile b s) := by
  refine .of_frame (s.takeTileRequest_frame b _ fun r u hu => ?_)
  split at hu
  · cases hu; exact RenderUnit.empty_sameEngine ..
  · cases hu

/-- R143: the piece write that starts held its reserved place while it waited. -/
theorem execPieceWriteStart_frame (s : State) :
    Result.Frames [.block .render, .block .memory] s (execPieceWriteStart s) := by
  refine .of_frame ?_
  dsimp only
  split
  · rename_i he hw
    simp [State.frame_iff, RenderUnit.piecesOf, he, hw]
  · exact .refl

theorem State.issueReserved_frame (s : State) (p : Port) (a : Answer) :
    s.Frame [.queues, .block .link] (s.issueReserved p a) := s.putPort_frame ..

theorem execPieceWriteComplete_frame (s : State) :
    Result.Frames [.block .render, .queues, .block .link] s (execPieceWriteComplete s) := by
  refine .of_frame ?_
  split
  · exact .trans (by simp [State.frame_iff]) ((State.issueReserved_frame ..).mono (by simp))
  · exact .refl

theorem execPieceWriteEnded_frame (s : State) :
    Result.Frames [.block .render, .queues, .block .link] s (execPieceWriteEnded s) := by
  refine .of_frame ?_
  split
  · exact .trans (by simp [State.frame_iff]) ((State.issueReserved_frame ..).mono (by simp))
  · exact .refl

theorem execRenderJobStart_frame (s : State) :
    Result.Frames [.block .render, .block .memory] s (execRenderJobStart s) := by
  refine .of_frame ?_
  split
  · rename_i he hw _
    split
    · split
      · simp [State.frame_iff, State.startRender, RenderUnit.piecesOf, RenderUnit.putTile, RenderUnit.leaveLanes, he, hw]
      · exact .refl
    · exact .refl
  · exact .refl

/-- No IMAGE PIECE is with an engine that works on a render job. -/
theorem RenderUnit.piecesOf_of_job {u v : RenderUnit} {j : RenderJob} (he : u.engine = .job j)
    (hv : ({ u with engine := .idle } : RenderUnit).SameEngine v) (p : Port) : v.piecesOf p = u.piecesOf p := by
  obtain ⟨hi, hw⟩ := hv
  simp [RenderUnit.piecesOf, hi, hw, he]

theorem execRenderJobComplete_frame (s : State) : Result.Frames [.block .render] s (execRenderJobComplete s) := by
  refine .of_frame ?_
  split
  · rename_i j _ he _
    have hp := RenderUnit.piecesOf_of_job he (RenderUnit.finish_sameEngine _ j)
    simpa [State.frame_iff] using hp
  · exact .refl

theorem execRenderJobAbandon_frame (s : State) : Result.Frames [.block .render] s (execRenderJobAbandon s) := by
  refine .of_frame ?_
  split
  · rename_i j _ he _
    have hp := RenderUnit.piecesOf_of_job he (RenderUnit.abandon_sameEngine _ j)
    simpa [State.frame_iff] using hp
  · exact .refl

/-- The render unit's records change, pieces and all, and nothing else. -/
theorem State.withRenderAndPieces_frame (s : State) (u : RenderUnit) :
    s.Frame [.block .render, .queues] { s with render := u } := by
  simp [State.frame_iff]

theorem State.cancelRender_frame (s : State) :
    s.Frame [.block .render, .block .memory, .queues, .block .link] s.cancelRender := by
  unfold State.cancelRender
  dsimp only
  split
  · exact ((s.withRenderAndPieces_frame _).mono (by simp)).trans ((State.cancelWork_frame ..).mono (by simp))
  · exact (((s.withRenderAndPieces_frame _).mono (by simp)).trans ((State.cancelWork_frame ..).mono (by simp))).trans
      ((State.issueReserved_frame ..).mono (by simp))

theorem execRenderRestart_frame (s : State) :
    Result.Frames [.block .render, .block .memory, .queues, .block .link] s (execRenderRestart s) :=
  .of_frame (.ite .refl (((s.dropRestart_frame _).after (State.cancelRender_frame _)).trans
    ((State.withRenderAndPieces_frame ..).mono (by simp))))

/-! ### The composer (chapter 9) -/

theorem execCueApplyLayout_frame (s : State) : Result.Frames [.block .composer] s (execCueApplyLayout s) := by
  refine .of_frame ?_
  dsimp only
  split
  · exact .refl
  · exact .after (s.withMail_frame _) (applyLayout_frame ..)

theorem State.takePanelEvent_frame (s : State) (act : PanelEvent → Option (State → State))
    (h : ∀ e f, act e = some f → ∀ t, State.Frame [.block .composer] t (f t)) :
    s.Frame [.block .composer] (s.takePanelEvent act) := by
  unfold State.takePanelEvent
  split
  · exact .refl
  · split
    · exact .refl
    · rename_i hf
      exact .after (s.withMail_frame _) (h _ _ hf _)

theorem State.panelDark_frame (s : State) (p : Nat) : s.Frame [.block .composer] (s.panelDark p) :=
  (s.changePanel_frame ..).trans (State.withComposer_frame ..)

theorem State.requestFrame_frame (s : State) (p : Nat) (x : Panel) : s.Frame [.block .composer] (s.requestFrame p x) := by
  unfold State.requestFrame
  split
  · exact (s.changePanel_frame ..).trans (State.withComposer_frame ..)
  · exact (s.changePanel_frame ..).trans ((State.sendCondition_frame ..).mono (by simp))
  · exact (s.changePanel_frame ..).trans ((State.sendCondition_frame ..).mono (by simp))

theorem State.frameSlot_frame (s : State) (p : Nat) : s.Frame [.block .composer] (s.frameSlot p) := by
  unfold State.frameSlot
  split
  · exact .refl
  · exact .ite (s.requestFrame_frame ..) .refl

theorem execPanelLive_frame (s : State) : Result.Frames [.block .composer] s (execPanelLive s) := by
  refine .of_frame (s.takePanelEvent_frame _ fun e f hf t => ?_)
  split at hf
  · cases hf; exact t.changePanel_frame ..
  · cases hf

theorem execPanelStandbyEvent_frame (s : State) : Result.Frames [.block .composer] s (execPanelStandbyEvent s) := by
  refine .of_frame (s.takePanelEvent_frame _ fun e f hf t => ?_)
  split at hf
  · cases hf; exact t.changePanel_frame ..
  · cases hf

theorem execPanelDark_frame (s : State) : Result.Frames [.block .composer] s (execPanelDark s) := by
  refine .of_frame (s.takePanelEvent_frame _ fun e f hf t => ?_)
  split at hf
  · cases hf; exact t.panelDark_frame _
  · cases hf

theorem execFrameSlot_frame (s : State) : Result.Frames [.block .composer] s (execFrameSlot s) := by
  refine .of_frame (s.takePanelEvent_frame _ fun e f hf t => ?_)
  split at hf
  · cases hf; exact t.frameSlot_frame _
  · cases hf

theorem State.startCompose_frame (s : State) (p : Nat) (rest : List Nat) (x : Panel) (n : BufferName) :
    s.Frame [.block .composer, .block .memory] (s.startCompose p rest x n) := by
  refine .trans ?_ ((State.giveWork_frame ..).mono (by simp))
  simp [State.frame_iff]

theorem execComposeJobStart_frame (s : State) :
    Result.Frames [.block .composer, .block .memory] s (execComposeJobStart s) := by
  refine .of_frame ?_
  split
  · refine .ite ?_ .refl
    split
    · exact .refl
    · split
      · exact .refl
      · exact s.startCompose_frame ..
  · exact .refl

theorem State.endCompose_frame (s : State) : s.Frame [.block .composer] s.endCompose := by
  simp [State.frame_iff]

theorem execComposeJobComplete_frame (s : State) : Result.Frames [.block .composer] s (execComposeJobComplete s) := by
  refine .of_frame ?_
  split
  · exact s.endCompose_frame.trans (State.changePanel_frame ..)
  · exact .refl

theorem State.abandonCompose_frame (s : State) (j : ComposeJob) : s.Frame [.block .composer] (s.abandonCompose j) := by
  unfold State.abandonCompose
  split
  · exact s.endCompose_frame
  · exact (s.endCompose_frame.trans (State.changePanel_frame ..)).trans (.ite .refl (State.withComposer_frame ..))

theorem execComposeJobAbandon_frame (s : State) : Result.Frames [.block .composer] s (execComposeJobAbandon s) := by
  refine .of_frame ?_
  split
  · exact s.abandonCompose_frame _
  · exact .refl

theorem State.releasePins_frame (s : State) : s.Frame [] s.releasePins := s.withMail_frame _

theorem State.restartComposer_frame (s : State) : s.Frame [.block .composer, .block .memory] s.restartComposer :=
  (((s.cancelWork_frame _).mono (by simp)).trans (.ite ((State.releasePins_frame _).mono (by simp)) .refl)).trans
    ((State.withComposer_frame ..).mono (by simp))

theorem execComposerRestart_frame (s : State) :
    Result.Frames [.block .composer, .block .memory] s (execComposerRestart s) :=
  .of_frame (.ite .refl ((s.dropRestart_frame _).after (State.restartComposer_frame _)))

/-! ### The frame memory unit (chapter 10) -/

theorem execPinRequest_frame (s : State) : Result.Frames [.block .memory] s (execPinRequest s) := by
  refine .of_frame ?_
  dsimp only
  split
  · simp [State.frame_iff]
  · exact .refl

theorem execPinRelease_frame (s : State) : Result.Frames [.block .memory] s (execPinRelease s) := by
  refine .of_frame ?_
  dsimp only
  split
  · simp [State.frame_iff]
  · exact .refl

theorem execSegment_frame (s : State) : Result.Frames [.block .memory] s (execSegment s) := by
  refine .of_frame ?_
  dsimp only
  split
  · exact .refl
  · split <;> simp [State.frame_iff]

theorem execUnitGrant_frame (s : State) : Result.Frames [.block .memory] s (execUnitGrant s) := by
  refine .of_frame ?_
  split
  · exact .refl
  · exact .ite (s.withMemory_frame _) <| .ite (.ite .refl (s.withMemory_frame _)) <| .ite (s.withMemory_frame _) .refl

theorem State.segmentWritten_frame (s : State) (w : SegmentWrite) : s.Frame [.block .memory] (s.segmentWritten w) := by
  unfold State.segmentWritten
  refine .trans (t := { s with memory := _, choices := _ }) ?_
    (.ite ((State.sendCondition_frame ..).mono (by simp)) .refl)
  simp [State.frame_iff]

theorem State.unitDone_frame (s : State) (name : ChannelName) :
    s.Frame [.block .memory, .block .composer] (s.unitDone name) := by
  refine ((s.withMemory_frame _).mono (by simp)).trans (.ite (.trans ?_ ((State.reportWork_frame ..).mono (by simp))) .refl)
  exact .ite ((State.withComposer_frame ..).mono (by simp)) .refl

theorem execTransferUnitComplete_frame (s : State) :
    Result.Frames [.block .memory, .block .composer] s (execTransferUnitComplete s) := by
  refine .of_frame ?_
  dsimp only
  split
  · exact .refl
  · refine ((s.withMemory_frame _).mono (by simp)).trans (.ite .refl ?_)
    split
    · exact .ite .refl ((State.segmentWritten_frame ..).mono (by simp))
    · exact .refl
    · exact State.unitDone_frame ..
    · exact State.unitDone_frame ..

theorem execUnitFault_frame (s : State) : Result.Frames [.block .memory] s (execUnitFault s) := by
  refine .of_frame ?_
  split
  · exact .refl
  · exact (s.withMemory_frame _).trans ((State.sendCondition_frame ..).mono (by simp))

theorem State.endFaulted_frame (s : State) (name : ChannelName) : s.Frame [.block .memory] (s.endFaulted name) :=
  .ite (.trans (.ite ((s.reportWork_frame ..).mono (by simp)) .refl) (State.withMemory_frame ..)) .refl

theorem State.resumeChannels_frame (s : State) : s.Frame [.block .memory] s.resumeChannels :=
  (((s.endFaulted_frame _).trans (State.endFaulted_frame ..)).trans (State.endFaulted_frame ..)).trans
    (State.withMemory_frame ..)

theorem execResume_frame (s : State) : Result.Frames [.block .memory] s (execResume s) := by
  refine .of_frame ?_
  dsimp only
  split
  · exact .after (s.withMail_frame _) (State.resumeChannels_frame _)
  · exact .refl

theorem execStreamWatch_frame (s : State) : Result.Frames [.block .memory] s (execStreamWatch s) := by
  refine .of_frame ?_
  dsimp only
  split
  · exact .refl
  · exact ((s.dropSecond_frame _).after (State.withMemory_frame ..)).trans
      (State.Frame.foldl (fun _ _ => (State.sendCondition_frame ..).mono (by simp)) ..)

theorem State.dropWork_frame (s : State) (name : ChannelName) : s.Frame [.block .memory] (s.dropWork name) :=
  .trans (.ite ((s.reportWork_frame ..).mono (by simp)) .refl) (State.withMemory_frame ..)

theorem State.restartMemory_frame (s : State) : s.Frame [.block .memory] s.restartMemory :=
  ((((s.dropWork_frame _).trans (State.dropWork_frame ..)).trans (State.dropWork_frame ..)).trans
    (State.withMemory_frame ..)).trans
      (((State.sendCondition_frame ..).mono (by simp)).trans ((State.sendCondition_frame ..).mono (by simp)))

theorem execFrameMemoryRestart_frame (s : State) : Result.Frames [.block .memory] s (execFrameMemoryRestart s) := by
  refine .of_frame ?_
  dsimp only
  split
  · exact .after (s.withMail_frame _) (State.restartMemory_frame _)
  · exact .refl

/-! ### The panel output (chapter 10) -/

theorem execPanelFrameSlot_frame (p : Nat) (s : State) : Result.Frames [.block .output] s (execPanelFrameSlot p s) := by
  refine .of_frame ?_
  split
  · exact .refl
  · exact .ite ((s.sendPanelEvent_frame _).mono (by simp)) .refl

theorem State.takeOutputCue_frame (s : State) (act : OutputCue → Option (State → State × Reply))
    (h : ∀ e f, act e = some f → ∀ t, State.Frame [.block .output] t (f t).1) :
    s.Frame [.block .output] (s.takeOutputCue act) := by
  unfold State.takeOutputCue
  split
  · exact .refl
  · split
    · exact .refl
    · rename_i hf
      exact .after (s.withMail_frame _) (h _ _ hf _)

theorem execCueStandby_frame (s : State) : Result.Frames [.block .output] s (execCueStandby s) := by
  refine .of_frame (s.takeOutputCue_frame _ fun e f hf t => ?_)
  split at hf
  · cases hf; exact panelStandby_frame ..
  · cases hf

theorem execCueWake_frame (s : State) : Result.Frames [.block .output] s (execCueWake s) := by
  refine .of_frame (s.takeOutputCue_frame _ fun e f hf t => ?_)
  split at hf
  · cases hf; exact wakePanels_frame ..
  · cases hf

theorem execCueBrightness_frame (s : State) : Result.Frames [.block .output] s (execCueBrightness s) := by
  refine .of_frame (s.takeOutputCue_frame _ fun e f hf t => ?_)
  split at hf
  · cases hf; exact setBrightness_frame ..
  · cases hf

theorem execBacklightStep_frame (s : State) : Result.Frames [.block .output] s (execBacklightStep s) :=
  .of_frame (.ite .refl (by simp [State.frame_iff]))

theorem execPanelOutputRestart_frame (s : State) : Result.Frames [] s (execPanelOutputRestart s) :=
  .of_frame (.ite .refl (s.dropRestart_frame _))

end Sys2Proof.Machine

end

section
/-! SUPPORT. What every command may change, and what every directive's command does: one lemma over all commands each. -/

namespace Sys2Proof

open Machine

/-- The parts a command that takes no directive may change. -/
def Instr.eventTouches : Instr → List Part
  | .feedFrame _ _ => [.queues, .beacons, .block .link]
  | .deskByte _ _ | .intakeHeadMove _ | .conditionEnd _ => [.queues, .block .link]
  | .answerSent _ | .fullReset => Part.all
  | .beaconWatch => [.beacons, .block .link]
  | .beacon | .beaconOverdue => [.beacons, .block .clock]
  | .pieceWriteStart | .renderJobStart => [.block .render, .block .memory]
  | .pieceWriteComplete | .pieceWriteEnded => [.block .render, .queues, .block .link]
  | .renderRestart => [.block .render, .block .memory, .queues, .block .link]
  | .composeJobStart | .composerRestart => [.block .composer, .block .memory]
  | .transferUnitComplete => [.block .memory, .block .composer]
  | .panelOutputRestart => []
  | i => [.block i.block]

/-- The parts a command may change. A directive's command moves packets and acts on its own block; a QUERY's does not act. -/
def Instr.touches (i : Instr) : List Part :=
  match i.takes, i.queryKind with
  | some _, some _ => [.queues, .block .link]
  | some _, none => [.queues, .block .link, .block i.block]
  | none, _ => i.eventTouches

theorem Instr.touches_of_none {i : Instr} (h : i.takes = none) : i.touches = i.eventTouches := by
  rw [touches, h]

theorem Instr.touches_subset {i : Instr} {x : Port × (Directive → Bool)} (h : i.takes = some x) :
    i.touches ⊆ [.queues, .block .link, .block i.block] := by
  rw [touches, h]
  cases i.queryKind with
  | some _ => simp
  | none => exact List.Subset.refl _

namespace Machine

/-- A directive's command takes what `accepts` accepts, acts on its own block (and on the link unit, where SET CLOCK restarts the
beacon watch), and answers in the same step. -/
inductive Answers (i : Instr) (p : Port) (accepts : Directive → Bool) : Prop where
  | intro {α : Type} (select : Directive → Option α) (act : α → State → State × Reply)
      (accepts_eq : ∀ d, accepts d = (select d).isSome)
      (exec_eq : ∀ s, exec i s = .next (s.takeAndAnswer i.block p select act))
      (frame : ∀ a t, State.Frame [.block i.block, .block .link] t (act a t).1)

/-- Most directives act on their own block alone. -/
theorem Answers.of_block {i : Instr} {p : Port} {accepts : Directive → Bool} {α : Type} (select : Directive → Option α)
    (act : α → State → State × Reply) (accepts_eq : ∀ d, accepts d = (select d).isSome)
    (exec_eq : ∀ s, exec i s = .next (s.takeAndAnswer i.block p select act))
    (frame : ∀ a t, State.Frame [.block i.block] t (act a t).1) : Answers i p accepts :=
  .intro select act accepts_eq exec_eq fun a t => (frame a t).mono (by simp)

/-- R12: a QUERY's command changes nothing but for the answer. -/
theorem Answers.of_query {i : Instr} {p : Port} {accepts : Directive → Bool} {kind : Nat} {record : Nat → State → Reply}
    (of_accepts : ∀ d, accepts d = true → ∃ key, d = .query kind key) (accepts_query : ∀ key, accepts (.query kind key) = true)
    (exec_eq : ∀ s, exec i s = .next (s.takeQuery i.block p kind record)) : Answers i p accepts := by
  refine .intro (Directive.queryKey kind) _ (fun d => ?_) exec_eq fun _ _ => .refl
  rw [Bool.eq_iff_iff]
  constructor
  · intro h
    obtain ⟨key, rfl⟩ := of_accepts d h
    simp [Directive.queryKey]
  · intro h
    obtain ⟨key, hk⟩ := Option.isSome_iff_exists.mp h
    unfold Directive.queryKey at hk
    split at hk
    · split at hk
      · rename_i hk'
        rw [hk']
        exact accepts_query _
      · cases hk
    · cases hk

/-- R8: every directive's command answers in the same step, but for IMAGE PIECE and DISPLAY RESTART (R21, R143). -/
theorem answers_of_takes {i : Instr} {p : Port} {accepts : Directive → Bool} (h : i.takes = some (p, accepts))
    (hp : i ≠ .imagePiece p) (hr : i ≠ .displayRestart p) : Answers i p accepts := by
  cases i with
  | sell => cases h; exact .of_block _ _ (fun d => by cases d <;> rfl) (fun _ => rfl) fun _ _ => sell_frame ..
  | refund => cases h; exact .of_block _ _ (fun d => by cases d <;> rfl) (fun _ => rfl) fun _ _ => refund_frame ..
  | hold => cases h; exact .of_block _ _ (fun d => by cases d <;> rfl) (fun _ => rfl) fun _ _ => hold_frame ..
  | confirm => cases h; exact .of_block _ _ (fun d => by cases d <;> rfl) (fun _ => rfl) fun _ _ => confirm_frame ..
  | release => cases h; exact .of_block _ _ (fun d => by cases d <;> rfl) (fun _ => rfl) fun _ _ => release_frame ..
  | setSold => cases h; exact .of_block _ _ (fun d => by cases d <;> rfl) (fun _ => rfl) fun _ _ => setSold_frame ..
  | loadTitle => cases h; exact .of_block _ _ (fun d => by cases d <;> rfl) (fun _ => rfl) fun _ _ => loadTitle_frame ..
  | loadScreening => cases h; exact .of_block _ _ (fun d => by cases d <;> rfl) (fun _ => rfl) fun _ _ => loadScreening_frame ..
  | amendScreening => cases h; exact .of_block _ _ (fun d => by cases d <;> rfl) (fun _ => rfl) fun _ _ => amendScreening_frame ..
  | cancelScreening => cases h; exact .of_block _ _ (fun d => by cases d <;> rfl) (fun _ => rfl) fun _ _ => cancelScreening_frame ..
  | dropScreening => cases h; exact .of_block _ _ (fun d => by cases d <;> rfl) (fun _ => rfl) fun _ _ => dropScreening_frame ..
  | defineBoard => cases h; exact .of_block _ _ (fun d => by cases d <;> rfl) (fun _ => rfl) fun _ _ => defineBoard_frame ..
  | clearBoard => cases h; exact .of_block _ _ (fun d => by cases d <;> rfl) (fun _ => rfl) fun _ _ => clearBoard_frame ..
  | postNotice => cases h; exact .of_block _ _ (fun d => by cases d <;> rfl) (fun _ => rfl) fun _ _ => postNotice_frame ..
  | withdrawNotice => cases h; exact .of_block _ _ (fun d => by cases d <;> rfl) (fun _ => rfl) fun _ _ => withdrawNotice_frame ..
  | setCue => cases h; exact .of_block _ _ (fun d => by cases d <;> rfl) (fun _ => rfl) fun _ _ => setCue_frame ..
  | clearCue => cases h; exact .of_block _ _ (fun d => by cases d <;> rfl) (fun _ => rfl) fun _ _ => clearCue_frame ..
  | setNoticeStyle => cases h; exact .of_block _ _ (fun d => by cases d <;> rfl) (fun _ => rfl) fun _ _ => setNoticeStyle_frame ..
  | setCarousel => cases h; exact .of_block _ _ (fun d => by cases d <;> rfl) (fun _ => rfl) fun _ _ => setCarousel_frame ..
  | setPeriods => cases h; exact .of_block _ _ (fun d => by cases d <;> rfl) (fun _ => rfl) fun _ _ => setPeriods_frame ..
  | setQuiet => cases h; exact .of_block _ _ (fun d => by cases d <;> rfl) (fun _ => rfl) fun _ _ => setQuiet_frame ..
  | carouselOn => cases h; exact .of_block _ _ (fun d => by cases d <;> rfl) (fun _ => rfl) fun _ _ => carouselOn_frame ..
  | carouselOff => cases h; exact .of_block _ _ (fun d => by cases d <;> rfl) (fun _ => rfl) fun _ _ => carouselOff_frame ..
  | setSyncGroup => cases h; exact .of_block _ _ (fun d => by cases d <;> rfl) (fun _ => rfl) fun _ _ => setSyncGroup_frame ..
  | loadImage => cases h; exact .of_block _ _ (fun d => by cases d <;> rfl) (fun _ => rfl) fun _ _ => loadImage_frame ..
  | loadTextTile => cases h; exact .of_block _ _ (fun d => by cases d <;> rfl) (fun _ => rfl) fun _ _ => loadTextTile_frame ..
  | clearTile => cases h; exact .of_block _ _ (fun d => by cases d <;> rfl) (fun _ => rfl) fun _ _ => clearTile_frame ..
  | loadLayout => cases h; exact .of_block _ _ (fun d => by cases d <;> rfl) (fun _ => rfl) fun _ _ => loadLayout_frame ..
  | applyLayout => cases h; exact .of_block _ _ (fun d => by cases d <;> rfl) (fun _ => rfl) fun _ _ => applyLayout_frame ..
  | setOverride => cases h; exact .of_block _ _ (fun d => by cases d <;> rfl) (fun _ => rfl) fun _ _ => setOverride_frame ..
  | setPanel => cases h; exact .of_block _ _ (fun d => by cases d <;> rfl) (fun _ => rfl) fun _ _ => setPanel_frame ..
  | panelStandby => cases h; exact .of_block _ _ (fun d => by cases d <;> rfl) (fun _ => rfl) fun _ _ => panelStandby_frame ..
  | wake => cases h; exact .of_block _ _ (fun d => by cases d <;> rfl) (fun _ => rfl) fun _ _ => wakePanels_frame ..
  | setBrightness => cases h; exact .of_block _ _ (fun d => by cases d <;> rfl) (fun _ => rfl) fun _ _ => setBrightness_frame ..
  | setClock => cases h; exact .intro _ _ (fun d => by cases d <;> rfl) (fun _ => rfl) fun _ _ => setClock_frame ..
  | setHouse => cases h; exact .of_block _ _ (fun d => by cases d <;> rfl) (fun _ => rfl) fun _ _ => setHouse_frame ..
  | setPhaseTimes => cases h; exact .of_block _ _ (fun d => by cases d <;> rfl) (fun _ => rfl) fun _ _ => setPhaseTimes_frame ..
  | setBands => cases h; exact .of_block _ _ (fun d => by cases d <;> rfl) (fun _ => rfl) fun _ _ => setBands_frame ..
  | grant => cases h; exact .of_block _ _ (fun d => by cases d <;> rfl) (fun _ => rfl) fun _ _ => grantOwner_frame ..
  | setReports => cases h; exact .of_block _ _ (fun d => by cases d <;> rfl) (fun _ => rfl) fun _ _ => setReportEnables_frame ..
  | reset => cases h; exact .of_block _ _ (fun d => by cases d <;> rfl) (fun _ => rfl) fun _ _ => State.arrangeReset_frame _
  | acknowledge => cases h; exact .of_block _ _ (fun d => by cases d <;> rfl) (fun _ => rfl) fun _ _ => acknowledgeConditions_frame ..
  | queryTitle => cases h; exact .of_query (fun d h => by split at h; exacts [⟨_, rfl⟩, nomatch h]) (fun _ => rfl) fun _ => rfl
  | queryScreening => cases h; exact .of_query (fun d h => by split at h; exacts [⟨_, rfl⟩, nomatch h]) (fun _ => rfl) fun _ => rfl
  | queryPhaseTimes => cases h; exact .of_query (fun d h => by split at h; exacts [⟨_, rfl⟩, nomatch h]) (fun _ => rfl) fun _ => rfl
  | queryTally => cases h; exact .of_query (fun d h => by split at h; exacts [⟨_, rfl⟩, nomatch h]) (fun _ => rfl) fun _ => rfl
  | queryHold => cases h; exact .of_query (fun d h => by split at h; exacts [⟨_, rfl⟩, nomatch h]) (fun _ => rfl) fun _ => rfl
  | queryBands => cases h; exact .of_query (fun d h => by split at h; exacts [⟨_, rfl⟩, nomatch h]) (fun _ => rfl) fun _ => rfl
  | queryBoard => cases h; exact .of_query (fun d h => by split at h; exacts [⟨_, rfl⟩, nomatch h]) (fun _ => rfl) fun _ => rfl
  | queryNotice => cases h; exact .of_query (fun d h => by split at h; exacts [⟨_, rfl⟩, nomatch h]) (fun _ => rfl) fun _ => rfl
  | queryUrgentList => cases h; exact .of_query (fun d h => by split at h; exacts [⟨_, rfl⟩, nomatch h]) (fun _ => rfl) fun _ => rfl
  | queryClock => cases h; exact .of_query (fun d h => by split at h; exacts [⟨_, rfl⟩, nomatch h]) (fun _ => rfl) fun _ => rfl
  | queryCue => cases h; exact .of_query (fun d h => by split at h; exacts [⟨_, rfl⟩, nomatch h]) (fun _ => rfl) fun _ => rfl
  | queryCarousel => cases h; exact .of_query (fun d h => by split at h; exacts [⟨_, rfl⟩, nomatch h]) (fun _ => rfl) fun _ => rfl
  | querySyncGroup => cases h; exact .of_query (fun d h => by split at h; exacts [⟨_, rfl⟩, nomatch h]) (fun _ => rfl) fun _ => rfl
  | queryTile => cases h; exact .of_query (fun d h => by split at h; exacts [⟨_, rfl⟩, nomatch h]) (fun _ => rfl) fun _ => rfl
  | queryLayout => cases h; exact .of_query (fun d h => by split at h; exacts [⟨_, rfl⟩, nomatch h]) (fun _ => rfl) fun _ => rfl
  | queryPanel => cases h; exact .of_query (fun d h => by split at h; exacts [⟨_, rfl⟩, nomatch h]) (fun _ => rfl) fun _ => rfl
  | queryOutput => cases h; exact .of_query (fun d h => by split at h; exacts [⟨_, rfl⟩, nomatch h]) (fun _ => rfl) fun _ => rfl
  | queryStream => cases h; exact .of_query (fun d h => by split at h; exacts [⟨_, rfl⟩, nomatch h]) (fun _ => rfl) fun _ => rfl
  | queryLink => cases h; exact .of_query (fun d h => by split at h; exacts [⟨_, rfl⟩, nomatch h]) (fun _ => rfl) fun _ => rfl
  | imagePiece => cases h; exact absurd rfl hp
  | displayRestart => cases h; exact absurd rfl hr
  | _ => cases h

/-- R12: a QUERY's command answers from the record of its kind. -/
theorem exec_eq_takeQuery {i : Instr} {p : Port} {accepts : Directive → Bool} {kind : Nat} (h : i.takes = some (p, accepts))
    (hk : i.queryKind = some kind) (s : State) : exec i s = .next (s.takeQuery i.block p kind (queryAnswer kind)) := by
  cases i with
  | queryTitle => cases h; cases hk; rfl
  | queryScreening => cases h; cases hk; rfl
  | queryPhaseTimes => cases h; cases hk; rfl
  | queryTally => cases h; cases hk; rfl
  | queryHold => cases h; cases hk; rfl
  | queryBands => cases h; cases hk; rfl
  | queryBoard => cases h; cases hk; rfl
  | queryNotice => cases h; cases hk; rfl
  | queryUrgentList => cases h; cases hk; rfl
  | queryClock => cases h; cases hk; rfl
  | queryCue => cases h; cases hk; rfl
  | queryCarousel => cases h; cases hk; rfl
  | querySyncGroup => cases h; cases hk; rfl
  | queryTile => cases h; cases hk; rfl
  | queryLayout => cases h; cases hk; rfl
  | queryPanel => cases h; cases hk; rfl
  | queryOutput => cases h; cases hk; rfl
  | queryStream => cases h; cases hk; rfl
  | queryLink => cases h; cases hk; rfl
  | _ => cases hk

/-- R8: a directive's command takes the directives it accepts from its port. -/
theorem exec_eq_take {i : Instr} {p : Port} {accepts : Directive → Bool} (h : i.takes = some (p, accepts)) :
    ∃ (α : Type) (select : Directive → Option α) (act : Packet → α → State → State),
      (∀ d, accepts d = (select d).isSome) ∧ (∀ s, exec i s = .next (s.take i.block p select act))
        ∧ ∀ q a t, State.Frame [.queues, .block .link, .block i.block] t (act q a t) := by
  by_cases hp : i = .imagePiece p
  · subst hp; cases h
    exact ⟨_, _, _, fun d => by cases d <;> rfl, fun _ => rfl, fun q a t => (takePiece_frame ..).mono (by simp [Instr.block])⟩
  by_cases hr : i = .displayRestart p
  · subst hr; cases h
    exact ⟨_, _, _, fun d => by cases d <;> rfl, fun _ => rfl, fun q a t => (State.arrangeRestart_frame ..).mono (by simp)⟩
  obtain ⟨select, act, ha, he, hf⟩ := answers_of_takes h hp hr
  exact ⟨_, select, _, ha, he, fun q a t => ((hf a t).mono (by simp)).trans ((State.issue_frame ..).mono (by simp))⟩

/-- 00_scope 3: every command takes place, and changes no part but those it touches. -/
theorem exec_frame (i : Instr) (s : State) : Result.Frames i.touches s (exec i s) := by
  cases h : i.takes with
  | some x =>
    cases hk : i.queryKind with
    | some kind =>
      rw [exec_eq_takeQuery h hk, Instr.touches, h, hk]
      exact .of_frame s.takeQuery_frame
    | none =>
      obtain ⟨α, select, act, -, he, hf⟩ := exec_eq_take h
      rw [he, Instr.touches, h, hk]
      exact .of_frame (State.take_frame (by simp) hf s)
  | none =>
    rw [Instr.touches_of_none h]
    cases i with
    | feedFrame => exact execFeedFrame_frame ..
    | deskByte => exact execDeskByte_frame ..
    | intakeHeadMove => exact execIntakeHeadMove_frame ..
    | answerSent => exact execAnswerSent_frame ..
    | reportSent => exact execReportSent_frame ..
    | conditionRaise => exact execConditionRaise_frame ..
    | conditionEnd => exact execConditionEnd_frame ..
    | beaconWatch => exact execBeaconWatch_frame ..
    | fullReset => exact execFullReset_frame ..
    | linkUp => exact .of_frame (State.changeOutput_frame ..)
    | linkDown => exact .of_frame (State.changeOutput_frame ..)
    | panelFrameSlot => exact execPanelFrameSlot_frame ..
    | tenthTick => exact execTenthTick_frame ..
    | runTimeSecond => exact execRunTimeSecond_frame ..
    | beacon => exact execBeacon_frame ..
    | beaconOverdue => exact execBeaconOverdue_frame ..
    | scheduleMinuteEvent => exact execScheduleMinuteEvent_frame ..
    | scheduleRollover => exact execScheduleRollover_frame ..
    | lingerEnd => exact execLingerEnd_frame ..
    | screeningAdded => exact .of_frame (State.takeSeatEvent_frame ..)
    | capacityChanged => exact .of_frame (State.takeSeatEvent_frame ..)
    | seatPhaseChanged => exact .of_frame (State.takeSeatEvent_frame ..)
    | seatScreeningRemoved => exact .of_frame (State.takeSeatEvent_frame ..)
    | holdExpiry => exact execHoldExpiry_frame ..
    | builderPhaseChanged => exact .of_frame (State.takeBuilderSchedule_frame ..)
    | builderScreeningRemoved => exact .of_frame (State.takeBuilderSchedule_frame ..)
    | screeningChanged => exact .of_frame (State.takeBuilderSchedule_frame ..)
    | builderRollover => exact .of_frame (State.takeBuilderClock_frame ..)
    | builderMinuteEvent => exact .of_frame (State.takeBuilderClock_frame ..)
    | figureChanged => exact execFigureChanged_frame ..
    | titleChanged => exact .of_frame (State.takeBuilderSchedule_frame ..)
    | hourFormatChanged => exact .of_frame (State.takeBuilderClock_frame ..)
    | builderTenthTick => exact .of_frame (State.takeBuilderClock_frame ..)
    | pageDwellExpiry => exact .of_frame (State.withBuilder_frame ..)
    | boardRestart => exact execBoardRestart_frame ..
    | noticeExpiry => exact execNoticeExpiry_frame ..
    | urgentDwellExpiry => exact execUrgentDwellExpiry_frame ..
    | noticePhaseChanged => exact .of_frame (State.takeNoticeEvent_frame ..)
    | noticeScreeningRemoved => exact .of_frame (State.takeNoticeEvent_frame ..)
    | noticeRestart => exact execNoticeRestart_frame ..
    | carouselTenthTick => exact execCarouselTenthTick_frame ..
    | markEnd => exact .of_frame (State.withRotation_frame ..)
    | cycleEnd => exact .of_frame (State.withRotation_frame ..)
    | cueQuiet => exact execCueQuiet_frame ..
    | redrawRequest => exact execRedrawRequest_frame ..
    | sizeRequest => exact execSizeRequest_frame ..
    | emptyTile => exact execEmptyTile_frame ..
    | pieceWriteStart => exact execPieceWriteStart_frame ..
    | pieceWriteComplete => exact execPieceWriteComplete_frame ..
    | pieceWriteEnded => exact execPieceWriteEnded_frame ..
    | renderJobStart => exact execRenderJobStart_frame ..
    | renderJobComplete => exact execRenderJobComplete_frame ..
    | renderJobAbandon => exact execRenderJobAbandon_frame ..
    | renderRestart => exact execRenderRestart_frame ..
    | cueApplyLayout => exact execCueApplyLayout_frame ..
    | panelLive => exact execPanelLive_frame ..
    | panelStandbyEvent => exact execPanelStandbyEvent_frame ..
    | panelDark => exact execPanelDark_frame ..
    | frameSlot => exact execFrameSlot_frame ..
    | composeJobStart => exact execComposeJobStart_frame ..
    | pinRequest => exact execPinRequest_frame ..
    | pinRelease => exact execPinRelease_frame ..
    | composeJobComplete => exact execComposeJobComplete_frame ..
    | composeJobAbandon => exact execComposeJobAbandon_frame ..
    | composerRestart => exact execComposerRestart_frame ..
    | segment => exact execSegment_frame ..
    | unitGrant => exact execUnitGrant_frame ..
    | transferUnitComplete => exact execTransferUnitComplete_frame ..
    | unitFault => exact execUnitFault_frame ..
    | resume => exact execResume_frame ..
    | streamWatch => exact execStreamWatch_frame ..
    | frameMemoryRestart => exact execFrameMemoryRestart_frame ..
    | cueStandby => exact execCueStandby_frame ..
    | cueWake => exact execCueWake_frame ..
    | cueBrightness => exact execCueBrightness_frame ..
    | backlightStep => exact execBacklightStep_frame ..
    | panelOutputRestart => exact execPanelOutputRestart_frame ..
    | _ => cases h

end Machine

end Sys2Proof

end

section
/-! SUPPORT. Settles O2: a block changes its own state. -/

namespace Sys2Proof

open Machine

theorem Instr.link_mem_alsoChanges {i : Instr} {x : Port × (Directive → Bool)} (h : i.takes = some x) :
    Block.link ∈ i.alsoChanges := by
  unfold Instr.alsoChanges
  split
  · simp
  · simp
  · simp
  · simp
  · simp
  · simp
  · simp
  · cases h
  · simp

/-- No command changes the queue of waiting commands. -/
theorem Instr.pending_notMem_touches (i : Instr) : Part.pending ∉ i.touches := by
  cases ht : i.takes with
  | some x => exact fun h => by simpa using i.touches_subset ht h
  | none =>
    rw [i.touches_of_none ht]
    unfold Instr.eventTouches
    split <;> simp [Part.all]

/-- A block that a command touches is its own or one of those it also changes. -/
theorem Instr.block_of_mem_touches {i : Instr} {b : Block} (h : Part.block b ∈ i.touches) : b = i.block ∨ b ∈ i.alsoChanges := by
  cases ht : i.takes with
  | some x =>
    obtain h | h : b = .link ∨ b = i.block := by simpa using i.touches_subset ht h
    · exact .inr (h ▸ i.link_mem_alsoChanges ht)
    · exact .inl h
  | none =>
    rw [i.touches_of_none ht] at h
    unfold Instr.eventTouches at h
    split at h
    case h_5 | h_6 => exact .inr (by cases b <;> simp [Instr.alsoChanges])
    all_goals simp at h
    all_goals grind [Instr.block, Instr.alsoChanges]

namespace Machine

/-- Settles O2: every command has a frame, and the blocks of its frame are its own and those it also changes. -/
theorem commandsChangeTheirOwnBlock : Obligations.CommandsChangeTheirOwnBlock := by
  intro i s
  obtain ⟨t, he, hf⟩ := exec_frame i s
  refine ⟨t, he, hf.same .pending i.pending_notMem_touches, fun b hb ha => hf.same (.block b) fun hm => ?_⟩
  exact (i.block_of_mem_touches hm).elim hb ha

end Machine

end Sys2Proof

end

section
/-! SUPPORT. Settles O11: the queues keep their capacities. What a sound state's queues look like, the ways a step changes them,
and each command that touches them. -/

namespace Sys2Proof.Machine

open Sys2Proof

/-! ### What every record of a table meets -/

theorem forall_mem_toList_iff {α : Type} {n : Nat} {P : α → Prop} (v : Vector α n) :
    (∀ x ∈ v.toList, P x) ↔ ∀ (k : Nat) (h : k < n), P v[k] := by
  constructor
  · intro h k hk
    exact h _ (by simp)
  · intro h x hx
    obtain ⟨k, hk, rfl⟩ := List.getElem_of_mem hx
    exact h k (by simpa using hk)

theorem forall_put {α : Type} {n : Nat} {P : α → Prop} {v : Vector α n} (h : ∀ x ∈ v.toList, P x) (i : Fin n) {a : α}
    (ha : P a) : ∀ x ∈ (put v i a).toList, P x := by
  rw [forall_mem_toList_iff] at h ⊢
  intro k hk
  by_cases hi : (⟨k, hk⟩ : Fin n) = i
  · subst hi
    rw [put_getElem_self v ⟨k, hk⟩ a]
    exact ha
  · have hkeep := put_getElem_of_ne v a hi
    exact hkeep ▸ h k hk

theorem forall_mapAll {α β : Type} {n : Nat} {P : α → Prop} {Q : β → Prop} {v : Vector α n} (h : ∀ x ∈ v.toList, P x) {f : α → β}
    (hf : ∀ x, P x → Q (f x)) : ∀ x ∈ (mapAll f v).toList, Q x := by
  rw [forall_mem_toList_iff] at h ⊢
  intro k hk
  rw [mapAll_getElem]
  exact hf _ (h k hk)

/-! ### What a command keeps -/

/-- Every state that a command leads to meets `P`. -/
def Result.Keeps (P : State → Prop) (r : Result) : Prop := ∀ t, r = .next t → P t

theorem Result.Keeps.next {P : State → Prop} {t : State} (h : P t) : Result.Keeps P (.next t) := fun _ e => by cases e; exact h

/-- What the parts of a command's frame determine, it keeps. -/
theorem Result.Frames.keeps {ps : List Part} {s : State} {r : Result} {P : State → Prop} (h : Result.Frames ps s r)
    (k : ∀ t, s.Frame ps t → P t) : Result.Keeps P r := by
  obtain ⟨t, rfl, hf⟩ := h
  exact .next (k t hf)

/-- What every command keeps, and does not speak of the waiting commands, every step keeps. -/
theorem step_keeps {P : State → Prop} (hp : ∀ s rest, P s → P { s with pending := rest })
    (he : ∀ i s, P s → Result.Keeps P (exec i s)) {s t : State} (h : P s) (hs : step s = .next t) : P t := by
  unfold step at hs
  split at hs
  · cases hs; exact h
  · exact he _ _ (hp _ _ h) t hs

/-- What moving packets keeps and a directive's action keeps, its command keeps. -/
theorem State.takeAndAnswer_preserves {P : State → Prop} {α : Type} {u : Block} {p : Port} {select : Directive → Option α}
    {act : α → State → State × Reply} (hmove : ∀ {s t : State}, s.Frame [.queues, .block .link] t → P s → P t)
    (hact : ∀ a t, P t → P (act a t).1) {s : State} (h : P s) : P (s.takeAndAnswer u p select act) := by
  have hput := hmove (s.putHandoff_frame u p (s.handoffOf u p).tail) h
  obtain e | ⟨q, d, a, -, -, e⟩ | ⟨q, d, a, -, -, -, -, e⟩ := State.take_cases u p select
    (fun q a s => (act a s).1.issue p (q.answer (act a s).2)) s
  · rw [State.takeAndAnswer, e]; exact h
  · rw [State.takeAndAnswer, e]; exact hmove (State.issue_frame ..) (hact a _ hput)
  · rw [State.takeAndAnswer, e]; exact hmove (State.issue_frame ..) hput

/-- An answer sent counts toward a RESET: what a full reset meets and the count keeps, it keeps. -/
theorem State.countTowardReset_preserves {P : State → Prop} (hlink : ∀ {s t : State}, s.Frame [.block .link] t → P s → P t)
    (hreset : ∀ s : State, P s.fullReset) {s : State} (h : P s) (p : Port) : P (s.countTowardReset p) := by
  unfold State.countTowardReset
  split
  · exact h
  · dsimp only
    have hcount (r : ResetPending) : P { s with link := { s.link with resetPending := some r } } :=
      hlink (s.withLink_frame { s.link with resetPending := some r } rfl rfl rfl) h
    split
    · split
      · exact hreset s
      · exact hcount _
    · split
      · exact hreset s
      · exact hcount _

theorem State.putLine_frame (s : State) (p : Port) (bytes : List Byte) : s.Frame [] (s.putLine p bytes) := by
  simp [State.frame_iff]

/-- What a full reset meets and moving packets keeps, ANSWER SENT keeps. -/
theorem execAnswerSent_preserves {P : State → Prop} (hmove : ∀ {s t : State}, s.Frame [.queues, .block .link] t → P s → P t)
    (hreset : ∀ s : State, P s.fullReset) {s : State} (h : P s) (p : Port) : Result.Keeps P (execAnswerSent p s) := by
  refine .next ?_
  dsimp only
  split
  · exact h
  · split
    · exact h
    · refine State.countTowardReset_preserves (fun hf => hmove (hf.mono (by simp))) hreset ?_ p
      exact hmove ((State.putPort_frame ..).trans ((State.putLine_frame ..).mono (by simp))) h

/-! ### Sound queues -/

theorem State.QueuesSound.portSound {s : State} (h : s.QueuesSound) (p : Port) : s.PortSound p := by
  obtain ⟨hf, hd, -, -⟩ := h
  cases p
  · exact hf
  · exact hd

theorem State.QueuesSound.handoffOf_le {s : State} (h : s.QueuesSound) (b : Block) (p : Port) :
    (s.handoffOf b p).length ≤ 8 := by
  obtain ⟨-, -, -, hh⟩ := h
  obtain ⟨hf, hd⟩ := hh s.link.handoff[b.index] (by simp)
  cases p
  · exact hf
  · exact hd

/-- The queues' soundness speaks of the queues alone. -/
theorem State.QueuesSound.congr {s t : State} (h : s.QueuesSound) (k : s.samePart t .queues) : t.QueuesSound := by
  obtain ⟨kp, kh, kr, ku⟩ := k
  simp only [State.QueuesSound, State.PortSound, State.port, LinkUnit.restartsOf, kp, kh, kr, ku] at h ⊢
  exact h

theorem State.QueuesSound.of_frame {s t : State} {ps : List Part} (h : s.QueuesSound) (k : s.Frame ps t)
    (hq : .queues ∉ ps := by simp) : t.QueuesSound :=
  h.congr (k.same _ hq)

/-- One port's queues change, with the work that holds places of its answer queue. -/
theorem State.QueuesSound.change {s t : State} (h : s.QueuesSound) (p : Port) (hp : t.PortSound p)
    (ho : ∀ r, r ≠ p → t.port r = s.port r ∧ t.render.piecesOf r = s.render.piecesOf r ∧ t.link.restartsOf r = s.link.restartsOf r)
    (hs : t.render.piecesOf .feed + t.render.piecesOf .desk ≤ 1) (hh : t.link.handoff = s.link.handoff) : t.QueuesSound := by
  have hall : ∀ r, t.PortSound r := fun r => by
    by_cases hr : r = p
    · exact hr ▸ hp
    · obtain ⟨hport, hpieces, hrestarts⟩ := ho r hr
      have := h.portSound r
      rw [State.PortSound] at this ⊢
      rwa [hport, hpieces, hrestarts]
  obtain ⟨-, -, -, hand⟩ := h
  exact ⟨hall .feed, hall .desk, hs, hh ▸ hand⟩

/-- What the link unit holds for a port changes, within its capacities, and no place is reserved or given back. -/
theorem State.QueuesSound.putPort {s : State} (h : s.QueuesSound) (p : Port) {x : PortState} (hi : x.intake.length ≤ 32)
    (ha : x.answers.answers.length + x.answers.reserved ≤ 16) (hr : x.answers.reserved = (s.port p).answers.reserved) :
    (s.putPort p x).QueuesSound := by
  obtain ⟨-, -, hpromised⟩ := h.portSound p
  refine h.change p ?_ (fun r hne => ⟨s.port_putPort_of_ne x hne, rfl, rfl⟩) h.2.2.1 rfl
  rw [State.PortSound, State.port_putPort_self]
  exact ⟨hi, ha, hr.trans hpromised⟩

theorem State.QueuesSound.putHandoff {s : State} (h : s.QueuesSound) (b : Block) (p : Port) {q : List Packet}
    (hq : q.length ≤ 8) : (s.putHandoff b p q).QueuesSound := by
  have hf := h.handoffOf_le b .feed
  have hd := h.handoffOf_le b .desk
  obtain ⟨h0, h1, h2, h3⟩ := h
  refine ⟨h0, h1, h2, forall_put h3 _ ?_⟩
  cases p
  · exact ⟨hq, hd⟩
  · exact ⟨hf, hq⟩

/-- R8: an answer is issued where the answer queue has room. -/
theorem State.QueuesSound.issue {s : State} (h : s.QueuesSound) {p : Port} (a : Answer) (hr : s.hasRoom p = true) :
    (s.issue p a).QueuesSound := by
  rw [State.hasRoom_iff] at hr
  obtain ⟨hi, -, -⟩ := h.portSound p
  refine h.putPort p hi ?_ rfl
  simp
  omega

/-! ### The link unit's own commands -/

theorem State.QueuesSound.discardPacket {s : State} (h : s.QueuesSound) (p : Port) : (s.discardPacket p).QueuesSound := by
  obtain ⟨hi, ha, -⟩ := h.portSound p
  exact (h.putPort p (x := { s.port p with lineErrors := saturate16 (s.port p).lineErrors }) hi ha rfl).of_frame
    (State.raiseOwn_frame ..)

/-- R6: a packet joins a queue that holds fewer than 32. -/
theorem State.QueuesSound.joinIntake {s : State} (h : s.QueuesSound) (p : Port) (q : Packet) : (s.joinIntake p q).QueuesSound := by
  obtain ⟨hi, ha, -⟩ := h.portSound p
  unfold State.joinIntake
  dsimp only
  split
  · refine h.putPort p ?_ ha rfl
    simp
    omega
  · exact (h.putPort p (x := { s.port p with discards := saturate16 (s.port p).discards }) hi ha rfl).of_frame
      (State.raiseOwn_frame ..)

theorem State.QueuesSound.routeFeed {s : State} (h : s.QueuesSound) (kind tag : Nat) (body : List Byte) :
    (s.routeFeed kind tag body).QueuesSound := by
  unfold State.routeFeed
  split
  · exact h
  · split
    · split
      · exact h
      · exact h.discardPacket _
    · exact h.joinIntake ..

theorem execFeedFrame_queuesSound {s : State} (h : s.QueuesSound) (frame : List Byte) (damaged : Bool) :
    Result.Keeps State.QueuesSound (execFeedFrame frame damaged s) := by
  have h' : ({ s with link := { s.link with feedReceiver := .idle } } : State).QueuesSound := h
  refine .next ?_
  dsimp only
  split
  · exact h'
  · split
    · exact h'.routeFeed ..
    · exact h'.discardPacket _

theorem State.QueuesSound.applyDeskEvent {s : State} (h : s.QueuesSound) (e : DeskEvent) : (s.applyDeskEvent e).QueuesSound := by
  unfold State.applyDeskEvent
  split
  · exact h
  · exact h.discardPacket _
  · split
    · exact h
    · split
      · exact h.joinIntake ..
      · exact h.discardPacket _

theorem execDeskByte_queuesSound {s : State} (h : s.QueuesSound) (b : Byte) (error : Bool) :
    Result.Keeps State.QueuesSound (execDeskByte b error s) := by
  have h' : ({ s with link := { s.link with deskReceiver := (deskReceive s.link.deskReceiver b error).1 } } : State).QueuesSound := h
  exact .next (h'.applyDeskEvent _)

/-- R7: a malformed head is answered where there is room, and a well-shaped one joins a handoff queue that holds fewer than 8. -/
theorem execIntakeHeadMove_queuesSound {s : State} (h : s.QueuesSound) (p : Port) :
    Result.Keeps State.QueuesSound (execIntakeHeadMove p s) := by
  refine .next ?_
  dsimp only
  split
  · exact h
  · rename_i q rest hq
    obtain ⟨hi, ha, -⟩ := h.portSound p
    have hrest : rest.length ≤ 32 := by
      rw [hq] at hi
      simp at hi
      omega
    have hput : (s.putPort p { s.port p with intake := rest }).QueuesSound := h.putPort p hrest ha rfl
    split
    · split
      · rename_i hr
        exact hput.issue _ (by simpa [State.hasRoom] using hr)
      · exact h
    · split
      · rename_i hl
        refine hput.putHandoff _ _ ?_
        simp
        omega
      · exact h

theorem reset_queuesSound : State.reset.QueuesSound := by
  refine ⟨⟨by decide, by decide, by decide⟩, ⟨by decide, by decide, by decide⟩, by decide, ?_⟩
  rw [forall_mem_toList_iff]
  intro k hk
  simp [State.reset, LinkUnit.atReset]

theorem State.fullReset_queuesSound (s : State) : s.fullReset.QueuesSound := reset_queuesSound

theorem execAnswerSent_queuesSound {s : State} (h : s.QueuesSound) (p : Port) :
    Result.Keeps State.QueuesSound (execAnswerSent p s) := by
  refine .next ?_
  dsimp only
  split
  · exact h
  · rename_i a rest hq
    split
    · exact h
    · obtain ⟨hi, ha, -⟩ := h.portSound p
      have hput : (s.putPort p { s.port p with answers := { (s.port p).answers with answers := rest } }).QueuesSound := by
        refine h.putPort p hi ?_ rfl
        rw [hq] at ha
        simp at ha ⊢
        omega
      refine State.countTowardReset_preserves (fun hf hs => hs.of_frame hf) State.fullReset_queuesSound ?_ p
      cases p <;> exact hput

/-! ### Reserved places (R8) -/

/-- An answer takes the place that was reserved for it, when the work that held the place has ended. -/
theorem State.QueuesSound.issueReserved {s t : State} (h : s.QueuesSound) {p : Port} (a : Answer)
    (hports : t.link.ports = s.link.ports) (hh : t.link.handoff = s.link.handoff)
    (hp : s.render.piecesOf p + s.link.restartsOf p = t.render.piecesOf p + t.link.restartsOf p + 1)
    (ho : ∀ r, r ≠ p → t.render.piecesOf r = s.render.piecesOf r ∧ t.link.restartsOf r = s.link.restartsOf r)
    (hs : t.render.piecesOf .feed + t.render.piecesOf .desk ≤ 1) : (t.issueReserved p a).QueuesSound := by
  have hport : ∀ r, t.port r = s.port r := fun r => congrArg (PerPort.get · r) hports
  refine h.change p ?_ (fun r hne => ⟨(t.port_issueReserved_of_ne a hne).trans (hport r), ho r hne⟩) hs hh
  obtain ⟨hi, ha, hr⟩ := h.portSound p
  rw [State.PortSound, State.port_issueReserved_self, hport]
  refine ⟨hi, ?_, ?_⟩
  · simp
    omega
  · show _ = t.render.piecesOf p + t.link.restartsOf p
    simp
    omega

/-- A place is reserved, where there is room, for work that begins. -/
theorem State.QueuesSound.reserve {s t : State} (h : s.QueuesSound) {p : Port} (hroom : s.hasRoom p = true)
    (hports : t.link.ports = (s.reserve p).link.ports) (hh : t.link.handoff = s.link.handoff)
    (hp : t.render.piecesOf p + t.link.restartsOf p = s.render.piecesOf p + s.link.restartsOf p + 1)
    (ho : ∀ r, r ≠ p → t.render.piecesOf r = s.render.piecesOf r ∧ t.link.restartsOf r = s.link.restartsOf r)
    (hs : t.render.piecesOf .feed + t.render.piecesOf .desk ≤ 1) : t.QueuesSound := by
  have hport : ∀ r, t.port r = (s.reserve p).port r := fun r => congrArg (PerPort.get · r) hports
  refine h.change p ?_ (fun r hne => ⟨(hport r).trans (s.port_reserve_of_ne hne), ho r hne⟩) hs hh
  obtain ⟨hi, ha, hr⟩ := h.portSound p
  rw [State.hasRoom_iff] at hroom
  rw [State.PortSound, hport, State.port_reserve_self]
  refine ⟨hi, ?_, ?_⟩
  · simp
    omega
  · simp
    omega

/-- R8: where the port's answer queue has no free place, the directive waits. -/
theorem State.take_of_noRoom {α : Type} {u : Block} {p : Port} {select : Directive → Option α}
    {act : Packet → α → State → State} {s : State} (h : s.hasRoom p = false) : s.take u p select act = s := by
  unfold State.take
  split
  · rfl
  · split
    · rfl
    · split
      · rfl
      · simp [h]

/-- R8: a directive's command keeps the queues sound, where its action keeps them so. -/
theorem State.QueuesSound.take {α : Type} {u : Block} {p : Port} {select : Directive → Option α}
    {act : Packet → α → State → State} {s : State} (h : s.QueuesSound)
    (hact : ∀ q a t, State.QueuesSound t → t.hasRoom p = true → t.ready u = true → (act q a t).QueuesSound) :
    (s.take u p select act).QueuesSound := by
  have hput : (s.putHandoff u p (s.handoffOf u p).tail).QueuesSound := h.putHandoff u p (by
    have := h.handoffOf_le u p
    simp
    omega)
  cases hr : s.hasRoom p with
  | false => rw [State.take_of_noRoom hr]; exact h
  | true =>
    obtain e | ⟨q, d, a, ⟨-, -, hready, -, -, -⟩, -, e⟩ | ⟨q, d, a, -, -, -, -, e⟩ := State.take_cases u p select act s
    · rw [e]; exact h
    · rw [e]
      refine hact q a _ hput (by simpa using hr) ?_
      cases u <;> exact hready
    · rw [e]; exact hput.issue _ (by simpa using hr)

theorem State.QueuesSound.takeAndAnswer {α : Type} {ps : List Part} {u : Block} {p : Port} {select : Directive → Option α}
    {act : α → State → State × Reply} {s : State} (h : s.QueuesSound) (hf : ∀ a t, State.Frame ps t (act a t).1)
    (hq : .queues ∉ ps) : (s.takeAndAnswer u p select act).QueuesSound := by
  refine State.QueuesSound.take h fun q a t ht hr _ => (ht.of_frame (hf a t) hq).issue _ ?_
  obtain ⟨hports, -⟩ := (hf a t).same _ hq
  rw [State.hasRoom_iff, State.port] at hr ⊢
  rwa [hports]

/-- R8, R21: DISPLAY RESTART reserves the place of its answer; no other one waits while the link unit is ready. -/
theorem execDisplayRestart_queuesSound {s : State} (h : s.QueuesSound) (p : Port) :
    Result.Keeps State.QueuesSound (execDisplayRestart p s) := by
  refine .next (State.QueuesSound.take h fun q _ t ht hr hready => ?_)
  have hnone : t.link.restartPending = none := by simpa [State.ready] using hready
  have hzero : ∀ r, t.link.restartsOf r = 0 := fun r => by simp [LinkUnit.restartsOf, hnone]
  refine ht.reserve hr rfl rfl ?_ (fun r hne => ⟨rfl, ?_⟩) ht.2.2.1
  · rw [hzero, Nat.add_zero]
    exact congrArg _ (if_pos rfl)
  · rw [hzero]
    exact if_neg fun he => hne he.symm

/-! ### Pieces of images (R143) -/

theorem State.reserve_link_restartsOf (s : State) (p r : Port) : (s.reserve p).link.restartsOf r = s.link.restartsOf r := rfl

/-- No piece write is in flight or waiting while the render unit is ready. -/
theorem RenderUnit.piecesOf_of_pieceless {u : RenderUnit} (h : u.pieceless = true) (p : Port) : u.piecesOf p = 0 := by
  unfold RenderUnit.pieceless at h
  rw [Bool.and_eq_true] at h
  obtain ⟨hw, he⟩ := h
  have hw : u.waiting = none := by simpa using hw
  unfold RenderUnit.piecesOf
  rw [hw]
  split
  · rename_i w hp
    simp [hp] at he
  · rfl

theorem State.QueuesSound.takePiece {s : State} (h : s.QueuesSound) {p : Port} (hr : s.hasRoom p = true)
    (hready : s.ready .render = true) (q : Packet) (t offset : Nat) (piece : List Byte) :
    (Machine.takePiece p q t offset piece s).QueuesSound := by
  unfold Machine.takePiece
  split
  · exact h.issue _ hr
  · have hzero := RenderUnit.piecesOf_of_pieceless (u := s.render) hready
    have hwait : ∀ r, { s.render with waiting := some ⟨t, piece, p, q.tag, q.code⟩ }.piecesOf r = if p = r then 1 else 0 :=
      fun r => by
        have he : s.render.piecesOf r = 0 := hzero r
        unfold RenderUnit.piecesOf at he ⊢
        simp at he ⊢
        exact he.1
    refine h.reserve hr rfl rfl ?_ (fun r hne => ⟨?_, rfl⟩) ?_
    · rw [hzero]
      simp only [hwait, if_true]
      rw [State.reserve_link_restartsOf, Nat.zero_add, Nat.add_comm]
    · rw [hzero]
      simp [hwait, hne.symm]
    · simp [hwait]
      cases p <;> simp

/-- R8, R143: IMAGE PIECE reserves the place of its answer, unless it is answered at once. -/
theorem execImagePiece_queuesSound {s : State} (h : s.QueuesSound) (p : Port) :
    Result.Keeps State.QueuesSound (execImagePiece p s) :=
  .next (State.QueuesSound.take h fun q _ _ ht hr hready => ht.takePiece hr hready q ..)

/-- Where a piece write is with the engine, no other waits. -/
theorem State.QueuesSound.waiting_none {s : State} (h : s.QueuesSound) {w : PieceWrite} (he : s.render.engine = .piece w) :
    s.render.waiting = none := by
  obtain ⟨-, -, hs, -⟩ := h
  cases hw : s.render.waiting with
  | none => rfl
  | some x =>
    unfold RenderUnit.piecesOf at hs
    rw [he, hw] at hs
    cases hp : w.port <;> cases hx : x.port <;> simp [hp, hx] at hs

theorem RenderUnit.piecesOf_of_idle {u : RenderUnit} (he : u.engine = .idle) (hw : u.waiting = none) (p : Port) :
    u.piecesOf p = 0 := by
  simp [RenderUnit.piecesOf, he, hw]

/-- The place of the piece write that ends is taken by its answer: no other is left. -/
theorem State.QueuesSound.answerPiece {s t : State} (h : s.QueuesSound) {w : PieceWrite} (o : OutcomeCode)
    (hw : ∀ r, s.render.piecesOf r = if w.port = r then 1 else 0) (hlink : t.link = s.link)
    (hzero : ∀ r, t.render.piecesOf r = 0) : (t.issueReserved w.port (w.answer o)).QueuesSound := by
  refine h.issueReserved _ (by rw [hlink]) (by rw [hlink]) ?_ (fun r hne => ⟨?_, by rw [hlink]⟩) ?_
  · rw [hw, hzero, hlink, if_pos rfl]
    omega
  · rw [hw, hzero, if_neg hne.symm]
  · rw [hzero, hzero]
    decide

theorem State.QueuesSound.piecesOf_of_engine {s : State} (h : s.QueuesSound) {w : PieceWrite} (he : s.render.engine = .piece w)
    (r : Port) : s.render.piecesOf r = if w.port = r then 1 else 0 := by
  simp [RenderUnit.piecesOf, he, h.waiting_none he]

theorem execPieceWriteComplete_queuesSound {s : State} (h : s.QueuesSound) :
    Result.Keeps State.QueuesSound (execPieceWriteComplete s) := by
  refine .next ?_
  split
  · rename_i w _ he _
    exact h.answerPiece _ (h.piecesOf_of_engine he) rfl (RenderUnit.piecesOf_of_idle rfl (h.waiting_none he))
  · exact h

theorem execPieceWriteEnded_queuesSound {s : State} (h : s.QueuesSound) :
    Result.Keeps State.QueuesSound (execPieceWriteEnded s) := by
  refine .next ?_
  split
  · rename_i w _ he _
    exact h.answerPiece _ (h.piecesOf_of_engine he) rfl (RenderUnit.piecesOf_of_idle rfl (h.waiting_none he))
  · exact h

/-- The piece a restart finds holds the only place reserved for a piece. -/
theorem State.QueuesSound.piecesOf_of_held {s : State} (h : s.QueuesSound) (r : Port) :
    s.render.piecesOf r = match s.render.heldPiece with | none => 0 | some w => if w.port = r then 1 else 0 := by
  cases he : s.render.engine with
  | piece w => simpa [RenderUnit.heldPiece, he] using h.piecesOf_of_engine he r
  | idle => cases hw : s.render.waiting <;> simp [RenderUnit.piecesOf, RenderUnit.heldPiece, he, hw]
  | job j => cases hw : s.render.waiting <;> simp [RenderUnit.piecesOf, RenderUnit.heldPiece, he, hw]

theorem State.QueuesSound.cancelRender {s : State} (h : s.QueuesSound) : s.cancelRender.QueuesSound := by
  have hheld := h.piecesOf_of_held
  unfold State.cancelRender
  dsimp only
  split
  · rename_i hn
    rw [hn] at hheld
    exact h.congr ⟨rfl, rfl, rfl, fun r => (hheld r).symm⟩
  · rename_i w hw
    rw [hw] at hheld
    exact h.answerPiece _ hheld rfl fun _ => rfl

theorem execRenderRestart_queuesSound {s : State} (h : s.QueuesSound) :
    Result.Keeps State.QueuesSound (execRenderRestart s) := by
  refine .next ?_
  split
  · exact h
  · have hd : (s.dropRestart .render).QueuesSound := h
    exact hd.cancelRender

/-! ### The end of a DISPLAY RESTART (R21) -/

theorem State.QueuesSound.countTowardRestart {s : State} (h : s.QueuesSound) (b : Block) (c : Condition) :
    (s.countTowardRestart b c).QueuesSound := by
  unfold State.countTowardRestart
  split
  · exact h
  · rename_i r hr
    have hone : ∀ p, s.link.restartsOf p = if r.port = p then 1 else 0 := fun p => by simp [LinkUnit.restartsOf, hr]
    split
    · exact h
    · split
      · exact h.change r.port (by
          have := h.portSound r.port
          simp only [State.PortSound, LinkUnit.restartsOf, hr] at this ⊢
          exact this) (fun p hne => ⟨rfl, rfl, (hone p).symm⟩) h.2.2.1 rfl
      · split
        · refine h.issueReserved (t := { s with link := { s.link with restartPending := none } }) _ rfl rfl ?_
            (fun p hne => ⟨rfl, ?_⟩) h.2.2.1
          · rw [hone, if_pos rfl]
            rfl
          · rw [hone, if_neg hne.symm]
            rfl
        · exact h

theorem execConditionEnd_queuesSound {s : State} (h : s.QueuesSound) (b : Block) :
    Result.Keeps State.QueuesSound (execConditionEnd b s) := by
  refine .next ?_
  dsimp only
  split
  · rename_i c rest _
    have h' : ({ s with
        link := s.link.endCondition c
        mail := { s.mail with conditions := put s.mail.conditions b.index rest } } : State).QueuesSound := h
    exact h'.countTowardRestart b c
  · exact h

/-! ### Every command -/

/-- R6, R7, R8, R10, R21, R143: every command keeps the queues within their capacities. -/
theorem exec_queuesSound (i : Instr) {s : State} (h : s.QueuesSound) : Result.Keeps State.QueuesSound (exec i s) := by
  by_cases hq : Part.queues ∈ i.touches
  · cases ht : i.takes with
    | some x =>
      obtain ⟨p, accepts⟩ := x
      by_cases hp : i = .imagePiece p
      · rw [hp]; exact execImagePiece_queuesSound h p
      by_cases hr : i = .displayRestart p
      · rw [hr]; exact execDisplayRestart_queuesSound h p
      obtain ⟨select, act, -, he, hf⟩ := answers_of_takes ht hp hr
      rw [he]
      exact .next (h.takeAndAnswer hf (by simp))
    | none =>
      rw [Instr.touches_of_none ht] at hq
      unfold Instr.eventTouches at hq
      split at hq
      case h_1 => exact execFeedFrame_queuesSound h _ _
      case h_2 => exact execDeskByte_queuesSound h _ _
      case h_3 => exact execIntakeHeadMove_queuesSound h _
      case h_4 => exact execConditionEnd_queuesSound h _
      case h_5 => exact execAnswerSent_queuesSound h _
      case h_6 => exact .next s.fullReset_queuesSound
      case h_12 => exact execPieceWriteComplete_queuesSound h
      case h_13 => exact execPieceWriteEnded_queuesSound h
      case h_14 => exact execRenderRestart_queuesSound h
      all_goals simp at hq
  · exact (exec_frame i s).keeps fun t hf => h.of_frame hf hq

/-- Settles O11: an invariant of every command, and so of every step. -/
theorem queuesKeepTheirCapacities : Obligations.QueuesKeepTheirCapacities :=
  fun _ _ h hs => step_keeps (fun _ _ h => h) (fun i _ h => exec_queuesSound i h) h hs

end Sys2Proof.Machine

end

section
/-! SUPPORT. The board clock keeps its fields in their ranges. -/

namespace Sys2Proof.Machine

open Sys2Proof

/-- The clock's fields lie in their ranges. -/
structure Clock.InRange (c : Clock) : Prop where
  hour : c.hour ≤ 23
  minute : c.minute ≤ 59
  second : c.second ≤ 59
  weekday_pos : 1 ≤ c.weekday
  weekday_le : c.weekday ≤ 7
  dayStart : c.dayStart ≤ 23
  tenths : c.tenths ≤ 9
  runTime : c.runTime ≤ maxCount32
  mark : ∀ m ∈ c.mark, m ≤ 1439

/-- The clock is sound: in range, and without a mark while it is UNSET. -/
structure Clock.Sound (c : Clock) : Prop where
  inRange : c.InRange
  unset : c.state = .unset → c.mark = none

/-- The clock is in range and not UNSET, so that it may have a mark. -/
structure Clock.Runs (c : Clock) : Prop where
  inRange : c.InRange
  state : c.state ≠ .unset

theorem Clock.Runs.sound {c : Clock} (h : c.Runs) : c.Sound := ⟨h.inRange, fun hu => absurd hu h.state⟩

/-- The soundness of the clock is that of its record and of the beacons under way to it. -/
theorem State.clockSound_iff (s : State) :
    s.ClockSound ↔ s.clock.Sound ∧ ∀ e ∈ s.mail.linkToClock, ∀ t, e = .beacon t → t.Ok := by
  constructor
  · rintro ⟨h1, h2, h3, h4, h5, h6, h7, h8, h9, h10, h11⟩
    exact ⟨⟨⟨h1, h2, h3, h4, h5, h6, h7, h8, h9⟩, h10⟩, h11⟩
  · rintro ⟨⟨⟨h1, h2, h3, h4, h5, h6, h7, h8, h9⟩, h10⟩, h11⟩
    exact ⟨h1, h2, h3, h4, h5, h6, h7, h8, h9, h10, h11⟩

theorem State.ClockSound.clock {s : State} (h : s.ClockSound) : s.clock.Sound := ((s.clockSound_iff).mp h).1

theorem State.ClockSound.of_frame {s t : State} {ps : List Part} (h : s.ClockSound) (k : s.Frame ps t)
    (hc : .block .clock ∉ ps := by simp) (hb : .beacons ∉ ps := by simp) : t.ClockSound := by
  rw [State.clockSound_iff] at h ⊢
  have ec : t.clock = s.clock := (k.same _ hc).symm
  have eb : t.mail.linkToClock = s.mail.linkToClock := k.same _ hb
  rwa [ec, eb]

/-- A command of the clock's own that takes no beacon keeps the clock sound if it keeps its record so. -/
theorem State.ClockSound.of_clock {s t : State} {ps : List Part} (h : s.ClockSound) (k : s.Frame ps t) (hc : t.clock.Sound)
    (hb : .beacons ∉ ps := by simp) : t.ClockSound := by
  rw [State.clockSound_iff] at h ⊢
  have eb : t.mail.linkToClock = s.mail.linkToClock := k.same _ hb
  exact ⟨hc, eb ▸ h.2⟩

/-! ### The clock's record -/

theorem Clock.InRange.businessMinute_le {c : Clock} (h : c.InRange) : c.businessMinute ≤ 1439 := by
  have hm := h.minute
  have hlt : (c.hour + 24 - c.dayStart) % 24 < 24 := Nat.mod_lt _ (by decide)
  unfold Clock.businessMinute Machine.businessMinute
  omega

theorem Clock.InRange.withMark {c : Clock} (h : c.InRange) {n : Nat} (hn : n ≤ 1439) : { c with mark := some n }.InRange :=
  { h with mark := fun m hm => by cases hm; exact hn }

theorem Clock.Runs.withMark {c : Clock} (h : c.Runs) {n : Nat} (hn : n ≤ 1439) : { c with mark := some n }.Runs :=
  ⟨h.inRange.withMark hn, h.state⟩

theorem Clock.InRange.takeTime {c : Clock} (h : c.InRange) {t : TimeFields} (ht : t.Ok) : (c.takeTime t).InRange := by
  obtain ⟨hw, hw', hh, hm, hs⟩ := ht
  exact { h with hour := hh, minute := hm, second := hs, weekday_pos := hw, weekday_le := hw' }

theorem Clock.Runs.takeTime {c : Clock} (h : c.Runs) {t : TimeFields} (ht : t.Ok) : (c.takeTime t).Runs :=
  ⟨h.inRange.takeTime ht, h.state⟩

theorem Clock.Runs.advance {c : Clock} (h : c.Runs) : c.advance.Runs := by
  obtain ⟨hr, hs⟩ := h
  obtain ⟨hh, hm, hsec, hw, hw', -⟩ := id hr
  unfold Clock.advance
  split
  · exact ⟨{ hr with second := by dsimp only; omega }, hs⟩
  · split
    · exact ⟨{ hr with second := Nat.zero_le _, minute := by dsimp only; omega }, hs⟩
    · split
      · exact ⟨{ hr with second := Nat.zero_le _, minute := Nat.zero_le _, hour := by dsimp only; omega }, hs⟩
      · refine ⟨{ hr with second := Nat.zero_le _, minute := Nat.zero_le _, hour := Nat.zero_le _, weekday_pos := ?_, weekday_le := ?_ }, hs⟩
        · dsimp only; split <;> omega
        · dsimp only; split <;> omega

/-! ### The minute boundary and the cues -/

theorem State.runs_ite {s t : State} {c : Prop} {_ : Decidable c} (h : s.clock.Runs) (k : t.clock.Runs) :
    (if c then s else t).clock.Runs := by
  split
  · exact h
  · exact k

theorem State.evaluateCues_runs {s : State} (h : s.clock.Runs) {x : Nat} (hx : x ≤ 1439) (w hr m : Nat) :
    (s.evaluateCues x w hr m).clock.Runs := by
  unfold State.evaluateCues
  split
  · exact h
  · have hf : State.Frame [] s ((s.clock.firing w hr m).foldl State.sendAction s) :=
      State.Frame.foldl (fun t a => t.sendAction_frame a) ..
    have hc : ((s.clock.firing w hr m).foldl State.sendAction s).clock = s.clock := (hf.same (.block .clock) (by simp)).symm
    dsimp only
    rw [hc]
    exact h.withMark hx

theorem State.evaluateCrossed_runs {s : State} (h : s.clock.Runs) (t : TimeFields) (last : Nat) (ms : List Nat) :
    (s.evaluateCrossed t last ms).clock.Runs := by
  unfold State.evaluateCrossed
  induction ms generalizing s with
  | nil => exact h
  | cons k ms ih => exact ih (State.evaluateCues_runs h (by omega) ..)

theorem State.rollover_runs {s : State} (h : s.clock.Runs) (d : Nat) : (s.rollover d).clock.Runs :=
  ⟨{ h.inRange with mark := fun _ hm => nomatch hm }, h.state⟩

theorem State.rolledIf_runs {s : State} (h : s.clock.Runs) (c : Prop) {_ : Decidable c} (d : Nat) :
    (if c then s.rollover d else s).clock.Runs :=
  State.runs_ite (State.rollover_runs h d) h

/-- R26: the minute event and the cues of the business minute the clock has reached. -/
theorem State.minuteReached_runs {s : State} (h : s.clock.Runs) (w hr m : Nat) :
    ((s.sendMinute s.clock.businessMinute).evaluateCues s.clock.businessMinute w hr m).redrawClockTiles.clock.Runs :=
  State.evaluateCues_runs (s := s.sendMinute s.clock.businessMinute) h h.inRange.businessMinute_le ..

theorem State.minuteBoundary_runs {s : State} (h : s.clock.Runs) : s.minuteBoundary.clock.Runs :=
  State.minuteReached_runs (State.rolledIf_runs h ..) ..

theorem State.countWallTime_sound {s : State} (h : s.clock.Sound) : s.countWallTime.clock.Sound := by
  unfold State.countWallTime
  split
  · exact h
  · rename_i hu
    have hr : s.clock.advance.Runs := Clock.Runs.advance ⟨h.inRange, hu⟩
    dsimp only
    split
    · exact (State.minuteBoundary_runs (s := { s with clock := s.clock.advance }) hr).sound
    · exact hr.sound

/-! ### Beacons and SET CLOCK -/

/-- R29: the mark is the business minute the clock is set to. -/
theorem State.markReached_runs {s : State} (h : s.clock.Runs) (n : Nat) :
    (({ s with clock := { s.clock with mark := some s.clock.businessMinute } } : State).sendMinute n).redrawClockTiles.clock.Runs :=
  h.withMark h.inRange.businessMinute_le

theorem State.setFromUnset_runs {s : State} (h : s.clock.InRange) {t : TimeFields} (ht : t.Ok) :
    (s.setFromUnset t).clock.Runs := by
  have hset : Clock.Runs { s.clock with state := .set } := ⟨{ h with }, by simp⟩
  exact State.markReached_runs (State.rolledIf_runs (hset.takeTime ht) ..) _

theorem State.raiseMark_runs {s : State} (h : s.clock.Runs) {n : Nat} (hn : n ≤ 1439) : (s.raiseMark n).clock.Runs := by
  unfold State.raiseMark
  split
  · exact h
  · exact h.withMark hn

/-- R31: the mark is raised where the set is not near. -/
theorem State.raisedUnless_runs {s : State} (h : s.clock.Runs) (c : Prop) {_ : Decidable c} :
    (if c then s else s.raiseMark s.clock.businessMinute).clock.Runs :=
  State.runs_ite h (State.raiseMark_runs h h.inRange.businessMinute_le)

theorem State.forwardSet_runs {s : State} (h : s.clock.Runs) {t : TimeFields} (ht : t.Ok) : (s.forwardSet t).clock.Runs := by
  unfold State.forwardSet
  dsimp only
  split
  · exact h.takeTime ht
  · refine State.raisedUnless_runs (State.evaluateCrossed_runs ?_ ..) _
    refine Clock.Runs.takeTime (State.rolledIf_runs ?_ ..) ht
    exact State.runs_ite (State.evaluateCrossed_runs h ..) h

theorem State.backwardSet_runs {s : State} (h : s.clock.Runs) {t : TimeFields} (ht : t.Ok) :
    (s.backwardSet t).clock.Runs := by
  unfold State.backwardSet
  dsimp only
  split <;> exact h.takeTime ht

theorem State.applyTime_runs {s : State} (h : s.clock.Runs) {t : TimeFields} (ht : t.Ok) : (s.applyTime t).clock.Runs := by
  unfold State.applyTime
  split
  · exact h
  · split
    · obtain ⟨hw, hw', -⟩ := ht
      exact ⟨{ h.inRange with weekday_pos := hw, weekday_le := hw' }, h.state⟩
    · split
      · exact State.backwardSet_runs h ht
      · exact State.forwardSet_runs h ht

/-- R24: a beacon in range leaves a sound clock running. -/
theorem State.takeBeacon_runs {s : State} (h : s.clock.InRange) {t : TimeFields} (ht : t.Ok) : (s.takeBeacon t).clock.Runs := by
  unfold State.takeBeacon
  split
  · exact State.setFromUnset_runs h ht
  · rename_i hs
    exact State.applyTime_runs ⟨h, by simp [hs]⟩ ht
  · refine State.applyTime_runs ?_ ht
    exact ⟨{ h with }, by simp⟩

/-! ### The clock's commands -/

/-- A command of the clock's own keeps the clock sound if it keeps its record so. -/
theorem State.ClockSound.next {s t : State} (h : s.ClockSound) (hf : Result.Frames [.block .clock] s (.next t))
    (hc : t.clock.Sound) : Result.Keeps State.ClockSound (.next t) := by
  obtain ⟨u, e, hf⟩ := hf
  cases e
  exact .next (h.of_clock hf hc)

theorem execTenthTick_clockSound {s : State} (h : s.ClockSound) : Result.Keeps State.ClockSound (execTenthTick s) := by
  refine h.next (execTenthTick_frame s) ?_
  obtain ⟨hr, hu⟩ := h.clock
  split
  · exact ⟨hr, hu⟩
  · dsimp only
    split
    · rename_i ht
      exact ⟨{ hr with tenths := ht }, hu⟩
    · exact ⟨{ hr with }, hu⟩

theorem execRunTimeSecond_clockSound {s : State} (h : s.ClockSound) :
    Result.Keeps State.ClockSound (execRunTimeSecond s) := by
  refine h.next (execRunTimeSecond_frame s) ?_
  obtain ⟨hr, hu⟩ := h.clock
  split
  · exact ⟨hr, hu⟩
  · refine State.countWallTime_sound ?_
    rw [State.deliverSecond_clock]
    exact ⟨{ hr with tenths := Nat.zero_le _, runTime := Nat.min_le_right .. }, hu⟩

/-- The events under way to the clock after its first has been taken are sound beacons still. -/
theorem State.ClockSound.taken {s : State} (h : s.ClockSound) {e : LinkClockEvent} {rest : List LinkClockEvent}
    (he : s.mail.linkToClock = e :: rest) : ({ s with mail := { s.mail with linkToClock := rest } } : State).ClockSound := by
  rw [State.clockSound_iff] at h ⊢
  obtain ⟨hc, hb⟩ := h
  exact ⟨hc, fun x hx => hb x (by rw [he]; exact List.mem_cons_of_mem _ hx)⟩

theorem execBeacon_clockSound {s : State} (h : s.ClockSound) : Result.Keeps State.ClockSound (execBeacon s) := by
  refine .next ?_
  split
  · rename_i t rest he
    obtain ⟨-, hb⟩ := s.clockSound_iff.mp h
    have ht : t.Ok := hb (.beacon t) (by simp [he]) t rfl
    have hrest := h.taken he
    exact hrest.of_clock (State.takeBeacon_frame ..) (State.takeBeacon_runs hrest.clock.inRange ht).sound
  · exact h

theorem execBeaconOverdue_clockSound {s : State} (h : s.ClockSound) :
    Result.Keeps State.ClockSound (execBeaconOverdue s) := by
  refine .next ?_
  split
  · rename_i rest he
    have hrest := h.taken he
    dsimp only
    split
    · have hr : Clock.Runs { s.clock with state := .unconfirmed } := ⟨{ h.clock.inRange with }, by simp⟩
      refine hrest.of_clock (ps := [.block .clock]) ?_ hr.sound
      exact (State.withClock_frame ..).trans ((State.sendCondition_frame ..).mono (by simp))
    · exact hrest
  · exact h

/-! ### The clock's directives -/

theorem TimeFields.ok_iff (t : TimeFields) :
    t.Ok ↔ ¬(t.weekday < 1 ∨ 7 < t.weekday ∨ 23 < t.hour ∨ 59 < t.minute ∨ 59 < t.second) := by
  unfold TimeFields.Ok
  omega

theorem setClock_clockSound {s : State} (h : s.ClockSound) (t : TimeFields) : (setClock t s).1.ClockSound := by
  refine h.of_clock (setClock_frame t s) ?_
  unfold setClock
  split
  · exact h.clock
  · rename_i ht
    rw [← TimeFields.ok_iff] at ht
    split
    · exact h.clock
    · exact (State.takeBeacon_runs h.clock.inRange ht).sound

theorem setHouse_clockSound {s : State} (h : s.ClockSound) (f d : Nat) : (setHouse f d s).1.ClockSound := by
  refine h.of_clock (setHouse_frame f d s) ?_
  obtain ⟨hr, hu⟩ := h.clock
  unfold setHouse
  split
  · exact ⟨hr, hu⟩
  · split
    · exact ⟨hr, hu⟩
    · rename_i hd
      split
      · exact ⟨hr, hu⟩
      · dsimp only
        split <;> exact ⟨{ hr with dayStart := Nat.le_of_not_lt hd }, hu⟩

theorem setCue_clockSound {s : State} (h : s.ClockSound) (n : Nat) (f : CueFields) : (setCue n f s).1.ClockSound := by
  refine h.of_clock (setCue_frame n f s) ?_
  obtain ⟨hr, hu⟩ := h.clock
  unfold setCue
  split
  · exact ⟨hr, hu⟩
  · split
    · exact ⟨{ hr with }, hu⟩
    · exact ⟨hr, hu⟩

theorem clearCue_clockSound {s : State} (h : s.ClockSound) (n : Nat) : (clearCue n s).1.ClockSound := by
  refine h.of_clock (clearCue_frame n s) ?_
  obtain ⟨hr, hu⟩ := h.clock
  unfold clearCue
  split
  · split
    · exact ⟨hr, hu⟩
    · exact ⟨{ hr with }, hu⟩
  · exact ⟨hr, hu⟩

/-! ### Beacons from the link unit -/

/-- An event joins those under way to the clock: an overdue mark, or a beacon that has passed its check. -/
theorem State.ClockSound.send {s t : State} (h : s.ClockSound) (hc : t.clock = s.clock) {e : LinkClockEvent}
    (he : ∀ b, e = .beacon b → b.Ok) (hm : t.mail.linkToClock = s.mail.linkToClock ++ [e]) : t.ClockSound := by
  rw [State.clockSound_iff] at h ⊢
  obtain ⟨hs, hb⟩ := h
  rw [hc, hm]
  refine ⟨hs, fun x hx => ?_⟩
  obtain hx | hx := List.mem_append.mp hx
  · exact hb x hx
  · rw [List.mem_singleton] at hx
    exact hx ▸ he

/-- R4: a beacon that is read has passed its check. -/
theorem readBeacon_ok {body : List Byte} {t : TimeFields} (h : readBeacon body = some t) : t.Ok := by
  unfold readBeacon at h
  split at h
  · split at h
    · rename_i hok
      cases h
      exact hok
    · cases h
  · cases h

theorem State.ClockSound.routeFeed {s : State} (h : s.ClockSound) (kind tag : Nat) (body : List Byte) :
    (s.routeFeed kind tag body).ClockSound := by
  unfold State.routeFeed
  split
  · exact h
  · split
    · split
      · rename_i t ht
        exact h.send rfl (fun b hb => by cases hb; exact readBeacon_ok ht) rfl
      · exact h.of_frame (s.discardPacket_frame _)
    · exact h.of_frame (s.joinIntake_frame ..)

theorem execFeedFrame_clockSound {s : State} (h : s.ClockSound) (frame : List Byte) (damaged : Bool) :
    Result.Keeps State.ClockSound (execFeedFrame frame damaged s) := by
  have h' : ({ s with link := { s.link with feedReceiver := .idle } } : State).ClockSound := h
  refine .next ?_
  dsimp only
  split
  · exact h'
  · split
    · exact h'.routeFeed ..
    · exact h'.of_frame (State.discardPacket_frame ..)

theorem execBeaconWatch_clockSound {s : State} (h : s.ClockSound) : Result.Keeps State.ClockSound (execBeaconWatch s) := by
  refine .next ?_
  dsimp only
  split
  · exact h
  · have hd : (s.dropSecond .link).ClockSound := h.of_frame (s.dropSecond_frame _)
    split
    · exact hd.send rfl (fun _ hb => by cases hb) rfl
    · exact hd

theorem reset_clockSound : State.reset.ClockSound := by
  rw [State.clockSound_iff]
  refine ⟨⟨⟨?_, ?_, ?_, ?_, ?_, ?_, ?_, ?_, fun m hm => nomatch hm⟩, fun _ => rfl⟩, fun e he => nomatch he⟩ <;> decide

/-- R4, R25, R38: every command keeps the clock sound. -/
theorem exec_clockSound (i : Instr) {s : State} (h : s.ClockSound) : Result.Keeps State.ClockSound (exec i s) := by
  have hmove : ∀ {s t : State}, s.Frame [.queues, .block .link] t → s.ClockSound → t.ClockSound := fun hf hs => hs.of_frame hf
  cases i with
  | feedFrame frame damaged => exact execFeedFrame_clockSound h frame damaged
  | beaconWatch => exact execBeaconWatch_clockSound h
  | answerSent p => exact execAnswerSent_preserves hmove (fun _ => reset_clockSound) h p
  | fullReset => exact .next reset_clockSound
  | tenthTick => exact execTenthTick_clockSound h
  | runTimeSecond => exact execRunTimeSecond_clockSound h
  | beacon => exact execBeacon_clockSound h
  | beaconOverdue => exact execBeaconOverdue_clockSound h
  | setClock p => exact .next (State.takeAndAnswer_preserves hmove (fun t _ hs => setClock_clockSound hs t) h)
  | setHouse p => exact .next (State.takeAndAnswer_preserves hmove (fun _ _ hs => setHouse_clockSound hs ..) h)
  | setCue p => exact .next (State.takeAndAnswer_preserves hmove (fun _ _ hs => setCue_clockSound hs ..) h)
  | clearCue p => exact .next (State.takeAndAnswer_preserves hmove (fun n _ hs => clearCue_clockSound hs n) h)
  | _ =>
    exact (exec_frame _ s).keeps fun t hf => h.of_frame hf
      (by simp [Instr.touches, Instr.takes, Instr.queryKind, Instr.eventTouches, Instr.block])
      (by simp [Instr.touches, Instr.takes, Instr.queryKind, Instr.eventTouches, Instr.block])

end Sys2Proof.Machine

end

section
/-! SUPPORT. The rotation unit keeps its carousels and sync groups sound. -/

namespace Sys2Proof.Machine

open Sys2Proof

/-! ### A carousel's cycle and cursors -/

/-- R123, R132: a carousel has a cycle exactly while it is not STOPPED. -/
structure Carousel.CycleOk (c : Carousel) : Prop where
  stopped_iff : c.run = .stopped ↔ c.phase = none
  phase_iff : c.phase = none ↔ c.remaining = none
  shown : c.phase = none → c.shown = none

/-- R126: each cursor stands inside its list or at 0. -/
structure Carousel.CursorsOk (c : Carousel) : Prop where
  primary : c.primaryCursor < c.content.primary.length ∨ c.primaryCursor = 0
  secondary : c.secondaryCursor < c.content.secondary.length ∨ c.secondaryCursor = 0

theorem Carousel.sound_iff (c : Carousel) : c.Sound ↔ c.CycleOk ∧ c.CursorsOk := by
  constructor
  · rintro ⟨h1, h2, h3, h4, h5⟩
    exact ⟨⟨h1, h2, h5⟩, ⟨h3, h4⟩⟩
  · rintro ⟨⟨h1, h2, h5⟩, ⟨h3, h4⟩⟩
    exact ⟨h1, h2, h3, h4, h5⟩

theorem Carousel.CursorsOk.setCursor {c : Carousel} (h : c.CursorsOk) {k : Nat} (hk : k < c.items.length ∨ k = 0) :
    (c.setCursor k).CursorsOk := by
  obtain ⟨hp, hs⟩ := h
  unfold Carousel.items at hk
  unfold Carousel.setCursor
  split
  · rename_i hc
    rw [hc] at hk
    exact ⟨hk, hs⟩
  · rename_i hc
    rw [hc] at hk
    exact ⟨hp, hk⟩

/-- What moving a cursor leaves. -/
@[simp] theorem Carousel.setCursor_run (c : Carousel) (k : Nat) : (c.setCursor k).run = c.run := by
  unfold Carousel.setCursor; split <;> rfl
@[simp] theorem Carousel.setCursor_group (c : Carousel) (k : Nat) : (c.setCursor k).group = c.group := by
  unfold Carousel.setCursor; split <;> rfl
@[simp] theorem Carousel.setCursor_content (c : Carousel) (k : Nat) : (c.setCursor k).content = c.content := by
  unfold Carousel.setCursor; split <;> rfl

/-- R126: the item selected stands in the list. -/
theorem examine_lt {items : List Item} {ns : List Nat} {fuel i step : Nat} {k st : Nat} {x : ShownItem}
    (h : examine items ns fuel i step = some (k, st, x)) : k < items.length := by
  induction fuel generalizing i step with
  | zero => cases h
  | succ n ih =>
    unfold examine at h
    split at h
    · cases h
    · rename_i hi
      cases h
      exact (List.getElem?_eq_some_iff.mp hi).1
    · rename_i hi
      cases h
      exact (List.getElem?_eq_some_iff.mp hi).1
    · rename_i hi
      split at h
      · cases h
        exact (List.getElem?_eq_some_iff.mp hi).1
      · exact ih h

theorem Carousel.CursorsOk.select {c : Carousel} (h : c.CursorsOk) (ns : List Nat) : (c.select ns).CursorsOk := by
  unfold Carousel.select
  split
  · rename_i he
    obtain ⟨hp, hs⟩ := h.setCursor (.inl (examine_lt he))
    exact ⟨hp, hs⟩
  · obtain ⟨hp, hs⟩ := h
    exact ⟨hp, hs⟩

@[simp] theorem Carousel.select_run (c : Carousel) (ns : List Nat) : (c.select ns).run = c.run := by
  unfold Carousel.select; split <;> simp
@[simp] theorem Carousel.select_group (c : Carousel) (ns : List Nat) : (c.select ns).group = c.group := by
  unfold Carousel.select; split <;> simp

@[simp] theorem Carousel.begin_run (c : Carousel) (ns : List Nat) : (c.begin ns).run = c.run := by
  unfold Carousel.begin Carousel.start; split <;> simp
@[simp] theorem Carousel.begin_group (c : Carousel) (ns : List Nat) : (c.begin ns).group = c.group := by
  unfold Carousel.begin Carousel.start; split <;> simp

/-- R126, R127: a cycle begins soundly on a carousel that is not STOPPED. -/
theorem Carousel.CursorsOk.begin {c : Carousel} (h : c.CursorsOk) (hr : c.run ≠ .stopped) (ns : List Nat) :
    (c.begin ns).Sound := by
  have hrun : (c.select ns).run ≠ .stopped := by simpa using hr
  obtain ⟨hp, hs⟩ := h.select ns
  rw [Carousel.sound_iff]
  unfold Carousel.begin Carousel.start
  split
  · exact ⟨⟨by simpa using hr, by simp, by simp⟩, ⟨hp, hs⟩⟩
  · exact ⟨⟨by simpa using hr, by simp, by simp⟩, ⟨hp, hs⟩⟩

/-- R129 steps 1 and 2: the pending values taken leave the run state and the group. -/
@[simp] theorem Carousel.applyPending_run (c : Carousel) : c.applyPeriods.applyContent.run = c.run := by
  unfold Carousel.applyContent; split <;> rfl
@[simp] theorem Carousel.applyPending_group (c : Carousel) : c.applyPeriods.applyContent.group = c.group := by
  unfold Carousel.applyContent; split <;> rfl

theorem Carousel.CursorsOk.applyPending {c : Carousel} (h : c.CursorsOk) : c.applyPeriods.applyContent.CursorsOk := by
  obtain ⟨hp, hs⟩ := h
  unfold Carousel.applyContent
  split
  · exact ⟨hp, hs⟩
  · exact ⟨.inr rfl, .inr rfl⟩

theorem Carousel.nextCursor_ok (c : Carousel) : c.nextCursor < c.items.length ∨ c.nextCursor = 0 := by
  unfold Carousel.nextCursor
  split
  · exact .inr rfl
  · rename_i hn
    exact .inl (Nat.mod_lt _ (List.length_pos_iff.mpr hn))

/-- R129 step 3: whether a NOTICES item has a next notice to show. -/
def Carousel.hasMore (c : Carousel) (ns : List Nat) : Bool :=
  match c.shown with
  | some (.notice _) => c.noticeStep + 1 < ns.length
  | _ => false

/-- R129 step 3: the notice step or the cursor moves on. -/
def Carousel.stepped (c : Carousel) (ns : List Nat) : Carousel :=
  if c.hasMore ns then { c with noticeStep := c.noticeStep + 1 } else { c.setCursor c.nextCursor with noticeStep := 0 }

theorem Carousel.advance_eq (c : Carousel) (ns : List Nat) :
    c.advance ns = if (c.stepped ns).content.mode = .alternate
      then { c.stepped ns with choice := (c.stepped ns).choice.other } else c.stepped ns := rfl

@[simp] theorem Carousel.stepped_run (c : Carousel) (ns : List Nat) : (c.stepped ns).run = c.run := by
  unfold Carousel.stepped; split <;> simp
@[simp] theorem Carousel.stepped_group (c : Carousel) (ns : List Nat) : (c.stepped ns).group = c.group := by
  unfold Carousel.stepped; split <;> simp

@[simp] theorem Carousel.advance_run (c : Carousel) (ns : List Nat) : (c.advance ns).run = c.run := by
  rw [Carousel.advance_eq]; split <;> simp
@[simp] theorem Carousel.advance_group (c : Carousel) (ns : List Nat) : (c.advance ns).group = c.group := by
  rw [Carousel.advance_eq]; split <;> simp

theorem Carousel.CursorsOk.stepped {c : Carousel} (h : c.CursorsOk) (ns : List Nat) : (c.stepped ns).CursorsOk := by
  obtain ⟨hp, hs⟩ := h.setCursor c.nextCursor_ok
  obtain ⟨hp', hs'⟩ := h
  unfold Carousel.stepped
  split
  · exact ⟨hp', hs'⟩
  · exact ⟨hp, hs⟩

theorem Carousel.CursorsOk.advance {c : Carousel} (h : c.CursorsOk) (ns : List Nat) : (c.advance ns).CursorsOk := by
  obtain ⟨hp, hs⟩ := h.stepped ns
  rw [Carousel.advance_eq]
  split <;> exact ⟨hp, hs⟩

/-! ### Cycle ends, restarts, and the directives of one carousel -/

/-- R129: after its pending values a carousel whose cycle ends moves on, unless its content is new. -/
def Carousel.moved (c : Carousel) (ns : List Nat) : Carousel :=
  if c.pendingContent.isSome then c.applyPeriods.applyContent else c.applyPeriods.applyContent.advance ns

theorem Carousel.endCycle_eq (c : Carousel) (ns : List Nat) :
    c.endCycle ns = if (c.moved ns).run = .stopping
      then { c.moved ns with run := .stopped, phase := none, remaining := none, shown := none }
      else (c.moved ns).begin ns := rfl

@[simp] theorem Carousel.moved_run (c : Carousel) (ns : List Nat) : (c.moved ns).run = c.run := by
  unfold Carousel.moved; split <;> simp
@[simp] theorem Carousel.moved_group (c : Carousel) (ns : List Nat) : (c.moved ns).group = c.group := by
  unfold Carousel.moved; split <;> simp

theorem Carousel.CursorsOk.moved {c : Carousel} (h : c.CursorsOk) (ns : List Nat) : (c.moved ns).CursorsOk := by
  unfold Carousel.moved
  split
  · exact h.applyPending
  · exact h.applyPending.advance ns

@[simp] theorem Carousel.endCycle_group (c : Carousel) (ns : List Nat) : (c.endCycle ns).group = c.group := by
  rw [Carousel.endCycle_eq]; split <;> simp

theorem Carousel.Sound.endCycle {c : Carousel} (h : c.Sound) (hr : c.run ≠ .stopped) (ns : List Nat) : (c.endCycle ns).Sound := by
  obtain ⟨-, hc⟩ := c.sound_iff.mp h
  have hm := hc.moved ns
  rw [Carousel.endCycle_eq]
  split
  · obtain ⟨hp, hs⟩ := hm
    exact (Carousel.sound_iff _).mpr ⟨⟨by simp, by simp, by simp⟩, ⟨hp, hs⟩⟩
  · exact hm.begin (by simpa using hr) ns

/-- R135: the place a leader's position has in a member's list. -/
theorem restartCursor_ok (items : List Item) (n : Nat) :
    (if items = [] then 0 else n % items.length) < items.length ∨ (if items = [] then 0 else n % items.length) = 0 := by
  split
  · exact .inr rfl
  · rename_i hn
    exact .inl (Nat.mod_lt _ (List.length_pos_iff.mpr hn))

@[simp] theorem Carousel.restartFrom_group (c l : Carousel) (ns : List Nat) : (c.restartFrom l ns).group = c.group := by
  simp [Carousel.restartFrom]

theorem Carousel.Sound.restartFrom {c : Carousel} (h : c.Sound) (hr : c.run ≠ .stopped) (l : Carousel) (ns : List Nat) :
    (c.restartFrom l ns).Sound := by
  obtain ⟨-, hc⟩ := c.sound_iff.mp h
  obtain ⟨hp, hs⟩ := hc.applyPending
  have hchoice : Carousel.CursorsOk { c.applyPeriods.applyContent with choice := l.choice } := ⟨hp, hs⟩
  obtain ⟨hp', hs'⟩ := hchoice.setCursor (restartCursor_ok _ l.cursor)
  unfold Carousel.restartFrom
  refine Carousel.CursorsOk.begin ?_ ?_ ns
  · exact ⟨hp', hs'⟩
  · simpa using hr

@[simp] theorem Carousel.turnOn_group (c : Carousel) (ns : List Nat) : (c.turnOn ns).group = c.group := by
  unfold Carousel.turnOn; split <;> simp

theorem Carousel.Sound.turnOn {c : Carousel} (h : c.Sound) (ns : List Nat) : (c.turnOn ns).Sound := by
  obtain ⟨hcycle, hc⟩ := c.sound_iff.mp h
  unfold Carousel.turnOn
  split
  · obtain ⟨hp, hs⟩ := hc.applyPending
    refine Carousel.CursorsOk.begin ?_ ?_ ns
    · exact ⟨hp, hs⟩
    · simp
  · rename_i hr
    obtain ⟨h1, h2, h3⟩ := hcycle
    obtain ⟨hp, hs⟩ := hc
    refine (Carousel.sound_iff _).mpr ⟨⟨?_, h2, h3⟩, ⟨hp, hs⟩⟩
    simpa [hr] using h1
  · exact h

@[simp] theorem Carousel.turnOff_group (c : Carousel) : c.turnOff.group = c.group := by
  unfold Carousel.turnOff; split <;> rfl

theorem Carousel.Sound.turnOff {c : Carousel} (h : c.Sound) : c.turnOff.Sound := by
  unfold Carousel.turnOff
  split
  · rename_i hr
    obtain ⟨⟨h1, h2, h3⟩, ⟨hp, hs⟩⟩ := c.sound_iff.mp h
    refine (Carousel.sound_iff _).mpr ⟨⟨?_, h2, h3⟩, ⟨hp, hs⟩⟩
    simpa [hr] using h1
  · exact h

@[simp] theorem Carousel.endMark_group (c : Carousel) : c.endMark.group = c.group := by
  unfold Carousel.endMark; split <;> rfl

theorem Carousel.Sound.endMark {c : Carousel} (h : c.Sound) : c.endMark.Sound := by
  unfold Carousel.endMark
  split
  · rename_i hd
    obtain ⟨⟨h1, h2, h3⟩, ⟨hp, hs⟩⟩ := c.sound_iff.mp h
    have hphase : c.phase = some .mark := by
      unfold Carousel.markDue at hd
      simp at hd
      exact hd.1.2
    refine (Carousel.sound_iff _).mpr ⟨⟨?_, by simp, by simp⟩, ⟨hp, hs⟩⟩
    simpa [hphase] using h1
  · exact h

@[simp] theorem Carousel.count_group (c : Carousel) : c.count.group = c.group := by
  unfold Carousel.count; split <;> rfl

theorem Carousel.Sound.count {c : Carousel} (h : c.Sound) : c.count.Sound := by
  unfold Carousel.count
  split
  · exact h
  · obtain ⟨⟨h1, h2, h3⟩, ⟨hp, hs⟩⟩ := c.sound_iff.mp h
    exact (Carousel.sound_iff _).mpr ⟨⟨h1, by simpa using h2, h3⟩, ⟨hp, hs⟩⟩

/-- R128: a carousel whose cycle end is due is not STOPPED. -/
theorem Carousel.Sound.running_of_endDue {c : Carousel} (h : c.Sound) (hd : c.endDue = true) : c.run ≠ .stopped := by
  obtain ⟨⟨h1, -, -⟩, -⟩ := c.sound_iff.mp h
  unfold Carousel.endDue at hd
  rw [ne_eq, h1]
  intro hn
  simp [hn] at hd

/-! ### The rotation unit -/

/-- The carousels change, each soundly and within its group. -/
theorem RotationUnit.Sound.withCarousels {r : RotationUnit} (h : r.Sound) {v : Vector Carousel 12}
    (hv : ∀ (k : Nat) (hk : k < 12), r.carousels[k].Sound → v[k].Sound ∧ v[k].group = r.carousels[k].group) :
    { r with carousels := v }.Sound := by
  obtain ⟨hc, hl⟩ := h
  rw [forall_mem_toList_iff] at hc
  refine ⟨(forall_mem_toList_iff _).mpr fun k hk => (hv k hk (hc k hk)).1, fun g hg c he => ?_⟩
  obtain ⟨hlt, hgroup⟩ := hl g hg c he
  exact ⟨hlt, (hv c hlt (hc c hlt)).2.trans hgroup⟩

theorem RotationUnit.Sound.carousel {r : RotationUnit} (h : r.Sound) (k : Nat) (hk : k < 12) : r.carousels[k].Sound :=
  (forall_mem_toList_iff _).mp h.1 k hk

/-- One carousel changes, soundly and within its group. -/
theorem RotationUnit.Sound.modify {r : RotationUnit} (h : r.Sound) (i : Nat) {f : Carousel → Carousel}
    (hf : ∀ c : Carousel, c.Sound → (f c).Sound) (hg : ∀ c : Carousel, (f c).group = c.group) :
    { r with carousels := modifyAt r.carousels i f }.Sound := by
  refine h.withCarousels fun k hk hs => ?_
  rw [modifyAt_getElem]
  split
  · exact ⟨hf _ hs, hg _⟩
  · exact ⟨hs, rfl⟩

theorem RotationUnit.Sound.restartMembers {r : RotationUnit} (h : r.Sound) (ns : List Notice) (l g : Nat) :
    (r.restartMembers ns l g).Sound := by
  unfold RotationUnit.restartMembers
  split
  · exact h
  · refine h.withCarousels fun k hk hs => ?_
    rw [Vector.getElem_mapFinIdx]
    split
    · rename_i hc
      obtain ⟨-, -, hrun⟩ := hc
      exact ⟨hs.restartFrom (by simp [hrun]) .., by simp⟩
    · exact ⟨hs, rfl⟩

theorem RotationUnit.Sound.cycleEnd {r : RotationUnit} (h : r.Sound) (ns : List Notice) (i : Nat) :
    (r.cycleEnd ns i).Sound := by
  unfold RotationUnit.cycleEnd
  split
  · exact h
  · rename_i c hc
    obtain ⟨hi, rfl⟩ := Vector.getElem?_eq_some_iff.mp hc
    split
    · rename_i hd
      have hend : ({ r with
          carousels := r.carousels.setIfInBounds i (r.carousels[i].endCycle (expansion ns i)) } : RotationUnit).Sound := by
        refine h.withCarousels fun k hk hs => ?_
        rw [Vector.getElem_setIfInBounds]
        split
        · rename_i he
          subst he
          exact ⟨hs.endCycle (hs.running_of_endDue hd) _, by simp⟩
        · exact ⟨hs, rfl⟩
      dsimp only
      split
      · split
        · exact hend.restartMembers ..
        · exact hend
      · exact hend
    · exact h

/-- R134 step 3: a group takes its members and its leader, who is one of them. -/
theorem RotationUnit.Sound.setGroup {r : RotationUnit} (h : r.Sound) (g : Nat) {leader : Option Nat} {members : List Nat}
    (hm : ∀ l, leader = some l → l ∈ members ∧ l < 12) : (r.setGroup g leader members).Sound := by
  have hgroup (k : Nat) (hk : k < 12) : (r.setGroup g leader members).carousels[k].group =
      if members.contains k then some g else if r.carousels[k].group = some g then none else r.carousels[k].group := by
    simp only [RotationUnit.setGroup, Vector.getElem_mapFinIdx]
    split
    · rfl
    · split <;> rfl
  refine ⟨(forall_mem_toList_iff _).mpr fun k hk => ?_, fun f hf c he => ?_⟩
  · have hs := h.carousel k hk
    simp only [RotationUnit.setGroup, Vector.getElem_mapFinIdx]
    split
    · exact hs
    · split <;> exact hs
  · simp only [RotationUnit.setGroup, Vector.getElem_mapFinIdx] at he
    split at he
    · rename_i hfg
      obtain ⟨hmem, hlt⟩ := hm c he
      refine ⟨hlt, ?_⟩
      rw [hgroup, if_pos (by simpa using hmem), hfg]
    · rename_i hfg
      split at he
      · rename_i d hd
        split at he
        · cases he
        · rename_i hn
          rw [hd] at he
          cases he
          obtain ⟨hlt, hold⟩ := h.2 f hf c hd
          refine ⟨hlt, ?_⟩
          rw [hgroup, if_neg hn, hold, if_neg (by simpa using hfg)]
      · cases he

/-! ### The rotation unit's commands -/

/-- What holds of the rotation unit holds after a command that does not touch it. -/
theorem State.Frame.rotation {ps : List Part} {s t : State} (k : s.Frame ps t) (h : s.rotation.Sound)
    (hp : .block .rotation ∉ ps := by simp) : t.rotation.Sound :=
  have e : s.rotation = t.rotation := k.same _ hp
  e ▸ h

theorem State.changeCarousels_sound {s : State} (h : s.rotation.Sound) (set : List Nat) {f : Nat → Carousel → Carousel}
    (hf : ∀ i (c : Carousel), c.Sound → (f i c).Sound) (hg : ∀ i c, (f i c).group = c.group) :
    (s.changeCarousels set f).rotation.Sound := by
  refine h.withCarousels fun k hk hs => ?_
  rw [Vector.getElem_mapFinIdx]
  split
  · exact ⟨hf _ _ hs, hg ..⟩
  · exact ⟨hs, rfl⟩

theorem setCarousel_rotationSound {s : State} (h : s.rotation.Sound) (c m : Nat) (a b : List Coded) :
    (setCarousel c m a b s).1.rotation.Sound := by
  unfold setCarousel
  split
  · exact h
  · split
    · exact h
    · exact h.modify _ (fun _ hs => hs) fun _ => rfl

theorem setPeriods_rotationSound {s : State} (h : s.rotation.Sound) (c : Nat) (a b x y : Option Nat) :
    (setPeriods c a b x y s).1.rotation.Sound := by
  unfold setPeriods
  dsimp only
  split
  · exact h.modify _ (fun _ hs => hs) fun _ => rfl
  · exact h

theorem setQuiet_rotationSound {s : State} (h : s.rotation.Sound) (set : List Nat) (v : Nat) :
    (setQuiet set v s).1.rotation.Sound := by
  unfold setQuiet
  split
  · exact State.changeCarousels_sound h set (fun _ _ hs => hs) fun _ _ => rfl
  · exact h

theorem carouselOn_rotationSound {s : State} (h : s.rotation.Sound) (set : List Nat) : (carouselOn set s).1.rotation.Sound := by
  unfold carouselOn
  split
  · exact State.changeCarousels_sound h set (fun _ _ hs => hs.turnOn _) fun _ c => c.turnOn_group _
  · exact h

theorem carouselOff_rotationSound {s : State} (h : s.rotation.Sound) (set : List Nat) :
    (carouselOff set s).1.rotation.Sound := by
  unfold carouselOff
  split
  · exact State.changeCarousels_sound h set (fun _ _ hs => hs.turnOff) fun _ c => c.turnOff_group
  · exact h

theorem setSyncGroup_rotationSound {s : State} (h : s.rotation.Sound) (g l : Nat) (ms : List Nat) :
    (setSyncGroup g l ms s).1.rotation.Sound := by
  unfold setSyncGroup
  split
  · exact h
  · rename_i hcheck
    split
    · split
      · exact h.setGroup g fun _ hl => nomatch hl
      · exact h
    · split
      · rename_i hmem
        obtain ⟨-, -, hle, -⟩ : g ≤ 3 ∧ (11 < l → l = 255) ∧ (∀ x ∈ ms, x ≤ 11) ∧ hasRepeat ms = false := by
          simpa using hcheck
        have hmem : l ∈ ms := by simpa using hmem
        refine RotationUnit.Sound.setGroup h g fun x hx => ?_
        cases hx
        exact ⟨hmem, Nat.lt_succ_of_le (hle l hmem)⟩
      · exact h

theorem execCarouselTenthTick_rotationSound {s : State} (h : s.rotation.Sound) :
    Result.Keeps (fun t => t.rotation.Sound) (execCarouselTenthTick s) := by
  refine .next ?_
  split
  · exact h
  · refine h.withCarousels fun k hk hs => ?_
    rw [mapAll_getElem]
    exact ⟨hs.count, Carousel.count_group _⟩

theorem execCueQuiet_rotationSound {s : State} (h : s.rotation.Sound) :
    Result.Keeps (fun t => t.rotation.Sound) (execCueQuiet s) := by
  refine .next ?_
  split
  · exact h
  · split
    · refine setQuiet_rotationSound ?_ ..
      exact h
    · exact h

theorem reset_rotationSound : State.reset.rotation.Sound := by
  refine ⟨(forall_mem_toList_iff _).mpr fun k hk => ?_, fun g hg c he => ?_⟩
  · simp [State.reset, RotationUnit.atReset, Carousel.sound_iff, Carousel.atReset]
    exact ⟨⟨by simp, by simp, by simp⟩, ⟨by simp, by simp⟩⟩
  · simp [State.reset, RotationUnit.atReset] at he

/-- R123, R126, R132, R134: every command keeps the carousels and the sync groups sound. -/
theorem exec_rotationSound (i : Instr) {s : State} (h : s.rotation.Sound) :
    Result.Keeps (fun t => t.rotation.Sound) (exec i s) := by
  have hmove : ∀ {s t : State}, s.Frame [.queues, .block .link] t → s.rotation.Sound → t.rotation.Sound :=
    fun hf hs => hf.rotation hs
  cases i with
  | answerSent p => exact execAnswerSent_preserves hmove (fun _ => reset_rotationSound) h p
  | fullReset => exact .next reset_rotationSound
  | setCarousel p => exact .next (State.takeAndAnswer_preserves hmove (fun _ _ hs => setCarousel_rotationSound hs ..) h)
  | setPeriods p => exact .next (State.takeAndAnswer_preserves hmove (fun _ _ hs => setPeriods_rotationSound hs ..) h)
  | setQuiet p => exact .next (State.takeAndAnswer_preserves hmove (fun _ _ hs => setQuiet_rotationSound hs ..) h)
  | carouselOn p => exact .next (State.takeAndAnswer_preserves hmove (fun set _ hs => carouselOn_rotationSound hs set) h)
  | carouselOff p => exact .next (State.takeAndAnswer_preserves hmove (fun set _ hs => carouselOff_rotationSound hs set) h)
  | setSyncGroup p => exact .next (State.takeAndAnswer_preserves hmove (fun _ _ hs => setSyncGroup_rotationSound hs ..) h)
  | carouselTenthTick => exact execCarouselTenthTick_rotationSound h
  | markEnd c => exact .next (h.modify c (fun _ hs => hs.endMark) fun c => c.endMark_group)
  | cycleEnd c => exact .next (h.cycleEnd _ c)
  | cueQuiet => exact execCueQuiet_rotationSound h
  | _ =>
    exact (exec_frame _ s).keeps fun t hf => hf.rotation h
      (by simp [Instr.touches, Instr.takes, Instr.queryKind, Instr.eventTouches, Instr.block])

end Sys2Proof.Machine

end

section
/-! SUPPORT. The ingest queue and the panel outputs keep their ranges. Settles O59. -/

namespace Sys2Proof.Machine

open Sys2Proof

/-! ### The ingest queue (R170) -/

theorem MemoryUnit.countIngest_ingestSound {m : MemoryUnit} (h : m.IngestSound) : m.countIngest.IngestSound := h

theorem MemoryUnit.changeStream_ingestSound {m : MemoryUnit} (h : m.IngestSound) (n : Nat) (f : Stream → Stream) :
    (m.changeStream n f).IngestSound := h

theorem MemoryUnit.putChannel_ingestSound {m : MemoryUnit} (h : m.IngestSound) (name : ChannelName) (c : Channel) :
    (m.putChannel name c).IngestSound := by
  cases name <;> exact h

theorem MemoryUnit.abandonFrame_ingestSound {m : MemoryUnit} (h : m.IngestSound) (n f : Nat) :
    (m.abandonFrame n f).IngestSound :=
  Nat.le_trans (List.length_filter_le ..) h

theorem MemoryUnit.abandonReception_ingestSound {m : MemoryUnit} (h : m.IngestSound) (n : Nat) :
    (m.abandonReception n).IngestSound := by
  unfold MemoryUnit.abandonReception
  split
  · exact h
  · split
    · exact h
    · exact abandonFrame_ingestSound h ..

/-- R170: a segment joins a queue that holds fewer than 4. -/
theorem MemoryUnit.accept_ingestSound {m : MemoryUnit} (h : m.IngestSound) (g : Segment) (r : Reception) :
    (m.accept g r).IngestSound := by
  unfold MemoryUnit.accept
  split
  · exact abandonFrame_ingestSound h ..
  · rename_i hroom
    have hjoin : ({ m with ingestQueue := m.ingestQueue ++ [g.write r.frameId] } : MemoryUnit).IngestSound := by
      unfold MemoryUnit.IngestSound
      simp
      omega
    dsimp only
    split
    · split
      · exact abandonFrame_ingestSound hjoin ..
      · exact hjoin
    · exact hjoin

theorem MemoryUnit.testSegment_ingestSound {m : MemoryUnit} (h : m.IngestSound) (g : Segment) :
    (m.testSegment g).IngestSound := by
  unfold MemoryUnit.testSegment
  split
  · exact h
  · split
    · exact h
    · split
      · exact accept_ingestSound h ..
      · exact abandonFrame_ingestSound h ..

theorem MemoryUnit.takeSegment_ingestSound {m : MemoryUnit} (h : m.IngestSound) (g : Segment) :
    (m.takeSegment g).IngestSound := by
  unfold MemoryUnit.takeSegment
  split
  · exact h
  · split
    · exact abandonReception_ingestSound h _
    · split
      · exact testSegment_ingestSound (changeStream_ingestSound (abandonReception_ingestSound h _) ..) g
      · exact testSegment_ingestSound h g

theorem MemoryUnit.halt_ingestSound {m : MemoryUnit} (h : m.IngestSound) : m.halt.IngestSound := by
  have hfold : ∀ (ws : List SegmentWrite) {m : MemoryUnit}, m.IngestSound →
      (ws.foldl (fun m w => m.abandonFrame w.stream w.frameId) m).IngestSound := fun ws => by
    induction ws with
    | nil => exact fun h => h
    | cons w ws ih => exact fun h => ih (abandonFrame_ingestSound h ..)
  exact hfold m.ingestQueue h

theorem MemoryUnit.fault_ingestSound {m : MemoryUnit} (h : m.IngestSound) (u : UnitInFlight) : (m.fault u).IngestSound := by
  unfold MemoryUnit.fault
  refine countIngest_ingestSound (halt_ingestSound ?_)
  split
  · exact h
  · split
    · exact abandonFrame_ingestSound h ..
    · exact h
    · exact h
    · exact h

theorem MemoryUnit.grantIngest_ingestSound {m : MemoryUnit} (h : m.IngestSound) : m.grantIngest.IngestSound := by
  unfold MemoryUnit.grantIngest
  split
  · exact h
  · rename_i w rest hq
    unfold MemoryUnit.IngestSound at h
    rw [hq] at h
    exact Nat.le_of_succ_le h

/-- What holds of the ingest queue holds after a command that does not touch the frame memory unit. -/
theorem State.Frame.ingest {ps : List Part} {s t : State} (k : s.Frame ps t) (h : s.memory.IngestSound)
    (hp : .block .memory ∉ ps := by simp) : t.memory.IngestSound :=
  have e : s.memory = t.memory := k.same _ hp
  e ▸ h

theorem State.giveWork_ingestSound {s : State} (h : s.memory.IngestSound) (name : ChannelName) (n : Nat) :
    (s.giveWork name n).memory.IngestSound :=
  MemoryUnit.putChannel_ingestSound h ..

theorem State.cancelWork_ingestSound {s : State} (h : s.memory.IngestSound) (name : ChannelName) :
    (s.cancelWork name).memory.IngestSound := by
  cases name <;> exact h

theorem State.reportWork_ingestSound {s : State} (h : s.memory.IngestSound) (name : ChannelName) (r : WorkReport) :
    (s.reportWork name r).memory.IngestSound := by
  cases name <;> exact h

theorem State.segmentWritten_ingestSound {s : State} (h : s.memory.IngestSound) (w : SegmentWrite) :
    (s.segmentWritten w).memory.IngestSound := by
  unfold State.segmentWritten
  dsimp only
  split <;> exact h

theorem State.unitDone_ingestSound {s : State} (h : s.memory.IngestSound) (name : ChannelName) :
    (s.unitDone name).memory.IngestSound := by
  have hput := MemoryUnit.putChannel_ingestSound h name (s.memory.channel name).lower
  unfold State.unitDone
  dsimp only
  split
  · refine State.reportWork_ingestSound ?_ ..
    split <;> exact hput
  · exact hput

theorem State.endFaulted_ingestSound {s : State} (h : s.memory.IngestSound) (name : ChannelName) :
    (s.endFaulted name).memory.IngestSound := by
  unfold State.endFaulted
  dsimp only
  split
  · refine MemoryUnit.putChannel_ingestSound ?_ ..
    split
    · exact State.reportWork_ingestSound h ..
    · exact h
  · exact h

theorem State.resumeChannels_ingestSound {s : State} (h : s.memory.IngestSound) : s.resumeChannels.memory.IngestSound :=
  State.endFaulted_ingestSound (State.endFaulted_ingestSound (State.endFaulted_ingestSound h .ingest) .compose) .render

theorem State.restartMemory_ingestSound (s : State) : s.restartMemory.memory.IngestSound := Nat.zero_le 4

/-! ### The commands that touch the frame memory unit -/

theorem execPieceWriteStart_ingestSound {s : State} (h : s.memory.IngestSound) :
    Result.Keeps (fun t => t.memory.IngestSound) (execPieceWriteStart s) := by
  refine .next ?_
  split
  · exact State.giveWork_ingestSound h ..
  · exact h

theorem execRenderJobStart_ingestSound {s : State} (h : s.memory.IngestSound) :
    Result.Keeps (fun t => t.memory.IngestSound) (execRenderJobStart s) := by
  refine .next ?_
  split
  · split
    · split
      · exact State.giveWork_ingestSound h ..
      · exact h
    · exact h
  · exact h

theorem execRenderRestart_ingestSound {s : State} (h : s.memory.IngestSound) :
    Result.Keeps (fun t => t.memory.IngestSound) (execRenderRestart s) := by
  refine .next ?_
  split
  · exact h
  · unfold State.cancelRender
    dsimp only
    split <;> exact State.cancelWork_ingestSound h ..

theorem execComposeJobStart_ingestSound {s : State} (h : s.memory.IngestSound) :
    Result.Keeps (fun t => t.memory.IngestSound) (execComposeJobStart s) := by
  refine .next ?_
  split
  · split
    · split
      · exact h
      · split
        · exact h
        · exact State.giveWork_ingestSound h ..
    · exact h
  · exact h

theorem execComposerRestart_ingestSound {s : State} (h : s.memory.IngestSound) :
    Result.Keeps (fun t => t.memory.IngestSound) (execComposerRestart s) := by
  refine .next ?_
  split
  · exact h
  · unfold State.restartComposer
    dsimp only
    split <;> exact State.cancelWork_ingestSound h ..

theorem execPinRequest_ingestSound {s : State} (h : s.memory.IngestSound) :
    Result.Keeps (fun t => t.memory.IngestSound) (execPinRequest s) := by
  refine .next ?_
  split <;> exact h

theorem execPinRelease_ingestSound {s : State} (h : s.memory.IngestSound) :
    Result.Keeps (fun t => t.memory.IngestSound) (execPinRelease s) := by
  refine .next ?_
  split <;> exact h

theorem execSegment_ingestSound {s : State} (h : s.memory.IngestSound) :
    Result.Keeps (fun t => t.memory.IngestSound) (execSegment s) := by
  refine .next ?_
  split
  · exact h
  · dsimp only
    split
    · exact h
    · exact MemoryUnit.takeSegment_ingestSound h _

theorem execUnitGrant_ingestSound {s : State} (h : s.memory.IngestSound) :
    Result.Keeps (fun t => t.memory.IngestSound) (execUnitGrant s) := by
  refine .next ?_
  split
  · exact h
  · split
    · exact MemoryUnit.grantIngest_ingestSound h
    · split
      · split
        · exact h
        · exact MemoryUnit.putChannel_ingestSound h ..
      · split
        · exact MemoryUnit.putChannel_ingestSound h ..
        · exact h

theorem execTransferUnitComplete_ingestSound {s : State} (h : s.memory.IngestSound) :
    Result.Keeps (fun t => t.memory.IngestSound) (execTransferUnitComplete s) := by
  refine .next ?_
  split
  · exact h
  · dsimp only
    split
    · exact h
    · split
      · split
        · exact h
        · refine State.segmentWritten_ingestSound ?_ _
          exact h
      · exact h
      · refine State.unitDone_ingestSound ?_ _
        exact h
      · refine State.unitDone_ingestSound ?_ _
        exact h

theorem execUnitFault_ingestSound {s : State} (h : s.memory.IngestSound) :
    Result.Keeps (fun t => t.memory.IngestSound) (execUnitFault s) := by
  refine .next ?_
  split
  · exact h
  · exact MemoryUnit.fault_ingestSound h _

theorem execResume_ingestSound {s : State} (h : s.memory.IngestSound) :
    Result.Keeps (fun t => t.memory.IngestSound) (execResume s) := by
  refine .next ?_
  split
  · refine State.resumeChannels_ingestSound ?_
    exact h
  · exact h

theorem execStreamWatch_ingestSound {s : State} (h : s.memory.IngestSound) :
    Result.Keeps (fun t => t.memory.IngestSound) (execStreamWatch s) := by
  refine .next ?_
  split
  · exact h
  · refine State.Frame.ingest (State.Frame.foldl (ps := []) (fun _ _ => State.sendCondition_frame ..) ..) ?_
    exact h

theorem execFrameMemoryRestart_ingestSound {s : State} (h : s.memory.IngestSound) :
    Result.Keeps (fun t => t.memory.IngestSound) (execFrameMemoryRestart s) := by
  refine .next ?_
  split
  · exact State.restartMemory_ingestSound _
  · exact h

theorem reset_ingestSound : State.reset.memory.IngestSound := Nat.zero_le 4

/-- R170: every command keeps the ingest queue within its capacity. -/
theorem exec_ingestSound (i : Instr) {s : State} (h : s.memory.IngestSound) :
    Result.Keeps (fun t => t.memory.IngestSound) (exec i s) := by
  have hmove : ∀ {s t : State}, s.Frame [.queues, .block .link] t → s.memory.IngestSound → t.memory.IngestSound :=
    fun hf hs => hf.ingest hs
  cases i with
  | answerSent p => exact execAnswerSent_preserves hmove (fun _ => reset_ingestSound) h p
  | fullReset => exact .next reset_ingestSound
  | pieceWriteStart => exact execPieceWriteStart_ingestSound h
  | renderJobStart => exact execRenderJobStart_ingestSound h
  | renderRestart => exact execRenderRestart_ingestSound h
  | composeJobStart => exact execComposeJobStart_ingestSound h
  | composerRestart => exact execComposerRestart_ingestSound h
  | pinRequest => exact execPinRequest_ingestSound h
  | pinRelease => exact execPinRelease_ingestSound h
  | segment => exact execSegment_ingestSound h
  | unitGrant => exact execUnitGrant_ingestSound h
  | transferUnitComplete => exact execTransferUnitComplete_ingestSound h
  | unitFault => exact execUnitFault_ingestSound h
  | resume => exact execResume_ingestSound h
  | streamWatch => exact execStreamWatch_ingestSound h
  | frameMemoryRestart => exact execFrameMemoryRestart_ingestSound h
  | _ =>
    exact (exec_frame _ s).keeps fun t hf => hf.ingest h
      (by simp [Instr.touches, Instr.takes, Instr.queryKind, Instr.eventTouches, Instr.block])

/-! ### The panel outputs (R176 to R178) -/

theorem Output.Sound.raiseLink {o : Output} (h : o.Sound) : o.raiseLink.Sound := by
  obtain ⟨-, h1, h2, h3, -⟩ := h
  exact ⟨rfl, h1, h2, h3, fun hl => nomatch hl⟩

theorem Output.Sound.dropLink {o : Output} (h : o.Sound) : o.dropLink.Sound := by
  obtain ⟨-, h1, h2, h3, hlost⟩ := h
  refine ⟨rfl, h1, h2, h3, fun hl => ⟨rfl, ?_⟩⟩
  show o.standby = false
  cases hs : o.standby with
  | false => rfl
  | true =>
    have hl : o.lost = true := by simpa [Output.dropLink, hs] using hl
    rw [← hs]
    exact (hlost hl).2

theorem Output.Sound.standBy {o : Output} (h : o.Sound) : o.standBy.Sound := by
  obtain ⟨hstate, h1, h2, -, -⟩ := h
  refine ⟨?_, h1, h2, Nat.zero_le _, fun hl => nomatch hl⟩
  cases hu : o.linkUp <;> cases hs : o.standby <;> simp [Output.standBy, hstate, hu, hs]

theorem Output.Sound.wake {o : Output} (h : o.Sound) : o.wake.Sound := by
  obtain ⟨hstate, h1, h2, -, hlost⟩ := h
  refine ⟨?_, h1, h2, h1, fun hl => ⟨(hlost hl).1, rfl⟩⟩
  cases hu : o.linkUp <;> cases hs : o.standby <;> simp [Output.wake, hstate, hu, hs]

theorem Output.Sound.setBrightness {o : Output} (h : o.Sound) {n : Nat} (hn : n ≤ 15) : (o.setBrightness n).Sound := by
  obtain ⟨hstate, -, h2, h3, hlost⟩ := h
  refine ⟨hstate, hn, h2, ?_, hlost⟩
  unfold Output.setBrightness
  dsimp only
  split
  · exact h3
  · exact hn

theorem Output.Sound.setPanel {o : Output} (h : o.Sound) (rate : Nat) (x : Orientation) : (o.setPanel rate x).Sound := h

theorem Output.Sound.stepLevel {o : Output} (h : o.Sound) : o.stepLevel.Sound := by
  obtain ⟨hstate, h1, h2, h3, hlost⟩ := h
  refine ⟨hstate, h1, ?_, h3, hlost⟩
  unfold Output.stepLevel
  dsimp only
  split
  · omega
  · split <;> omega

theorem State.Frame.output {ps : List Part} {s t : State} (k : s.Frame ps t) (h : s.output.Sound)
    (hp : .block .output ∉ ps := by simp) : t.output.Sound :=
  have e : s.output = t.output := k.same _ hp
  e ▸ h

theorem OutputUnit.Sound.set {v : Vector Output 12} (h : OutputUnit.Sound ⟨v⟩) (p : Nat) {o : Output} (ho : o.Sound) :
    OutputUnit.Sound ⟨v.setIfInBounds p o⟩ := by
  unfold OutputUnit.Sound at h ⊢
  rw [forall_mem_toList_iff] at h ⊢
  intro k hk
  rw [Vector.getElem_setIfInBounds]
  split
  · exact ho
  · exact h k hk

/-- The output records after one of them has changed; what is sent does not matter to them. -/
theorem State.changeOutput_output (s : State) (p : Nat) (f : Output → Output) :
    (s.changeOutput p f).output
      = match s.output.panels[p]? with | none => s.output | some o => ⟨s.output.panels.setIfInBounds p (f o)⟩ := by
  cases h : s.output.panels[p]? with
  | none => simp [State.changeOutput, h]
  | some o =>
    simp only [State.changeOutput, h, apply_ite State.output, State.sendCondition_output, State.sendPanelEvent_output, ite_self]

theorem State.changeOutput_sound {s : State} (h : s.output.Sound) (p : Nat) {f : Output → Output}
    (hf : ∀ o : Output, o.Sound → (f o).Sound) : (s.changeOutput p f).output.Sound := by
  rw [State.changeOutput_output]
  split
  · exact h
  · rename_i old hold
    obtain ⟨hp, rfl⟩ := Vector.getElem?_eq_some_iff.mp hold
    exact OutputUnit.Sound.set h p (hf _ ((forall_mem_toList_iff _).mp h p hp))

theorem State.changeOutputs_sound {f : Output → Output} (hf : ∀ o : Output, o.Sound → (f o).Sound) (set : List Nat) {s : State}
    (h : s.output.Sound) : (s.changeOutputs set f).output.Sound := by
  unfold State.changeOutputs
  induction set generalizing s with
  | nil => exact h
  | cons p set ih => exact ih (State.changeOutput_sound h p hf)

theorem panelStandby_outputSound {s : State} (h : s.output.Sound) (set : List Nat) : (panelStandby set s).1.output.Sound := by
  unfold panelStandby
  split
  · exact State.changeOutputs_sound (fun _ ho => ho.standBy) set h
  · exact h

theorem wakePanels_outputSound {s : State} (h : s.output.Sound) (set : List Nat) : (wakePanels set s).1.output.Sound := by
  unfold wakePanels
  split
  · exact State.changeOutputs_sound (fun _ ho => ho.wake) set h
  · exact h

theorem setBrightness_outputSound {s : State} (h : s.output.Sound) (n : Nat) (set : List Nat) :
    (setBrightness n set s).1.output.Sound := by
  unfold Machine.setBrightness
  split
  · rename_i hc
    obtain ⟨hn, -⟩ : n ≤ 15 ∧ validSet set = true := by simpa using hc
    exact State.changeOutputs_sound (fun _ ho => ho.setBrightness hn) set h
  · exact h

theorem setPanel_outputSound {s : State} (h : s.output.Sound) (n r o : Nat) : (setPanel n r o s).1.output.Sound := by
  unfold Machine.setPanel
  split
  · exact h
  · split
    · exact State.changeOutput_sound h _ fun _ ho => ho.setPanel ..
    · exact h

theorem State.takeOutputCue_outputSound {s : State} (h : s.output.Sound) {act : OutputCue → Option (State → State × Reply)}
    (hact : ∀ e f, act e = some f → ∀ t : State, t.output.Sound → (f t).1.output.Sound) : (s.takeOutputCue act).output.Sound := by
  unfold State.takeOutputCue
  split
  · exact h
  · split
    · exact h
    · rename_i he
      exact hact _ _ he _ h

theorem execCueStandby_outputSound {s : State} (h : s.output.Sound) :
    Result.Keeps (fun t => t.output.Sound) (execCueStandby s) := by
  refine .next (State.takeOutputCue_outputSound h fun e f hf t ht => ?_)
  split at hf
  · cases hf; exact panelStandby_outputSound ht _
  · cases hf

theorem execCueWake_outputSound {s : State} (h : s.output.Sound) :
    Result.Keeps (fun t => t.output.Sound) (execCueWake s) := by
  refine .next (State.takeOutputCue_outputSound h fun e f hf t ht => ?_)
  split at hf
  · cases hf; exact wakePanels_outputSound ht _
  · cases hf

theorem execCueBrightness_outputSound {s : State} (h : s.output.Sound) :
    Result.Keeps (fun t => t.output.Sound) (execCueBrightness s) := by
  refine .next (State.takeOutputCue_outputSound h fun e f hf t ht => ?_)
  split at hf
  · cases hf; exact setBrightness_outputSound ht _ _
  · cases hf

theorem execPanelFrameSlot_outputSound {s : State} (h : s.output.Sound) (p : Nat) :
    Result.Keeps (fun t => t.output.Sound) (execPanelFrameSlot p s) := by
  refine .next ?_
  split
  · exact h
  · split <;> exact h

theorem execBacklightStep_outputSound {s : State} (h : s.output.Sound) :
    Result.Keeps (fun t => t.output.Sound) (execBacklightStep s) := by
  refine .next ?_
  split
  · exact h
  · exact forall_mapAll h fun _ ho => ho.stepLevel

theorem reset_outputSound : State.reset.output.Sound := by
  intro o ho
  obtain rfl : o = .atReset := by simpa [State.reset, OutputUnit.atReset] using ho
  exact ⟨rfl, by decide, by decide, by decide, fun hl => nomatch hl⟩

/-- R176: every command keeps the output records sound. -/
theorem exec_outputSound (i : Instr) {s : State} (h : s.output.Sound) :
    Result.Keeps (fun t => t.output.Sound) (exec i s) := by
  have hmove : ∀ {s t : State}, s.Frame [.queues, .block .link] t → s.output.Sound → t.output.Sound :=
    fun hf hs => hf.output hs
  cases i with
  | answerSent p => exact execAnswerSent_preserves hmove (fun _ => reset_outputSound) h p
  | fullReset => exact .next reset_outputSound
  | linkUp p => exact .next (State.changeOutput_sound h p fun _ ho => ho.raiseLink)
  | linkDown p => exact .next (State.changeOutput_sound h p fun _ ho => ho.dropLink)
  | panelFrameSlot p => exact execPanelFrameSlot_outputSound h p
  | panelStandby p => exact .next (State.takeAndAnswer_preserves hmove (fun set _ hs => panelStandby_outputSound hs set) h)
  | wake p => exact .next (State.takeAndAnswer_preserves hmove (fun set _ hs => wakePanels_outputSound hs set) h)
  | setBrightness p => exact .next (State.takeAndAnswer_preserves hmove (fun _ _ hs => setBrightness_outputSound hs _ _) h)
  | setPanel p => exact .next (State.takeAndAnswer_preserves hmove (fun _ _ hs => setPanel_outputSound hs _ _ _) h)
  | cueStandby => exact execCueStandby_outputSound h
  | cueWake => exact execCueWake_outputSound h
  | cueBrightness => exact execCueBrightness_outputSound h
  | backlightStep => exact execBacklightStep_outputSound h
  | _ =>
    exact (exec_frame _ s).keeps fun t hf => hf.output h
      (by simp [Instr.touches, Instr.takes, Instr.queryKind, Instr.eventTouches, Instr.block])

/-- Settles O59: each range is an invariant of every command, and so of every step. -/
theorem rangesAreKept : Obligations.RangesAreKept :=
  ⟨fun _ _ h hs => step_keeps (fun _ _ h => h) (fun i _ h => exec_clockSound i h) h hs,
    fun _ _ h hs => step_keeps (P := fun t => t.rotation.Sound) (fun _ _ h => h) (fun i _ h => exec_rotationSound i h) h hs,
    fun _ _ h hs => step_keeps (P := fun t => t.memory.IngestSound) (fun _ _ h => h) (fun i _ h => exec_ingestSound i h) h hs,
    fun _ _ h hs => step_keeps (P := fun t => t.output.Sound) (fun _ _ h => h) (fun i _ h => exec_outputSound i h) h hs⟩

end Sys2Proof.Machine

end

section
/-! SUPPORT. Settles O60: right after power-on every table is empty or uniform, and every invariant holds. -/

namespace Sys2Proof.Machine

open Sys2Proof

/-- R62: the screening table is empty. -/
theorem reset_scheduleSound : State.reset.schedule.Sound := ⟨.nil, Nat.zero_le _, fun _ hr => nomatch hr⟩

/-- R86: there are no tallies and no holds. -/
theorem reset_seatSound : State.reset.seat.Sound := by
  refine ⟨.nil, ?_, ?_, ?_, ⟨Nat.zero_le _, .nil, .nil⟩, ?_, rfl⟩
  · exact fun _ hh => absurd hh List.not_mem_nil
  · exact fun _ ht => absurd ht List.not_mem_nil
  · exact fun _ ht => absurd ht List.not_mem_nil
  · exact fun _ ht => absurd ht List.not_mem_nil

/-- R106: every board is undefined. -/
theorem reset_builderSound : State.reset.builder.Sound := by
  intro b hb
  obtain rfl : b = ⟨none, [], 0, none⟩ := by simpa [State.reset, BuilderUnit.atReset] using hb
  exact ⟨rfl, rfl, rfl⟩

/-- R122: there are no notices, and every urgent list is empty. -/
theorem reset_noticeSound : State.reset.notice.Sound := by
  refine ⟨.nil, .nil, fun _ hy => absurd hy List.not_mem_nil, fun p hp => ?_⟩
  have hu : State.reset.notice.urgent[p] = ⟨[], none, none⟩ := by simp [State.reset, NoticeUnit.atReset]
  rw [hu]
  exact ⟨Nat.zero_le _, .nil, fun n => ⟨fun hn => (nomatch hn), fun ⟨_, hy, _⟩ => absurd hy List.not_mem_nil⟩, rfl, rfl⟩

/-- R155: every tile is EMPTY. -/
theorem reset_tile_state {t : Nat} {x : Tile} (h : State.reset.render.tiles[t]? = some x) : x.state = .empty := by
  obtain ⟨ht, rfl⟩ := Vector.getElem?_eq_some_iff.mp h
  have hall : ∀ y ∈ tilesAtReset.toList, y.state = .empty := by
    intro y hy
    simp only [tilesAtReset, Vector.toList_append, Vector.toList_replicate, List.mem_append, List.mem_replicate] at hy
    obtain ((⟨-, rfl⟩ | ⟨-, rfl⟩) | ⟨-, rfl⟩) | ⟨-, rfl⟩ := hy <;> rfl
  exact (forall_mem_toList_iff _).mp hall t ht

/-- R155: no tile waits, and the engine is idle. -/
theorem reset_renderSound : State.reset.render.Sound := by
  have hqueued {t : Nat} {l : Lane} : ¬∃ x, State.reset.render.tiles[t]? = some x ∧ x.state = .queued ∧ x.lane = l := by
    rintro ⟨x, hx, hq, -⟩
    rw [reset_tile_state hx] at hq
    cases hq
  exact ⟨.nil, fun t => ⟨fun ht => (nomatch ht), fun h => absurd h hqueued⟩,
    fun t => ⟨fun ht => (nomatch ht), fun h => absurd h hqueued⟩, fun t x hx _ _ => reset_tile_state hx,
    fun t x hx _ => .inl (reset_tile_state hx), fun w hw => (nomatch hw), fun w hw => (nomatch hw), fun j hj => (nomatch hj)⟩

/-- R168: every buffer is FREE, and no frame is asked for. -/
theorem reset_composerSound : State.reset.composer.Sound := by
  refine ⟨fun p hp => ?_, .nil, fun _ hq => nomatch hq⟩
  have hpanel : State.reset.composer.panels[p] = .atReset := by simp [State.reset, ComposerUnit.atReset]
  have hidle : State.reset.composer.engine = none := rfl
  have hqueue : State.reset.composer.queue = [] := rfl
  rw [hpanel]
  simp [ComposerUnit.PanelSound, ComposerUnit.writes, hidle, hqueue, Panel.atReset, Buffer.atReset]

/-- R180: a stream's first store is RECEIVING, the others are FREE, and none is pinned. -/
theorem atReset_storesSound : Stream.atReset.StoresSound := by
  refine ⟨rfl, Nat.zero_le _, Nat.zero_le _, fun y hy => ?_⟩
  obtain rfl | rfl : y = .atReset .receiving ∨ y = .atReset .free := by
    simpa [Stream.atReset, storesAtReset] using hy
  all_goals exact ⟨fun hp => (nomatch hp), fun hr => (nomatch hr)⟩

theorem reset_storesSound : State.reset.StoresSound := by
  refine ⟨fun x hx => ?_, trivial, fun _ => ⟨.inl rfl, fun _ => ?_⟩⟩
  · obtain rfl : x = .atReset := by simpa [State.reset, MemoryUnit.atReset] using hx
    exact atReset_storesSound
  · have hnone (n : Nat) : State.reset.memory.pinnedStore n = none := by
      unfold MemoryUnit.pinnedStore
      split
      · rfl
      · rename_i x hx
        obtain ⟨hn, rfl⟩ := Vector.getElem?_eq_some_iff.mp hx
        simp [State.reset, MemoryUnit.atReset, Stream.atReset, storesAtReset, Store.atReset]
    simp [MemoryUnit.pinnedStreams, hnone]

/-- Settles O60. -/
theorem powerOnIsSound : Obligations.PowerOnIsSound :=
  ⟨reset_queuesSound, reset_clockSound, reset_scheduleSound, reset_seatSound, reset_builderSound, reset_noticeSound,
    reset_rotationSound, reset_renderSound, reset_composerSound, reset_storesSound, reset_ingestSound, reset_outputSound⟩

end Sys2Proof.Machine

end

section
/-! SUPPORT. Settles O4: a QUERY's answer is the record as it stands. -/

namespace Sys2Proof.Machine

open Sys2Proof

/-- R12: no record tells of a handoff queue, so that taking the QUERY off its queue does not change its answer. -/
theorem queryAnswer_putHandoff (kind key : Nat) (s : State) (u : Block) (p : Port) (q : List Packet) :
    queryAnswer kind key (s.putHandoff u p q) = queryAnswer kind key s := by
  unfold queryAnswer
  split <;> rfl

/-- R12: a QUERY that may be taken is answered from the record; on the desk port, within 253 bytes. -/
theorem exec_query_of_takes {i : Instr} {s t : State} {p : Port} {accepts : Directive → Bool} {kind key : Nat} {q : Packet}
    (hi : i.takes = some (p, accepts)) (hk : i.queryKind = some kind) (h : s.Takes i.block p q (.query kind key) t) :
    exec i s = .next (t.issue p (q.answer ((queryAnswer kind key s).limited p))) := by
  obtain ⟨-, -, -, -, -, ht⟩ := id h
  have hanswer : queryAnswer kind key t = queryAnswer kind key s := by rw [ht, queryAnswer_putHandoff]
  rw [exec_eq_takeQuery hi hk, State.takeQuery_of_takes h, hanswer]

theorem getElem?_of_le {α : Type} {n k : Nat} (v : Vector α n) (h : n ≤ k) : v[k]? = none := by
  simpa using h

/-- R12: a key outside its range. -/
theorem queryAnswer_outOfRange (s : State) (kind key : Nat)
    (h : (kind = 1 ∧ 127 < key) ∨ ((kind = 2 ∨ kind = 4 ∨ kind = 5) ∧ key = 0) ∨ (kind = 7 ∧ 7 < key)
      ∨ (kind = 8 ∧ (key = 0 ∨ 255 < key)) ∨ (kind = 11 ∧ 15 < key)
      ∨ ((kind = 9 ∨ kind = 12 ∨ kind = 16 ∨ kind = 17) ∧ 11 < key) ∨ ((kind = 13 ∨ kind = 18) ∧ 3 < key)
      ∨ (kind = 14 ∧ 255 < key) ∨ (kind = 15 ∧ 31 < key)) : queryAnswer kind key s = ⟨.outOfRange, []⟩ := by
  obtain ⟨rfl, hk⟩ | ⟨rfl | rfl | rfl, rfl⟩ | ⟨rfl, hk⟩ | ⟨rfl, hk⟩ | ⟨rfl, hk⟩ | ⟨rfl | rfl | rfl | rfl, hk⟩
    | ⟨rfl | rfl, hk⟩ | ⟨rfl, hk⟩ | ⟨rfl, hk⟩ := h
  · simp [queryAnswer, titleReply, getElem?_of_le s.schedule.titles hk]
  · rfl
  · rfl
  · rfl
  · simp [queryAnswer, boardReply, getElem?_of_le s.builder.boards hk]
  · simp [queryAnswer, noticeReply, hk]
  · simp [queryAnswer, cueReply, getElem?_of_le s.clock.cues hk]
  · simp [queryAnswer, urgentReply, getElem?_of_le s.notice.urgent hk]
  · simp [queryAnswer, carouselReply, getElem?_of_le s.rotation.carousels hk]
  · simp [queryAnswer, panelReply, getElem?_of_le s.composer.panels hk]
  · simp [queryAnswer, outputReply, getElem?_of_le s.output.panels hk]
  · simp [queryAnswer, syncGroupReply, getElem?_of_le s.rotation.leaders hk]
  · simp [queryAnswer, streamReply, getElem?_of_le s.memory.streams hk]
  · simp [queryAnswer, tileReply, getElem?_of_le s.render.tiles hk]
  · simp [queryAnswer, layoutReply, getElem?_of_le s.composer.layouts hk]

/-- R12: a key whose record is not present. -/
theorem queryAnswer_noSuch (s : State) (kind key : Nat)
    (h : (kind = 1 ∧ s.schedule.titles[key]? = some none) ∨ (kind = 2 ∧ 0 < key ∧ ∀ r ∈ s.schedule.table, r.number ≠ key)
      ∨ (kind = 4 ∧ 0 < key ∧ ∀ x ∈ s.seat.tallies, x.number ≠ key) ∨ (kind = 5 ∧ 0 < key ∧ ∀ h ∈ s.seat.holds, h.id ≠ key)
      ∨ (kind = 7 ∧ ∃ b, s.builder.boards[key]? = some b ∧ b.defn = none)
      ∨ (kind = 8 ∧ 1 ≤ key ∧ key ≤ 255 ∧ ∀ x ∈ s.notice.notices, x.number ≠ key)
      ∨ (kind = 11 ∧ s.clock.cues[key]? = some none) ∨ (kind = 15 ∧ s.composer.layouts[key]? = some none)) :
    queryAnswer kind key s = ⟨.noSuch, []⟩ := by
  obtain ⟨rfl, hk⟩ | ⟨rfl, hk, hn⟩ | ⟨rfl, hk, hn⟩ | ⟨rfl, hk, hn⟩ | ⟨rfl, b, hb, hd⟩ | ⟨rfl, hk, hk', hn⟩ | ⟨rfl, hk⟩
    | ⟨rfl, hk⟩ := h
  · simp [queryAnswer, titleReply, hk]
  · have hf : findScreening s.schedule.table key = none := by simpa [findScreening] using hn
    simp [queryAnswer, screeningReply, Nat.ne_of_gt hk, hf]
  · have hf : findTally s.seat.tallies key = none := by simpa [findTally] using hn
    simp [queryAnswer, tallyReply, Nat.ne_of_gt hk, hf]
  · have hf : findHold s.seat.holds key = none := by simpa [findHold] using hn
    simp [queryAnswer, holdReply, Nat.ne_of_gt hk, hf]
  · simp [queryAnswer, boardReply, hb, hd]
  · have hf : findNotice s.notice.notices key = none := by simpa [findNotice] using hn
    simp [queryAnswer, noticeReply, Nat.ne_of_gt hk, Nat.not_lt.mpr hk', hf]
  · simp [queryAnswer, cueReply, hk]
  · simp [queryAnswer, layoutReply, hk]

/-- R138: the set of a sync group's carousels. -/
theorem RotationUnit.groupMembers_eq (r : RotationUnit) (g : Nat) :
    r.groupMembers g = (List.range 12).filter fun i => (r.carousels[i]?.map Carousel.group) == some (some g) := by
  refine List.filter_congr fun i _ => ?_
  cases r.carousels[i]? with
  | none => rfl
  | some c => exact (Bool.beq_eq_decide_eq ..).symm

/-- Settles O4: the record of each kind, field by field, and the bytes that carry the fields. -/
theorem queriesAnswerFromTheRecord : Obligations.QueriesAnswerFromTheRecord := by
  refine ⟨fun i s p accepts kind key q t hi hk h => exec_query_of_takes hi hk h, queryAnswer_outOfRange, queryAnswer_noSuch,
    fun s key => ⟨?_, ?_, rfl, ?_, ?_, rfl, ?_, ?_, ?_, rfl, ?_, ?_, ?_, ?_, ?_, ?_, ?_, ?_, ?_, ?_, ?_⟩⟩
  · intro x hx
    simp [queryAnswer, titleReply, hx, Title.record]
  · intro r hk hr
    simp [queryAnswer, screeningReply, Nat.ne_of_gt hk, hr, Screening.record]
  · intro x hk hx
    simp [queryAnswer, tallyReply, Nat.ne_of_gt hk, hx, Tally.record]
  · intro x hk hx
    simp [queryAnswer, holdReply, Nat.ne_of_gt hk, hx, Hold.record]
  · intro b d hb hd
    simp [queryAnswer, boardReply, hb, hd, Board.record, BoardDef.record]
  · intro x hk hk' hx
    simp [queryAnswer, noticeReply, Nat.ne_of_gt hk, Nat.not_lt.mpr hk', hx, Notice.record]
  · intro x hx
    simp [queryAnswer, urgentReply, hx]
  · intro x hx
    simp only [queryAnswer, cueReply, hx, Cue.record]
    cases x.action with
    | quiet on cs => cases on <;> rfl
    | _ => rfl
  · intro c hc
    simp only [queryAnswer, carouselReply, hc]
    rfl
  · intro x hx
    simp only [queryAnswer, syncGroupReply, hx, RotationUnit.groupMembers_eq]
  · intro x hx
    simp only [queryAnswer, tileReply, hx]
    rfl
  · intro x hx
    simp only [queryAnswer, layoutReply, hx, Layout.record, put1, List.append_assoc, List.singleton_append]
  · intro x hx
    simp only [queryAnswer, panelReply, hx, Panel.record, Buffer.record, List.append_assoc]
  · intro x hx
    simp only [queryAnswer, outputReply, hx]
    rfl
  · intro x hx
    simp only [queryAnswer, streamReply, hx, Stream.record]
    cases x.reception <;> rfl
  · simp only [queryAnswer, linkRecord, PortState.record, List.append_assoc]
    rfl
  · refine ⟨fun n => ⟨rfl, rfl, rfl, rfl, rfl⟩, rfl, rfl, rfl, rfl, fun t => rfl, fun xs => rfl, fun α f => ⟨rfl, fun a => rfl⟩,
      rfl, fun xs => rfl, fun n => ⟨rfl, rfl⟩, rfl, fun c => ?_, fun x => rfl, rfl, fun n => ⟨rfl, rfl, rfl⟩,
      fun n => ⟨rfl, rfl, rfl⟩, fun r n x hx hr => ?_⟩
    · exact List.append_assoc ..
    · have hbytes : x.1.bytes = x.2 := by
        simp only [List.mem_cons, List.not_mem_nil, or_false] at hx
        obtain rfl | rfl | rfl | rfl | rfl := hx <;> rfl
      rw [Region.bytes, hr, hbytes]
  · exact ⟨rfl, rfl, rfl, rfl, rfl, rfl, rfl, rfl, rfl, rfl, rfl, rfl, rfl, rfl, rfl, rfl, rfl, rfl⟩

end Sys2Proof.Machine

end

section
/-! SUPPORT. Settles O3: a directive waits in its unit's place, or is refused, or is acted on. -/

namespace Sys2Proof.Machine

open Sys2Proof

/-! ### The command of each directive (Table 1-2, R12) -/

/-- The command that takes a QUERY of a record kind from a port. -/
def queryCommand (p : Port) : Nat → Option Instr
  | 1 => some (.queryTitle p)
  | 2 => some (.queryScreening p)
  | 3 => some (.queryPhaseTimes p)
  | 4 => some (.queryTally p)
  | 5 => some (.queryHold p)
  | 6 => some (.queryBands p)
  | 7 => some (.queryBoard p)
  | 8 => some (.queryNotice p)
  | 9 => some (.queryUrgentList p)
  | 10 => some (.queryClock p)
  | 11 => some (.queryCue p)
  | 12 => some (.queryCarousel p)
  | 13 => some (.querySyncGroup p)
  | 14 => some (.queryTile p)
  | 15 => some (.queryLayout p)
  | 16 => some (.queryPanel p)
  | 17 => some (.queryOutput p)
  | 18 => some (.queryStream p)
  | 19 => some (.queryLink p)
  | _ => none

/-- The command that takes a directive from a port. -/
def commandOf (p : Port) : Directive → Option Instr
  | .sell .. => some (.sell p)
  | .refund .. => some (.refund p)
  | .hold .. => some (.hold p)
  | .confirm .. => some (.confirm p)
  | .release .. => some (.release p)
  | .setSold .. => some (.setSold p)
  | .loadTitle .. => some (.loadTitle p)
  | .loadScreening .. => some (.loadScreening p)
  | .amendScreening .. => some (.amendScreening p)
  | .cancelScreening .. => some (.cancelScreening p)
  | .dropScreening .. => some (.dropScreening p)
  | .defineBoard .. => some (.defineBoard p)
  | .clearBoard .. => some (.clearBoard p)
  | .postNotice .. => some (.postNotice p)
  | .withdrawNotice .. => some (.withdrawNotice p)
  | .setCue .. => some (.setCue p)
  | .clearCue .. => some (.clearCue p)
  | .setNoticeStyle .. => some (.setNoticeStyle p)
  | .setCarousel .. => some (.setCarousel p)
  | .setPeriods .. => some (.setPeriods p)
  | .setQuiet .. => some (.setQuiet p)
  | .carouselOn .. => some (.carouselOn p)
  | .carouselOff .. => some (.carouselOff p)
  | .setSyncGroup .. => some (.setSyncGroup p)
  | .loadImage .. => some (.loadImage p)
  | .imagePiece .. => some (.imagePiece p)
  | .loadTextTile .. => some (.loadTextTile p)
  | .clearTile .. => some (.clearTile p)
  | .loadLayout .. => some (.loadLayout p)
  | .applyLayout .. => some (.applyLayout p)
  | .setOverride .. => some (.setOverride p)
  | .setPanel .. => some (.setPanel p)
  | .panelStandby .. => some (.panelStandby p)
  | .wake .. => some (.wake p)
  | .setBrightness .. => some (.setBrightness p)
  | .setClock .. => some (.setClock p)
  | .setHouse .. => some (.setHouse p)
  | .setPhaseTimes .. => some (.setPhaseTimes p)
  | .setBands .. => some (.setBands p)
  | .grant .. => some (.grant p)
  | .setReports .. => some (.setReports p)
  | .reset => some (.reset p)
  | .displayRestart => some (.displayRestart p)
  | .acknowledge .. => some (.acknowledge p)
  | .query kind _ => queryCommand p kind

/-- A directive's command is the one of the table. -/
theorem commandOf_of_takes {i : Instr} {p : Port} {accepts : Directive → Bool} {d : Directive}
    (h : i.takes = some (p, accepts)) (hd : accepts d = true) : commandOf p d = some i := by
  cases i <;> cases h
  all_goals
    dsimp only at hd
    split at hd
    · rfl
    · cases hd

theorem takes_of_queryCommand {i : Instr} {p : Port} {kind : Nat} (h : queryCommand p kind = some i) (key : Nat) :
    ∃ accepts, i.takes = some (p, accepts) ∧ accepts (.query kind key) = true := by
  unfold queryCommand at h
  split at h
  case h_20 => cases h
  all_goals
    cases h
    exact ⟨_, rfl, rfl⟩

/-- The table's command takes the directive. -/
theorem takes_of_commandOf {i : Instr} {p : Port} {d : Directive} (h : commandOf p d = some i) :
    ∃ accepts, i.takes = some (p, accepts) ∧ accepts d = true := by
  cases d with
  | query kind key => exact takes_of_queryCommand h key
  | _ =>
    cases h
    exact ⟨_, rfl, rfl⟩

/-- Table 1-2: a directive's command is its target's. -/
theorem block_of_commandOf {i : Instr} {p : Port} {d : Directive} (h : commandOf p d = some i) : i.block = d.target := by
  obtain ⟨accepts, ht, hd⟩ := takes_of_commandOf h
  cases d with
  | query kind key =>
    have h : queryCommand p kind = some i := h
    unfold queryCommand at h
    split at h
    case h_20 => cases h
    all_goals
      cases h
      rfl
  | _ =>
    cases h
    rfl

theorem queryCommand_isSome (p : Port) {kind : Nat} (h : 1 ≤ kind ∧ kind ≤ 19) : (queryCommand p kind).isSome = true := by
  obtain ⟨hlo, hhi⟩ := h
  interval_cases kind <;> rfl

theorem commandOf_isSome (p : Port) {d : Directive} (h : ∀ kind key, d = .query kind key → 1 ≤ kind ∧ kind ≤ 19) :
    (commandOf p d).isSome = true := by
  cases d with
  | query kind key => exact queryCommand_isSome p (h kind key rfl)
  | _ => rfl

/-- R12: the owner of each record kind. -/
theorem queryOwner_eq (kind : Nat) : queryOwner kind = match kind with
    | 0 | 1 | 2 | 3 => .schedule
    | 4 | 5 | 6 => .seat
    | 7 => .builder
    | 8 | 9 => .notice
    | 10 | 11 => .clock
    | 12 | 13 => .rotation
    | 14 => .render
    | 15 | 16 => .composer
    | 17 => .output
    | 18 => .memory
    | _ => .link := by
  by_cases h : kind ≤ 18
  · interval_cases kind <;> rfl
  · obtain ⟨n, rfl⟩ : ∃ n, kind = n + 19 := ⟨kind - 19, by omega⟩
    rfl

/-! ### When a directive waits or is refused (R8, R9) -/

theorem State.take_of_notReady {α : Type} {u : Block} {p : Port} {select : Directive → Option α}
    {act : Packet → α → State → State} {s : State} (h : s.ready u = false) : s.take u p select act = s := by
  unfold State.take
  split
  · rfl
  · split
    · rfl
    · split
      · rfl
      · simp [h]

/-- R8: what the head of the queue is not, its unit does not take. -/
theorem State.take_of_notSelected {α : Type} {u : Block} {p : Port} {select : Directive → Option α}
    {act : Packet → α → State → State} {s : State}
    (h : ∀ q rest d, s.handoffOf u p = q :: rest → q.directive = some d → select d = none) : s.take u p select act = s := by
  unfold State.take
  split
  · rfl
  · rename_i q rest hq
    split
    · rfl
    · rename_i d hd
      rw [h q rest d hq hd]

/-- R8, R9: a directive's command refuses what its port may not send. -/
theorem exec_of_notOwner {i : Instr} {s : State} {p : Port} {accepts : Directive → Bool} {q : Packet} {rest : List Packet}
    {d : Directive} (hi : i.takes = some (p, accepts)) (ha : accepts d = true) (hq : s.handoffOf i.block p = q :: rest)
    (hd : q.directive = some d) (hr : s.ready i.block = true) (hm : s.hasRoom p = true) (ho : s.mayTake p d = false) :
    exec i s = .next ((s.putHandoff i.block p rest).answered p q .notOwner) := by
  obtain ⟨α, select, act, hselect, he, -⟩ := exec_eq_take hi
  rw [hselect] at ha
  obtain ⟨a, ha⟩ := Option.isSome_iff_exists.mp ha
  rw [he, State.take_of_notOwner hq hd ha hr hm ho]

/-- R8: a directive's command does nothing where it has nothing it can take. -/
theorem exec_of_waits {i : Instr} {s : State} {p : Port} {accepts : Directive → Bool} (hi : i.takes = some (p, accepts))
    (h : s.ready i.block = false ∨ s.hasRoom p = false ∨ s.handoffOf i.block p = []
      ∨ ∃ q rest, s.handoffOf i.block p = q :: rest ∧ ∀ d, q.directive = some d → accepts d = false) :
    exec i s = .next s := by
  obtain ⟨α, select, act, hselect, he, -⟩ := exec_eq_take hi
  rw [he]
  obtain hr | hm | hnil | ⟨q, rest, hq, hn⟩ := h
  · rw [State.take_of_notReady hr]
  · rw [State.take_of_noRoom hm]
  · rw [State.take_of_notSelected fun q rest d hq => by rw [hnil] at hq; cases hq]
  · rw [State.take_of_notSelected fun q' rest' d hq' hd => ?_]
    rw [hq] at hq'
    cases hq'
    simpa [hselect] using hn d hd

/-! ### Ownership, readiness and the queues -/

/-- R9: a port may not send the directives of a group that the other port owns. -/
theorem State.mayTake_eq_false_iff (s : State) (p : Port) (d : Directive) :
    s.mayTake p d = false ↔ ∃ g, d.group = some g ∧ s.link.owners[g.index] ≠ p := by
  unfold State.mayTake
  split
  · rename_i h
    simp [h]
  · rename_i g h
    simp [h]

theorem RenderUnit.pieceless_eq_false_iff (u : RenderUnit) :
    u.pieceless = false ↔ u.waiting ≠ none ∨ ∃ w, u.engine = .piece w := by
  unfold RenderUnit.pieceless
  cases hw : u.waiting with
  | some w => simp
  | none => cases he : u.engine <;> simp

/-- R8, R21, R143: the units that are not ready for a directive. -/
theorem State.ready_eq_false_iff (s : State) (b : Block) : s.ready b = false ↔
    (b = .builder ∧ ∃ k : Fin 8, s.builder.boards[k].dwell = some 0)
    ∨ (b = .notice ∧ ∃ k : Fin 12, s.notice.urgent[k].dwell = some 0)
    ∨ (b = .rotation ∧ ∃ k : Fin 12, s.rotation.carousels[k].remaining = some 0)
    ∨ (b = .render ∧ (s.render.waiting ≠ none ∨ ∃ w, s.render.engine = .piece w))
    ∨ (b = .link ∧ s.link.restartPending ≠ none) := by
  cases b
  case builder => simp [State.ready, BuilderUnit.settled, Fin.exists_iff]
  case notice => simp [State.ready, NoticeUnit.settled, Fin.exists_iff]
  case rotation => simp [State.ready, RotationUnit.settled, Fin.exists_iff]
  case render => simp [State.ready, RenderUnit.pieceless_eq_false_iff]
  case link => cases h : s.link.restartPending <;> simp [State.ready, h]
  all_goals simp [State.ready]

theorem State.port_putPort (s : State) (p r : Port) (x : PortState) :
    (s.putPort p x).port r = if r = p then x else s.port r := by
  split
  · rename_i h
    rw [h, State.port_putPort_self]
  · rename_i h
    exact s.port_putPort_of_ne x h

theorem State.handoffOf_putHandoff (s : State) (b c : Block) (p r : Port) (xs : List Packet) :
    (s.putHandoff b p xs).handoffOf c r = if c = b ∧ r = p then xs else s.handoffOf c r := by
  split
  · rename_i h
    obtain ⟨rfl, rfl⟩ := h
    exact State.handoffOf_putHandoff_self ..
  · rename_i h
    exact s.handoffOf_putHandoff_of_ne xs (not_and_or.mp h)

/-- Settles O3. -/
theorem directivesWaitOrAreRefused : Obligations.DirectivesWaitOrAreRefused := by
  refine ⟨fun i s p accepts q rest d hi ha hq hd hr hm ho => exec_of_notOwner hi ha hq hd hr hm ho,
    fun i s p accepts hi h => exec_of_waits hi h, ⟨?_, fun d => ?_⟩, ⟨?_, ?_⟩,
    ⟨State.hasRoom_iff, fun _ _ _ _ => rfl, State.port_putPort, State.handoffOf_putHandoff, State.ready_eq_false_iff⟩⟩
  · intro s p d place h0 h1 h2 h3 h4
    have hplace : place = Group.index := funext fun g => by cases g <;> assumption
    rw [hplace]
    exact s.mayTake_eq_false_iff p d
  · cases d with
    | query kind key => exact congrArg (Prod.mk none) (queryOwner_eq kind)
    | _ => rfl
  · intro i p accepts d hi ha
    exact block_of_commandOf (commandOf_of_takes hi ha)
  · intro p d hrange
    obtain ⟨i, hi⟩ := Option.isSome_iff_exists.mp (commandOf_isSome p hrange)
    obtain ⟨accepts, ht, ha⟩ := takes_of_commandOf hi
    refine ⟨i, accepts, ht, ha, fun j a hj hja => ?_⟩
    have hsame := commandOf_of_takes hj hja
    rw [hi] at hsame
    exact (Option.some.inj hsame).symm

end Sys2Proof.Machine

end

section
/-! SUPPORT. Settles O7 and O8: heads, answers, reports and conditions. -/

namespace Sys2Proof.Machine

open Sys2Proof

/-! ### Heads of the intake queues (R7, R19) -/

theorem exec_intakeHeadMove_malformed {s : State} {p : Port} {q : Packet} {rest : List Packet}
    (hq : (s.port p).intake = q :: rest) (hd : q.directive = none) (hr : s.hasRoom p = true) :
    exec (.intakeHeadMove p) s = .next ((s.putPort p { s.port p with intake := rest }).answered p q .malformed) := by
  simp [exec, execIntakeHeadMove, hq, hd, hr]

theorem exec_intakeHeadMove_moves {s : State} {p : Port} {q : Packet} {rest : List Packet} {d : Directive}
    (hq : (s.port p).intake = q :: rest) (hd : q.directive = some d) (hl : (s.handoffOf d.target p).length < 8)
    (hreset : s.link.resetPending = none) :
    exec (.intakeHeadMove p) s = .next
      ((s.putPort p { s.port p with intake := rest }).putHandoff d.target p (s.handoffOf d.target p ++ [q])) := by
  simp [exec, execIntakeHeadMove, hq, hd, hl, hreset]

theorem exec_intakeHeadMove_waits {s : State} {p : Port} {q : Packet} {rest : List Packet}
    (hq : (s.port p).intake = q :: rest)
    (h : (q.directive = none ∧ s.hasRoom p = false) ∨ (∃ d, q.directive = some d ∧ 8 ≤ (s.handoffOf d.target p).length)
      ∨ (q.directive.isSome = true ∧ s.link.resetPending.isSome = true)) :
    exec (.intakeHeadMove p) s = .next s := by
  obtain ⟨hd, hr⟩ | ⟨d, hd, hl⟩ | ⟨hd, hreset⟩ := h
  · simp [exec, execIntakeHeadMove, hq, hd, hr]
  · simp [exec, execIntakeHeadMove, hq, hd, Nat.not_lt.mpr hl]
  · obtain ⟨d, hd⟩ := Option.isSome_iff_exists.mp hd
    obtain ⟨r, hreset⟩ := Option.isSome_iff_exists.mp hreset
    simp [exec, execIntakeHeadMove, hq, hd, hreset]

/-! ### Answers and reports sent (R10, R14) -/

theorem State.putLine_resetPending (s : State) (p : Port) (bytes : List Byte) :
    (s.putLine p bytes).link.resetPending = s.link.resetPending := by
  cases p <;> rfl

theorem State.countTowardReset_of_none {s : State} (h : s.link.resetPending = none) (p : Port) : s.countTowardReset p = s := by
  simp [State.countTowardReset, h]

theorem exec_answerSent_noReset {s : State} {p : Port} {a : Answer} {rest : List Answer}
    (ha : (s.port p).answers.answers = a :: rest) (h : s.link.resetPending = none) :
    exec (.answerSent p) s = .next
      ((s.putPort p { s.port p with answers := ⟨rest, (s.port p).answers.reserved⟩ }).putLine p (a.packet p)) := by
  have hlost : s.lostInReset p = false := by simp [State.lostInReset, h]
  simp only [exec, execAnswerSent, ha, hlost, Bool.false_eq_true, if_false]
  rw [State.countTowardReset_of_none]
  rw [State.putLine_resetPending]
  exact h

/-- R14: the lowest-numbered due condition is the next to be reported. -/
theorem LinkUnit.nextReport_eq {l : LinkUnit} {c : Fin 12} (hc : l.due[c] = true) (hlow : ∀ k : Fin 12, k < c → l.due[k] = false) :
    l.nextReport = some c := by
  refine List.find?_eq_some_iff_getElem.mpr ⟨hc, c.val, by simp, by simp, fun j hj => ?_⟩
  have hlt : j < 12 := Nat.lt_trans hj c.isLt
  simpa using hlow ⟨j, hlt⟩ hj

theorem exec_reportSent_of_next {s : State} {c : Fin 12} (h : s.link.nextReport = some c) :
    exec .reportSent s = .next { s with
      feedLine := feedPacket 5 0 (put2 c.val ++ put4 s.clock.runTime ++ putSet (setNumbers s.link.flags))
      link := { s.link with due := put s.link.due c false } } := by
  simp only [exec, execReportSent, h]
  rfl

theorem mem_setNumbers (v : Vector Bool 12) (n : Nat) : n ∈ setNumbers v ↔ ∃ k : Fin 12, k.val = n ∧ v[k] = true := by
  unfold setNumbers
  rw [List.mem_filter, List.mem_range]
  constructor
  · rintro ⟨hn, hv⟩
    exact ⟨⟨n, hn⟩, rfl, by simpa [hn] using hv⟩
  · rintro ⟨k, rfl, hv⟩
    exact ⟨k.isLt, by simpa using hv⟩

/-- A set of conditions is carried in ascending number. -/
theorem setNumbers_pairwise (v : Vector Bool 12) : (setNumbers v).Pairwise (· < ·) :=
  List.Pairwise.filter _ List.pairwise_lt_range

/-! ### Conditions (R13, R21) -/

theorem put_self {α : Type} {n : Nat} (v : Vector α n) (i : Fin n) : put v i v[i] = v := by
  simp [put]

/-- R13: a raise of a clear flag. -/
theorem LinkUnit.raise_of_clear (l : LinkUnit) (c : Condition) (h : l.flags[c.index] = false) :
    l.raise c = { l with
      flags := put l.flags c.index true
      due := put l.due c.index (l.due[c.index] || l.enables[c.index]) } := by
  have hdue : (if l.enables[c.index] = true then put l.due c.index true else l.due)
      = put l.due c.index (l.due[c.index] || l.enables[c.index]) := by
    cases l.enables[c.index] with
    | true => rw [Bool.or_true, if_pos rfl]
    | false => rw [Bool.or_false, put_self, if_neg Bool.false_ne_true]
  unfold LinkUnit.raise
  rw [if_neg (by rw [h]; exact Bool.false_ne_true), hdue]

theorem exec_conditionRaise_of_head {s : State} {b : Block} {c : Condition} {rest : List ConditionEvent}
    (h : s.mail.conditions[b.index] = .raise c :: rest) :
    exec (.conditionRaise b) s = .next { s with
      link := s.link.raise c
      mail := { s.mail with conditions := put s.mail.conditions b.index rest } } := by
  show execConditionRaise b s = _
  unfold execConditionRaise
  rw [h]

theorem exec_conditionEnd_of_head {s : State} {b : Block} {c : Condition} {rest : List ConditionEvent}
    (h : s.mail.conditions[b.index] = .ends c :: rest) :
    exec (.conditionEnd b) s = .next (({ s with
      link := s.link.endCondition c
      mail := { s.mail with conditions := put s.mail.conditions b.index rest } } : State).countTowardRestart b c) := by
  show execConditionEnd b s = _
  unfold execConditionEnd
  rw [h]

/-- R13, R21: what the end of a condition comes to. -/
theorem exec_conditionEnd_cases (s u : State) (b : Block) (c : Condition) (rest : List ConditionEvent)
    (h : s.mail.conditions[b.index] = .ends c :: rest)
    (hu : u = { s with
      link := { s.link with flags := put s.link.flags c.index false }
      mail := { s.mail with conditions := put s.mail.conditions b.index rest } }) :
    ((∀ r, s.link.restartPending = some r → b ≠ .memory ∨ (c ≠ .memoryFault ∧ ¬(c = .streamLost ∧ r.faultEnded = true))) →
        exec (.conditionEnd b) s = .next u)
      ∧ ∀ r, s.link.restartPending = some r → b = .memory →
        (c = .memoryFault → exec (.conditionEnd b) s = .next { u with
          link := { u.link with restartPending := some { r with faultEnded := true } } })
        ∧ (c = .streamLost → r.faultEnded = true → exec (.conditionEnd b) s = .next (({ u with
          link := { u.link with restartPending := none } } : State).issueReserved r.port ⟨r.tag, r.code, .done, []⟩)) := by
  have hexec : exec (.conditionEnd b) s = .next (u.countTowardRestart b c) := by
    rw [exec_conditionEnd_of_head h, hu]
    rfl
  have hpending : u.link.restartPending = s.link.restartPending := by rw [hu]
  rw [hexec]
  refine ⟨fun hother => ?_, fun r hr hb => ⟨fun hc => ?_, fun hc hf => ?_⟩⟩
  · cases hr : s.link.restartPending with
    | none => rw [State.countTowardRestart_of_none b c (hpending.trans hr)]
    | some r => rw [State.countTowardRestart_of_other (hpending.trans hr) (hother r hr)]
  · rw [hb, hc, State.countTowardRestart_fault (hpending.trans hr)]
  · rw [hb, hc, State.countTowardRestart_stream (hpending.trans hr) hf]

/-- Settles O7. -/
theorem headsAnswersReportsAndConditionsMove : Obligations.HeadsAnswersReportsAndConditionsMove := by
  refine ⟨⟨?_, ?_, ?_⟩, ⟨?_, ?_⟩, ⟨?_, ?_, exec_conditionEnd_cases⟩, ?_, fun a => ⟨?_, ?_⟩, rfl, rfl,
    fun v => ⟨setNumbers_pairwise v, mem_setNumbers v⟩, fun _ _ _ => rfl⟩
  · exact fun s p q rest hq hd hr => exec_intakeHeadMove_malformed hq hd hr
  · exact fun s p q rest d hq hd hl hreset => exec_intakeHeadMove_moves hq hd hl hreset
  · exact fun s p q rest hq h => exec_intakeHeadMove_waits hq h
  · exact fun s p a rest ha h => exec_answerSent_noReset ha h
  · exact fun s c hc hlow => exec_reportSent_of_next (LinkUnit.nextReport_eq hc hlow)
  · intro s b c rest h hclear
    rw [exec_conditionRaise_of_head h, LinkUnit.raise_of_clear _ _ hclear]
  · intro s b c rest h hset
    rw [exec_conditionRaise_of_head h, LinkUnit.raise_of_set _ _ hset]
  · intro s p bytes
    cases p <;> rfl
  · rfl
  · rfl

/-! ### SET REPORTS (R15) -/

theorem setReportEnables_outOfRange {members : List Nat} (h : ∃ m ∈ members, 11 < m) (s : State) :
    setReportEnables members s = refuse s .outOfRange := by
  unfold setReportEnables
  rw [if_neg]
  simpa using h

theorem setReportEnables_done {members : List Nat} (h : ∀ m ∈ members, m ≤ 11) (s : State) :
    setReportEnables members s = done { s with link := s.link.setEnables members } := by
  unfold setReportEnables
  rw [if_pos]
  simpa using h

/-- Settles O8. -/
theorem setReportsChoosesTheReports : Obligations.SetReportsChoosesTheReports := by
  refine ⟨fun _ => rfl, fun s t p q members h hm => ?_, fun s t p q members h hm => ?_, fun l c hf he => ?_⟩
  · rw [exec_setReports h, setReportEnables_outOfRange hm]
    rfl
  · obtain ⟨-, -, -, -, -, ht⟩ := id h
    have hdue : t.link.due = s.link.due := by rw [ht]; rfl
    refine ⟨(t.link.setEnables members).enables, (t.link.setEnables members).due, ?_, fun k => ?_, fun k => ?_⟩
    · rw [exec_setReports h, setReportEnables_done hm]
      rfl
    · simp [LinkUnit.setEnables]
    · simp [LinkUnit.setEnables, hdue]
  · rw [LinkUnit.raise_due_self l c hf, he, Bool.or_true]

end Sys2Proof.Machine

end

section
/-! SUPPORT. Settles O9: the link unit's own directives, the DONE of DISPLAY RESTART, and the beacon watch. -/

namespace Sys2Proof.Machine

open Sys2Proof

/-! ### GRANT (R9) -/

theorem grantOwner_done (g : Fin 5) {n : Nat} {owner : Port} (hg : g ≠ 4) (hn : n = 1 ∧ owner = .feed ∨ n = 2 ∧ owner = .desk)
    (s : State) : grantOwner g.val n s = done { s with link := { s.link with owners := put s.link.owners g owner } } := by
  have hlt : g.val < 4 := by omega
  obtain ⟨rfl, rfl⟩ | ⟨rfl, rfl⟩ := hn
  · simp [grantOwner, portOfNumber, hlt]
  · simp [grantOwner, portOfNumber, hlt]

theorem grantOwner_outOfRange {g n : Nat} (h : 4 ≤ g ∨ (n ≠ 1 ∧ n ≠ 2)) (s : State) :
    grantOwner g n s = refuse s .outOfRange := by
  unfold grantOwner
  split
  · rfl
  · rename_i p hp
    have hg : 4 ≤ g := h.resolve_right fun ⟨h1, h2⟩ => by
      unfold portOfNumber at hp
      split at hp
      · exact h1 rfl
      · exact h2 rfl
      · cases hp
    rw [dif_neg (Nat.not_lt.mpr hg)]

/-! ### ACKNOWLEDGE (R16) -/

theorem Condition.ofNumber_index (c : Condition) : Condition.ofNumber c.index.val = some c := by
  cases c <;> rfl

theorem Condition.index_of_ofNumber {n : Nat} {c : Condition} (h : Condition.ofNumber n = some c) : c.index.val = n := by
  unfold Condition.ofNumber at h
  split at h
  case h_13 => cases h
  all_goals
    cases h
    rfl

/-- R16: a set names a held condition when it names one that is set and that only its block ends. -/
theorem LinkUnit.namesHeldCondition_iff (l : LinkUnit) (members : List Nat) : l.namesHeldCondition members = true ↔
    ∃ c : Condition, c.endedByBlock = true ∧ c.index.val ∈ members ∧ l.flags[c.index] = true := by
  unfold LinkUnit.namesHeldCondition
  rw [List.any_eq_true]
  constructor
  · rintro ⟨n, hn, hc⟩
    split at hc
    · rename_i c ho
      rw [Bool.and_eq_true] at hc
      obtain ⟨hend, hflag⟩ := hc
      exact ⟨c, hend, Condition.index_of_ofNumber ho ▸ hn, hflag⟩
    · cases hc
  · rintro ⟨c, hend, hmem, hflag⟩
    refine ⟨c.index.val, hmem, ?_⟩
    rw [Condition.ofNumber_index]
    dsimp only
    rw [hend, hflag, Bool.and_self]

theorem acknowledgeConditions_outOfRange {members : List Nat} (h : ∃ m ∈ members, 11 < m) (s : State) :
    acknowledgeConditions members s = refuse s .outOfRange := by
  unfold acknowledgeConditions
  rw [if_pos]
  simpa using h

theorem acknowledgeConditions_refused {members : List Nat} (h : ∀ m ∈ members, m ≤ 11) {s : State}
    (hc : ∃ c : Condition, c.endedByBlock = true ∧ c.index.val ∈ members ∧ s.link.flags[c.index] = true) :
    acknowledgeConditions members s = refuse s .refusedState := by
  unfold acknowledgeConditions
  rw [if_neg (by simpa using h), if_pos ((s.link.namesHeldCondition_iff members).mpr hc)]

theorem acknowledgeConditions_done {members : List Nat} (h : ∀ m ∈ members, m ≤ 11) {s : State}
    (hc : ∀ c : Condition, c.endedByBlock = true → c.index.val ∈ members → s.link.flags[c.index] = false) :
    acknowledgeConditions members s = done { s with
      link := s.link.clearFlags members
      mail := if 10 ∈ members ∧ s.link.flags[10] = true then
        { s.mail with linkToMemory := s.mail.linkToMemory ++ [.resume] } else s.mail } := by
  have hnone : ¬s.link.namesHeldCondition members = true := fun hn => by
    obtain ⟨c, hend, hmem, hflag⟩ := (s.link.namesHeldCondition_iff members).mp hn
    rw [hc c hend hmem] at hflag
    cases hflag
  have hresume : (members.contains 10 && s.link.flags[Condition.memoryFault.index]) = true ↔
      10 ∈ members ∧ s.link.flags[10] = true := by
    rw [Bool.and_eq_true, List.contains_iff_mem]
    rfl
  unfold acknowledgeConditions
  rw [if_neg (by simpa using h), if_neg hnone]
  dsimp only
  simp only [hresume]

/-! ### RESET and DISPLAY RESTART (R19, R21) -/

theorem exec_reset_of_takes {s t : State} {q : Packet} (h : s.Takes .link .feed q .reset t) (hn : s.link.resetPending = none) :
    exec (.reset .feed) s = .next
      (({ t with link := { t.link with
          resetPending := some ⟨s.link.ports.feed.answers.answers.length + 1, s.link.ports.desk.answers.answers.length⟩ } } :
        State).answered .feed q .done) := by
  obtain ⟨-, -, -, -, -, ht⟩ := id h
  have hpending : t.link.resetPending = none := by rw [ht]; exact hn
  have harrange : t.arrangeReset = { t with link := { t.link with
      resetPending := some ⟨s.link.ports.feed.answers.answers.length + 1, s.link.ports.desk.answers.answers.length⟩ } } := by
    unfold State.arrangeReset
    rw [hpending, ht]
    rfl
  rw [exec_reset h, harrange]
  rfl

/-- R21: one restart more for each of the five blocks. -/
theorem State.sendRestarts_restarts (s : State) (b : Block) : s.sendRestarts.mail.restarts[b.index] = s.mail.restarts[b.index]
    + (if b ∈ [Block.builder, .notice, .render, .composer, .output] then 1 else 0) := by
  cases b <;> simp [State.sendRestarts, State.sendRestart, put, Block.index]

theorem exec_displayRestart_of_takes (s t u : State) (p : Port) (q : Packet) (h : s.Takes .link p q .displayRestart t)
    (hu : u = t.putPort p { t.port p with answers := ⟨(t.port p).answers.answers, (t.port p).answers.reserved + 1⟩ }) :
    ∃ restarts : Vector Nat 11,
      exec (.displayRestart p) s = .next
        { u with
          link := { u.link with restartPending := some ⟨p, q.tag, q.code, false⟩ }
          mail := { t.mail with restarts := restarts, linkToMemory := t.mail.linkToMemory ++ [.restart] } }
      ∧ ∀ b : Block, restarts[b.index] = s.mail.restarts[b.index]
          + (if b ∈ [Block.builder, .notice, .render, .composer, .output] then 1 else 0) := by
  obtain ⟨-, -, -, -, -, ht⟩ := id h
  refine ⟨(t.reserve p).sendRestarts.mail.restarts, ?_, fun b => ?_⟩
  · rw [exec_displayRestart h, hu]
    rfl
  · rw [State.sendRestarts_restarts, ht]
    rfl

/-- R21: the two ends of the frame memory unit's restart, taken one after the other, bring DONE. -/
theorem exec_conditionEnds_of_restart (s : State) (r : RestartPending) (rest : List ConditionEvent)
    (hr : s.link.restartPending = some r)
    (h : s.mail.conditions[Block.memory.index] = .ends .memoryFault :: .ends .streamLost :: rest) :
    ∃ t u : State, exec (.conditionEnd .memory) s = .next t ∧ exec (.conditionEnd .memory) t = .next u
      ∧ t = { s with
          link := { s.link with
            flags := put s.link.flags 10 false
            restartPending := some { r with faultEnded := true } }
          mail := { s.mail with conditions := put s.mail.conditions Block.memory.index (.ends .streamLost :: rest) } }
      ∧ u = ({ t with
          link := { t.link with flags := put t.link.flags 9 false, restartPending := none }
          mail := { t.mail with conditions := put t.mail.conditions Block.memory.index rest } } : State).issueReserved r.port
            ⟨r.tag, r.code, .done, []⟩ := by
  obtain ⟨-, hfault⟩ := exec_conditionEnd_cases s _ .memory .memoryFault _ h rfl
  refine ⟨_, _, (hfault r hr rfl).1 rfl, ?_, rfl, rfl⟩
  obtain ⟨-, hstream⟩ := exec_conditionEnd_cases { s with
      link := { s.link with
        flags := put s.link.flags 10 false
        restartPending := some { r with faultEnded := true } }
      mail := { s.mail with conditions := put s.mail.conditions Block.memory.index (.ends .streamLost :: rest) } } _
    .memory .streamLost rest (put_getElem_self ..) rfl
  exact (hstream _ rfl rfl).2 rfl rfl

/-! ### The beacon watch (R17) -/

theorem exec_beaconWatch_fires {s : State} {t : Nat} (h : s.nextSecond .link = some t)
    (hf : s.link.watch.overdue = false ∧ s.clock.state = .set ∧ s.link.watch.last + 600 ≤ t) :
    exec .beaconWatch s = .next (({ s with
      link := { s.link with watch := ⟨s.link.watch.last, true⟩ }
      mail := { s.mail with linkToClock := s.mail.linkToClock ++ [.overdue] } } : State).dropSecond .link) := by
  simp only [exec, execBeaconWatch, h]
  exact congrArg Host.Outcome.next ((if_pos hf).trans rfl)

theorem exec_beaconWatch_quiet {s : State} {t : Nat} (h : s.nextSecond .link = some t)
    (hf : ¬(s.link.watch.overdue = false ∧ s.clock.state = .set ∧ s.link.watch.last + 600 ≤ t)) :
    exec .beaconWatch s = .next (s.dropSecond .link) := by
  simp only [exec, execBeaconWatch, h]
  exact congrArg Host.Outcome.next (if_neg hf)

theorem Condition.endedByBlock_iff (c : Condition) :
    c.endedByBlock = true ↔ c = .clockUnset ∨ c = .oversold ∨ c = .streamLost ∨ c = .panelLost := by
  cases c <;> simp [Condition.endedByBlock]

/-- Settles O9. -/
theorem linkUnitTakesItsDirectives : Obligations.LinkUnitTakesItsDirectives := by
  refine ⟨⟨?_, ?_, ?_, ?_, ?_, fun s t q h hn => exec_reset_of_takes h hn, exec_displayRestart_of_takes, ?_⟩, ?_,
    Condition.endedByBlock_iff, fun _ _ => rfl⟩
  · intro s t p q g n owner h hg hn
    rw [exec_grant h, grantOwner_done g hg hn]
    rfl
  · intro s t p q g n h hg
    rw [exec_grant h, grantOwner_outOfRange hg]
    rfl
  · intro s t p q members h hm hc
    obtain ⟨-, -, -, -, -, ht⟩ := id h
    have hflags : t.link.flags = s.link.flags := by rw [ht]; rfl
    rw [← hflags] at hc ⊢
    refine ⟨(t.link.clearFlags members).flags, ?_, fun k => by simp [LinkUnit.clearFlags]⟩
    rw [exec_acknowledge h, acknowledgeConditions_done hm hc]
    rfl
  · intro s t p q members h hm
    rw [exec_acknowledge h, acknowledgeConditions_outOfRange hm]
    rfl
  · intro s t p q members h hm hc
    obtain ⟨-, -, -, -, -, ht⟩ := id h
    have hflags : t.link.flags = s.link.flags := by rw [ht]; rfl
    rw [← hflags] at hc
    rw [exec_acknowledge h, acknowledgeConditions_refused hm hc]
    rfl
  · intro s r rest hr h
    obtain ⟨t, u, ht, hu, et, eu⟩ := exec_conditionEnds_of_restart s r rest hr h
    have hport : ∀ p, t.port p = s.port p := fun p => by rw [et]; rfl
    refine ⟨t, u, ht, hu, hport, by rw [et], by rw [et]; rfl, fun p => ?_, by rw [eu, et]; rfl, by rw [eu]; rfl, by rw [et],
      by rw [eu, et]; rfl, by rw [et], by rw [eu, et]; rfl, by rw [et], by rw [eu, et]; rfl, by rw [et], by rw [eu, et]; rfl,
      by rw [et], by rw [eu, et]; rfl⟩
    rw [eu]
    refine (State.port_putPort ..).trans ?_
    split
    · rename_i hp
      rw [hp, ← hport]
      rfl
    · exact hport p
  · exact fun s t h => ⟨exec_beaconWatch_fires h, exec_beaconWatch_quiet h⟩

end Sys2Proof.Machine

end

section
/-! SUPPORT. Settles O10: a full reset, and the answers a RESET waits for. -/

namespace Sys2Proof.Machine

open Sys2Proof

/-! ### The tables after a full reset -/

theorem reset_handoff (k : Fin 11) : State.reset.link.handoff[k] = ⟨[], []⟩ := by
  simp [State.reset, LinkUnit.atReset]

/-- R20: CLOCK_UNSET is set and due, and every report is enabled. -/
theorem reset_conditions (k : Fin 12) : State.reset.link.flags[k] = (k == 0) ∧ State.reset.link.enables[k] = true
    ∧ State.reset.link.due[k] = (k == 0) := by
  refine ⟨?_, by simp [State.reset, LinkUnit.atReset], ?_⟩
  all_goals
    revert k
    decide

theorem reset_cue (k : Fin 16) : State.reset.clock.cues[k] = none := by simp [State.reset, Clock.atReset]

theorem reset_title (k : Fin 128) : State.reset.schedule.titles[k] = none := by simp [State.reset, ScheduleUnit.atReset]

theorem reset_board (k : Fin 8) : State.reset.builder.boards[k] = ⟨none, [], 0, none⟩ := by
  simp [State.reset, BuilderUnit.atReset]

theorem reset_urgent (k : Fin 12) : State.reset.notice.urgent[k] = ⟨[], none, none⟩ := by
  simp [State.reset, NoticeUnit.atReset]

theorem reset_carousel (k : Fin 12) : State.reset.rotation.carousels[k] = .atReset := by
  simp [State.reset, RotationUnit.atReset]

theorem reset_leader (g : Fin 4) : State.reset.rotation.leaders[g] = none := by
  simp [State.reset, RotationUnit.atReset]

/-- R141, R155: the clock tiles hold their fixed sizes. -/
theorem reset_tile (k : Fin 256) : State.reset.render.tiles[k] = .atReset (if 192 ≤ k.val ∧ k.val ≤ 195 then some (8, 2)
    else if 196 ≤ k.val ∧ k.val ≤ 199 then some (4, 1) else none) := by
  have hlist : tilesAtReset.toList = List.replicate 192 (Tile.atReset none) ++ List.replicate 4 (.atReset (some (8, 2)))
      ++ List.replicate 4 (.atReset (some (4, 1))) ++ List.replicate 56 (.atReset none) := by
    simp only [tilesAtReset, Vector.toList_append, Vector.toList_replicate]
  have hk := k.isLt
  have helem : State.reset.render.tiles[k] = tilesAtReset.toList[k.val]'(by simp) := Vector.getElem_toList .. |>.symm
  rw [helem]
  simp only [hlist, List.getElem_append, List.length_append, List.length_replicate, List.getElem_replicate]
  split
  · split
    · split
      · rw [if_neg (by omega), if_neg (by omega)]
      · rw [if_pos (by omega)]
    · rw [if_neg (by omega), if_pos (by omega)]
  · rw [if_neg (by omega), if_neg (by omega)]

theorem reset_layout (k : Fin 32) : State.reset.composer.layouts[k] = none := by simp [State.reset, ComposerUnit.atReset]

theorem reset_panel (k : Fin 12) : State.reset.composer.panels[k] = .atReset := by simp [State.reset, ComposerUnit.atReset]

theorem reset_stream (k : Fin 4) : State.reset.memory.streams[k] = .atReset := by simp [State.reset, MemoryUnit.atReset]

theorem reset_output (k : Fin 12) : State.reset.output.panels[k] = .atReset := by simp [State.reset, OutputUnit.atReset]

/-- R42: nothing is under way but the board clock's requests for its tiles. -/
theorem reset_tileRequests (b : Block) : State.reset.mail.tiles[b.index]
    = if b = .clock then (List.range' 192 8).map (fun k => TileRequest.redraw k .normal) else [] := by
  cases b <;> simp [State.reset, Mail.atReset, Block.index, clockTileRequests]

/-! ### The answers that a RESET waits for (R19) -/

theorem exec_answerSent_last {s : State} {p : Port} {a : Answer} {rest : List Answer} {r : ResetPending}
    (ha : (s.port p).answers.answers = a :: rest) (hr : s.link.resetPending = some r)
    (h : if p = .feed then r.feedLeft = 1 ∧ r.deskLeft = 0 else r.feedLeft = 0 ∧ r.deskLeft = 1) :
    exec (.answerSent p) s = exec .fullReset (s.putLine p (a.packet p)) := by
  cases p
  all_goals
    obtain ⟨hf, hd⟩ := h
    simp [exec, execAnswerSent, ha, State.lostInReset, hr, hf, hd, State.countTowardReset]
    rfl

theorem exec_answerSent_lost {s : State} {p : Port} {r : ResetPending} (hr : s.link.resetPending = some r)
    (h : if p = .feed then r.feedLeft = 0 else r.deskLeft = 0) : exec (.answerSent p) s = .next s := by
  have hlost : s.lostInReset p = true := by
    cases p <;> simpa [State.lostInReset, hr] using h
  simp only [exec, execAnswerSent, hlost, if_true]
  split <;> rfl

/-- R19: a RESET that waits for one answer less of a port. -/
def ResetPending.less (r : ResetPending) (p : Port) : ResetPending :=
  match p with
  | .feed => ⟨r.feedLeft - 1, r.deskLeft⟩
  | .desk => ⟨r.feedLeft, r.deskLeft - 1⟩

/-- An answer that a RESET waits for, while it waits for more. -/
theorem exec_answerSent_counts {s : State} {p : Port} {a : Answer} {rest : List Answer} {r : ResetPending}
    (ha : (s.port p).answers.answers = a :: rest) (hr : s.link.resetPending = some r)
    (h : if p = .feed then 1 ≤ r.feedLeft ∧ (1 < r.feedLeft ∨ 0 < r.deskLeft)
      else 1 ≤ r.deskLeft ∧ (0 < r.feedLeft ∨ 1 < r.deskLeft)) :
    exec (.answerSent p) s = .next
      (let t := (s.putPort p { s.port p with answers := { (s.port p).answers with answers := rest } }).putLine p (a.packet p)
       { t with link := { t.link with resetPending := some (r.less p) } }) := by
  cases p
  · obtain ⟨hf, hmore⟩ : 1 ≤ r.feedLeft ∧ (1 < r.feedLeft ∨ 0 < r.deskLeft) := h
    have hlost : s.lostInReset .feed = false := by simp [State.lostInReset, hr]; omega
    have hleft : ¬(r.feedLeft - 1 = 0 ∧ r.deskLeft = 0) := by omega
    simp only [exec, execAnswerSent, ha, hlost, State.countTowardReset, State.putLine_resetPending,
      State.putPort_link_resetPending, hr, hleft, Bool.false_eq_true, if_false, ResetPending.less]
  · obtain ⟨hd, hmore⟩ : 1 ≤ r.deskLeft ∧ (0 < r.feedLeft ∨ 1 < r.deskLeft) := h
    have hlost : s.lostInReset .desk = false := by simp [State.lostInReset, hr]; omega
    have hleft : ¬(r.feedLeft = 0 ∧ r.deskLeft - 1 = 0) := by omega
    simp only [exec, execAnswerSent, ha, hlost, State.countTowardReset, State.putLine_resetPending,
      State.putPort_link_resetPending, hr, hleft, Bool.false_eq_true, if_false, ResetPending.less]

/-- Settles O10. -/
theorem fullResetActsOnTheWholePart : Obligations.FullResetActsOnTheWholePart := by
  refine ⟨fun s => ⟨s.fullReset, rfl, rfl, rfl, rfl, ?_, ?_, rfl, reset_conditions, rfl, rfl, rfl, ?_, ?_, ?_, ?_, ?_, ?_, ?_, ?_,
    ?_, ?_, reset_tileRequests⟩, fun s p a rest r ha hr h => exec_answerSent_last ha hr h,
    fun s p r hr h => exec_answerSent_lost hr h, ?_⟩
  · intro p
    cases p <;> rfl
  · intro b p
    have hb := reset_handoff b.index
    cases p
    · exact congrArg PerPort.feed hb
    · exact congrArg PerPort.desk hb
  · exact ⟨rfl, rfl, rfl, rfl, rfl, rfl, rfl, rfl, rfl, rfl, rfl, reset_cue⟩
  · exact ⟨reset_title, rfl, rfl, rfl, rfl, rfl, rfl, rfl, rfl⟩
  · exact ⟨rfl, rfl, rfl, rfl, rfl, rfl, rfl, rfl, rfl⟩
  · refine ⟨fun k => ?_, rfl, rfl⟩
    have hk : s.fullReset.builder.boards[k] = ⟨none, [], 0, none⟩ := reset_board k
    rw [hk]
    exact ⟨rfl, rfl, rfl, rfl⟩
  · exact ⟨rfl, reset_urgent, rfl, rfl, rfl, rfl, rfl, rfl⟩
  · refine ⟨fun k => ?_, reset_leader⟩
    have hk : s.fullReset.rotation.carousels[k] = .atReset := reset_carousel k
    rw [hk]
    exact ⟨rfl, rfl, rfl, rfl, rfl, rfl, rfl, rfl, rfl, rfl, rfl, rfl, rfl, rfl, rfl⟩
  · refine ⟨fun k => ?_, rfl, rfl, rfl, rfl⟩
    have hk : s.fullReset.render.tiles[k] = _ := reset_tile k
    rw [hk]
    exact ⟨rfl, rfl, rfl, rfl, rfl, rfl, rfl, rfl⟩
  · refine ⟨reset_layout, fun k => ?_, rfl, rfl⟩
    have hk : s.fullReset.composer.panels[k] = .atReset := reset_panel k
    rw [hk]
    exact ⟨rfl, rfl, rfl, rfl, rfl, rfl, rfl, rfl, rfl, rfl, rfl, rfl⟩
  · refine ⟨fun k => ?_, rfl, rfl, ?_⟩
    · have hk : s.fullReset.memory.streams[k] = .atReset := reset_stream k
      rw [hk]
      exact ⟨rfl, rfl, rfl, rfl, rfl⟩
    · intro c hc
      obtain rfl : c = .atReset := by simpa [State.fullReset, State.reset, MemoryUnit.atReset] using hc
      exact ⟨rfl, rfl, rfl⟩
  · intro k
    have hk : s.fullReset.output.panels[k] = .atReset := reset_output k
    rw [hk]
    exact ⟨rfl, rfl, rfl, rfl, rfl, rfl, rfl, rfl, rfl⟩
  · intro s p a rest r ha hr h
    refine ⟨_, exec_answerSent_counts ha hr h, ?_, rfl, ?_⟩
    · cases p <;> simp [State.putLine, State.port, State.putPort]
    · cases p <;> exact ⟨rfl, rfl, rfl, rfl, rfl, rfl, rfl, rfl, rfl, rfl, rfl, rfl⟩

end Sys2Proof.Machine

end

section
/-! SUPPORT. Settles O16: the board clock's directives, their checks, and what each answer leaves. -/

namespace Sys2Proof.Machine

open Sys2Proof

/-! ### What a beacon's time keeps: the run time (R22) -/

theorem State.runTime_ite {s t : State} {n : Nat} {c : Prop} {_ : Decidable c} (h : s.clock.runTime = n)
    (k : t.clock.runTime = n) : (if c then s else t).clock.runTime = n := by
  split
  · exact h
  · exact k

@[simp] theorem State.evaluateCues_runTime (s : State) (x w hr m : Nat) :
    (s.evaluateCues x w hr m).clock.runTime = s.clock.runTime := by
  unfold State.evaluateCues
  split
  · rfl
  · have hf : State.Frame [] s ((s.clock.firing w hr m).foldl State.sendAction s) :=
      State.Frame.foldl (fun t a => t.sendAction_frame a) ..
    have hc : ((s.clock.firing w hr m).foldl State.sendAction s).clock = s.clock := (hf.same (.block .clock) (by simp)).symm
    dsimp only
    rw [hc]

@[simp] theorem State.evaluateCrossed_runTime (s : State) (t : TimeFields) (last : Nat) (ms : List Nat) :
    (s.evaluateCrossed t last ms).clock.runTime = s.clock.runTime := by
  unfold State.evaluateCrossed
  induction ms generalizing s with
  | nil => rfl
  | cons k ms ih => exact (ih _).trans (State.evaluateCues_runTime ..)

@[simp] theorem State.raiseMark_runTime (s : State) (n : Nat) : (s.raiseMark n).clock.runTime = s.clock.runTime := by
  unfold State.raiseMark
  split <;> rfl

theorem State.forwardSet_runTime (s : State) (t : TimeFields) : (s.forwardSet t).clock.runTime = s.clock.runTime := by
  unfold State.forwardSet
  refine State.runTime_ite rfl (State.runTime_ite ?_ ((State.raiseMark_runTime ..).trans ?_))
  all_goals
    refine (State.evaluateCrossed_runTime ..).trans ?_
    have hold {c : Prop} {_ : Decidable c} {last : Nat} {ms : List Nat} :
        (if c then s.evaluateCrossed t last ms else s).clock.runTime = s.clock.runTime :=
      State.runTime_ite (State.evaluateCrossed_runTime ..) rfl
    exact State.runTime_ite hold hold

theorem State.applyTime_runTime (s : State) (t : TimeFields) : (s.applyTime t).clock.runTime = s.clock.runTime :=
  State.runTime_ite rfl <| State.runTime_ite rfl <| State.runTime_ite (State.runTime_ite rfl rfl) (s.forwardSet_runTime t)

theorem State.setFromUnset_runTime (s : State) (t : TimeFields) : (s.setFromUnset t).clock.runTime = s.clock.runTime :=
  State.runTime_ite (n := s.clock.runTime) rfl rfl

theorem State.takeBeacon_runTime (s : State) (t : TimeFields) : (s.takeBeacon t).clock.runTime = s.clock.runTime := by
  unfold State.takeBeacon
  split
  · exact s.setFromUnset_runTime t
  · exact s.applyTime_runTime t
  · exact State.applyTime_runTime _ t

/-! ### SET CLOCK (R33) -/

theorem setClock_outOfRange {t : TimeFields} (h : ¬t.Ok) (s : State) : setClock t s = refuse s .outOfRange :=
  if_pos (Decidable.not_not.mp fun hn => h (t.ok_iff.mpr hn))

theorem setClock_refused {t : TimeFields} {s : State} (h : t.Ok) (hs : s.clock.state ≠ .unset ∧ s.clock.dayOf t < s.clock.day) :
    setClock t s = refuse (s.sendCondition .clock (.raise .clockConflict)) .refusedState :=
  (if_neg (t.ok_iff.mp h)).trans (if_pos hs)

theorem setClock_done {t : TimeFields} {s : State} (h : t.Ok) (hs : ¬(s.clock.state ≠ .unset ∧ s.clock.dayOf t < s.clock.day)) :
    setClock t s = done (s.takeBeacon t).restartWatch :=
  (if_neg (t.ok_iff.mp h)).trans (if_neg hs)

/-- R24, R33: a SET CLOCK sets the time as a beacon does. -/
theorem exec_beacon_cons (s : State) (t : TimeFields) :
    exec .beacon { s with mail := { s.mail with linkToClock := .beacon t :: s.mail.linkToClock } } = .next (s.takeBeacon t) :=
  rfl

/-! ### SET HOUSE (R35) -/

theorem hourFormatOf_number (f : HourFormat) : hourFormatOf f.number = some f := by
  cases f <;> rfl

theorem hourFormatOf_eq_none {n : Nat} (h : n ≠ 12 ∧ n ≠ 24) : hourFormatOf n = none := by
  obtain ⟨h12, h24⟩ := h
  unfold hourFormatOf
  split
  · exact absurd rfl h12
  · exact absurd rfl h24
  · rfl

theorem setHouse_outOfRange {f d : Nat} (h : (f ≠ 12 ∧ f ≠ 24) ∨ 23 < d) (s : State) :
    setHouse f d s = refuse s .outOfRange := by
  unfold setHouse
  split
  · rfl
  · rename_i format hf
    have hd : 23 < d := h.resolve_left fun hn => by rw [hourFormatOf_eq_none hn] at hf; cases hf
    exact if_pos hd

theorem setHouse_refused (f : HourFormat) {d : Nat} {s : State} (hd : d ≤ 23)
    (hs : s.clock.state ≠ .unset ∧ d ≠ s.clock.dayStart) : setHouse f.number d s = refuse s .refusedState := by
  unfold setHouse
  rw [hourFormatOf_number]
  exact (if_neg (Nat.not_lt.mpr hd)).trans (if_pos hs)

theorem setHouse_done (f : HourFormat) {d : Nat} {s : State} (hd : d ≤ 23)
    (hs : ¬(s.clock.state ≠ .unset ∧ d ≠ s.clock.dayStart)) :
    setHouse f.number d s = done
      (if s.clock.hourFormat = f then { s with clock := { s.clock with dayStart := d } }
       else State.redrawClockTiles { s with
         clock := { s.clock with hourFormat := f, dayStart := d }
         mail := { s.mail with clockToBuilder := s.mail.clockToBuilder ++ [.hourFormatChanged] } }) := by
  unfold setHouse
  rw [hourFormatOf_number]
  refine (if_neg (Nat.not_lt.mpr hd)).trans ((if_neg hs).trans ?_)
  by_cases hf : s.clock.hourFormat = f
  · rw [if_pos hf]
    subst hf
    exact if_neg (not_not.mpr rfl)
  · rw [if_neg hf]
    exact if_pos hf

/-! ### SET CUE and CLEAR CUE (R37) -/

theorem cueFieldOk_iff (lo hi n : Nat) : cueFieldOk lo hi n = true ↔ (lo ≤ n ∧ n ≤ hi) ∨ n = 65535 := by
  simp [cueFieldOk]

/-- R37: the time fields of SET CUE, each in range or ANY. -/
def CueFields.TimesOk (f : CueFields) : Prop :=
  (f.weekday = 65535 ∨ 1 ≤ f.weekday ∧ f.weekday ≤ 7) ∧ (f.hour = 65535 ∨ f.hour ≤ 23) ∧ (f.minute = 65535 ∨ f.minute ≤ 59)

theorem CueFields.timesOk_iff (f : CueFields) : f.TimesOk ↔
    cueFieldOk 1 7 f.weekday = true ∧ cueFieldOk 0 23 f.hour = true ∧ cueFieldOk 0 59 f.minute = true := by
  simp only [cueFieldOk_iff, CueFields.TimesOk]
  omega

theorem CueFields.entry_eq_none {f : CueFields} (h : ¬f.TimesOk ∨ f.action = none) : f.entry = none := by
  unfold CueFields.entry
  split
  · rename_i hok
    simp only [Bool.and_eq_true] at hok
    obtain ⟨⟨⟨-, hw⟩, hh⟩, hm⟩ := hok
    rw [h.resolve_left (not_not.mpr (f.timesOk_iff.mpr ⟨hw, hh, hm⟩))]
    rfl
  · rfl

theorem CueFields.entry_eq_some {f : CueFields} {a : CueAction} (he : f.enabled ≤ 1) (ht : f.TimesOk) (ha : f.action = some a) :
    f.entry = some ⟨decide (f.enabled = 1), cueField f.weekday, cueField f.hour, cueField f.minute, a⟩ := by
  obtain ⟨hw, hh, hm⟩ := f.timesOk_iff.mp ht
  unfold CueFields.entry
  rw [ha, hw, hh, hm, decide_eq_true he]
  rfl

theorem CueFields.action_eq_none_of_members {f : CueFields} (h : f.members = [] ∨ ∃ m ∈ f.members, 11 < m) : f.action = none :=
  if_pos (h.imp_right fun ⟨m, hm, hlt⟩ => List.all_eq_false.mpr ⟨m, hm, by simpa using hlt⟩)

/-- R37: an action whose kind is none of the six, or whose parameter is out of range. -/
theorem CueFields.action_eq_none_of_kind {f : CueFields}
    (h : f.kind < 1 ∨ 6 < f.kind ∨ (f.kind = 1 ∧ 31 < f.arg) ∨ (f.kind = 6 ∧ 15 < f.arg)) : f.action = none := by
  unfold CueFields.action
  split
  · rfl
  · split
    case h_1 hk => exact if_neg (by omega)
    case h_6 hk => exact if_neg (by omega)
    case h_7 => rfl
    all_goals omega

theorem CueFields.action_eq_some {f : CueFields} {a : CueAction} (hne : f.members ≠ []) (hm : ∀ m ∈ f.members, m ≤ 11)
    (h : f.kind = 1 ∧ f.arg ≤ 31 ∧ a = .applyLayout f.arg f.members ∨ f.kind = 2 ∧ a = .quiet true f.members
      ∨ f.kind = 3 ∧ a = .quiet false f.members ∨ f.kind = 4 ∧ a = .standby f.members
      ∨ f.kind = 5 ∧ a = .wake f.members ∨ f.kind = 6 ∧ f.arg ≤ 15 ∧ a = .brightness f.arg f.members) :
    f.action = some a := by
  have hok : ¬(f.members = [] ∨ f.members.all (· ≤ 11) = false) := by
    have hall : f.members.all (· ≤ 11) = true := List.all_eq_true.mpr fun m h => decide_eq_true (hm m h)
    simp [hne, hall]
  unfold CueFields.action
  rw [if_neg hok]
  obtain ⟨hk, hle, ha⟩ | ⟨hk, ha⟩ | ⟨hk, ha⟩ | ⟨hk, ha⟩ | ⟨hk, ha⟩ | ⟨hk, hle, ha⟩ := h
  all_goals simp [*]

theorem cueField_any {n : Nat} {o : Option Nat} {p : Prop} (hp : p → n < 65535) (h : n = 65535 ∧ o = none ∨ p ∧ o = some n) :
    cueField n = o := by
  obtain ⟨hn, ho⟩ | ⟨hn, ho⟩ := h
  · exact (if_pos hn).trans ho.symm
  · exact (if_neg (hp hn).ne).trans ho.symm

theorem setCue_outOfRange {n : Nat} {f : CueFields} (h : 15 < n ∨ ¬f.TimesOk ∨ f.action = none) (s : State) :
    setCue n f s = refuse s .outOfRange := by
  unfold setCue
  split
  · rfl
  · rename_i e he
    have hn : 15 < n := h.resolve_right fun hf => by rw [CueFields.entry_eq_none hf] at he; cases he
    exact dif_neg (by omega)

theorem setCue_done {n : Nat} {f : CueFields} {e : Cue} (hn : n < 16) (he : f.entry = some e) (s : State) :
    setCue n f s = done { s with clock := { s.clock with cues := s.clock.cues.set n (some e) hn } } := by
  unfold setCue
  rw [he]
  exact dif_pos hn

theorem clearCue_outOfRange {n : Nat} (h : 15 < n) (s : State) : clearCue n s = refuse s .outOfRange :=
  dif_neg (by omega)

theorem clearCue_noSuch {n : Nat} (hn : n < 16) {s : State} (h : s.clock.cues[n] = none) : clearCue n s = refuse s .noSuch := by
  unfold clearCue
  rw [dif_pos hn, h]

theorem clearCue_done {n : Nat} (hn : n < 16) {s : State} (h : s.clock.cues[n] ≠ none) :
    clearCue n s = done { s with clock := { s.clock with cues := s.clock.cues.set n none hn } } := by
  obtain ⟨c, hc⟩ := Option.ne_none_iff_exists'.mp h
  unfold clearCue
  rw [dif_pos hn, hc]

/-- Taking a directive leaves the board clock's state to its effect (R8). -/
theorem State.Takes.clock {s u : State} {b : Block} {p : Port} {q : Packet} {d : Directive} (h : s.Takes b p q d u) :
    u.clock = s.clock := by
  obtain ⟨-, -, -, -, -, rfl⟩ := h
  rfl

/-- Settles O16. -/
theorem clockDirectivesAreChecked : Obligations.ClockDirectivesAreChecked := by
  refine ⟨fun s u p q t h => ?_, fun s u p q f d h => ?_, fun s u p q n f h => ?_, fun s u p q n h => ?_⟩
  · rw [exec_setClock h, ← State.Takes.clock h]
    refine ⟨fun ht => by rw [setClock_outOfRange ht]; rfl, fun ht hs hd => by rw [setClock_refused ht ⟨hs, hd⟩]; rfl,
      fun ht hs => ⟨_, exec_beacon_cons u t, ?_⟩⟩
    rw [setClock_done ht (by rintro ⟨hset, hlt⟩; exact hs.elim hset (by omega)), ← u.takeBeacon_runTime t]
    rfl
  · rw [exec_setHouse h, ← State.Takes.clock h]
    refine ⟨fun hf => by rw [setHouse_outOfRange hf]; rfl, fun hf hd hs hne => ?_, fun format hf hd hs => ?_⟩
    · obtain ⟨format, rfl⟩ : ∃ format : HourFormat, format.number = f :=
        hf.elim (fun e => ⟨.h12, e.symm⟩) (fun e => ⟨.h24, e.symm⟩)
      rw [setHouse_refused format hd ⟨hs, hne⟩]
      rfl
    · subst hf
      rw [setHouse_done format hd (fun ⟨hset, hne⟩ => hs.elim hset hne)]
      rfl
  · rw [exec_setCue h]
    refine ⟨fun hbad => ?_, fun e hn hen he hw hh hm hne hmem ha => ?_⟩
    · have hout : 15 < n ∨ ¬f.TimesOk ∨ f.action = none := by
        unfold CueFields.TimesOk
        obtain hb | hb | hb | hb | hb | hb | hb | hb | hb | hb := hbad
        · exact .inl hb
        · exact .inr (.inl (by omega))
        · exact .inr (.inl (by omega))
        · exact .inr (.inl (by omega))
        · exact .inr (.inr (CueFields.action_eq_none_of_kind (.inl hb)))
        · exact .inr (.inr (CueFields.action_eq_none_of_kind (.inr (.inl hb))))
        · exact .inr (.inr (CueFields.action_eq_none_of_members (.inl hb)))
        · exact .inr (.inr (CueFields.action_eq_none_of_members (.inr hb)))
        · exact .inr (.inr (CueFields.action_eq_none_of_kind (.inr (.inr (.inl hb)))))
        · exact .inr (.inr (CueFields.action_eq_none_of_kind (.inr (.inr (.inr hb)))))
      rw [setCue_outOfRange hout]
      rfl
    · have htimes : f.TimesOk := ⟨hw.imp And.left And.left, hh.imp And.left And.left, hm.imp And.left And.left⟩
      have hentry : f.entry = some e := by
        rw [CueFields.entry_eq_some hen htimes (CueFields.action_eq_some hne hmem ha), ← he, cueField_any (by omega) hw,
          cueField_any (by omega) hh, cueField_any (by omega) hm]
      rw [setCue_done hn hentry]
      rfl
  · rw [exec_clearCue h, ← State.Takes.clock h]
    refine ⟨fun hn => by rw [clearCue_outOfRange hn]; rfl, fun hn => ?_⟩
    by_cases hc : u.clock.cues[n] = none
    · rw [if_pos hc, clearCue_noSuch hn hc]
      rfl
    · rw [if_neg hc, clearCue_done hn hc]
      rfl

end Sys2Proof.Machine

end

section
/-! SUPPORT. The bytes of the two envelopes: what each field reader reads comes from its writer, and the sums of R1 and R2. -/

namespace Sys2Proof.Machine

open Sys2Proof

/-! ### What a field reader has read (R5) -/

theorem toNat_le_255 (b : Byte) : b.toNat ≤ 255 := by
  have := b.isLt
  omega

@[simp] theorem byteOf_of_toNat (b : Byte) : byteOf b.toNat = b := by simp [byteOf]

@[simp] theorem map_byteOf_map_toNat (bs : List Byte) : (bs.map BitVec.toNat).map byteOf = bs := by
  simp [Function.comp_def]

theorem put1_toNat (b : Byte) : put1 b.toNat = [b] := by simp [put1]

theorem put2_toNat (hi lo : Byte) : put2 (hi.toNat * 256 + lo.toNat) = [hi, lo] := by
  have h := lo.isLt
  have hdiv : (hi.toNat * 256 + lo.toNat) / 256 = hi.toNat := by omega
  have hlo : byteOf (hi.toNat * 256 + lo.toNat) = lo := by
    apply BitVec.eq_of_toNat_eq
    simp only [byteOf, BitVec.toNat_ofNat]
    omega
  rw [put2, hdiv, hlo, byteOf_of_toNat]

/-- The two bytes of a number, as values (R5). -/
theorem put2_values {n : Nat} (h : n ≤ 65535) : (put2 n).map BitVec.toNat = [n / 256, n % 256] := by
  simp [put2]
  omega

theorem get1_eq_some {bs r : List Byte} {n : Nat} : get1 bs = some (n, r) ↔ n ≤ 255 ∧ bs = put1 n ++ r := by
  refine ⟨fun h => ?_, fun ⟨hn, hb⟩ => hb ▸ get1_put1 hn r⟩
  cases bs with
  | nil => cases h
  | cons b bs =>
    cases h
    exact ⟨toNat_le_255 b, by rw [put1_toNat]; rfl⟩

theorem get2_eq_some {bs r : List Byte} {n : Nat} : get2 bs = some (n, r) ↔ n ≤ 65535 ∧ bs = put2 n ++ r := by
  refine ⟨fun h => ?_, fun ⟨hn, hb⟩ => hb ▸ get2_put2 hn r⟩
  match bs with
  | [] => cases h
  | [_] => cases h
  | hi :: lo :: bs =>
    cases h
    have h1 := toNat_le_255 hi
    have h2 := toNat_le_255 lo
    exact ⟨by omega, by rw [put2_toNat]; rfl⟩

theorem whole_eq_some {α : Type} {r : Option (α × List Byte)} {a : α} : whole r = some a ↔ r = some (a, []) := by
  unfold whole
  split
  · simp
  · rename_i hr
    constructor
    · exact (nomatch ·)
    · exact fun h => (hr a h).elim

theorem whole_get2_eq_some {bs : List Byte} {n : Nat} : whole (get2 bs) = some n ↔ n ≤ 65535 ∧ bs = put2 n := by
  rw [whole_eq_some, get2_eq_some, List.append_nil]

/-! ### The sum of the feed port's envelope (R1) -/

theorem onesAdd_lt {x w : Nat} (hx : x < 65536) (hw : w < 65536) : onesAdd x w < 65536 := by
  unfold onesAdd
  split <;> omega

/-- R1: the carry out of the top bit is the quotient by 65536. -/
theorem onesAdd_eq {x w : Nat} (hx : x < 65536) (hw : w < 65536) : onesAdd x w = (x + w) % 65536 + (x + w) / 65536 := by
  unfold onesAdd
  split <;> omega

theorem lt_of_mem_bodyWords {body : List Byte} {w : Nat} (h : w ∈ bodyWords body) : w < 65536 := by
  induction body using bodyWords.induct with
  | case1 => cases h
  | case2 a =>
    have ha := toNat_le_255 a
    rw [bodyWords, List.mem_singleton] at h
    omega
  | case3 a b rest ih =>
    have ha := toNat_le_255 a
    have hb := toNat_le_255 b
    rw [bodyWords, List.mem_cons] at h
    exact h.elim (fun h => by omega) ih

theorem foldl_onesAdd_lt {ws : List Nat} (hw : ∀ w ∈ ws, w < 65536) {x : Nat} (hx : x < 65536) : ws.foldl onesAdd x < 65536 := by
  induction ws generalizing x with
  | nil => exact hx
  | cons w ws ih =>
    rw [List.forall_mem_cons] at hw
    exact ih hw.2 (onesAdd_lt hx hw.1)

theorem foldl_onesAdd_eq {ws : List Nat} (hw : ∀ w ∈ ws, w < 65536) {x : Nat} (hx : x < 65536) :
    ws.foldl onesAdd x = ws.foldl (fun x w => (x + w) % 65536 + (x + w) / 65536) x := by
  induction ws generalizing x with
  | nil => rfl
  | cons w ws ih =>
    rw [List.forall_mem_cons] at hw
    rw [List.foldl_cons, ih hw.2 (onesAdd_lt hx hw.1), List.foldl_cons, onesAdd_eq hx hw.1]

theorem onesSum_lt (body : List Byte) : onesSum body < 65536 :=
  foldl_onesAdd_lt (fun _ => lt_of_mem_bodyWords) (by omega)

/-- R1: the words of a body by position, a byte past its end counting as 0. -/
theorem bodyWords_eq_map_range (body : List Byte) : bodyWords body = (List.range ((body.length + 1) / 2)).map fun k =>
    (body[2 * k]?.map BitVec.toNat).getD 0 * 256 + (body[2 * k + 1]?.map BitVec.toNat).getD 0 := by
  induction body using bodyWords.induct with
  | case1 => rfl
  | case2 a => simp [bodyWords]
  | case3 a b rest ih =>
    have hlen : ((a :: b :: rest).length + 1) / 2 = (rest.length + 1) / 2 + 1 := by
      simp only [List.length_cons]
      omega
    rw [bodyWords, ih, hlen, List.range_succ_eq_map, List.map_cons, List.map_map]
    rfl

theorem onesSum_eq (body : List Byte) : onesSum body = (List.range ((body.length + 1) / 2)).foldl (fun x k =>
    (x + ((body[2 * k]?.map BitVec.toNat).getD 0 * 256 + (body[2 * k + 1]?.map BitVec.toNat).getD 0)) % 65536
      + (x + ((body[2 * k]?.map BitVec.toNat).getD 0 * 256 + (body[2 * k + 1]?.map BitVec.toNat).getD 0)) / 65536) 0 := by
  rw [onesSum, foldl_onesAdd_eq (fun _ => lt_of_mem_bodyWords) (by omega), bodyWords_eq_map_range, List.foldl_map]

/-! ### The feed port's envelope (R1, Table 1-6) -/

/-- A frame from the four bytes of its head on. -/
theorem readFeedFrame_cons (kind tag hi lo : Byte) (rest : List Byte) (damaged : Bool) :
    readFeedFrame (kind :: tag :: hi :: lo :: rest) damaged =
      if 1 ≤ kind.toNat ∧ kind.toNat ≤ 3 ∧ hi.toNat * 256 + lo.toNat ≤ 8192
          ∧ rest.length = hi.toNat * 256 + lo.toNat + 2
          ∧ whole (get2 (rest.drop (hi.toNat * 256 + lo.toNat))) = some (onesSum (rest.take (hi.toNat * 256 + lo.toNat)))
          ∧ damaged = false then
        some (kind.toNat, tag.toNat, rest.take (hi.toNat * 256 + lo.toNat))
      else none := rfl

theorem feedPacket_cons (kind tag : Nat) (body : List Byte) : feedPacket kind tag body =
    byteOf kind :: byteOf tag :: byteOf (body.length / 256) :: byteOf body.length :: (body ++ put2 (onesSum body)) := by
  simp [feedPacket, put1, put2]

theorem readFeedFrame_feedPacket {kind tag : Nat} {body : List Byte} (h1 : 1 ≤ kind) (h3 : kind ≤ 3) (ht : tag ≤ 255)
    (hb : body.length ≤ 8192) (damaged : Bool) :
    readFeedFrame (feedPacket kind tag body) damaged = if damaged = false then some (kind, tag, body) else none := by
  have hlen : (byteOf (body.length / 256)).toNat * 256 + (byteOf body.length).toNat = body.length := by
    simp only [byteOf, BitVec.toNat_ofNat]
    omega
  have hsum : whole (get2 (put2 (onesSum body))) = some (onesSum body) :=
    whole_get2_eq_some.mpr ⟨Nat.le_of_lt_succ (onesSum_lt body), rfl⟩
  rw [feedPacket_cons, readFeedFrame_cons, hlen, byteOf_toNat (by omega), byteOf_toNat ht, List.drop_left, List.take_left, hsum]
  simp [h1, h3, hb, put2]

theorem eq_of_readFeedFrame {frame : List Byte} {damaged : Bool} {kind tag : Nat} {body : List Byte}
    (h : readFeedFrame frame damaged = some (kind, tag, body)) :
    damaged = false ∧ frame = feedPacket kind tag body ∧ 1 ≤ kind ∧ kind ≤ 3 ∧ tag ≤ 255 ∧ body.length ≤ 8192 := by
  match frame with
  | [] | [_] | [_, _] | [_, _, _] => cases h
  | k :: t :: hi :: lo :: rest =>
    rw [readFeedFrame_cons, Option.ite_none_right_eq_some] at h
    obtain ⟨⟨h1, h3, hle, hlen, hsum, hd⟩, h⟩ := h
    obtain ⟨rfl, rfl, rfl⟩ : k.toNat = kind ∧ t.toNat = tag ∧ rest.take (hi.toNat * 256 + lo.toNat) = body := by
      simpa using h
    have htake : (rest.take (hi.toNat * 256 + lo.toNat)).length = hi.toNat * 256 + lo.toNat := by
      rw [List.length_take]
      omega
    obtain ⟨-, hdrop⟩ := whole_get2_eq_some.mp hsum
    refine ⟨hd, ?_, h1, h3, toNat_le_255 t, htake.trans_le hle⟩
    rw [feedPacket, htake, put1_toNat, put1_toNat, put2_toNat, ← hdrop, List.append_assoc, List.take_append_drop]
    rfl

/-! ### The desk port's envelope (R2, Table 1-7) -/

theorem readDeskPacket_eq_some_iff {n : Nat} {values : List Nat} {spoiled : Bool} {kind tag : Nat} {body : List Byte} :
    readDeskPacket n values spoiled = some (kind, tag, body) ↔
      spoiled = false ∧ (kind = 1 ∨ kind = 3) ∧ ∃ (inner : List Nat) (hi lo : Nat), values = kind :: tag :: (inner ++ [hi, lo])
        ∧ n = inner.length + 2 ∧ body = inner.map byteOf ∧ hi * 256 + lo = (n + kind + tag + inner.sum) % 65536 := by
  have hsum (k t : Nat) (inner : List Nat) : plainSum (n :: k :: t :: inner) = (n + k + t + inner.sum) % 65536 := by
    simp only [plainSum, List.sum_cons, ← Nat.add_assoc]
  constructor
  · intro h
    unfold readDeskPacket at h
    dsimp only at h
    split at h
    · rename_i k t inner hi lo htake hdrop
      rw [Option.ite_none_right_eq_some, htake, hsum] at h
      obtain ⟨⟨hs, hsums, hk⟩, h⟩ := h
      obtain ⟨rfl, rfl, rfl⟩ : k = kind ∧ t = tag ∧ inner.map byteOf = body := by simpa using h
      have hvalues : values = k :: t :: (inner ++ [hi, lo]) := by
        rw [← List.take_append_drop n values, htake, hdrop]
        rfl
      have hn : n = inner.length + 2 := by
        have hlt := congrArg List.length htake
        have hld := congrArg List.length hdrop
        simp only [List.length_take, List.length_drop, List.length_cons, List.length_nil] at hlt hld
        omega
      exact ⟨hs, hk, inner, hi, lo, hvalues, hn, rfl, hsums⟩
    · cases h
  · rintro ⟨rfl, hk, inner, hi, lo, rfl, rfl, rfl, hsums⟩
    have htake : (kind :: tag :: (inner ++ [hi, lo])).take (inner.length + 2) = kind :: tag :: inner := by simp
    have hdrop : (kind :: tag :: (inner ++ [hi, lo])).drop (inner.length + 2) = [hi, lo] := by simp
    unfold readDeskPacket
    rw [htake, hdrop]
    dsimp only
    rw [hsum, if_pos ⟨rfl, hsums, hk⟩]

end Sys2Proof.Machine

end

section
/-! SUPPORT. Settles O5: how the desk receiver takes each byte, and that the bytes of a packet bring that packet. -/

namespace Sys2Proof.Machine

open Sys2Proof

/-! ### A byte's step of the desk receiver (R2) -/

/-- A byte has a value exactly when it is that value's byte. -/
theorem toNat_eq_iff_eq_byteOf {b : Byte} {n : Nat} (h : n ≤ 255) : b.toNat = n ↔ b = byteOf n := by
  constructor
  · rintro rfl
    exact (byteOf_of_toNat b).symm
  · rintro rfl
    exact byteOf_toNat h

theorem toNat_eq_start {b : Byte} : b.toNat = 0xFE ↔ b = 0xFE := toNat_eq_iff_eq_byteOf (by decide)

theorem toNat_eq_escape {b : Byte} : b.toNat = 0xFD ↔ b = 0xFD := toNat_eq_iff_eq_byteOf (by decide)

/-- R2: the value a byte stands for, its lowest bit inverted after an escape. -/
def deskValue (escaped : Bool) (b : Byte) : Nat :=
  if escaped = false then b.toNat else if b.toNat % 2 = 0 then b.toNat + 1 else b.toNat - 1

theorem unescape_eq_deskValue (escaped : Bool) (b : Byte) :
    (if escaped = true then unescape b.toNat else b.toNat) = deskValue escaped b := by
  cases escaped <;> rfl

/-- Whether an escape is followed by a byte that no escape sends (R2). -/
def strayEscape (escaped : Bool) (b : Byte) : Bool := escaped && b != 0xFF && b != 0xFC

theorem strayEscape_eq (escaped : Bool) (b : Byte) :
    (escaped && decide (b.toNat ≠ 0xFF) && decide (b.toNat ≠ 0xFC)) = strayEscape escaped b := by
  have hff : b.toNat = 0xFF ↔ b = 0xFF := toNat_eq_iff_eq_byteOf (by decide)
  have hfc : b.toNat = 0xFC ↔ b = 0xFC := toNat_eq_iff_eq_byteOf (by decide)
  simp only [strayEscape, ne_eq, hff, hfc, decide_not, bne, beq_eq_decide]

theorem deskReceive_hunting (b : Byte) (error : Bool) : deskReceive .hunting b error
    = (if b = 0xFE ∧ error = false then .length false else .hunting, .nothing) := by
  simp only [deskReceive, toNat_eq_start]
  split <;> rfl

/-- A start byte begins a packet anew. -/
theorem deskReceive_start {r : DeskReceiver} (h : r ≠ .hunting) : deskReceive r 0xFE false = (.length false, .discarded) := by
  cases r with
  | hunting => exact absurd rfl h
  | length => rfl
  | collecting => rfl

theorem deskReceive_length_error (escaped : Bool) (b : Byte) :
    deskReceive (.length escaped) b true = (.hunting, .discarded) := by
  simp [deskReceive]

theorem deskReceive_length_value {escaped : Bool} {b : Byte} (hs : b ≠ 0xFE) (he : escaped = false → b ≠ 0xFD) :
    deskReceive (.length escaped) b false = if deskValue escaped b ≤ 1 then (.hunting, .discarded)
      else (.collecting (deskValue escaped b) [] false (strayEscape escaped b), .nothing) := by
  have hesc : ¬(b = 0xFD ∧ escaped = false) := fun h => he h.2 h.1
  simp only [deskReceive, toNat_eq_start, toNat_eq_escape, hs, false_and, if_neg hesc, unescape_eq_deskValue, strayEscape_eq,
    Bool.false_eq_true, if_false]
  by_cases h : deskValue escaped b ≤ 1
  · rw [if_pos h, if_neg (by omega)]
  · rw [if_neg h, if_pos (by omega)]

theorem deskReceive_collecting_escape (n : Nat) (values : List Nat) (spoiled error : Bool) :
    deskReceive (.collecting n values false spoiled) 0xFD error = (.collecting n values true (spoiled || error), .nothing) := rfl

theorem deskReceive_collecting_value {n : Nat} {values : List Nat} {escaped spoiled error : Bool} {b : Byte}
    (hs : b = 0xFE → error = true) (he : escaped = false → b ≠ 0xFD) :
    deskReceive (.collecting n values escaped spoiled) b error = if values.length = n + 1 then
        (.hunting, .completed n (values ++ [deskValue escaped b]) (spoiled || error || strayEscape escaped b))
      else (.collecting n (values ++ [deskValue escaped b]) false (spoiled || error || strayEscape escaped b), .nothing) := by
  have hstart : ¬(b = 0xFE ∧ error = false) := fun ⟨hb, herr⟩ => by rw [hs hb] at herr; cases herr
  have hesc : ¬(b = 0xFD ∧ escaped = false) := fun h => he h.2 h.1
  simp only [deskReceive, toNat_eq_start, toNat_eq_escape, if_neg hstart, if_neg hesc, unescape_eq_deskValue, strayEscape_eq,
    List.length_append, List.length_singleton, Nat.add_right_cancel_iff]

/-! ### The bytes of a packet, one by one (R2) -/

/-- A state whose desk receiver is where `r` says. -/
def State.receiving (s : State) (r : DeskReceiver) : State := { s with link := { s.link with deskReceiver := r } }

theorem State.receiving_self {s : State} {r : DeskReceiver} (h : s.link.deskReceiver = r) : s.receiving r = s := by
  subst h
  rfl

/-- The commands by which bytes arrive on the desk line, none in error. -/
def deskBytes (bs : List Byte) : List Instr := bs.map fun b => .deskByte b false

theorem State.run_deskBytes_cons (s : State) (r : DeskReceiver) (b : Byte) (bs : List Byte) :
    (s.receiving r).run (deskBytes (b :: bs)) = ((s.receiving (deskReceive r b false).1).applyDeskEvent
      (deskReceive r b false).2).run (deskBytes bs) := rfl

/-- Where the receiver stands after a value of a packet that is not spoiled, and what has come of the packet. -/
def received (n : Nat) (values : List Nat) : DeskReceiver × DeskEvent :=
  if values.length = n + 2 then (.hunting, .completed n values false) else (.collecting n values false false, .nothing)

theorem received_append (n : Nat) (values : List Nat) (v : Nat) : received n (values ++ [v])
    = if values.length = n + 1 then (.hunting, .completed n (values ++ [v]) false)
      else (.collecting n (values ++ [v]) false false, .nothing) := by
  simp [received]

/-- The value after an escape that was sent for one of the two escaped bytes. -/
theorem deskReceive_collecting_escaped (n : Nat) (values : List Nat) :
    deskReceive (.collecting n values true false) 0xFF false = received n (values ++ [0xFE])
    ∧ deskReceive (.collecting n values true false) 0xFC false = received n (values ++ [0xFD]) := by
  constructor
  · rw [received_append]
    exact deskReceive_collecting_value (by decide) (by decide)
  · rw [received_append]
    exact deskReceive_collecting_value (by decide) (by decide)

/-- R2: the bytes that a byte is sent as bring its value. -/
theorem State.run_deskEscape (s : State) (n : Nat) (values : List Nat) (b : Byte) (bs : List Byte) :
    (s.receiving (.collecting n values false false)).run (deskBytes (deskEscape b ++ bs))
      = ((s.receiving (received n (values ++ [b.toNat])).1).applyDeskEvent (received n (values ++ [b.toNat])).2).run
          (deskBytes bs) := by
  obtain ⟨hff, hfc⟩ := deskReceive_collecting_escaped n values
  unfold deskEscape
  split
  · rename_i hb
    subst hb
    refine (State.run_deskBytes_cons ..).trans ?_
    rw [deskReceive_collecting_escape]
    refine (State.run_deskBytes_cons ..).trans ?_
    rw [Bool.or_self, hff]
    rfl
  · rename_i hs
    split
    · rename_i hb
      subst hb
      refine (State.run_deskBytes_cons ..).trans ?_
      rw [deskReceive_collecting_escape]
      refine (State.run_deskBytes_cons ..).trans ?_
      rw [Bool.or_self, hfc]
      rfl
    · rename_i he
      refine (State.run_deskBytes_cons ..).trans ?_
      rw [deskReceive_collecting_value (fun h => absurd h hs) (fun _ => he), received_append]
      rfl

theorem State.run_collecting (s : State) {n : Nat} {values : List Nat} (b : Byte) (bs : List Byte)
    (h : values.length + bs.length = n + 1) :
    (s.receiving (.collecting n values false false)).run (deskBytes ((b :: bs).flatMap deskEscape))
      = (s.receiving .hunting).applyDeskEvent (.completed n (values ++ (b :: bs).map BitVec.toNat) false) := by
  induction bs generalizing b values with
  | nil =>
    have hv : values.length = n + 1 := h
    rw [List.flatMap_cons, State.run_deskEscape, received_append, if_pos hv]
    rfl
  | cons c cs ih =>
    rw [List.length_cons] at h
    have hv : ¬values.length = n + 1 := by omega
    rw [List.flatMap_cons, State.run_deskEscape, received_append, if_neg hv]
    refine (ih c ?_).trans ?_
    · rw [List.length_append, List.length_singleton]
      omega
    · rw [List.append_assoc]
      rfl

/-- R2: the length byte, sent escaped where it has to be. -/
theorem State.run_lengthByte (s : State) {b : Byte} (hb : 2 ≤ b.toNat) (bs : List Byte) :
    (s.receiving (.length false)).run (deskBytes (deskEscape b ++ bs))
      = (s.receiving (.collecting b.toNat [] false false)).run (deskBytes bs) := by
  unfold deskEscape
  split
  · rename_i h
    subst h
    rfl
  · rename_i hs
    split
    · rename_i h
      subst h
      rfl
    · rename_i he
      refine (State.run_deskBytes_cons ..).trans ?_
      have hv : ¬deskValue false b ≤ 1 := Nat.not_le.mpr hb
      rw [deskReceive_length_value hs fun _ => he, if_neg hv]
      rfl

/-- The sum of a desk packet (R2). -/
def deskSum (kind tag : Nat) (body : List Byte) : Nat :=
  (body.length + 2 + kind + tag + (body.map BitVec.toNat).sum) % 65536

theorem deskPacket_eq {kind tag : Nat} {body : List Byte} (hk : kind ≤ 255) (ht : tag ≤ 255) (hb : body.length ≤ 253) :
    deskPacket kind tag body = 0xFE :: (deskEscape (byteOf (body.length + 2))
      ++ (byteOf kind :: byteOf tag :: (body ++ put2 (deskSum kind tag body))).flatMap deskEscape) := by
  have hsum : plainSum ((put1 (body.length + 2) ++ put1 kind ++ put1 tag ++ body).map BitVec.toNat) = deskSum kind tag body := by
    simp only [put1, List.cons_append, List.nil_append, List.map_cons, plainSum, List.sum_cons, deskSum, byteOf_toNat hk,
      byteOf_toNat ht, byteOf_toNat (show body.length + 2 ≤ 255 by omega), ← Nat.add_assoc]
  unfold deskPacket
  dsimp only
  rw [hsum]
  rfl

/-- R2: the bytes of a packet bring exactly that packet. -/
theorem State.run_deskPacket {s : State} {kind tag : Nat} {body : List Byte} (hk : kind = 1 ∨ kind = 3) (ht : tag ≤ 255)
    (hb : body.length ≤ 253) (hr : s.link.deskReceiver = .hunting) (hreset : s.link.resetPending = none) :
    s.run (deskBytes (deskPacket kind tag body)) = s.routeDesk kind tag body := by
  have hlen : (byteOf (body.length + 2)).toNat = body.length + 2 := byteOf_toNat (by omega)
  have hkind : (byteOf kind).toNat = kind := byteOf_toNat (by omega)
  have hsum : deskSum kind tag body ≤ 65535 := by
    unfold deskSum
    omega
  have hread : readDeskPacket (body.length + 2) (kind :: tag :: (body.map BitVec.toNat
      ++ [deskSum kind tag body / 256, deskSum kind tag body % 256])) false = some (kind, tag, body) :=
    readDeskPacket_eq_some_iff.mpr ⟨rfl, hk, body.map BitVec.toNat, _, _, rfl, by rw [List.length_map],
      (map_byteOf_map_toNat body).symm, Nat.div_add_mod' ..⟩
  calc s.run (deskBytes (deskPacket kind tag body))
      = (s.receiving .hunting).run (deskBytes (deskPacket kind tag body)) := by rw [State.receiving_self hr]
    _ = (s.receiving (.length false)).run (deskBytes (deskEscape (byteOf (body.length + 2))
          ++ (byteOf kind :: byteOf tag :: (body ++ put2 (deskSum kind tag body))).flatMap deskEscape)) := by
        rw [deskPacket_eq (by omega) ht hb, State.run_deskBytes_cons]
        rfl
    _ = (s.receiving (.collecting (body.length + 2) [] false false)).run
          (deskBytes ((byteOf kind :: byteOf tag :: (body ++ put2 (deskSum kind tag body))).flatMap deskEscape)) := by
        rw [State.run_lengthByte s (by omega), hlen]
    _ = (s.receiving .hunting).applyDeskEvent (.completed (body.length + 2)
          (kind :: tag :: (body.map BitVec.toNat ++ [deskSum kind tag body / 256, deskSum kind tag body % 256])) false) := by
        rw [State.run_collecting _ _ _ (by simp [put2])]
        simp only [List.nil_append, List.map_cons, List.map_append, put2_values hsum, hkind, byteOf_toNat ht]
    _ = s.routeDesk kind tag body := by
        rw [State.receiving_self hr, State.applyDeskEvent, hreset, hread]
        rfl

/-- Settles O5. -/
theorem envelopesReadAsSent : Obligations.EnvelopesReadAsSent := by
  refine ⟨fun kind tag body h1 h3 ht hb => ?_, fun frame damaged kind tag body => eq_of_readFeedFrame,
    fun kind tag body value hv => ⟨rfl, ?_⟩, fun n values spoiled kind tag body => readDeskPacket_eq_some_iff,
    ⟨deskReceive_hunting, fun r => deskReceive_start, deskReceive_length_error, rfl, ?_, deskReceive_collecting_escape, ?_⟩,
    fun s kind tag body hk ht hb hr hreset => State.run_deskPacket hk ht hb hr hreset⟩
  · exact ⟨readFeedFrame_feedPacket h1 h3 ht hb false, readFeedFrame_feedPacket h1 h3 ht hb true⟩
  · obtain rfl : value = fun k => (body[k]?.map BitVec.toNat).getD 0 := funext hv
    exact onesSum_eq body
  · rintro escaped b v hs he rfl
    exact deskReceive_length_value hs he
  · rintro n values escaped spoiled error bad b v hs he rfl rfl
    exact deskReceive_collecting_value hs he

end Sys2Proof.Machine

end

section
/-! SUPPORT. What the two ports do with what arrives (R1 to R4, R6, R19), for O6. -/

namespace Sys2Proof.Machine

open Sys2Proof

/-! ### Frames on the feed line (R1, R3, R4, R19) -/

/-- A state whose feed receiver waits for a frame. -/
def State.feedIdle (s : State) : State := { s with link := { s.link with feedReceiver := .idle } }

theorem exec_feedFrame_of_reset {s : State} (frame : List Byte) (damaged : Bool) (h : s.link.resetPending.isSome = true) :
    exec (.feedFrame frame damaged) s = .next s.feedIdle :=
  congrArg Host.Outcome.next (if_pos h)

theorem exec_feedFrame_of_read {s : State} {frame : List Byte} {damaged : Bool} {kind tag : Nat} {body : List Byte}
    (hr : s.link.resetPending = none) (h : readFeedFrame frame damaged = some (kind, tag, body)) :
    exec (.feedFrame frame damaged) s = .next (s.feedIdle.routeFeed kind tag body) := by
  simp [exec, execFeedFrame, hr, h, State.feedIdle]

theorem exec_feedFrame_of_unread {s : State} {frame : List Byte} {damaged : Bool}
    (hr : s.link.resetPending = none) (h : readFeedFrame frame damaged = none) :
    exec (.feedFrame frame damaged) s = .next (s.feedIdle.discardPacket .feed) := by
  simp [exec, execFeedFrame, hr, h, State.feedIdle]

theorem State.routeFeed_segment (s : State) (tag : Nat) (body : List Byte) :
    s.routeFeed 1 tag body = { s with mail := { s.mail with segments := s.mail.segments ++ [body] } } := rfl

theorem State.routeFeed_beacon {s : State} {tag : Nat} {body : List Byte} {t : TimeFields} (h : readBeacon body = some t) :
    s.routeFeed 2 tag body = { s with
      link := { s.link with watch := ⟨s.clock.runTime, false⟩ }
      mail := { s.mail with linkToClock := s.mail.linkToClock ++ [.beacon t] } } := by
  simp [State.routeFeed, h, State.restartWatch]

theorem State.routeFeed_badBeacon {s : State} {tag : Nat} {body : List Byte} (h : readBeacon body = none) :
    s.routeFeed 2 tag body = s.discardPacket .feed := by
  simp [State.routeFeed, h]

theorem State.routeFeed_directive (s : State) (tag : Nat) (body : List Byte) :
    s.routeFeed 3 tag body = s.joinIntake .feed ⟨tag, codeOf body, readDirective body⟩ := rfl

/-! ### Bytes on the desk line (R2, R3, R4, R19) -/

theorem exec_deskByte {s : State} {b : Byte} {error : Bool} {r : DeskReceiver} {e : DeskEvent}
    (h : deskReceive s.link.deskReceiver b error = (r, e)) :
    exec (.deskByte b error) s = .next ((s.receiving r).applyDeskEvent e) := by
  simp only [exec, execDeskByte, h]
  rfl

theorem State.applyDeskEvent_of_reset {s : State} (h : s.link.resetPending.isSome = true) (n : Nat) (values : List Nat)
    (spoiled : Bool) : s.applyDeskEvent (.completed n values spoiled) = s :=
  if_pos h

theorem State.applyDeskEvent_of_read {s : State} {n : Nat} {values : List Nat} {spoiled : Bool} {kind tag : Nat}
    {body : List Byte} (hr : s.link.resetPending = none) (h : readDeskPacket n values spoiled = some (kind, tag, body)) :
    s.applyDeskEvent (.completed n values spoiled) = s.routeDesk kind tag body := by
  simp [State.applyDeskEvent, hr, h]

theorem State.applyDeskEvent_of_unread {s : State} {n : Nat} {values : List Nat} {spoiled : Bool}
    (hr : s.link.resetPending = none) (h : readDeskPacket n values spoiled = none) :
    s.applyDeskEvent (.completed n values spoiled) = s.discardPacket .desk := by
  simp [State.applyDeskEvent, hr, h]

/-! ### Discarded packets and full intake queues (R3, R6, R13) -/

/-- R13: what a raise leaves in the flags and in the due marks. -/
theorem LinkUnit.raise_eq (l : LinkUnit) (c : Condition) : ∃ flags due : Vector Bool 12,
    l.raise c = { l with flags := flags, due := due }
    ∧ (∀ k : Fin 12, flags[k] = (l.flags[k] || k == c.index))
    ∧ ∀ k : Fin 12, due[k] = (l.due[k] || (k == c.index && !l.flags[c.index] && l.enables[c.index])) := by
  by_cases hf : l.flags[c.index] = true
  · refine ⟨l.flags, l.due, if_pos hf, fun k => ?_, fun k => ?_⟩
    · by_cases hk : k = c.index
      · rw [hk, hf]
        rfl
      · rw [beq_false_of_ne hk, Bool.or_false]
    · rw [hf, Bool.not_true, Bool.and_false, Bool.false_and, Bool.or_false]
  · rw [Bool.not_eq_true] at hf
    refine ⟨_, _, l.raise_of_clear c hf, fun k => ?_, fun k => ?_⟩
    · rw [put_getElem]
      by_cases hk : k = c.index
      · rw [if_pos hk, hk, beq_self_eq_true, Bool.or_true]
      · rw [if_neg hk, beq_false_of_ne hk, Bool.or_false]
    · rw [put_getElem]
      by_cases hk : k = c.index
      · rw [if_pos hk, hk, hf, beq_self_eq_true, Bool.not_false, Bool.true_and, Bool.true_and]
      · rw [if_neg hk, beq_false_of_ne hk, Bool.false_and, Bool.false_and, Bool.or_false]

theorem State.discardPacket_eq (s : State) (p : Port) : ∃ flags due : Vector Bool 12,
    s.discardPacket p = { s.putPort p { s.port p with lineErrors := min ((s.port p).lineErrors + 1) 65535 } with
      link := { (s.putPort p { s.port p with lineErrors := min ((s.port p).lineErrors + 1) 65535 }).link with
        flags := flags, due := due } }
    ∧ (∀ k : Fin 12, flags[k] = (s.link.flags[k] || k == 4))
    ∧ ∀ k : Fin 12, due[k] = (s.link.due[k] || (k == 4 && !s.link.flags[4] && s.link.enables[4])) := by
  obtain ⟨flags, due, h, hflags, hdue⟩ :=
    (s.putPort p { s.port p with lineErrors := min ((s.port p).lineErrors + 1) 65535 }).link.raise_eq .lineError
  exact ⟨flags, due, congrArg (fun l => { s.putPort p _ with link := l }) h, hflags, hdue⟩

theorem State.joinIntake_of_room {s : State} {p : Port} (h : (s.port p).intake.length < 32) (q : Packet) :
    s.joinIntake p q = s.putPort p { s.port p with intake := (s.port p).intake ++ [q] } :=
  if_pos h

theorem State.joinIntake_of_full {s : State} {p : Port} (h : 32 ≤ (s.port p).intake.length) (q : Packet) :
    s.joinIntake p q = (s.putPort p { s.port p with discards := saturate16 (s.port p).discards }).raiseOwn .directiveDiscard :=
  if_neg (Nat.not_lt.mpr h)

/-- R6: an arrival at a full intake queue is counted and raises DIRECTIVE_DISCARD. -/
theorem State.joinIntake_full {s : State} {p : Port} (h : 32 ≤ (s.port p).intake.length) (q : Packet) :
    (s.joinIntake p q).port p = { s.port p with discards := min ((s.port p).discards + 1) 65535 }
    ∧ (s.joinIntake p q).link.flags[3] = true
    ∧ (s.joinIntake p q).link.due[3] = (s.link.due[3] || (!s.link.flags[3] && s.link.enables[3]))
    ∧ (s.joinIntake p q).link.handoff = s.link.handoff ∧ (s.joinIntake p q).mail = s.mail := by
  obtain ⟨flags, due, hraise, hflags, hdue⟩ :=
    (s.putPort p { s.port p with discards := saturate16 (s.port p).discards }).link.raise_eq .directiveDiscard
  have hlink : (s.joinIntake p q).link
      = { (s.putPort p { s.port p with discards := saturate16 (s.port p).discards }).link with flags := flags, due := due } := by
    rw [State.joinIntake_of_full h]
    exact hraise
  refine ⟨?_, ?_, ?_, by rw [hlink]; rfl, by rw [State.joinIntake_of_full h]; rfl⟩
  · rw [State.port, hlink]
    cases p <;> rfl
  · rw [hlink]
    exact (hflags 3).trans (Bool.or_true _)
  · rw [hlink]
    exact hdue 3

end Sys2Proof.Machine

end

section
/-! SUPPORT. What beacon, tally and directive bodies read as (Tables 1-8, 1-9 and 1-11, R5), for O6. -/

namespace Sys2Proof.Machine

open Sys2Proof

/-! ### The last field of a body: nothing is left behind it -/

theorem get1_put1_end {n : Nat} (h : n ≤ 255) : get1 (put1 n) = some (n, []) := get1_put1 h []

theorem get2_put2_end {n : Nat} (h : n ≤ 65535) : get2 (put2 n) = some (n, []) := get2_put2 h []

theorem get4_put4_end {n : Nat} (h : n ≤ 4294967295) : get4 (put4 n) = some (n, []) := get4_put4 h []

theorem getText_putText_end {t : List Byte} (h : t.length ≤ 255) : getText (putText t) = some (t, []) := by
  simpa using getText_putText h []

/-- R5: a set that its count byte and its members' two bytes can carry. -/
def SetFits (xs : List Nat) : Prop := xs.length ≤ 255 ∧ ∀ m ∈ xs, m ≤ 65535

theorem SetFits.get {xs : List Nat} (h : SetFits xs) (r : List Byte) : getSet (putSet xs ++ r) = some (xs, r) :=
  getSet_putSet h.1 h.2 r

theorem SetFits.get_end {xs : List Nat} (h : SetFits xs) : getSet (putSet xs) = some (xs, []) := by
  simpa using h.get []

theorem SetFits.whole {xs : List Nat} (h : SetFits xs) : whole (getSet (putSet xs)) = some xs :=
  whole_eq_some.mpr h.get_end

/-- R5: an optional number that two bytes can carry. -/
def OptFits (x : Option Nat) : Prop := ∀ m, x = some m → m ≤ 65535

theorem OptFits.get {x : Option Nat} (h : OptFits x) (r : List Byte) : getOpt get2 (putOpt put2 x ++ r) = some (x, r) :=
  getOpt_putOpt (fun y hy r => get2_put2 (h y hy) r) r

theorem OptFits.get_end {x : Option Nat} (h : OptFits x) : getOpt get2 (putOpt put2 x) = some (x, []) := by
  simpa using h.get []

theorem getOpt_putSet {x : Option (List Nat)} (h : ∀ v, x = some v → SetFits v) (r : List Byte) :
    getOpt getSet (putOpt putSet x ++ r) = some (x, r) :=
  getOpt_putOpt (fun y hy r => (h y hy).get r) r

theorem getOpt_putText_end {x : Option (List Byte)} (h : ∀ v, x = some v → v.length ≤ 255) :
    getOpt getText (putOpt putText x) = some (x, []) := by
  simpa using getOpt_putOpt (fun y hy r => getText_putText (h y hy) r) []

theorem whole_get2_put2 {n : Nat} (h : n ≤ 65535) : whole (get2 (put2 n)) = some n := whole_get2_eq_some.mpr ⟨h, rfl⟩

/-- R124: a list of coded bytes that its count byte and its members' bytes can carry. -/
def CodedFits (is : List Coded) : Prop := is.length ≤ 255 ∧ ∀ m ∈ is, m.kind ≤ 255 ∧ m.value ≤ 255

theorem getCodedByte_puts {m : Coded} (hk : m.kind ≤ 255) (hv : m.value ≤ 255) (r : List Byte) :
    getCodedByte (put1 m.kind ++ (put1 m.value ++ r)) = some (m, r) := by
  simp [getCodedByte, get1_put1 hk, get1_put1 hv]

theorem CodedFits.get {is : List Coded} (h : CodedFits is) (r : List Byte) :
    getList getCodedByte (put1 is.length ++ (is.flatMap (fun m => put1 m.kind ++ put1 m.value) ++ r)) = some (is, r) := by
  obtain ⟨hlen, hmem⟩ := h
  refine getList_flatMap _ _ _ (fun m hm r => ?_) hlen r
  obtain ⟨hk, hv⟩ := hmem m hm
  rw [List.append_assoc]
  exact getCodedByte_puts hk hv r

theorem CodedFits.get_end {is : List Coded} (h : CodedFits is) :
    getList getCodedByte (put1 is.length ++ is.flatMap fun m => put1 m.kind ++ put1 m.value) = some (is, []) := by
  simpa using h.get []

/-- R157: the regions of a layout that LOAD LAYOUT can carry. -/
def RegionsFit (rs : List RegionFields) : Prop :=
  rs.length ≤ 255 ∧ ∀ r ∈ rs, r.col ≤ 65535 ∧ r.row ≤ 65535 ∧ r.width ≤ 65535 ∧ r.height ≤ 65535 ∧ r.content.kind ≤ 255
    ∧ r.content.value ≤ 255

/-- R157: the bytes of a region. -/
def putRegion (r : RegionFields) : List Byte :=
  put2 r.col ++ (put2 r.row ++ (put2 r.width ++ (put2 r.height ++ (put1 r.content.kind ++ put1 r.content.value))))

theorem RegionsFit.get_end {rs : List RegionFields} (h : RegionsFit rs) :
    getList getRegion (put1 rs.length ++ rs.flatMap putRegion) = some (rs, []) := by
  obtain ⟨hlen, hmem⟩ := h
  rw [← List.append_nil (rs.flatMap putRegion)]
  refine getList_flatMap _ _ _ (fun x hx r => ?_) hlen []
  obtain ⟨hc, hr, hw, hh, hk, hv⟩ := hmem x hx
  simp [putRegion, getRegion, get2_put2, hc, hr, hw, hh, getCodedByte_puts hk hv]

theorem getFill_puts {k v : Nat} (hk : k ≤ 255) (hv : v ≤ 65535) (r : List Byte) :
    getFill (put1 k ++ (put2 v ++ r)) = some (⟨k, v⟩, r) := by
  simp [getFill, get1_put1 hk, get2_put2 hv]

/-! ### Beacons (R4, Table 1-8) -/

/-- The bytes of the six fields of a beacon. -/
def putTime (t : TimeFields) : List Byte :=
  put2 t.serial ++ (put1 t.weekday ++ (put1 t.hour ++ (put1 t.minute ++ put1 t.second)))

/-- R4: a beacon's fields that their bytes can carry. -/
def TimeFields.Fits (t : TimeFields) : Prop :=
  t.serial ≤ 65535 ∧ t.weekday ≤ 255 ∧ t.hour ≤ 255 ∧ t.minute ≤ 255 ∧ t.second ≤ 255

theorem whole_getTime_eq_some {bs : List Byte} {t : TimeFields} : whole (getTime bs) = some t ↔ t.Fits ∧ bs = putTime t := by
  rw [whole_eq_some]
  constructor
  · intro h
    simp only [getTime, Option.bind_eq_bind, Option.bind_eq_some_iff, Prod.exists, get1_eq_some, get2_eq_some, Option.pure_def,
      Option.some.injEq, Prod.mk.injEq] at h
    obtain ⟨d, b1, ⟨hd, rfl⟩, w, b2, ⟨hw, rfl⟩, hr, b3, ⟨hhr, rfl⟩, m, b4, ⟨hm, rfl⟩, s, b5, ⟨hs, rfl⟩, rfl, rfl⟩ := h
    exact ⟨⟨hd, hw, hhr, hm, hs⟩, by rw [putTime, List.append_nil]⟩
  · rintro ⟨⟨hd, hw, hh, hm, hs⟩, rfl⟩
    simp [getTime, putTime, get2_put2 hd, get1_put1 hw, get1_put1 hh, get1_put1 hm, get1_put1_end hs]

theorem TimeFields.Ok.fits {t : TimeFields} (h : t.Ok) (hs : t.serial ≤ 65535) : t.Fits := by
  unfold TimeFields.Ok at h
  exact ⟨hs, by omega, by omega, by omega, by omega⟩

theorem readBeacon_eq_some_iff {body : List Byte} {t : TimeFields} : readBeacon body = some t ↔
    t.Ok ∧ t.serial ≤ 65535 ∧ body = putTime t := by
  unfold readBeacon
  constructor
  · intro h
    split at h
    · rename_i u hu
      obtain ⟨hok, hut⟩ := Option.ite_none_right_eq_some.mp h
      cases hut
      obtain ⟨⟨hserial, -⟩, hbody⟩ := whole_getTime_eq_some.mp hu
      exact ⟨hok, hserial, hbody⟩
    · cases h
  · rintro ⟨hok, hserial, hbody⟩
    rw [whole_getTime_eq_some.mpr ⟨hok.fits hserial, hbody⟩]
    exact if_pos hok

/-! ### Tally messages (Table 1-9) -/

theorem readCounted_eq_some {bs : List Byte} {a n : Nat} : readCounted bs = some (a, n) ↔
    a ≤ 65535 ∧ n ≤ 255 ∧ bs = put2 a ++ put1 n := by
  rw [readCounted, whole_eq_some]
  constructor
  · intro h
    simp only [Option.bind_eq_bind, Option.bind_eq_some_iff, Prod.exists, get1_eq_some, get2_eq_some, Option.pure_def,
      Option.some.injEq, Prod.mk.injEq] at h
    obtain ⟨x, b1, ⟨hx, rfl⟩, y, b2, ⟨hy, rfl⟩, ⟨rfl, rfl⟩, rfl⟩ := h
    exact ⟨hx, hy, by rw [List.append_nil]⟩
  · rintro ⟨ha, hn, rfl⟩
    simp [get2_put2 ha, get1_put1_end hn]

theorem readHold_eq_some {bs : List Byte} {d : Directive} : readHold bs = some d ↔
    ∃ a b n k : Nat, a ≤ 65535 ∧ b ≤ 65535 ∧ n ≤ 255 ∧ k ≤ 255 ∧ d = .hold a b n k
      ∧ bs = put2 a ++ (put2 b ++ (put1 n ++ put1 k)) := by
  rw [readHold, whole_eq_some]
  constructor
  · intro h
    simp only [Option.bind_eq_bind, Option.bind_eq_some_iff, Prod.exists, get1_eq_some, get2_eq_some, Option.pure_def,
      Option.some.injEq, Prod.mk.injEq] at h
    obtain ⟨a, b1, ⟨ha, rfl⟩, b, b2, ⟨hb, rfl⟩, n, b3, ⟨hn, rfl⟩, k, b4, ⟨hk, rfl⟩, rfl, rfl⟩ := h
    exact ⟨a, b, n, k, ha, hb, hn, hk, rfl, by rw [List.append_nil]⟩
  · rintro ⟨a, b, n, k, ha, hb, hn, hk, rfl, rfl⟩
    simp [get2_put2 ha, get2_put2 hb, get1_put1 hn, get1_put1_end hk]

theorem readSetSold_eq_some {bs : List Byte} {d : Directive} : readSetSold bs = some d ↔
    ∃ a b e : Nat, a ≤ 65535 ∧ b ≤ 65535 ∧ e ≤ 65535 ∧ d = .setSold a b e ∧ bs = put2 a ++ (put2 b ++ put2 e) := by
  rw [readSetSold, whole_eq_some]
  constructor
  · intro h
    simp only [Option.bind_eq_bind, Option.bind_eq_some_iff, Prod.exists, get2_eq_some, Option.pure_def,
      Option.some.injEq, Prod.mk.injEq] at h
    obtain ⟨a, b1, ⟨ha, rfl⟩, b, b2, ⟨hb, rfl⟩, e, b3, ⟨he, rfl⟩, rfl, rfl⟩ := h
    exact ⟨a, b, e, ha, hb, he, rfl, by rw [List.append_nil]⟩
  · rintro ⟨a, b, e, ha, hb, he, rfl, rfl⟩
    simp [get2_put2 ha, get2_put2 hb, get2_put2_end he]

/-- Table 1-9: the bytes behind the type of each tally message. -/
theorem readTally_eq_some {type : Nat} {bs : List Byte} {d : Directive} : readTally type bs = some d ↔
    ∃ a b e n k : Nat, a ≤ 65535 ∧ b ≤ 65535 ∧ e ≤ 65535 ∧ n ≤ 255 ∧ k ≤ 255
      ∧ (type = 1 ∧ d = .sell a n ∧ bs = put2 a ++ put1 n ∨ type = 2 ∧ d = .refund a n ∧ bs = put2 a ++ put1 n
        ∨ type = 3 ∧ d = .hold a b n k ∧ bs = put2 a ++ (put2 b ++ (put1 n ++ put1 k))
        ∨ type = 4 ∧ d = .confirm a ∧ bs = put2 a ∨ type = 5 ∧ d = .release a ∧ bs = put2 a
        ∨ type = 6 ∧ d = .setSold a b e ∧ bs = put2 a ++ (put2 b ++ put2 e)) := by
  constructor
  · intro h
    unfold readTally at h
    split at h
    · obtain ⟨⟨a, n⟩, hr, rfl⟩ := Option.map_eq_some_iff.mp h
      obtain ⟨ha, hn, rfl⟩ := readCounted_eq_some.mp hr
      exact ⟨a, 0, 0, n, 0, ha, by omega, by omega, hn, by omega, .inl ⟨rfl, rfl, rfl⟩⟩
    · obtain ⟨⟨a, n⟩, hr, rfl⟩ := Option.map_eq_some_iff.mp h
      obtain ⟨ha, hn, rfl⟩ := readCounted_eq_some.mp hr
      exact ⟨a, 0, 0, n, 0, ha, by omega, by omega, hn, by omega, .inr (.inl ⟨rfl, rfl, rfl⟩)⟩
    · obtain ⟨a, b, n, k, ha, hb, hn, hk, rfl, rfl⟩ := readHold_eq_some.mp h
      exact ⟨a, b, 0, n, k, ha, hb, by omega, hn, hk, .inr (.inr (.inl ⟨rfl, rfl, rfl⟩))⟩
    · obtain ⟨a, hr, rfl⟩ := Option.map_eq_some_iff.mp h
      obtain ⟨ha, rfl⟩ := whole_get2_eq_some.mp hr
      exact ⟨a, 0, 0, 0, 0, ha, by omega, by omega, by omega, by omega, .inr (.inr (.inr (.inl ⟨rfl, rfl, rfl⟩)))⟩
    · obtain ⟨a, hr, rfl⟩ := Option.map_eq_some_iff.mp h
      obtain ⟨ha, rfl⟩ := whole_get2_eq_some.mp hr
      exact ⟨a, 0, 0, 0, 0, ha, by omega, by omega, by omega, by omega, .inr (.inr (.inr (.inr (.inl ⟨rfl, rfl, rfl⟩))))⟩
    · obtain ⟨a, b, e, ha, hb, he, rfl, rfl⟩ := readSetSold_eq_some.mp h
      exact ⟨a, b, e, 0, 0, ha, hb, he, by omega, by omega, .inr (.inr (.inr (.inr (.inr ⟨rfl, rfl, rfl⟩))))⟩
    · cases h
  · rintro ⟨a, b, e, n, k, ha, hb, he, hn, hk, ⟨rfl, rfl, rfl⟩ | ⟨rfl, rfl, rfl⟩ | ⟨rfl, rfl, rfl⟩ | ⟨rfl, rfl, rfl⟩
      | ⟨rfl, rfl, rfl⟩ | ⟨rfl, rfl, rfl⟩⟩
    · rw [readTally, readCounted_eq_some.mpr ⟨ha, hn, rfl⟩]
      rfl
    · rw [readTally, readCounted_eq_some.mpr ⟨ha, hn, rfl⟩]
      rfl
    · exact readHold_eq_some.mpr ⟨a, b, n, k, ha, hb, hn, hk, rfl, rfl⟩
    · exact Option.map_eq_some_iff.mpr ⟨_, whole_get2_put2 ha, rfl⟩
    · exact Option.map_eq_some_iff.mpr ⟨_, whole_get2_put2 ha, rfl⟩
    · exact readSetSold_eq_some.mpr ⟨a, b, e, ha, hb, he, rfl, rfl⟩

theorem readTallyBody_put1 {type : Nat} (h : type ≤ 255) (bs : List Byte) : readTallyBody (put1 type ++ bs) = readTally type bs :=
  congrArg (readTally · bs) (byteOf_toNat h)

theorem readTallyBody_eq_some {body : List Byte} {d : Directive} : readTallyBody body = some d ↔
    ∃ a b e n k : Nat, a ≤ 65535 ∧ b ≤ 65535 ∧ e ≤ 65535 ∧ n ≤ 255 ∧ k ≤ 255
      ∧ (d = .sell a n ∧ body = put1 1 ++ put2 a ++ put1 n ∨ d = .refund a n ∧ body = put1 2 ++ put2 a ++ put1 n
        ∨ d = .hold a b n k ∧ body = put1 3 ++ put2 a ++ put2 b ++ put1 n ++ put1 k
        ∨ d = .confirm a ∧ body = put1 4 ++ put2 a ∨ d = .release a ∧ body = put1 5 ++ put2 a
        ∨ d = .setSold a b e ∧ body = put1 6 ++ put2 a ++ put2 b ++ put2 e) := by
  simp only [List.append_assoc]
  constructor
  · intro h
    cases body with
    | nil => cases h
    | cons type bs =>
      have htype : type :: bs = put1 type.toNat ++ bs := by rw [put1_toNat]; rfl
      obtain ⟨a, b, e, n, k, ha, hb, he, hn, hk, hcase⟩ := readTally_eq_some.mp (show readTally type.toNat bs = some d from h)
      refine ⟨a, b, e, n, k, ha, hb, he, hn, hk, ?_⟩
      rw [htype]
      obtain ⟨ht, rfl, rfl⟩ | ⟨ht, rfl, rfl⟩ | ⟨ht, rfl, rfl⟩ | ⟨ht, rfl, rfl⟩ | ⟨ht, rfl, rfl⟩ | ⟨ht, rfl, rfl⟩ := hcase
      all_goals simp [ht]
  · rintro ⟨a, b, e, n, k, ha, hb, he, hn, hk, hcase⟩
    obtain ⟨rfl, rfl⟩ | ⟨rfl, rfl⟩ | ⟨rfl, rfl⟩ | ⟨rfl, rfl⟩ | ⟨rfl, rfl⟩ | ⟨rfl, rfl⟩ := hcase
    all_goals
      rw [readTallyBody_put1 (by omega), readTally_eq_some]
      exact ⟨a, b, e, n, k, ha, hb, he, hn, hk, by simp⟩

/-! ### The codes of Table 1-11 -/

theorem readTally_eq_none {type : Nat} (h : type = 0 ∨ 7 ≤ type) (bs : List Byte) : readTally type bs = none := by
  unfold readTally
  split
  case h_7 => rfl
  all_goals omega

theorem readParameters_eq_readTally {code : Nat} (h : code ≤ 6 ∨ 46 ≤ code) (bs : List Byte) :
    readParameters code bs = readTally code bs := by
  unfold readParameters
  split
  case h_40 => rfl
  all_goals omega

end Sys2Proof.Machine

end

section
/-! SUPPORT. Settles O6: each directive's parameters are read from the bytes that carry them (Table 1-11, R5), and the ports. -/

namespace Sys2Proof.Machine

open Sys2Proof

/-! ### The parameters of each directive (R5), in the order of their codes -/

section Parameters

variable {a b c d e f g n k l : Nat} {x y z w : Option Nat} {t u : List Byte} {xs : List Nat}

theorem readLoadTitle_puts (ha : a ≤ 65535) (ht : t.length ≤ 255) (hu : u.length ≤ 255) (hb : b ≤ 65535) :
    readLoadTitle (put2 a ++ (putText t ++ (putText u ++ put2 b))) = some (.loadTitle a t u b) := by
  simp [readLoadTitle, whole, get2_put2 ha, getText_putText ht, getText_putText hu, get2_put2_end hb]

theorem readLoadScreening_puts (ha : a ≤ 65535) (hb : b ≤ 65535) (hc : c ≤ 65535) (hd : d ≤ 65535) (he : e ≤ 65535)
    (hf : f ≤ 65535) (hg : g ≤ 65535) (hxs : SetFits xs) (ht : t.length ≤ 255) :
    readLoadScreening (put2 a ++ (put2 b ++ (put2 c ++ (put2 d ++ (put2 e ++ (put2 f ++ (put2 g ++ (putSet xs ++ putText t))))))))
      = some (.loadScreening ⟨a, b, c, d, e, f, g, xs, t⟩) := by
  simp [readLoadScreening, whole, get2_put2, ha, hb, hc, hd, he, hf, hg, hxs.get, getText_putText_end ht]

theorem readAmendScreening_puts {os : Option (List Nat)} {ot : Option (List Byte)} (ha : a ≤ 65535) (hx : OptFits x)
    (hy : OptFits y) (hos : ∀ v, os = some v → SetFits v) (hot : ∀ v, ot = some v → v.length ≤ 255) :
    readAmendScreening (put2 a ++ (putOpt put2 x ++ (putOpt put2 y ++ (putOpt putSet os ++ putOpt putText ot))))
      = some (.amendScreening a x y os ot) := by
  simp [readAmendScreening, whole, get2_put2 ha, hx.get, hy.get, getOpt_putSet hos, getOpt_putText_end hot]

/-- DEFINE BOARD (R87): its auditoriums, as a set or as ALL, and six numbers. -/
theorem readDefineBoard_puts {bs : List Byte} {o : Option (List Nat)} (ho : ∀ r, getSetOrAll (bs ++ r) = some (o, r))
    (ha : a ≤ 65535) (hb : b ≤ 65535) (hc : c ≤ 65535) (hd : d ≤ 65535) (he : e ≤ 65535) (hf : f ≤ 65535) (hg : g ≤ 65535) :
    readDefineBoard (put2 a ++ (bs ++ (put2 b ++ (put2 c ++ (put2 d ++ (put2 e ++ (put2 f ++ put2 g)))))))
      = some (.defineBoard a ⟨o, b, c, d, e, f, g⟩) := by
  simp [readDefineBoard, whole, get2_put2, ha, ho, hb, hc, hd, he, hf, get2_put2_end hg]

theorem readPostNotice_puts (ha : a ≤ 65535) (hb : b ≤ 65535) (ht : t.length ≤ 255) (hxs : SetFits xs) (hx : OptFits x)
    (hy : OptFits y) :
    readPostNotice (put2 a ++ (put2 b ++ (putText t ++ (putSet xs ++ (putOpt put2 x ++ putOpt put2 y)))))
      = some (.postNotice ⟨a, b, t, xs, x, y⟩) := by
  simp [readPostNotice, whole, get2_put2, ha, hb, getText_putText ht, hxs.get, hx.get, hy.get_end]

/-- R37: an action that carries a number and a set. -/
theorem readSetCue_numberAndSet (ha : a ≤ 65535) (hb : b ≤ 65535) (hc : c ≤ 65535) (hd : d ≤ 65535) (he : e ≤ 65535)
    (hk : k = 1 ∨ k = 6) (hn : n ≤ 65535) (hxs : SetFits xs) :
    readSetCue (put2 a ++ (put2 b ++ (put2 c ++ (put2 d ++ (put2 e ++ (put2 k ++ (put2 n ++ putSet xs)))))))
      = some (.setCue a ⟨b, c, d, e, k, n, xs⟩) := by
  have hk' : k ≤ 65535 := by omega
  simp [readSetCue, whole, get2_put2, ha, hb, hc, hd, he, hk', hk, hn, hxs.get_end]

/-- R37: an action that carries a set. -/
theorem readSetCue_set (ha : a ≤ 65535) (hb : b ≤ 65535) (hc : c ≤ 65535) (hd : d ≤ 65535) (he : e ≤ 65535)
    (hk2 : 2 ≤ k) (hk5 : k ≤ 5) (hxs : SetFits xs) :
    readSetCue (put2 a ++ (put2 b ++ (put2 c ++ (put2 d ++ (put2 e ++ (put2 k ++ putSet xs))))))
      = some (.setCue a ⟨b, c, d, e, k, 0, xs⟩) := by
  have hk : k ≤ 65535 := by omega
  have hnum : ¬(k = 1 ∨ k = 6) := by omega
  simp [readSetCue, whole, get2_put2, ha, hb, hc, hd, he, hk, hnum, hk2, hk5, hxs.get_end]

theorem readNoticeStyle_puts (ha : a ≤ 65535) (hb : b ≤ 65535) (hc : c ≤ 65535) (hd : d ≤ 65535) (he : e ≤ 65535)
    (hf : f ≤ 65535) :
    readNoticeStyle (put2 a ++ (put2 b ++ (put2 c ++ (put2 d ++ (put2 e ++ put2 f))))) = some (.setNoticeStyle ⟨a, b, c, d, e, f⟩) := by
  simp [readNoticeStyle, whole, get2_put2, ha, hb, hc, hd, he, get2_put2_end hf]

theorem readSetCarousel_puts {is js : List Coded} (ha : a ≤ 65535) (hb : b ≤ 65535) (his : CodedFits is) (hjs : CodedFits js) :
    readSetCarousel (put2 a ++ (put2 b ++ (put1 is.length ++ (is.flatMap (fun m => put1 m.kind ++ put1 m.value)
      ++ (put1 js.length ++ js.flatMap fun m => put1 m.kind ++ put1 m.value))))) = some (.setCarousel a b is js) := by
  simp [readSetCarousel, whole, get2_put2, ha, hb, his.get, hjs.get_end]

theorem readSetPeriods_puts (ha : a ≤ 65535) (hx : OptFits x) (hy : OptFits y) (hz : OptFits z) (hw : OptFits w) :
    readSetPeriods (put2 a ++ (putOpt put2 x ++ (putOpt put2 y ++ (putOpt put2 z ++ putOpt put2 w))))
      = some (.setPeriods a x y z w) := by
  simp [readSetPeriods, whole, get2_put2 ha, hx.get, hy.get, hz.get, hw.get_end]

theorem readSetQuiet_puts (hxs : SetFits xs) (ha : a ≤ 65535) : readSetQuiet (putSet xs ++ put2 a) = some (.setQuiet xs a) := by
  simp [readSetQuiet, whole, hxs.get, get2_put2_end ha]

theorem readSetSyncGroup_puts (ha : a ≤ 65535) (hl : l ≤ 255) (hxs : SetFits xs) :
    readSetSyncGroup (put2 a ++ (put1 l ++ putSet xs)) = some (.setSyncGroup a l xs) := by
  simp [readSetSyncGroup, whole, get2_put2 ha, get1_put1 hl, hxs.get_end]

theorem readLoadImage_puts (ha : a ≤ 65535) (hb : b ≤ 65535) (hc : c ≤ 65535) (hn : n ≤ 4294967295) :
    readLoadImage (put2 a ++ (put2 b ++ (put2 c ++ put4 n))) = some (.loadImage a b c n) := by
  simp [readLoadImage, whole, get2_put2, ha, hb, hc, get4_put4_end hn]

theorem readImagePiece_puts {p : List Byte} (hl : l ≤ 255) (hn : n ≤ 4294967295) (hp : p ≠ []) :
    readImagePiece (put1 l ++ (put4 n ++ p)) = some (.imagePiece l n p) := by
  simp [readImagePiece, get1_put1 hl, get4_put4 hn, hp]

theorem readLoadTextTile_puts (ha : a ≤ 65535) (hb : b ≤ 65535) (hc : c ≤ 65535) (hd : d ≤ 65535) (ht : t.length ≤ 255) :
    readLoadTextTile (put2 a ++ (put2 b ++ (put2 c ++ (put2 d ++ putText t)))) = some (.loadTextTile a b c d t) := by
  simp [readLoadTextTile, whole, get2_put2, ha, hb, hc, hd, getText_putText_end ht]

theorem readLoadLayout_puts {rs : List RegionFields} (ha : a ≤ 65535) (hb : b ≤ 65535) (hk : k ≤ 255) (hc : c ≤ 65535)
    (hl : l ≤ 255) (hd : d ≤ 65535) (hrs : RegionsFit rs) :
    readLoadLayout (put2 a ++ (put2 b ++ (put1 k ++ (put2 c ++ (put1 l ++ (put2 d ++ (put1 rs.length ++ rs.flatMap putRegion)))))))
      = some (.loadLayout a ⟨b, ⟨k, c⟩, ⟨l, d⟩, rs⟩) := by
  simp [readLoadLayout, whole, get2_put2, ha, hb, getFill_puts hk hc, getFill_puts hl hd, hrs.get_end]

theorem readNumberAndSet_puts (ha : a ≤ 65535) (hxs : SetFits xs) : readNumberAndSet (put2 a ++ putSet xs) = some (a, xs) := by
  simp [readNumberAndSet, whole, get2_put2 ha, hxs.get_end]

theorem readSetOverride_puts (hl : l ≤ 255) (hxs : SetFits xs) :
    readSetOverride (put1 l ++ putSet xs) = some (.setOverride l xs) := by
  simp [readSetOverride, whole, get1_put1 hl, hxs.get_end]

theorem readSetPanel_puts (ha : a ≤ 65535) (hb : b ≤ 65535) (hc : c ≤ 65535) :
    readSetPanel (put2 a ++ (put2 b ++ put2 c)) = some (.setPanel a b c) := by
  simp [readSetPanel, whole, get2_put2, ha, hb, get2_put2_end hc]

theorem readTwo_puts (ha : a ≤ 65535) (hb : b ≤ 65535) : readTwo (put2 a ++ put2 b) = some (a, b) := by
  simp [readTwo, whole, get2_put2 ha, get2_put2_end hb]

theorem readPhaseTimes_puts (ha : a ≤ 65535) (hb : b ≤ 65535) (hc : c ≤ 65535) (hd : d ≤ 65535) (he : e ≤ 65535) :
    readPhaseTimes (put2 a ++ (put2 b ++ (put2 c ++ (put2 d ++ put2 e)))) = some (.setPhaseTimes ⟨a, b, c, d, e⟩) := by
  simp [readPhaseTimes, whole, get2_put2, ha, hb, hc, hd, get2_put2_end he]

theorem readBands_puts (ha : a ≤ 65535) (hb : b ≤ 65535) (hc : c ≤ 65535) (hd : d ≤ 65535) (he : e ≤ 65535) (hf : f ≤ 65535) :
    readBands (put2 a ++ (put2 b ++ (put2 c ++ (put2 d ++ (put2 e ++ put2 f))))) = some (.setBands ⟨a, b, c, d, e, f⟩) := by
  simp [readBands, whole, get2_put2, ha, hb, hc, hd, he, get2_put2_end hf]

end Parameters

/-! ### QUERY (R12) -/

theorem queryHasKey_eq_false {kind : Nat} : queryHasKey kind = false ↔ kind = 3 ∨ kind = 6 ∨ kind = 10 ∨ kind = 19 := by
  simp [queryHasKey]
  tauto

/-- R12: a record kind out of range, or one that carries no key, or one that does. -/
theorem readQuery_put1 {kind : Nat} (h : kind ≤ 255) (rest : List Byte) : readQuery (put1 kind ++ rest)
    = if kind < 1 ∨ 19 < kind then none
      else if queryHasKey kind then (whole (get2 rest)).map (.query kind) else whole (some (.query kind 0, rest)) := by
  simp only [readQuery, get1_put1 h, Option.bind_eq_bind, Option.bind_some, Option.pure_def]
  split
  · rfl
  · split
    · cases hrest : get2 rest with
      | none => rfl
      | some v =>
        obtain ⟨key, left⟩ := v
        cases left <;> rfl
    · rfl

theorem readQuery_eq_some {kind : Nat} (h : kind ≤ 255) {rest : List Byte} {d : Directive} :
    readQuery (put1 kind ++ rest) = some d ↔ 1 ≤ kind ∧ kind ≤ 19
      ∧ ((kind = 3 ∨ kind = 6 ∨ kind = 10 ∨ kind = 19) ∧ rest = [] ∧ d = .query kind 0
        ∨ (kind ≠ 3 ∧ kind ≠ 6 ∧ kind ≠ 10 ∧ kind ≠ 19) ∧ ∃ key ≤ 65535, rest = put2 key ∧ d = .query kind key) := by
  rw [readQuery_put1 h]
  by_cases hrange : kind < 1 ∨ 19 < kind
  · rw [if_pos hrange]
    exact ⟨fun hn => (nomatch hn), fun ⟨h1, h19, _⟩ => absurd hrange (by rw [not_or, not_lt, not_lt]; exact ⟨h1, h19⟩)⟩
  · obtain ⟨h1, h19⟩ : 1 ≤ kind ∧ kind ≤ 19 := by omega
    rw [if_neg hrange]
    cases hkey : queryHasKey kind with
    | false =>
      have hkeyless := queryHasKey_eq_false.mp hkey
      have hno : ¬(kind ≠ 3 ∧ kind ≠ 6 ∧ kind ≠ 10 ∧ kind ≠ 19) := by omega
      rw [if_neg Bool.false_ne_true, whole_eq_some]
      simp only [Option.some.injEq, Prod.mk.injEq, h1, h19, hkeyless, hno, true_and, false_and, or_false]
      exact ⟨fun ⟨hd, hr⟩ => ⟨hr, hd.symm⟩, fun ⟨hr, hd⟩ => ⟨hd.symm, hr⟩⟩
    | true =>
      have hkeyed : ¬(kind = 3 ∨ kind = 6 ∨ kind = 10 ∨ kind = 19) := fun hk => by
        rw [queryHasKey_eq_false.mpr hk] at hkey
        cases hkey
      have hyes : kind ≠ 3 ∧ kind ≠ 6 ∧ kind ≠ 10 ∧ kind ≠ 19 := by omega
      rw [if_pos rfl, Option.map_eq_some_iff]
      simp only [whole_get2_eq_some, h1, h19, hkeyed, false_and, false_or, true_and]
      exact ⟨fun ⟨key, ⟨hle, hr⟩, hd⟩ => ⟨hyes, key, hle, hr, hd.symm⟩,
        fun ⟨_, key, hle, hr, hd⟩ => ⟨key, ⟨hle, hr⟩, hd.symm⟩⟩

end Sys2Proof.Machine

end

section
/-! SUPPORT. Settles O6: what the two ports do with each packet, and what the bodies read as. -/

namespace Sys2Proof.Machine

open Sys2Proof

/-- R5: a directive body is read by the code in its first byte. -/
theorem readDirective_put1 {code : Nat} (h : code ≤ 255) (bs : List Byte) :
    readDirective (put1 code ++ bs) = readParameters code bs :=
  congrArg (readParameters · bs) (byteOf_toNat h)

theorem readDirective_of_parameters {code : Nat} {bs : List Byte} {d : Directive} (h : readParameters code bs = some d)
    (hcode : code ≤ 255) : readDirective (put1 code ++ bs) = some d :=
  (readDirective_put1 hcode bs).trans h

section OneField

variable {code a : Nat} {xs : List Nat} {make : Nat → Directive} {makeSet : List Nat → Directive}

/-- A directive that carries one number. -/
theorem readDirective_number (ha : a ≤ 65535) (hcode : code ≤ 255)
    (h : ∀ bs, readParameters code bs = (whole (get2 bs)).map make) : readDirective (put1 code ++ put2 a) = some (make a) :=
  readDirective_of_parameters (by rw [h, whole_get2_put2 ha]; rfl) hcode

/-- A directive that carries one set. -/
theorem readDirective_set (hxs : SetFits xs) (hcode : code ≤ 255)
    (h : ∀ bs, readParameters code bs = (whole (getSet bs)).map makeSet) :
    readDirective (put1 code ++ putSet xs) = some (makeSet xs) :=
  readDirective_of_parameters (by rw [h, hxs.whole]; rfl) hcode

/-- A directive that carries a number and a set. -/
theorem readDirective_numberAndSet {make : Nat → List Nat → Directive} (ha : a ≤ 65535) (hxs : SetFits xs) (hcode : code ≤ 255)
    (h : ∀ bs, readParameters code bs = (readNumberAndSet bs).map fun (n, set) => make n set) :
    readDirective (put1 code ++ (put2 a ++ putSet xs)) = some (make a xs) :=
  readDirective_of_parameters (by rw [h, readNumberAndSet_puts ha hxs]; rfl) hcode

/-- A directive that carries two numbers. -/
theorem readDirective_two {b : Nat} {make : Nat → Nat → Directive} (ha : a ≤ 65535) (hb : b ≤ 65535) (hcode : code ≤ 255)
    (h : ∀ bs, readParameters code bs = (readTwo bs).map fun (n, m) => make n m) :
    readDirective (put1 code ++ (put2 a ++ put2 b)) = some (make a b) :=
  readDirective_of_parameters (by rw [h, readTwo_puts ha hb]; rfl) hcode

end OneField

theorem readDirective_setClock {t : TimeFields} (h : t.Fits) : readDirective (put1 36 ++ putTime t) = some (.setClock t) := by
  refine readDirective_of_parameters ?_ (by decide)
  rw [readParameters, whole_getTime_eq_some.mpr ⟨h, rfl⟩]
  rfl

/-- Table 1-11: a code that no directive has. -/
theorem readDirective_unknownCode {code : Byte} (h : code = 0 ∨ 46 ≤ code.toNat) (rest : List Byte) :
    readDirective (code :: rest) = none := by
  have hcode : code.toNat = 0 ∨ 46 ≤ code.toNat := h.imp_left fun h0 => by rw [h0]; rfl
  exact (readParameters_eq_readTally (by omega) rest).trans (readTally_eq_none (by omega) rest)

/-- Settles O6. -/
theorem portsReceivePackets : Obligations.PortsReceivePackets := by
  refine ⟨⟨?_, ?_, ?_, ?_, ?_, ?_, ?_, ?_, ?_, ?_⟩, State.discardPacket_eq, ?_,
    ⟨?_, fun body d => readTallyBody_eq_some, ?_, fun code rest h => readDirective_unknownCode h rest,
      fun code rest _ h6 => readParameters_eq_readTally (.inl h6) rest, rfl, rfl⟩, ?_, ?_, ?_⟩
  · intro s frame damaged tag body hr h
    rw [exec_feedFrame_of_read hr h, State.routeFeed_segment]
    rfl
  · intro s frame damaged tag body t hr h ht
    rw [exec_feedFrame_of_read hr h, State.routeFeed_beacon ht]
    rfl
  · intro s frame damaged tag body hr h
    rw [exec_feedFrame_of_read hr h, State.routeFeed_directive]
    rfl
  · rintro s frame damaged hr (h | ⟨tag, body, h, hb⟩)
    · exact exec_feedFrame_of_unread hr h
    · rw [exec_feedFrame_of_read hr h, State.routeFeed_badBeacon hb]
      rfl
  · intro s b error r h
    exact exec_deskByte h
  · intro s b error r n values spoiled kind tag body hr h hread
    rw [exec_deskByte h, State.applyDeskEvent_of_read (s := s.receiving r) hr hread]
    rfl
  · intro s b error r n values spoiled hr h hread
    rw [exec_deskByte h, State.applyDeskEvent_of_unread (s := s.receiving r) hr hread]
    rfl
  · intro s b error r h
    exact exec_deskByte h
  · intro s frame e hr
    exact exec_feedFrame_of_reset frame e hr
  · intro s b error r n values spoiled hr h
    rw [exec_deskByte h, State.applyDeskEvent_of_reset (s := s.receiving r) hr]
    rfl
  · exact fun s p q => ⟨fun h => State.joinIntake_of_room h q, fun h => State.joinIntake_full h q⟩
  · intro body t
    rw [readBeacon_eq_some_iff, putTime]
    simp only [List.append_assoc]
  · intro body
    cases body <;> rfl
  · intro a b c d e f g n x y z w t u xs ys os ot is js rs time p hnum hn hopt ht hu hxs hys hos hot his hjs hrs htime hp
    simp only [List.forall_mem_cons] at hnum hopt
    obtain ⟨ha, hb, hc, hd, he, hf, hg, -⟩ := hnum
    obtain ⟨hx, hy, hz, hw, -⟩ := hopt
    obtain ⟨hyslen, hysmem⟩ := hys
    obtain ⟨-, -, hhour, hminute, -⟩ := id htime
    simp only [List.forall_mem_cons, List.append_assoc]
    exact ⟨readDirective_of_parameters (readLoadTitle_puts ha ht hu hb) (by decide),
      readDirective_of_parameters (readLoadScreening_puts ha hb hc hd he hf hg hxs ht) (by decide),
      readDirective_of_parameters (readAmendScreening_puts ha hx hy hos hot) (by decide),
      readDirective_number ha (by decide) fun _ => rfl,
      readDirective_number ha (by decide) fun _ => rfl,
      readDirective_of_parameters (readDefineBoard_puts (getSetOrAll_putSet hyslen hysmem) ha hb hc hd he hf hg) (by decide),
      readDirective_of_parameters (readDefineBoard_puts getSetOrAll_all ha hb hc hd he hf hg) (by decide),
      readDirective_number ha (by decide) fun _ => rfl,
      readDirective_of_parameters (readPostNotice_puts ha hb ht hxs hx hy) (by decide),
      readDirective_number ha (by decide) fun _ => rfl,
      readDirective_number ha (by decide) fun _ => rfl,
      readDirective_of_parameters (readNoticeStyle_puts ha hb hc hd he hf) (by decide),
      readDirective_of_parameters (readSetCarousel_puts ha hb his hjs) (by decide),
      readDirective_of_parameters (readSetPeriods_puts ha hx hy hz hw) (by decide),
      readDirective_of_parameters (readSetQuiet_puts hxs ha) (by decide),
      readDirective_set hxs (by decide) fun _ => rfl,
      readDirective_set hxs (by decide) fun _ => rfl,
      readDirective_of_parameters (readSetSyncGroup_puts ha hhour hxs) (by decide),
      readDirective_of_parameters (readLoadImage_puts ha hb hc hn) (by decide),
      readDirective_of_parameters (readImagePiece_puts hhour hn hp) (by decide),
      readDirective_of_parameters (readLoadTextTile_puts ha hb hc hd ht) (by decide),
      readDirective_number ha (by decide) fun _ => rfl,
      readDirective_of_parameters (readLoadLayout_puts ha hb hhour hc hminute hd hrs) (by decide),
      readDirective_numberAndSet ha hxs (by decide) fun _ => rfl,
      readDirective_of_parameters (readSetOverride_puts hhour hxs) (by decide),
      readDirective_of_parameters (readSetPanel_puts ha hb hc) (by decide),
      readDirective_set hxs (by decide) fun _ => rfl,
      readDirective_set hxs (by decide) fun _ => rfl,
      readDirective_numberAndSet ha hxs (by decide) fun _ => rfl,
      readDirective_setClock htime,
      readDirective_two ha hb (by decide) fun _ => rfl,
      readDirective_of_parameters (readPhaseTimes_puts ha hb hc hd he) (by decide),
      readDirective_of_parameters (readBands_puts ha hb hc hd he hf) (by decide),
      readDirective_two ha hb (by decide) fun _ => rfl,
      readDirective_set hxs (by decide) fun _ => rfl,
      rfl, rfl,
      readDirective_set hxs (by decide) fun _ => rfl, fun _ h => absurd h List.not_mem_nil⟩
  · intro a b c d e k n xs hnum hlen hmem
    simp only [List.forall_mem_cons] at hnum
    obtain ⟨ha, hb, hc, hd, he, hk, hn, -⟩ := hnum
    simp only [List.append_assoc]
    exact ⟨fun hk => readDirective_of_parameters (readSetCue_numberAndSet ha hb hc hd he hk hn ⟨hlen, hmem⟩) (by decide),
      fun h2 h5 => readDirective_of_parameters (readSetCue_set ha hb hc hd he h2 h5 ⟨hlen, hmem⟩) (by decide)⟩
  · intro kind rest d hkind
    rw [List.append_assoc, readDirective_put1 (by decide)]
    exact readQuery_eq_some hkind

end Sys2Proof.Machine

end

section
/-! SUPPORT. What fired cues send and where they leave the mark, said once (R38, R39). Settles O13. -/

namespace Sys2Proof.Machine

open Sys2Proof

/-! ### What fired cues send (R37, R39) -/

/-- R39: what an action sends the composer. -/
def CueAction.forComposer : CueAction → Option (Nat × List Nat)
  | .applyLayout l ps => some (l, ps)
  | _ => none

/-- R39: what an action sends the rotation unit. -/
def CueAction.forRotation : CueAction → Option (Bool × List Nat)
  | .quiet on cs => some (on, cs)
  | _ => none

/-- R39: what an action sends the panel output. -/
def CueAction.forOutput : CueAction → Option OutputCue
  | .standby ps => some (.standby ps)
  | .wake ps => some (.wake ps)
  | .brightness l ps => some (.brightness l ps)
  | _ => none

/-- The events under way after cues have fired. -/
def Mail.withCues (m : Mail) (as : List CueAction) : Mail :=
  { m with
    cuesToComposer := m.cuesToComposer ++ as.filterMap CueAction.forComposer
    cuesToRotation := m.cuesToRotation ++ as.filterMap CueAction.forRotation
    cuesToOutput := m.cuesToOutput ++ as.filterMap CueAction.forOutput }

@[simp] theorem Mail.withCues_nil (m : Mail) : m.withCues [] = m := by simp [Mail.withCues]

@[simp] theorem Mail.withCues_withCues (m : Mail) (as bs : List CueAction) : (m.withCues as).withCues bs = m.withCues (as ++ bs) := by
  simp [Mail.withCues]

theorem State.sendAction_eq (s : State) (a : CueAction) : s.sendAction a = { s with mail := s.mail.withCues [a] } := by
  cases a <;> simp [State.sendAction, Mail.withCues, CueAction.forComposer, CueAction.forRotation, CueAction.forOutput]

/-- R39: the actions reach the blocks R37 names, in the order they fire. -/
theorem State.foldl_sendAction (s : State) (as : List CueAction) :
    as.foldl State.sendAction s = { s with mail := s.mail.withCues as } := by
  induction as generalizing s with
  | nil => simp
  | cons a as ih => rw [List.foldl_cons, State.sendAction_eq, ih, Mail.withCues_withCues, List.singleton_append]

/-! ### Which cues fire (R38) -/

theorem fieldMatches_iff (f : Option Nat) (n : Nat) : fieldMatches f n = true ↔ f = none ∨ f = some n := by
  cases f <;> simp [fieldMatches]

theorem Cue.matches_iff (c : Cue) (weekday hour minute : Nat) :
    c.matches weekday hour minute = true ↔ c.enabled = true ∧ (c.weekday = none ∨ c.weekday = some weekday)
      ∧ (c.hour = none ∨ c.hour = some hour) ∧ (c.minute = none ∨ c.minute = some minute) := by
  simp [Cue.matches, fieldMatches_iff, and_assoc]

/-- R38: the present entries that match fire, in ascending cue number. -/
theorem Clock.firing_eq (c : Clock) (weekday hour minute : Nat) :
    c.firing weekday hour minute = (c.cues.toList.filterMap id).filterMap (fun c =>
      if c.enabled ∧ (c.weekday = none ∨ c.weekday = some weekday) ∧ (c.hour = none ∨ c.hour = some hour)
        ∧ (c.minute = none ∨ c.minute = some minute) then some c.action else none) := by
  rw [List.filterMap_filterMap]
  refine List.filterMap_congr fun e _ => ?_
  cases e with
  | none => rfl
  | some cue => exact if_congr (cue.matches_iff weekday hour minute) rfl rfl

/-! ### The high-water mark (R38) -/

theorem Clock.markReaches_iff (c : Clock) (n : Nat) : c.markReaches n = true ↔ ∃ m, c.mark = some m ∧ n ≤ m := by
  unfold Clock.markReaches
  split <;> simp [*]

/-- The clock with its mark on a minute, unless the mark stands there or later already. -/
def Clock.raisedTo (c : Clock) (n : Nat) : Clock := if c.markReaches n then c else { c with mark := some n }

theorem Clock.raisedTo_of_reaches {c : Clock} {n : Nat} (h : c.markReaches n = true) : c.raisedTo n = c := if_pos h

theorem Clock.raisedTo_of_not_reaches {c : Clock} {n : Nat} (h : ¬c.markReaches n = true) :
    c.raisedTo n = { c with mark := some n } := if_neg h

theorem Clock.raisedTo_eq (c : Clock) (n : Nat) :
    c.raisedTo n = { c with mark := if c.markReaches n = true then c.mark else some n } := by
  unfold Clock.raisedTo
  split <;> rfl

theorem Clock.raisedTo_of_none {c : Clock} (h : c.mark = none) (n : Nat) : c.raisedTo n = { c with mark := some n } :=
  Clock.raisedTo_of_not_reaches (by simp [Clock.markReaches, h])

theorem State.raiseMark_eq (s : State) (n : Nat) : s.raiseMark n = { s with clock := s.clock.raisedTo n } := by
  unfold State.raiseMark Clock.raisedTo
  split <;> rfl

/-- The actions that an evaluation of the cues for a business minute fires: none where the mark has reached it. -/
def Clock.fires (c : Clock) (x weekday hour minute : Nat) : List CueAction :=
  if c.markReaches x then [] else c.firing weekday hour minute

/-- R38: an evaluation of the cues, whatever the mark. -/
theorem State.evaluateCues_eq (s : State) (x weekday hour minute : Nat) :
    s.evaluateCues x weekday hour minute = { s with
      clock := s.clock.raisedTo x
      mail := s.mail.withCues (s.clock.fires x weekday hour minute) } := by
  unfold State.evaluateCues Clock.raisedTo Clock.fires
  split
  · simp
  · rw [State.foldl_sendAction]

/-! ### The minute boundary (R26, R27) -/

/-- A minute reached by counting: its minute event, its cues and the clock tiles. -/
theorem State.minuteReached_eq (s : State) (n weekday hour minute : Nat) :
    ((s.sendMinute n).evaluateCues n weekday hour minute).redrawClockTiles = { s with
      clock := s.clock.raisedTo n
      mail := { s.mail.withCues (s.clock.fires n weekday hour minute) with
        clockToSchedule := s.mail.clockToSchedule ++ [.minute n]
        clockToBuilder := s.mail.clockToBuilder ++ [.minute n]
        tiles := put s.mail.tiles Block.clock.index (s.mail.tiles[Block.clock.index] ++ clockTileRequests) } } := by
  rw [State.evaluateCues_eq]
  rfl

/-- R27: whether the business day starts with the minute of the clock. -/
def Clock.startsDay (c : Clock) : Bool := decide (c.hour = c.dayStart ∧ c.minute = 0)

/-- The state in which a minute boundary's minute is reached: after the rollover where the day starts. -/
def State.rolled (s : State) : State := if s.clock.startsDay then s.rollover (min (s.clock.day + 1) 65535) else s

theorem State.rolled_of_starts {s : State} (h : s.clock.startsDay = true) : s.rolled = s.rollover (min (s.clock.day + 1) 65535) :=
  if_pos h

theorem State.rolled_of_not_starts {s : State} (h : s.clock.startsDay = false) : s.rolled = s :=
  if_neg (Bool.not_eq_true _ ▸ h)

theorem State.minuteBoundary_eq (s : State) :
    s.minuteBoundary = ((s.rolled.sendMinute s.clock.businessMinute).evaluateCues s.clock.businessMinute s.clock.weekday
      s.clock.hour s.clock.minute).redrawClockTiles := by
  unfold State.minuteBoundary State.rolled Clock.startsDay
  by_cases h : s.clock.hour = s.clock.dayStart ∧ s.clock.minute = 0
  · rw [if_pos h, if_pos (decide_eq_true h)]
    rfl
  · rw [if_neg h, if_neg (fun hd => h (of_decide_eq_true hd))]

/-- Settles O13. -/
theorem minutesAreActedOnInOrder : Obligations.MinutesAreActedOnInOrder := by
  refine ⟨fun s => ⟨s.clock.startsDay, s.clock.businessMinute,
      s.rolled.clock.fires s.clock.businessMinute s.clock.weekday s.clock.hour s.clock.minute, rfl, rfl, ?_⟩,
    ⟨fun s x weekday hour minute m hm hx => ?_, fun s x weekday hour minute actions hm ha => ?_⟩,
    Clock.markReaches_iff, fun _ _ => rfl, fun _ _ => rfl, fun _ => rfl, fun _ _ _ => rfl⟩
  · rw [State.minuteBoundary_eq, State.minuteReached_eq, ← Clock.firing_eq]
    cases hr : s.clock.startsDay with
    | true =>
      rw [State.rolled_of_starts hr]
      exact ⟨rfl, rfl, Clock.raisedTo_of_none (c := (s.rollover _).clock) rfl _, put_getElem_self .., (State.minuteReached_eq ..).symm,
        rfl, rfl, rfl, rfl⟩
    | false =>
      rw [State.rolled_of_not_starts hr]
      refine ⟨by simp, by simp, (s.clock.raisedTo_eq _).trans (by simp), put_getElem_self .., (State.minuteReached_eq ..).symm, ?_,
        rfl, rfl, rfl⟩
      simp [Clock.fires]
  · exact if_pos ((s.clock.markReaches_iff x).mpr ⟨m, hm, hx⟩)
  · have hnot : ¬s.clock.markReaches x = true := by
      rw [Clock.markReaches_iff]
      rintro ⟨m, he, hle⟩
      exact absurd (hm m he) (Nat.not_lt.mpr hle)
    rw [State.evaluateCues_eq, Clock.raisedTo_of_not_reaches hnot, Clock.fires, if_neg hnot, Clock.firing_eq, ← ha]
    rfl

end Sys2Proof.Machine

end

section
/-! SUPPORT. Settles O12 and O14: the tenth-tick, the run-time second, and beacons in each clock state. -/

namespace Sys2Proof.Machine

open Sys2Proof

/-! ### Ticks and seconds (R22, R23, R25) -/

/-- R23: the five blocks that run-time seconds go to. -/
theorem State.deliverSecond_seconds (s : State) (t : Nat) (b : Block) :
    (s.deliverSecond t).mail.seconds[b.index] = s.mail.seconds[b.index] ++
      (if b ∈ [Block.seat, .schedule, .notice, .link, .memory] then [t] else []) := by
  cases b <;> simp [State.deliverSecond, State.sendSecond, Machine.put, Block.index]

/-- R25, R26: the wall time counts one second, and a minute that begins is acted on. -/
theorem State.countWallTime_eq (s : State) :
    s.countWallTime = if s.clock.state = .unset then s
      else if s.clock.second < 59 then { s with clock := { s.clock with second := s.clock.second + 1 } }
      else if s.clock.minute < 59 then
        State.minuteBoundary { s with clock := { s.clock with second := 0, minute := s.clock.minute + 1 } }
      else if s.clock.hour < 23 then
        State.minuteBoundary { s with clock := { s.clock with second := 0, minute := 0, hour := s.clock.hour + 1 } }
      else State.minuteBoundary { s with clock := { s.clock with
        second := 0, minute := 0, hour := 0, weekday := if s.clock.weekday < 7 then s.clock.weekday + 1 else 1 } } := by
  refine ite_congr rfl (fun _ => rfl) fun _ => ?_
  by_cases hsecond : s.clock.second < 59
  · have ha : s.clock.advance = { s.clock with second := s.clock.second + 1 } := if_pos hsecond
    rw [if_pos hsecond, ha]
    exact if_neg (Nat.succ_ne_zero _)
  · rw [if_neg hsecond]
    by_cases hminute : s.clock.minute < 59
    · have ha : s.clock.advance = { s.clock with second := 0, minute := s.clock.minute + 1 } :=
        (if_neg hsecond).trans (if_pos hminute)
      rw [if_pos hminute, ha]
      exact if_pos rfl
    · rw [if_neg hminute]
      by_cases hhour : s.clock.hour < 23
      · have ha : s.clock.advance = { s.clock with second := 0, minute := 0, hour := s.clock.hour + 1 } :=
          (if_neg hsecond).trans ((if_neg hminute).trans (if_pos hhour))
        rw [if_pos hhour, ha]
        exact if_pos rfl
      · have ha : s.clock.advance = { s.clock with
            second := 0, minute := 0, hour := 0, weekday := if s.clock.weekday < 7 then s.clock.weekday + 1 else 1 } :=
          (if_neg hsecond).trans ((if_neg hminute).trans (if_neg hhour))
        rw [if_neg hhour, ha]
        exact if_pos rfl

theorem execTenthTick_owed {s : State} (h : s.clock.secondOwed = true) : execTenthTick s = .next s :=
  congrArg Host.Outcome.next (if_pos h)

theorem execTenthTick_not_owed {s : State} (h : s.clock.secondOwed = false) :
    execTenthTick s = .next { s.deliverTick with
      clock := if s.clock.tenths < 9 then { s.clock with tenths := s.clock.tenths + 1 }
        else { s.clock with secondOwed := true } } := by
  refine congrArg Host.Outcome.next ((if_neg (by simp [h])).trans ?_)
  by_cases ht : s.clock.tenths < 9
  · rw [if_pos ht]
    exact if_pos ht
  · rw [if_neg ht]
    exact if_neg ht

/-- R22, R23: the state in which an owed second has been delivered and the wall time has yet to count. -/
def State.secondDelivered (s : State) : State :=
  { s with
    clock := { s.clock with tenths := 0, secondOwed := false, runTime := min (s.clock.runTime + 1) 4294967295 }
    mail := { s.mail with seconds := (s.deliverSecond (min (s.clock.runTime + 1) 4294967295)).mail.seconds } }

theorem execRunTimeSecond_owed {s : State} (h : s.clock.secondOwed = true) :
    execRunTimeSecond s = .next s.secondDelivered.countWallTime :=
  congrArg Host.Outcome.next (if_neg (by simp [h]))

/-- Settles O12. -/
theorem ticksAndSecondsKeepTime : Obligations.TicksAndSecondsKeepTime := by
  refine ⟨fun s h => execTenthTick_not_owed h, fun s h => execTenthTick_owed h, fun s h => ?_,
    fun s b => ⟨fun h => ?_, fun t rest h => ?_⟩⟩
  · obtain ⟨u, hu⟩ : ∃ u, u = s.secondDelivered := ⟨_, rfl⟩
    have hstate : u.clock.state = s.clock.state := hu ▸ rfl
    have hhour : u.clock.hour = s.clock.hour := hu ▸ rfl
    have hminute : u.clock.minute = s.clock.minute := hu ▸ rfl
    have hsecond : u.clock.second = s.clock.second := hu ▸ rfl
    have hweekday : u.clock.weekday = s.clock.weekday := hu ▸ rfl
    refine ⟨u, _, hu, fun b => ?_, ?_⟩
    · rw [hu]
      exact State.deliverSecond_seconds ..
    · rw [← hstate, ← hhour, ← hminute, ← hsecond, ← hweekday, ← State.countWallTime_eq, hu]
      exact execRunTimeSecond_owed h
  · rw [State.nextSecond, h]
    rfl
  · rw [State.nextSecond, State.dropSecond, h]
    exact ⟨rfl, rfl⟩

/-! ### Beacons (R24, R29, R34) -/

/-- R29: the mark on the clock's minute, the minute event and the clock tiles. -/
def State.enterMinute (s : State) : State :=
  (State.sendMinute { s with clock := { s.clock with mark := some s.clock.businessMinute } } s.clock.businessMinute).redrawClockTiles

/-- R29: the clock set to a beacon's time, before the rollover of a later business day. -/
def State.startedAt (s : State) (t : TimeFields) : State :=
  { s.sendCondition .clock (.ends .clockUnset) with clock := { s.clock.takeTime t with state := .set } }

/-- R29: in UNSET the rollover of a later business day comes before the minute the clock is set to. -/
theorem State.setFromUnset_eq (s : State) (t : TimeFields) :
    s.setFromUnset t = State.enterMinute
      (if s.clock.day < s.clock.dayOf t then (s.startedAt t).rollover (s.clock.dayOf t) else s.startedAt t) :=
  rfl

/-- BEACON takes the beacon at the head of the events from the link unit. -/
theorem execBeacon_cons {s : State} {t : TimeFields} {rest : List LinkClockEvent} (h : s.mail.linkToClock = .beacon t :: rest) :
    execBeacon s = .next (State.takeBeacon { s with mail := { s.mail with linkToClock := rest } } t) := by
  simp only [execBeacon, h]

theorem State.takeBeacon_of_set {s : State} (h : s.clock.state = .set) (t : TimeFields) : s.takeBeacon t = s.applyTime t := by
  unfold State.takeBeacon
  rw [h]

theorem State.takeBeacon_of_unset {s : State} (h : s.clock.state = .unset) (t : TimeFields) : s.takeBeacon t = s.setFromUnset t := by
  unfold State.takeBeacon
  rw [h]

theorem State.takeBeacon_of_unconfirmed {s : State} (h : s.clock.state = .unconfirmed) (t : TimeFields) :
    s.takeBeacon t = State.applyTime (State.sendCondition { s with clock := { s.clock with state := .set } } .clock
      (.ends .clockUnconfirmed)) t := by
  unfold State.takeBeacon
  rw [h]

theorem execBeaconOverdue_cons {s : State} {rest : List LinkClockEvent} (h : s.mail.linkToClock = .overdue :: rest) :
    execBeaconOverdue s = .next (if s.clock.state = .set then
      State.sendCondition { s with
        clock := { s.clock with state := .unconfirmed }
        mail := { s.mail with linkToClock := rest } } .clock (.raise .clockUnconfirmed)
      else { s with mail := { s.mail with linkToClock := rest } }) := by
  simp only [execBeaconOverdue, h]

/-- Settles O14. -/
theorem beaconsActOnTheClockState : Obligations.BeaconsActOnTheClockState := by
  refine ⟨fun s u t rest h hu => ?_, fun s u rest h hu => hu ▸ execBeaconOverdue_cons h⟩
  have hbeacon : exec .beacon s = .next (u.takeBeacon t) := hu ▸ execBeacon_cons h
  have hclock : u.clock = s.clock := hu ▸ rfl
  rw [hbeacon, ← hclock]
  refine ⟨fun hs => congrArg _ (State.takeBeacon_of_set hs t), fun hs => congrArg _ (State.takeBeacon_of_unconfirmed hs t),
    fun hs => ⟨_, congrArg _ (State.takeBeacon_of_unset hs t), ?_⟩⟩
  rw [State.setFromUnset_eq]
  by_cases hlater : u.clock.day < u.clock.dayOf t
  · rw [if_pos hlater, if_pos hlater, if_pos hlater]
    subst hu
    exact ⟨rfl, put_getElem_self .., rfl, rfl, put_getElem_self .., rfl, rfl, rfl, rfl⟩
  · rw [if_neg hlater, if_neg hlater, if_neg hlater, List.append_nil, List.append_nil]
    subst hu
    exact ⟨rfl, put_getElem_self .., rfl, rfl, put_getElem_self .., rfl, rfl, rfl, rfl⟩

end Sys2Proof.Machine

end

section
/-! SUPPORT. The minutes that a forward set crosses (R31): which they are, what their cues fire, and where they leave the mark. -/

namespace Sys2Proof.Machine

open Sys2Proof

/-! ### Business days, minutes and positions (R28) -/

theorem businessMinute_eq {dayStart hour minute : Nat} (hd : dayStart ≤ 23) (hh : hour ≤ 23) (hm : minute ≤ 59) :
    Machine.businessMinute dayStart hour minute = (if dayStart ≤ hour then hour - dayStart else hour + 24 - dayStart) * 60 + minute
      ∧ Machine.businessMinute dayStart hour minute = (hour * 60 + minute + 1440 - dayStart * 60) % 1440
      ∧ Machine.businessMinute dayStart hour minute ≤ 1439 := by
  unfold Machine.businessMinute
  split <;> omega

/-- R28: the business day of a beacon's fields. -/
theorem Clock.dayOf_eq (c : Clock) (t : TimeFields) :
    c.dayOf t = if c.dayStart ≤ t.hour then t.serial else if t.serial = 0 then 0 else t.serial - 1 := by
  unfold Clock.dayOf
  split
  · rfl
  · split <;> omega

theorem Clock.minuteOf_le {c : Clock} {t : TimeFields} (hd : c.dayStart ≤ 23) (ht : t.Ok) : c.minuteOf t ≤ 1439 := by
  obtain ⟨-, -, hh, hm, -⟩ := ht
  obtain ⟨-, -, hle⟩ := businessMinute_eq hd hh hm
  exact hle

/-- R28: a position in whole minutes. -/
theorem Clock.positionOf_div {t : TimeFields} (ht : t.Ok) (c : Clock) : c.positionOf t / 60 = c.dayOf t * 1440 + c.minuteOf t := by
  obtain ⟨-, -, -, -, hs⟩ := ht
  unfold Clock.positionOf
  omega

theorem Clock.InRange.position_div {c : Clock} (h : c.InRange) : c.position / 60 = c.day * 1440 + c.businessMinute := by
  have hs := h.second
  unfold Clock.position
  omega

/-- 00_scope 5.1: a business minute's wall time is the time it was computed from. -/
theorem Clock.timeOfDay_minuteOf {c : Clock} {t : TimeFields} (hd : c.dayStart ≤ 23) (ht : t.Ok) (day : Nat) :
    (c.dayStart * 60 + (day * 1440 + c.minuteOf t)) % 1440 = t.hour * 60 + t.minute := by
  obtain ⟨-, -, hh, hm, -⟩ := ht
  unfold Clock.minuteOf Machine.businessMinute
  omega

/-! ### Marks, one after another -/

theorem Clock.raisedTo_raisedTo {c : Clock} {m n : Nat} (h : m ≤ n) : (c.raisedTo m).raisedTo n = c.raisedTo n := by
  by_cases hm : c.markReaches m = true
  · rw [Clock.raisedTo_of_reaches hm]
  · have hn : ¬c.markReaches n = true := by
      rw [Clock.markReaches_iff] at hm ⊢
      rintro ⟨k, hk, hle⟩
      exact hm ⟨k, hk, h.trans hle⟩
    rw [Clock.raisedTo_of_not_reaches hm, Clock.raisedTo_of_not_reaches hn]
    unfold Clock.raisedTo Clock.markReaches
    dsimp only
    by_cases he : n ≤ m
    · rw [if_pos (decide_eq_true he), Nat.le_antisymm h he]
    · rw [if_neg (by simpa using he)]

/-- Minutes in any order, the latest last, leave the mark as the latest alone does. -/
theorem Clock.foldl_raisedTo {n : Nat} (ks : List Nat) (h : ∀ k ∈ ks, k ≤ n) (c : Clock) :
    (ks.foldl Clock.raisedTo c).raisedTo n = c.raisedTo n := by
  induction ks generalizing c with
  | nil => rfl
  | cons k ks ih =>
    rw [List.forall_mem_cons] at h
    obtain ⟨hk, hks⟩ := h
    rw [List.foldl_cons, ih hks, Clock.raisedTo_raisedTo hk]

/-- An earlier minute's mark reaches a later minute only where the mark before did. -/
theorem Clock.markReaches_raisedTo {c : Clock} {m n : Nat} (h : m < n) : (c.raisedTo m).markReaches n = c.markReaches n := by
  by_cases hm : c.markReaches m = true
  · rw [Clock.raisedTo_of_reaches hm]
  · rw [Clock.raisedTo_of_not_reaches hm, Bool.eq_iff_iff, Clock.markReaches_iff, Clock.markReaches_iff]
    rw [Clock.markReaches_iff] at hm
    constructor
    · rintro ⟨k, hk, hle⟩
      cases hk
      omega
    · rintro ⟨k, hk, hle⟩
      exact absurd ⟨k, hk, h.le.trans hle⟩ hm

theorem Clock.fires_raisedTo {c : Clock} {m n : Nat} (h : m < n) (weekday hour minute : Nat) :
    (c.raisedTo m).fires n weekday hour minute = c.fires n weekday hour minute := by
  unfold Clock.fires
  rw [Clock.markReaches_raisedTo h, Clock.raisedTo_eq]
  rfl

/-! ### Crossed minutes (R31) -/

/-- R31: the actions a crossed minute fires, given as business day × 1440 + business minute. -/
def Clock.crossedFires (c : Clock) (t : TimeFields) (last k : Nat) : List CueAction :=
  c.fires (k % 1440) (weekdayBefore t.weekday (calendarDay c.dayStart last - calendarDay c.dayStart k))
    (timeOfDay c.dayStart (k % 1440) / 60) (timeOfDay c.dayStart (k % 1440) % 60)

theorem Clock.crossedFires_raisedTo {c : Clock} {m k : Nat} (h : m < k % 1440) (t : TimeFields) (last : Nat) :
    (c.raisedTo m).crossedFires t last k = c.crossedFires t last k := by
  have hd : (c.raisedTo m).dayStart = c.dayStart := by rw [Clock.raisedTo_eq]
  unfold Clock.crossedFires
  rw [hd, Clock.fires_raisedTo h]

/-- R31: minutes of one day, in ascending order, fire what each alone would fire, and leave the mark on the last. -/
theorem State.evaluateCrossed_eq (t : TimeFields) (last : Nat) {ks : List Nat} (h : ks.Pairwise fun a b => a % 1440 < b % 1440)
    (s : State) : s.evaluateCrossed t last ks = { s with
      clock := (ks.map (· % 1440)).foldl Clock.raisedTo s.clock
      mail := s.mail.withCues (ks.flatMap (s.clock.crossedFires t last)) } := by
  induction ks generalizing s with
  | nil => simp [State.evaluateCrossed]
  | cons k ks ih =>
    obtain ⟨hk, hks⟩ := List.pairwise_cons.mp h
    have hsame : ks.flatMap ((s.clock.raisedTo (k % 1440)).crossedFires t last) = ks.flatMap (s.clock.crossedFires t last) :=
      List.flatMap_congr fun j hj => Clock.crossedFires_raisedTo (hk j hj) t last
    have hstep : s.evaluateCrossed t last (k :: ks) = State.evaluateCrossed { s with
        clock := s.clock.raisedTo (k % 1440)
        mail := s.mail.withCues (s.clock.crossedFires t last k) } t last ks := by
      rw [State.evaluateCrossed, List.foldl_cons]
      dsimp only
      rw [State.evaluateCues_eq]
      rfl
    rw [hstep, ih hks, hsame]
    simp

/-- R31: the minutes that a set of at most 600 s crosses. -/
def Clock.crossed (c : Clock) (t : TimeFields) : List Nat :=
  if c.positionOf t - c.position ≤ 600 then
    List.range' (c.position / 60 + 1) (c.positionOf t / 60 - c.position / 60)
  else []

theorem Clock.crossed_pairwise (c : Clock) (t : TimeFields) : (c.crossed t).Pairwise (· < ·) := by
  unfold Clock.crossed
  split
  · exact List.pairwise_lt_range'
  · exact .nil

theorem Clock.mem_crossed {c : Clock} {t : TimeFields} {k : Nat} (h : k ∈ c.crossed t) :
    c.position / 60 < k ∧ k ≤ c.positionOf t / 60 ∧ c.positionOf t ≤ c.position + 600 := by
  unfold Clock.crossed at h
  split at h
  · rw [List.mem_range'_1] at h
    omega
  · cases h

/-- The crossed minutes of one business day, in ascending order. -/
theorem Clock.crossed_ofDay_pairwise (c : Clock) (t : TimeFields) (day : Nat) :
    ((c.crossed t).filter fun k => k / 1440 = day).Pairwise fun a b => a % 1440 < b % 1440 := by
  refine List.Pairwise.imp_of_mem (fun {a b} ha hb hlt => ?_) ((c.crossed_pairwise t).filter _)
  have hda : a / 1440 = day := by simpa using List.of_mem_filter ha
  have hdb : b / 1440 = day := by simpa using List.of_mem_filter hb
  omega

theorem range'_concat_last {a b : Nat} (h : a < b) : List.range' (a + 1) (b - a) = List.range' (a + 1) (b - a - 1) ++ [b] := by
  obtain ⟨n, rfl⟩ := Nat.exists_eq_add_of_lt h
  have hlen : a + n + 1 - a = n + 1 := by omega
  have hlast : a + 1 + 1 * n = a + n + 1 := by omega
  rw [hlen, Nat.add_sub_cancel, List.range'_concat, hlast]

/-- R31: a near set crosses the beacon's own minute last. -/
theorem Clock.crossed_near {c : Clock} {t : TimeFields} (hnear : c.positionOf t - c.position ≤ 600)
    (hcross : c.position / 60 < c.positionOf t / 60) :
    c.crossed t = List.range' (c.position / 60 + 1) (c.positionOf t / 60 - c.position / 60 - 1) ++ [c.positionOf t / 60] := by
  rw [Clock.crossed, if_pos hnear, range'_concat_last hcross]

theorem Clock.crossed_far {c : Clock} {t : TimeFields} (hfar : ¬c.positionOf t - c.position ≤ 600) : c.crossed t = [] :=
  if_neg hfar

/-- The crossed minutes of two days, one after another, are all of them. -/
theorem filter_day_append (day : Nat) (f : Nat → Nat) {ks : List Nat} (hs : ks.Pairwise fun a b => f a ≤ f b)
    (h : ∀ k ∈ ks, f k = day ∨ f k = day + 1) :
    (ks.filter fun k => f k = day) ++ (ks.filter fun k => f k = day + 1) = ks := by
  induction ks with
  | nil => rfl
  | cons k ks ih =>
    obtain ⟨hk, hks⟩ := List.pairwise_cons.mp hs
    rw [List.forall_mem_cons] at h
    obtain ⟨hday, hrest⟩ := h
    obtain he | he := hday
    · simp [he, ih hks hrest]
    · have hnone : (ks.filter fun k => f k = day) = [] := by
        rw [List.filter_eq_nil_iff]
        intro a ha
        have := hk a ha
        simp only [decide_eq_true_eq]
        omega
      have hall : (ks.filter fun k => f k = day + 1) = ks := by
        rw [List.filter_eq_self]
        intro a ha
        have hle := hk a ha
        have := hrest a ha
        simp only [decide_eq_true_eq]
        omega
      simp [he, hnone, hall]

end Sys2Proof.Machine

end

section
/-! SUPPORT. Settles O15: a beacon's time is applied by its position (R30 to R32). -/

namespace Sys2Proof.Machine

open Sys2Proof

/-! ### A forward set's stages (R31) -/

/-- R31 steps 3 to 5: the beacon's time, the cues of the crossed minutes of its day, and the mark of a far set. -/
def State.crossTo (s : State) (t : TimeFields) (last : Nat) (near : Bool) (ks : List Nat) : State :=
  let u := State.evaluateCrossed { s with clock := s.clock.takeTime t } t last ks
  if near then u else u.raiseMark u.clock.businessMinute

/-- R31 step 6: the minute event and the clock tiles. -/
def State.arrive (s : State) : State := (s.sendMinute s.clock.businessMinute).redrawClockTiles

theorem State.forwardSet_sameMinute {s : State} {t : TimeFields} (h : s.clock.positionOf t / 60 = s.clock.position / 60) :
    s.forwardSet t = State.redrawClockTiles { s with clock := s.clock.takeTime t } :=
  if_pos h

/-- R31: a set past its minute crosses the held day's minutes and rolls over, where the beacon's day is later, and then crosses
the minutes of the beacon's day. -/
theorem State.forwardSet_crossing {s : State} {t : TimeFields} (h : s.clock.positionOf t / 60 ≠ s.clock.position / 60) :
    s.forwardSet t = State.arrive (State.crossTo
      (if s.clock.day < s.clock.dayOf t then State.rollover
        (if s.clock.day < s.clock.dayOf t then
          s.evaluateCrossed t (s.clock.positionOf t / 60) ((s.clock.crossed t).filter fun k => k / 1440 = s.clock.day)
        else s) (s.clock.dayOf t)
      else (if s.clock.day < s.clock.dayOf t then
          s.evaluateCrossed t (s.clock.positionOf t / 60) ((s.clock.crossed t).filter fun k => k / 1440 = s.clock.day)
        else s)) t (s.clock.positionOf t / 60)
      (decide (s.clock.positionOf t - s.clock.position ≤ 600))
      ((s.clock.crossed t).filter fun k => k / 1440 = s.clock.dayOf t)) := by
  refine (if_neg h).trans ?_
  unfold State.arrive State.crossTo
  simp only [decide_eq_true_eq]
  rfl

theorem State.forwardSet_sameDay {s : State} {t : TimeFields} (h : s.clock.positionOf t / 60 ≠ s.clock.position / 60)
    (hday : s.clock.day = s.clock.dayOf t) : s.forwardSet t = (s.crossTo t (s.clock.positionOf t / 60)
      (decide (s.clock.positionOf t - s.clock.position ≤ 600))
      ((s.clock.crossed t).filter fun k => k / 1440 = s.clock.dayOf t)).arrive := by
  have hlater : ¬s.clock.day < s.clock.dayOf t := hday.not_lt
  rw [State.forwardSet_crossing h, if_neg hlater, if_neg hlater]

theorem State.forwardSet_laterDay {s : State} {t : TimeFields} (h : s.clock.positionOf t / 60 ≠ s.clock.position / 60)
    (hday : s.clock.day < s.clock.dayOf t) : s.forwardSet t =
      (((s.evaluateCrossed t (s.clock.positionOf t / 60) ((s.clock.crossed t).filter fun k => k / 1440 = s.clock.day)).rollover
        (s.clock.dayOf t)).crossTo t (s.clock.positionOf t / 60) (decide (s.clock.positionOf t - s.clock.position ≤ 600))
        ((s.clock.crossed t).filter fun k => k / 1440 = s.clock.dayOf t)).arrive := by
  rw [State.forwardSet_crossing h, if_pos hday, if_pos hday]

/-- R31 steps 3 to 5: a set leaves the mark on the beacon's minute, unless it stands there or later, whether near or far. -/
theorem State.crossTo_eq {s : State} {t : TimeFields} {last : Nat} {near : Bool} {ks : List Nat}
    (hp : ks.Pairwise fun a b => a % 1440 < b % 1440) (hlast : last % 1440 = s.clock.minuteOf t)
    (hnear : near = true → ∃ js, ks = js ++ [last]) (hfar : near = false → ks = []) :
    s.crossTo t last near ks = { s with
      clock := (s.clock.takeTime t).raisedTo (s.clock.minuteOf t)
      mail := s.mail.withCues (ks.flatMap ((s.clock.takeTime t).crossedFires t last)) } := by
  cases near with
  | true =>
    obtain ⟨js, rfl⟩ := hnear rfl
    have hle : ∀ k ∈ js.map (· % 1440), k ≤ last % 1440 := by
      rw [List.forall_mem_map]
      intro j hj
      exact ((List.pairwise_append.mp hp).2.2 j hj last (List.mem_singleton_self _)).le
    refine (State.evaluateCrossed_eq t last hp _).trans ?_
    rw [List.map_append, List.foldl_append, List.map_singleton, List.foldl_cons, List.foldl_nil,
      Clock.foldl_raisedTo _ hle, hlast]
  | false =>
    obtain rfl := hfar rfl
    refine (State.raiseMark_eq ..).trans ?_
    rw [List.flatMap_nil, Mail.withCues_nil]
    rfl

theorem State.arrive_eq (s : State) (n : Nat) (h : s.clock.businessMinute = n) :
    s.arrive = { s with mail := { s.mail with
      clockToSchedule := s.mail.clockToSchedule ++ [.minute n]
      clockToBuilder := s.mail.clockToBuilder ++ [.minute n]
      tiles := put s.mail.tiles Block.clock.index (s.mail.tiles[Block.clock.index] ++ clockTileRequests) } } := by
  subst h
  rfl

theorem Clock.businessMinute_raisedTo (c : Clock) (n : Nat) : (c.raisedTo n).businessMinute = c.businessMinute := by
  rw [Clock.raisedTo_eq]
  rfl

/-! ### What the crossed minutes fire (R31, assumption 9) -/

/-- R31: the actions of a crossed minute, which the mark may have reached where it is of the held business day. -/
def Clock.minuteFires (c : Clock) (t : TimeFields) (k : Nat) : List CueAction :=
  if k / 1440 = c.day ∧ c.markReaches (k % 1440) = true then []
  else c.firing
    (if (c.dayStart * 60 + k) % 1440 ≤ t.hour * 60 + t.minute then t.weekday else if t.weekday = 1 then 7 else t.weekday - 1)
    ((c.dayStart * 60 + k) % 1440 / 60) ((c.dayStart * 60 + k) % 1440 % 60)

/-- Assumption 9: at most 600 s back, a minute is of the beacon's weekday or of the one before it. -/
theorem weekdayBefore_crossed {dayStart weekday time last k : Nat} (hw : 1 ≤ weekday) (hw' : weekday ≤ 7)
    (ht : (dayStart * 60 + last) % 1440 = time) (hk : k ≤ last) (hnear : last ≤ k + 10) :
    weekdayBefore weekday (calendarDay dayStart last - calendarDay dayStart k)
      = if (dayStart * 60 + k) % 1440 ≤ time then weekday else if weekday = 1 then 7 else weekday - 1 := by
  unfold weekdayBefore calendarDay
  have hback : (dayStart * 60 + last) / 1440 - (dayStart * 60 + k) / 1440
      = if (dayStart * 60 + k) % 1440 ≤ time then 0 else 1 := by
    split <;> omega
  rw [hback]
  split
  · omega
  · split <;> omega

theorem timeOfDay_mod (dayStart k : Nat) : timeOfDay dayStart (k % 1440) = (dayStart * 60 + k) % 1440 := by
  unfold timeOfDay
  omega

theorem Clock.crossedFires_eq {c : Clock} {t : TimeFields} (hr : c.InRange) (ht : t.Ok) {k : Nat} (hk : k ∈ c.crossed t)
    {d : Clock} (hd : d.dayStart = c.dayStart) (hcues : d.cues = c.cues)
    (hmark : d.markReaches (k % 1440) = true ↔ k / 1440 = c.day ∧ c.markReaches (k % 1440) = true) :
    d.crossedFires t (c.positionOf t / 60) k = c.minuteFires t k := by
  obtain ⟨hlt, hle, hnear⟩ := Clock.mem_crossed hk
  have htime := Clock.timeOfDay_minuteOf hr.dayStart ht (c.dayOf t)
  rw [← Clock.positionOf_div ht] at htime
  obtain ⟨hw, hw', -⟩ := ht
  have hfiring (weekday hour minute : Nat) : d.firing weekday hour minute = c.firing weekday hour minute := by
    rw [Clock.firing_eq, Clock.firing_eq, hcues]
  unfold Clock.crossedFires Clock.fires Clock.minuteFires
  rw [hd, weekdayBefore_crossed hw hw' htime hle (by omega), timeOfDay_mod, hfiring]
  exact if_congr hmark rfl rfl

/-- The crossed minutes of the beacon's day are empty for a far set, and end with the beacon's minute for a near one. -/
theorem Clock.crossed_ofBeaconDay {c : Clock} {t : TimeFields} (hr : c.InRange) (ht : t.Ok)
    (hcross : c.position / 60 < c.positionOf t / 60) :
    (decide (c.positionOf t - c.position ≤ 600) = true →
      ∃ js, ((c.crossed t).filter fun k => k / 1440 = c.dayOf t) = js ++ [c.positionOf t / 60])
    ∧ (decide (c.positionOf t - c.position ≤ 600) = false → ((c.crossed t).filter fun k => k / 1440 = c.dayOf t) = []) := by
  have hdiv := Clock.positionOf_div ht c
  have hle := Clock.minuteOf_le hr.dayStart ht
  refine ⟨fun hnear => ?_, fun hfar => ?_⟩
  · have hday : c.positionOf t / 60 / 1440 = c.dayOf t := by omega
    rw [Clock.crossed_near (of_decide_eq_true hnear) hcross, List.filter_append, List.filter_singleton, decide_eq_true hday]
    exact ⟨_, rfl⟩
  · rw [Clock.crossed_far (of_decide_eq_false hfar), List.filter_nil]

theorem Clock.positionOf_div_mod {c : Clock} {t : TimeFields} (hd : c.dayStart ≤ 23) (ht : t.Ok) :
    c.positionOf t / 60 % 1440 = c.minuteOf t := by
  have hdiv := Clock.positionOf_div ht c
  have hle := Clock.minuteOf_le hd ht
  omega

/-- R31: a forward set within the business day that crosses a minute. -/
theorem State.forwardSet_sameDay_eq {s : State} {t : TimeFields} (hr : s.clock.InRange) (ht : t.Ok)
    (hday : s.clock.day = s.clock.dayOf t) (hcross : s.clock.position / 60 < s.clock.positionOf t / 60) :
    s.forwardSet t = { s with
      clock := (s.clock.takeTime t).raisedTo (s.clock.minuteOf t)
      mail := { s.mail.withCues ((s.clock.crossed t).flatMap (s.clock.minuteFires t)) with
        clockToSchedule := s.mail.clockToSchedule ++ [.minute (s.clock.minuteOf t)]
        clockToBuilder := s.mail.clockToBuilder ++ [.minute (s.clock.minuteOf t)]
        tiles := put s.mail.tiles Block.clock.index (s.mail.tiles[Block.clock.index] ++ clockTileRequests) } } := by
  obtain ⟨hnear, hfar⟩ := Clock.crossed_ofBeaconDay hr ht hcross
  have hofDay : ∀ k ∈ s.clock.crossed t, k / 1440 = s.clock.dayOf t := by
    intro k hk
    obtain ⟨hlt, hle, -⟩ := Clock.mem_crossed hk
    have hold := hr.position_div
    have hnew := Clock.positionOf_div ht s.clock
    have hminute := Clock.minuteOf_le hr.dayStart ht
    omega
  have hall : ((s.clock.crossed t).filter fun k => k / 1440 = s.clock.dayOf t) = s.clock.crossed t :=
    List.filter_eq_self.mpr fun k hk => decide_eq_true (hofDay k hk)
  have hfires : (s.clock.crossed t).flatMap ((s.clock.takeTime t).crossedFires t (s.clock.positionOf t / 60))
      = (s.clock.crossed t).flatMap (s.clock.minuteFires t) :=
    List.flatMap_congr fun k hk => Clock.crossedFires_eq hr ht hk rfl rfl
      (iff_and_self.mpr fun _ => (hofDay k hk).trans hday.symm)
  rw [State.forwardSet_sameDay hcross.ne' hday, State.crossTo_eq (s.clock.crossed_ofDay_pairwise t _)
    (Clock.positionOf_div_mod hr.dayStart ht) hnear hfar, hall, hfires]
  exact State.arrive_eq _ _ (Clock.businessMinute_raisedTo ..)

/-- A rollover leaves nothing of the marks before it. -/
theorem Clock.foldl_raisedTo_rolled (c : Clock) (ks : List Nat) (day : Nat) :
    { ks.foldl Clock.raisedTo c with day := day, mark := none } = { c with day := day, mark := none } := by
  induction ks generalizing c with
  | nil => rfl
  | cons k ks ih =>
    rw [List.foldl_cons, ih, Clock.raisedTo_eq]

/-- R31 steps 1 and 2: the cues of the held day's crossed minutes, and the rollover to the beacon's day. -/
theorem State.evaluateCrossed_rollover (t : TimeFields) (last day : Nat) {ks : List Nat}
    (h : ks.Pairwise fun a b => a % 1440 < b % 1440) (s : State) :
    (s.evaluateCrossed t last ks).rollover day = { s with
      clock := { s.clock with day := day, mark := none }
      mail := { s.mail.withCues (ks.flatMap (s.clock.crossedFires t last)) with
        clockToSchedule := s.mail.clockToSchedule ++ [.rollover day]
        clockToBuilder := s.mail.clockToBuilder ++ [.rollover day] } } := by
  rw [State.evaluateCrossed_eq t last h, State.rollover, Clock.foldl_raisedTo_rolled]
  rfl

/-- R31: a near set crosses minutes of the held business day and the next. -/
theorem Clock.crossed_days {c : Clock} {t : TimeFields} (hr : c.InRange) (ht : t.Ok) (hday : c.day < c.dayOf t) :
    ((c.crossed t).filter fun k => k / 1440 = c.day) ++ ((c.crossed t).filter fun k => k / 1440 = c.dayOf t) = c.crossed t := by
  by_cases hnear : c.positionOf t - c.position ≤ 600
  · have hold := hr.position_div
    have hnew := Clock.positionOf_div ht c
    have hminute := hr.businessMinute_le
    have hminute' := Clock.minuteOf_le hr.dayStart ht
    have hnext : c.dayOf t = c.day + 1 := by omega
    rw [hnext]
    refine filter_day_append c.day (· / 1440) ((c.crossed_pairwise t).imp fun h => Nat.div_le_div_right h.le) fun k hk => ?_
    obtain ⟨hlt, hle, -⟩ := Clock.mem_crossed hk
    omega
  · rw [Clock.crossed_far hnear]
    rfl

/-- R31: a forward set to a later business day. -/
theorem State.forwardSet_laterDay_eq {s : State} {t : TimeFields} (hr : s.clock.InRange) (ht : t.Ok)
    (hday : s.clock.day < s.clock.dayOf t) (hcross : s.clock.position / 60 < s.clock.positionOf t / 60) :
    s.forwardSet t = { s with
      clock := { s.clock.takeTime t with mark := some (s.clock.minuteOf t) }
      mail := { s.mail.withCues ((s.clock.crossed t).flatMap (s.clock.minuteFires t)) with
        clockToSchedule := s.mail.clockToSchedule ++ [.rollover (s.clock.dayOf t)] ++ [.minute (s.clock.minuteOf t)]
        clockToBuilder := s.mail.clockToBuilder ++ [.rollover (s.clock.dayOf t)] ++ [.minute (s.clock.minuteOf t)]
        tiles := put s.mail.tiles Block.clock.index (s.mail.tiles[Block.clock.index] ++ clockTileRequests) } } := by
  obtain ⟨hnear, hfar⟩ := Clock.crossed_ofBeaconDay hr ht hcross
  have hheld : ((s.clock.crossed t).filter fun k => k / 1440 = s.clock.day).flatMap
        (s.clock.crossedFires t (s.clock.positionOf t / 60))
      = ((s.clock.crossed t).filter fun k => k / 1440 = s.clock.day).flatMap (s.clock.minuteFires t) := by
    refine List.flatMap_congr fun k hk => ?_
    obtain ⟨hk, hd⟩ := List.mem_filter.mp hk
    exact Clock.crossedFires_eq hr ht hk rfl rfl (iff_and_self.mpr fun _ => of_decide_eq_true hd)
  have hnext : ((s.clock.crossed t).filter fun k => k / 1440 = s.clock.dayOf t).flatMap
        ((Clock.takeTime { s.clock with day := s.clock.dayOf t, mark := none } t).crossedFires t (s.clock.positionOf t / 60))
      = ((s.clock.crossed t).filter fun k => k / 1440 = s.clock.dayOf t).flatMap (s.clock.minuteFires t) := by
    refine List.flatMap_congr fun k hk => ?_
    obtain ⟨hk, hd⟩ := List.mem_filter.mp hk
    have hd : k / 1440 = s.clock.dayOf t := of_decide_eq_true hd
    exact Clock.crossedFires_eq hr ht hk rfl rfl
      (iff_of_false Bool.false_ne_true fun ⟨he, _⟩ => hday.ne' (hd.symm.trans he))
  rw [← Clock.crossed_days hr ht hday, List.flatMap_append, ← hheld, ← hnext, ← Mail.withCues_withCues,
    State.forwardSet_laterDay hcross.ne' hday,
    State.evaluateCrossed_rollover t _ _ (s.clock.crossed_ofDay_pairwise t _),
    State.crossTo_eq (s.clock.crossed_ofDay_pairwise t _) ?hlast hnear hfar]
  case hlast => exact Clock.positionOf_div_mod hr.dayStart ht
  exact State.arrive_eq _ _ (Clock.businessMinute_raisedTo ..)

/-! ### What applying a beacon's time comes to (R30 to R32) -/

theorem State.applyTime_earlierDay {s : State} {t : TimeFields} (h : s.clock.dayOf t < s.clock.day) :
    s.applyTime t = s.sendCondition .clock (.raise .clockConflict) :=
  if_pos h

theorem State.applyTime_samePosition {s : State} {t : TimeFields} (hday : s.clock.day ≤ s.clock.dayOf t)
    (h : s.clock.positionOf t = s.clock.position) :
    s.applyTime t = { s with clock := { s.clock with weekday := t.weekday } } :=
  (if_neg hday.not_gt).trans (if_pos h)

theorem State.applyTime_backward {s : State} {t : TimeFields} (hday : s.clock.day ≤ s.clock.dayOf t)
    (h : s.clock.positionOf t < s.clock.position) : s.applyTime t = s.backwardSet t :=
  (if_neg hday.not_gt).trans ((if_neg h.ne).trans (if_pos h))

theorem State.applyTime_forward {s : State} {t : TimeFields} (hday : s.clock.day ≤ s.clock.dayOf t)
    (h : s.clock.position < s.clock.positionOf t) : s.applyTime t = s.forwardSet t :=
  (if_neg hday.not_gt).trans ((if_neg h.ne').trans (if_neg h.not_gt))

theorem State.backwardSet_eq (s : State) (t : TimeFields) :
    s.backwardSet t = State.redrawClockTiles
      (if s.clock.minuteOf t = s.clock.businessMinute then { s with clock := s.clock.takeTime t }
       else State.sendMinute { s with clock := s.clock.takeTime t } (s.clock.minuteOf t)) :=
  rfl

/-- Positions are in order of business day and then of minute. -/
theorem Clock.position_div_lt {c : Clock} {t : TimeFields} (hr : c.InRange) (ht : t.Ok)
    (h : c.day < c.dayOf t ∨ c.day = c.dayOf t ∧ c.businessMinute < c.minuteOf t) : c.position / 60 < c.positionOf t / 60 := by
  rw [hr.position_div, Clock.positionOf_div ht]
  have hminute := hr.businessMinute_le
  omega

/-- R31: a forward set that crosses a minute, to the same business day or a later one. -/
theorem State.forwardSet_eq {s : State} {t : TimeFields} (hr : s.clock.InRange) (ht : t.Ok)
    (h : s.clock.day < s.clock.dayOf t ∨ s.clock.day = s.clock.dayOf t ∧ s.clock.businessMinute < s.clock.minuteOf t) :
    s.forwardSet t = { s with
      clock := { s.clock.takeTime t with
        mark := if decide (s.clock.day < s.clock.dayOf t) = false ∧ s.clock.markReaches (s.clock.minuteOf t) = true then s.clock.mark
          else some (s.clock.minuteOf t) }
      mail := { s.mail.withCues ((s.clock.crossed t).flatMap (s.clock.minuteFires t)) with
        clockToSchedule := s.mail.clockToSchedule
          ++ (if decide (s.clock.day < s.clock.dayOf t) then [.rollover (s.clock.dayOf t)] else []) ++ [.minute (s.clock.minuteOf t)]
        clockToBuilder := s.mail.clockToBuilder
          ++ (if decide (s.clock.day < s.clock.dayOf t) then [.rollover (s.clock.dayOf t)] else []) ++ [.minute (s.clock.minuteOf t)]
        tiles := put s.mail.tiles Block.clock.index (s.mail.tiles[Block.clock.index] ++ clockTileRequests) } } := by
  have hcross := Clock.position_div_lt hr ht h
  obtain hlater | ⟨hday, -⟩ := h
  · rw [decide_eq_true hlater, State.forwardSet_laterDay_eq hr ht hlater hcross]
    rfl
  · rw [decide_eq_false hday.not_lt, State.forwardSet_sameDay_eq hr ht hday hcross, Clock.raisedTo_eq]
    simp only [Bool.false_eq_true, if_false, true_and, List.append_nil]
    rfl

/-- Settles O15. -/
theorem beaconTimeIsAppliedByPosition : Obligations.BeaconTimeIsAppliedByPosition := by
  refine ⟨fun c t x y hd ht hh hm hs hx hy => ?_, fun s t hsound ht => ?_⟩
  · have hday := c.dayOf_eq t
    obtain ⟨-, -, hth, htm, hts⟩ := ht
    obtain ⟨hbt, hbt', -⟩ := businessMinute_eq hd hth htm
    obtain ⟨hbc, hbc', -⟩ := businessMinute_eq hd hh hm
    have hpos : c.position = c.day * 86400 + y := by
      rw [Clock.position, Clock.businessMinute, hbc, hy]
      omega
    have hpos' : c.positionOf t = c.dayOf t * 86400 + x := by
      rw [Clock.positionOf, Clock.minuteOf, hbt, hx]
      omega
    have hxlt : x < 86400 := by split at hx <;> omega
    have hylt : y < 86400 := by split at hy <;> omega
    refine ⟨hday, ?_, hbt', ?_, hbc', ?_, ?_, ?_, rfl⟩
    · rw [Clock.minuteOf, hbt]
      omega
    · rw [Clock.businessMinute, hbc]
      omega
    all_goals omega
  · have hr := hsound.clock.inRange
    refine ⟨State.applyTime_earlierDay, fun h => ?_, fun hday h => ?_, fun h hday hminute => ?_, fun hday h hcross => ?_⟩
    · refine State.applyTime_samePosition ?_ h
      have hold := hr.position_div
      have hnew := Clock.positionOf_div ht s.clock
      have hminute := Clock.minuteOf_le hr.dayStart ht
      omega
    · rw [State.applyTime_backward hday.le h, State.backwardSet_eq]
    · rw [State.applyTime_forward hday.le h]
      refine State.forwardSet_sameMinute ?_
      rw [hr.position_div, Clock.positionOf_div ht, hday, hminute]
    · have hcross' : s.clock.day < s.clock.dayOf t ∨ s.clock.day = s.clock.dayOf t ∧ s.clock.businessMinute < s.clock.minuteOf t := by
        omega
      rw [State.applyTime_forward hday h, State.forwardSet_eq hr ht hcross']
      refine ⟨_, rfl, rfl, rfl, rfl, put_getElem_self .., fun hfar => ?_, fun hnear => ⟨_, ?_, rfl, rfl, rfl⟩⟩
      · rw [Clock.crossed_far (by omega), List.flatMap_nil, Mail.withCues_nil]
        exact ⟨rfl, rfl, rfl⟩
      · rw [Clock.crossed, if_pos (by omega)]
        refine List.flatMap_congr fun k _ => ?_
        rw [← Clock.firing_eq]
        rfl

end Sys2Proof.Machine

end

section
/-! SUPPORT. Settles O17: within a business day the high-water mark never moves back. -/

namespace Sys2Proof.Machine

open Sys2Proof

/-- L11: from one clock to another the business day moves on, or the day and its mark are kept, the mark at its minute or later. -/
def Clock.KeepsMark (c d : Clock) : Prop :=
  c.day < d.day ∨ d.day = c.day ∧ ∀ m, c.mark = some m → ∃ n, d.mark = some n ∧ m ≤ n

theorem Clock.KeepsMark.of_same {c d : Clock} (hday : d.day = c.day) (hmark : d.mark = c.mark) : c.KeepsMark d :=
  .inr ⟨hday, fun m hm => ⟨m, hmark.trans hm, le_rfl⟩⟩

theorem Clock.KeepsMark.from_same {c d e : Clock} (hday : d.day = c.day) (hmark : d.mark = c.mark) (h : d.KeepsMark e) :
    c.KeepsMark e := by
  unfold Clock.KeepsMark at h ⊢
  rwa [hday, hmark] at h

/-- R38: an evaluation leaves the mark where it was or at a later minute. -/
theorem Clock.keepsMark_raisedTo (c : Clock) (n : Nat) : c.KeepsMark (c.raisedTo n) := by
  by_cases h : c.markReaches n = true
  · rw [Clock.raisedTo_of_reaches h]
    exact .of_same rfl rfl
  · rw [Clock.raisedTo_of_not_reaches h]
    rw [Clock.markReaches_iff] at h
    exact .inr ⟨rfl, fun m hm => ⟨n, rfl, Nat.le_of_not_le fun hle => h ⟨m, hm, hle⟩⟩⟩

/-! ### Counting (R25, R26) -/

theorem State.minuteBoundary_keepsMark {s : State} (h : s.clock.day < 65535) : s.clock.KeepsMark s.minuteBoundary.clock := by
  rw [State.minuteBoundary_eq, State.minuteReached_eq]
  cases hr : s.clock.startsDay with
  | true =>
    refine .inl ?_
    rw [State.rolled_of_starts hr, Clock.raisedTo_eq]
    show s.clock.day < min (s.clock.day + 1) 65535
    omega
  | false =>
    rw [State.rolled_of_not_starts hr]
    exact s.clock.keepsMark_raisedTo _

theorem Clock.advance_day (c : Clock) : c.advance.day = c.day := by
  unfold Clock.advance
  split
  · rfl
  · split
    · rfl
    · split <;> rfl

theorem Clock.advance_mark (c : Clock) : c.advance.mark = c.mark := by
  unfold Clock.advance
  split
  · rfl
  · split
    · rfl
    · split <;> rfl

theorem State.countWallTime_keepsMark {s : State} (h : s.clock.day < 65535) : s.clock.KeepsMark s.countWallTime.clock := by
  have hday := s.clock.advance_day
  have hmark := s.clock.advance_mark
  unfold State.countWallTime
  split
  · exact .of_same rfl rfl
  · dsimp only
    split
    · exact (State.minuteBoundary_keepsMark (s := { s with clock := s.clock.advance }) (hday ▸ h)).from_same hday hmark
    · exact .of_same hday hmark

/-! ### Beacons and SET CLOCK (R30 to R33) -/

theorem State.backwardSet_keepsMark {s : State} {t : TimeFields} (hday : s.clock.day ≤ s.clock.dayOf t) :
    s.clock.KeepsMark (s.backwardSet t).clock := by
  have hclock : (s.backwardSet t).clock = s.clock.takeTime t := by
    rw [State.backwardSet_eq, State.redrawClockTiles_clock]
    split <;> rfl
  rw [hclock]
  obtain hlt | heq := hday.lt_or_eq
  · exact .inl hlt
  · exact .of_same heq.symm rfl

theorem State.forwardSet_keepsMark {s : State} {t : TimeFields} (hr : s.clock.InRange) (ht : t.Ok)
    (hday : s.clock.day ≤ s.clock.dayOf t) (h : s.clock.position < s.clock.positionOf t) :
    s.clock.KeepsMark (s.forwardSet t).clock := by
  obtain hlt | heq := hday.lt_or_eq
  · rw [State.forwardSet_eq hr ht (.inl hlt)]
    exact .inl hlt
  · obtain hminute | hminute := (Nat.div_le_div_right (c := 60) h.le).lt_or_eq
    · rw [State.forwardSet_sameDay_eq hr ht heq hminute]
      exact .from_same (d := s.clock.takeTime t) heq.symm rfl (Clock.keepsMark_raisedTo ..)
    · rw [State.forwardSet_sameMinute hminute.symm]
      exact .of_same heq.symm rfl

/-- R30: whatever a beacon's time, the mark of the held day stays or moves on. -/
theorem State.applyTime_keepsMark {s : State} {t : TimeFields} (hr : s.clock.InRange) (ht : t.Ok) :
    s.clock.KeepsMark (s.applyTime t).clock := by
  obtain hearlier | hday := lt_or_ge (s.clock.dayOf t) s.clock.day
  · rw [State.applyTime_earlierDay hearlier]
    exact .of_same rfl rfl
  · obtain hlt | heq | hgt := lt_trichotomy (s.clock.positionOf t) s.clock.position
    · rw [State.applyTime_backward hday hlt]
      exact State.backwardSet_keepsMark hday
    · rw [State.applyTime_samePosition hday heq]
      exact .of_same rfl rfl
    · rw [State.applyTime_forward hday hgt]
      exact State.forwardSet_keepsMark hr ht hday hgt

theorem State.takeBeacon_keepsMark {s : State} {t : TimeFields} (hs : s.clock.state ≠ .unset) (hr : s.clock.InRange) (ht : t.Ok) :
    s.clock.KeepsMark (s.takeBeacon t).clock := by
  cases h : s.clock.state with
  | unset => exact absurd h hs
  | set =>
    rw [State.takeBeacon_of_set h]
    exact State.applyTime_keepsMark hr ht
  | unconfirmed =>
    rw [State.takeBeacon_of_unconfirmed h]
    have hr' : Clock.InRange { s.clock with state := .set } := { hr with }
    exact (State.applyTime_keepsMark (s := State.sendCondition { s with clock := { s.clock with state := .set } } .clock
      (.ends .clockUnconfirmed)) hr' ht).from_same rfl rfl

/-! ### The clock's directives (R33, R35, R37) -/

theorem setClock_keepsMark {s : State} (hs : s.clock.state ≠ .unset) (hr : s.clock.InRange) (t : TimeFields) :
    s.clock.KeepsMark (setClock t s).1.clock := by
  by_cases ht : t.Ok
  · by_cases href : s.clock.state ≠ .unset ∧ s.clock.dayOf t < s.clock.day
    · rw [setClock_refused ht href]
      exact .of_same rfl rfl
    · rw [setClock_done ht href]
      exact State.takeBeacon_keepsMark hs hr ht
  · rw [setClock_outOfRange ht]
    exact .of_same rfl rfl

theorem setHouse_keepsMark (f d : Nat) (s : State) : s.clock.KeepsMark (setHouse f d s).1.clock := by
  unfold setHouse
  split
  · exact .of_same rfl rfl
  · split
    · exact .of_same rfl rfl
    · split
      · exact .of_same rfl rfl
      · dsimp only
        split <;> exact .of_same rfl rfl

theorem setCue_keepsMark (n : Nat) (f : CueFields) (s : State) : s.clock.KeepsMark (setCue n f s).1.clock := by
  unfold setCue
  split
  · exact .of_same rfl rfl
  · split <;> exact .of_same rfl rfl

theorem clearCue_keepsMark (n : Nat) (s : State) : s.clock.KeepsMark (clearCue n s).1.clock := by
  unfold clearCue
  split
  · split <;> exact .of_same rfl rfl
  · exact .of_same rfl rfl

/-- What a directive's action does to the clock of every state with the same clock, its command does. -/
theorem State.takeAndAnswer_clock {P : Clock → Prop} {α : Type} {b : Block} {p : Port} {select : Directive → Option α}
    {act : α → State → State × Reply} {s : State} (h : P s.clock) (hact : ∀ a u, u.clock = s.clock → P (act a u).1.clock) :
    P (s.takeAndAnswer b p select act).clock := by
  obtain e | ⟨q, d, a, -, -, e⟩ | ⟨q, d, a, -, -, -, -, e⟩ := State.take_cases b p select
    (fun q a s => (act a s).1.issue p (q.answer (act a s).2)) s
  · rwa [State.takeAndAnswer, e]
  · rw [State.takeAndAnswer, e]
    exact hact a _ rfl
  · rwa [State.takeAndAnswer, e]

/-! ### Every command -/

/-- A command leaves the clock UNSET, or keeps the mark of a clock. -/
def Clock.KeptBy (c : Clock) (r : Result) : Prop := Result.Keeps (fun t => t.clock.state = .unset ∨ c.KeepsMark t.clock) r

theorem Clock.KeptBy.next {c : Clock} {t : State} (h : c.KeepsMark t.clock) : c.KeptBy (.next t) := Result.Keeps.next (.inr h)

theorem Clock.KeptBy.of_clock {c : Clock} {t : State} (h : t.clock = c) : c.KeptBy (.next t) := .next (h ▸ .of_same rfl rfl)

theorem execTenthTick_keptBy (s : State) : s.clock.KeptBy (execTenthTick s) := by
  cases h : s.clock.secondOwed with
  | true => rw [execTenthTick_owed h]; exact .of_clock rfl
  | false =>
    rw [execTenthTick_not_owed h]
    refine .next ?_
    dsimp only
    split <;> exact .of_same rfl rfl

theorem execRunTimeSecond_keptBy {s : State} (hday : s.clock.day < 65535) : s.clock.KeptBy (execRunTimeSecond s) := by
  cases h : s.clock.secondOwed with
  | true =>
    rw [execRunTimeSecond_owed h]
    exact .next ((State.countWallTime_keepsMark (s := s.secondDelivered) hday).from_same rfl rfl)
  | false =>
    unfold execRunTimeSecond
    rw [if_pos h]
    exact .of_clock rfl

theorem execBeacon_keptBy {s : State} (h : s.ClockSound) (hs : s.clock.state ≠ .unset) : s.clock.KeptBy (execBeacon s) := by
  refine .next ?_
  split
  · rename_i t rest he
    obtain ⟨-, hb⟩ := s.clockSound_iff.mp h
    exact State.takeBeacon_keepsMark (s := { s with mail := { s.mail with linkToClock := rest } }) hs h.clock.inRange
      (hb (.beacon t) (by simp [he]) t rfl)
  · exact .of_same rfl rfl

theorem execBeaconOverdue_keptBy (s : State) : s.clock.KeptBy (execBeaconOverdue s) := by
  refine .next ?_
  split
  · dsimp only
    split <;> exact .of_same rfl rfl
  · exact .of_same rfl rfl

/-- L11 (R38): every command keeps the mark of a clock that is not UNSET, or leaves the clock UNSET. -/
theorem exec_keptBy (i : Instr) {s : State} (h : s.ClockSound) (hs : s.clock.state ≠ .unset) (hday : s.clock.day < 65535) :
    s.clock.KeptBy (exec i s) := by
  have hr := h.clock.inRange
  have hrefl : s.clock.KeepsMark s.clock := .of_same rfl rfl
  cases i with
  | answerSent p =>
    refine execAnswerSent_preserves (P := fun t => t.clock.state = .unset ∨ s.clock.KeepsMark t.clock) (fun hf hp => ?_)
      (fun _ => .inl rfl) (.inr hrefl) p
    rwa [← hf.same (.block .clock) (by simp)]
  | fullReset => exact Result.Keeps.next (.inl rfl)
  | tenthTick => exact execTenthTick_keptBy s
  | runTimeSecond => exact execRunTimeSecond_keptBy hday
  | beacon => exact execBeacon_keptBy h hs
  | beaconOverdue => exact execBeaconOverdue_keptBy s
  | setClock p => exact .next (State.takeAndAnswer_clock hrefl fun t u e => e ▸ setClock_keepsMark (e ▸ hs) (e ▸ hr) t)
  | setHouse p => exact .next (State.takeAndAnswer_clock hrefl fun _ u e => e ▸ setHouse_keepsMark _ _ u)
  | setCue p => exact .next (State.takeAndAnswer_clock hrefl fun _ u e => e ▸ setCue_keepsMark _ _ u)
  | clearCue p => exact .next (State.takeAndAnswer_clock hrefl fun n u e => e ▸ clearCue_keepsMark n u)
  | _ =>
    refine (exec_frame _ s).keeps fun t hf => .inr ?_
    have hsame : s.clock = t.clock := hf.same (.block .clock)
      (by simp [Instr.touches, Instr.takes, Instr.queryKind, Instr.eventTouches, Instr.block])
    rwa [← hsame]

/-- Settles O17. -/
theorem markNeverMovesBackWithinADay : Obligations.MarkNeverMovesBackWithinADay := by
  intro i s t m h he hset hm hday hlt
  have hs : s.clock.state ≠ .unset := fun hu => by
    rw [h.clock.unset hu] at hm
    cases hm
  obtain hu | hlater | ⟨-, hkept⟩ := exec_keptBy i h hs hlt t he
  · exact absurd hu hset
  · exact absurd hday hlater.ne'
  · exact hkept m hm

end Sys2Proof.Machine

end

section
/-! SUPPORT. Settles O57: panel links and what they send, and the panel output's directives and cues. -/

namespace Sys2Proof.Machine

open Sys2Proof

/-! ### One panel's record changes (R176) -/

theorem OutputUnit.anyLost_iff (u : OutputUnit) : u.anyLost = true ↔ ∃ j : Fin 12, u.panels[j].lost = true := by
  unfold OutputUnit.anyLost
  rw [List.any_eq_true]
  constructor
  · rintro ⟨o, ho, hl⟩
    obtain ⟨j, hj, rfl⟩ := Vector.mem_iff_getElem.mp (Vector.mem_toList_iff.mp ho)
    exact ⟨⟨j, hj⟩, hl⟩
  · rintro ⟨j, hl⟩
    exact ⟨_, Vector.mem_toList_iff.mpr (Vector.getElem_mem j.isLt), hl⟩

/-- R176: whether a panel is lost still, after one panel's lost mark has cleared. -/
theorem OutputUnit.anyLost_put {v : Vector Output 12} {k : Fin 12} {o : Output} (h : o.lost = false) :
    (OutputUnit.anyLost ⟨put v k o⟩) = true ↔ ∃ j : Fin 12, j ≠ k ∧ v[j].lost = true := by
  rw [OutputUnit.anyLost_iff]
  refine exists_congr fun j => ?_
  show (put v k o)[j].lost = true ↔ _
  rw [put_getElem]
  by_cases hj : j = k
  · simp [hj, h]
  · simp [hj]

/-- R176: the conditions under way after a panel's record becomes another. -/
def State.lostConditions (s : State) (k : Fin 12) (n : Output) : Vector (List ConditionEvent) 11 :=
  if s.output.panels[k].lost = n.lost then s.mail.conditions
  else if n.lost = true then
    put s.mail.conditions Block.output.index (s.mail.conditions[Block.output.index] ++ [.raise .panelLost])
  else if ∃ j : Fin 12, j ≠ k ∧ s.output.panels[j].lost = true then s.mail.conditions
  else put s.mail.conditions Block.output.index (s.mail.conditions[Block.output.index] ++ [.ends .panelLost])

/-- R176: a panel's record has changed, and a change of its state has been sent; its lost mark is not reported yet. -/
def State.storeOutput (s : State) (k : Fin 12) (n : Output) : State :=
  { s with
    output := ⟨put s.output.panels k n⟩
    mail := { s.mail with outputToComposer := s.mail.outputToComposer ++
      if s.output.panels[k].state = n.state then [] else [stateEvent k n.state] } }

theorem State.changeOutput_stages (s : State) (k : Fin 12) (f : Output → Output) :
    s.changeOutput k f =
      (if s.output.panels[k].lost = (f s.output.panels[k]).lost then s.storeOutput k (f s.output.panels[k])
      else if (f s.output.panels[k]).lost = true then
        (s.storeOutput k (f s.output.panels[k])).sendCondition .output (.raise .panelLost)
      else if OutputUnit.anyLost ⟨put s.output.panels k (f s.output.panels[k])⟩ = true then s.storeOutput k (f s.output.panels[k])
      else (s.storeOutput k (f s.output.panels[k])).sendCondition .output (.ends .panelLost)) := by
  have hget : s.output.panels[k.val]? = some s.output.panels[k] := Vector.getElem?_eq_getElem k.isLt
  have hset (o : Output) : s.output.panels.setIfInBounds k.val o = put s.output.panels k o := by
    ext i hi
    simp [put, Vector.getElem_setIfInBounds, Vector.getElem_set]
  unfold State.changeOutput State.storeOutput
  rw [hget]
  dsimp only
  rw [hset]
  by_cases hstate : s.output.panels[k].state = (f s.output.panels[k]).state
  · rw [if_pos hstate, if_pos hstate, List.append_nil]
  · rw [if_neg hstate, if_neg hstate]
    rfl

/-- R176: a panel's record changes; its state and its lost mark are reported where they do. -/
theorem State.changeOutput_eq (s : State) (k : Fin 12) (f : Output → Output) :
    s.changeOutput k f = { s with
      output := ⟨put s.output.panels k (f s.output.panels[k])⟩
      mail := { s.mail with
        outputToComposer := s.mail.outputToComposer ++
          if s.output.panels[k].state = (f s.output.panels[k]).state then [] else [stateEvent k (f s.output.panels[k]).state]
        conditions := s.lostConditions k (f s.output.panels[k]) } } := by
  rw [State.changeOutput_stages, State.lostConditions]
  by_cases hlost : s.output.panels[k].lost = (f s.output.panels[k]).lost
  · rw [if_pos hlost, if_pos hlost]
    rfl
  · rw [if_neg hlost, if_neg hlost]
    by_cases hn : (f s.output.panels[k]).lost = true
    · rw [if_pos hn, if_pos hn]
      rfl
    · rw [if_neg hn, if_neg hn]
      have hany := OutputUnit.anyLost_put (v := s.output.panels) (k := k) (Bool.not_eq_true _ ▸ hn)
      by_cases hj : ∃ j : Fin 12, j ≠ k ∧ s.output.panels[j].lost = true
      · rw [if_pos hj, if_pos (hany.mpr hj)]
        rfl
      · rw [if_neg hj, if_neg (hj ∘ hany.mp)]
        rfl

/-- R176: a change that leaves a panel's state and lost mark is reported to no one. -/
theorem State.changeOutput_quiet (s : State) (k : Fin 12) {f : Output → Output}
    (hstate : s.output.panels[k].state = (f s.output.panels[k]).state)
    (hlost : s.output.panels[k].lost = (f s.output.panels[k]).lost) :
    s.changeOutput k f = { s with output := ⟨put s.output.panels k (f s.output.panels[k])⟩ } := by
  rw [State.changeOutput_eq, if_pos hstate, List.append_nil, State.lostConditions, if_pos hlost]

theorem execPanelFrameSlot_eq (s : State) (k : Fin 12) :
    execPanelFrameSlot k s = .next (if s.output.panels[k].state = .live then s.sendPanelEvent (.slot k) else s) := by
  have hget : s.outputOf k = some s.output.panels[k] := Vector.getElem?_eq_getElem k.isLt
  unfold execPanelFrameSlot
  rw [hget]

/-! ### Directives and cues (R177, R39) -/

theorem Output.standBy_eq (o : Output) : o.standBy = { o with
    standby := true, target := 0, lost := false, state := if o.state = .live then .standby else o.state } := by
  unfold Output.standBy
  cases o.state <;> rfl

theorem Output.wake_eq (o : Output) : o.wake = { o with
    standby := false, target := o.setLevel, state := if o.state = .standby ∧ o.linkUp then .live else o.state } := by
  unfold Output.wake
  cases o.state <;> cases o.linkUp <;> rfl

theorem validSet_eq_false {xs : List Nat} (h : xs = [] ∨ (∃ m ∈ xs, 11 < m) ∨ ¬xs.Nodup) : validSet xs = false := by
  rw [← Bool.not_eq_true, validSet_iff]
  rintro ⟨hne, hle, hnd⟩
  obtain he | ⟨m, hm, hlt⟩ | hd := h
  · exact hne he
  · exact absurd (hle m hm) (Nat.not_le.mpr hlt)
  · exact hd hnd

theorem panelStandby_done {set : List Nat} (h : validSet set = true) (s : State) :
    panelStandby set s = done (s.changeOutputs set Output.standBy) := if_pos h

theorem wakePanels_done {set : List Nat} (h : validSet set = true) (s : State) :
    wakePanels set s = done (s.changeOutputs set Output.wake) := if_pos h

theorem setBrightness_done {level : Nat} {set : List Nat} (hl : level ≤ 15) (h : validSet set = true) (s : State) :
    setBrightness level set s = done (s.changeOutputs set (Output.setBrightness level)) :=
  if_pos (by simp [hl, h])

theorem panelStandby_refused {set : List Nat} (h : validSet set = false) (s : State) :
    panelStandby set s = refuse s .outOfRange := if_neg (by simp [h])

theorem wakePanels_refused {set : List Nat} (h : validSet set = false) (s : State) :
    wakePanels set s = refuse s .outOfRange := if_neg (by simp [h])

theorem setBrightness_refused {level : Nat} {set : List Nat} (h : 15 < level ∨ validSet set = false) (s : State) :
    setBrightness level set s = refuse s .outOfRange := by
  refine if_neg ?_
  rw [Bool.and_eq_true, decide_eq_true_eq]
  rintro ⟨hl, hv⟩
  obtain hlt | hf := h
  · omega
  · rw [hf] at hv
    cases hv

/-- R39: a cue action that the panel output acts on, at the head of its queue. -/
theorem State.takeOutputCue_cons {s : State} {e : OutputCue} {rest : List OutputCue} (h : s.mail.cuesToOutput = e :: rest)
    {act : OutputCue → Option (State → State × Reply)} {f : State → State × Reply} (hf : act e = some f) :
    s.takeOutputCue act = (f { s with mail := { s.mail with cuesToOutput := rest } }).1 := by
  simp only [State.takeOutputCue, h, hf]

theorem rateOk_iff (rate : Nat) : rateOk rate = true ↔ rate = 25 ∨ rate = 30 ∨ rate = 50 ∨ rate = 60 := by
  simp [rateOk, or_assoc]

theorem orientationOfNumber_eq_none {n : Nat} (h : n ≠ 1 ∧ n ≠ 2) : orientationOfNumber n = none := by
  obtain ⟨h1, h2⟩ := h
  unfold orientationOfNumber
  split
  · exact absurd rfl h1
  · exact absurd rfl h2
  · rfl

theorem orientationOfNumber_eq_some {n : Nat} (h : n = 1 ∨ n = 2) :
    orientationOfNumber n = some (if n = 1 then .landscape else .portrait) := by
  obtain rfl | rfl := h <;> rfl

theorem setPanel_outOfRange {n rate orientation : Nat}
    (h : 11 < n ∨ (rate ≠ 25 ∧ rate ≠ 30 ∧ rate ≠ 50 ∧ rate ≠ 60) ∨ (orientation ≠ 1 ∧ orientation ≠ 2)) (s : State) :
    setPanel n rate orientation s = refuse s .outOfRange := by
  unfold Machine.setPanel
  split
  · rfl
  · rename_i o ho
    have horientation : ¬(orientation ≠ 1 ∧ orientation ≠ 2) := fun hn => by
      rw [orientationOfNumber_eq_none hn] at ho
      cases ho
    refine if_neg ?_
    rw [Bool.and_eq_true, decide_eq_true_eq, rateOk_iff]
    omega

/-- R177: SET PANEL changes neither the panel's state nor its lost mark, so that nothing is sent. -/
theorem setPanel_done {rate orientation : Nat} (k : Fin 12) (hr : rate = 25 ∨ rate = 30 ∨ rate = 50 ∨ rate = 60)
    (ho : orientation = 1 ∨ orientation = 2) (s : State) :
    setPanel k rate orientation s = done { s with output := ⟨put s.output.panels k
      (s.output.panels[k].setPanel rate (if orientation = 1 then .landscape else .portrait))⟩ } := by
  have hok : (decide (k.val ≤ 11) && rateOk rate) = true := by
    rw [Bool.and_eq_true, decide_eq_true_eq, rateOk_iff]
    exact ⟨by omega, hr⟩
  unfold Machine.setPanel
  rw [orientationOfNumber_eq_some ho]
  exact (if_pos hok).trans (congrArg done (State.changeOutput_quiet s k rfl rfl))

/-! ### What a panel link sends (R161, R176) -/

theorem State.panelSends_eq (s : State) (k : Fin 12) :
    s.panelSends k.val
      = ((s.composer.panels[k].buffer .front).map Buffer.frame).getD (.black s.output.panels[k].orientation) := by
  have hpanel : s.composer.panels[k.val]? = some s.composer.panels[k] := Vector.getElem?_eq_getElem k.isLt
  have hget : s.outputOf k.val = some s.output.panels[k] := Vector.getElem?_eq_getElem k.isLt
  unfold State.panelSends State.orientationOf
  rw [hpanel, hget]
  dsimp only
  cases s.composer.panels[k].buffer .front <;> rfl

theorem Panel.buffer_front_eq_none {x : Panel} (h : ∀ b ∈ [x.bufA, x.bufB], b.role ≠ .front) : x.buffer .front = none := by
  rw [List.forall_mem_cons, List.forall_mem_singleton] at h
  exact (if_neg h.1).trans (if_neg h.2)

/-- L6: of two buffers that are not both FRONT, the one that is FRONT is found. -/
theorem Panel.buffer_front_eq_some {x : Panel} (hone : ¬(x.bufA.role = .front ∧ x.bufB.role = .front)) {b : Buffer}
    (hb : b ∈ [x.bufA, x.bufB]) (hrole : b.role = .front) : x.buffer .front = some b := by
  rw [List.mem_pair] at hb
  obtain rfl | rfl := hb
  · exact if_pos hrole
  · exact (if_neg fun ha => hone ⟨ha, hrole⟩).trans (if_pos hrole)

theorem Frame.black_pixel (o : Orientation) (px py : Nat) : (Frame.black o).pixel px py = 0 := rfl

/-! ### A frame slot's swap (R161) -/

theorem Panel.takeLayout_buffer (x : Panel) (r : BufferRole) : x.takeLayout.buffer r = x.buffer r := by
  unfold Panel.takeLayout
  split <;> rfl

/-- R161: whatever becomes of its request, a LIVE panel keeps the buffers of the swap, and no output record changes. -/
theorem State.requestFrame_sends (s : State) (k : Fin 12) (x : Panel) :
    (s.requestFrame k x).composer.panels[k].buffer .front = x.buffer .front ∧ (s.requestFrame k x).output = s.output := by
  unfold State.requestFrame
  split
  · refine ⟨?_, rfl⟩
    show (modifyAt s.composer.panels k.val _)[k.val].buffer .front = _
    rw [modifyAt_getElem, if_pos rfl]
    rfl
  all_goals
    refine ⟨?_, rfl⟩
    show (modifyAt s.composer.panels k.val _)[k.val].buffer .front = _
    rw [modifyAt_getElem, if_pos rfl]

theorem State.frameSlot_sends {s : State} {k : Fin 12} (h : s.composer.panels[k].state = .live) :
    (s.frameSlot k).panelSends k
      = ((s.composer.panels[k].swap.buffer .front).map Buffer.frame).getD (.black s.output.panels[k].orientation) := by
  have hpanel : s.composer.panels[k.val]? = some s.composer.panels[k] := Vector.getElem?_eq_getElem k.isLt
  obtain ⟨hbuffer, houtput⟩ := s.requestFrame_sends k s.composer.panels[k].swap.takeLayout
  unfold State.frameSlot
  rw [hpanel]
  dsimp only
  rw [if_pos h, State.panelSends_eq, hbuffer, houtput, Panel.takeLayout_buffer]

theorem Panel.has_iff (x : Panel) (r : BufferRole) : x.has r = true ↔ ∃ b ∈ [x.bufA, x.bufB], b.role = r := by
  simp [Panel.has]

theorem Panel.swap_of_notReady {x : Panel} (h : ∀ b ∈ [x.bufA, x.bufB], b.role ≠ .ready) (r : BufferRole) :
    x.swap.buffer r = x.buffer r := by
  have hnot : ¬x.has .ready = true := by
    rw [Panel.has_iff]
    rintro ⟨b, hb, he⟩
    exact h b hb he
  unfold Panel.swap
  rw [if_neg hnot]
  split <;> rfl

theorem Buffer.swap_front_iff (b : Buffer) : b.swap.role = .front ↔ b.role = .ready := by
  unfold Buffer.swap
  cases h : b.role <;> simp [h]

theorem Buffer.swap_frame (b : Buffer) : b.swap.frame = b.frame := by
  unfold Buffer.swap
  split <;> rfl

/-- R161, L6: the READY buffer becomes the FRONT one. -/
theorem Panel.swap_of_ready {x : Panel} (hone : ¬(x.bufA.role = .ready ∧ x.bufB.role = .ready)) {b : Buffer}
    (hb : b ∈ [x.bufA, x.bufB]) (hrole : b.role = .ready) : x.swap.buffer .front = some b.swap := by
  have hswap : x.swap = { x with bufA := x.bufA.swap, bufB := x.bufB.swap, shown := saturate32 x.shown } :=
    if_pos ((x.has_iff _).mpr ⟨b, hb, hrole⟩)
  rw [hswap]
  refine Panel.buffer_front_eq_some ?_ ?_ ((Buffer.swap_front_iff b).mpr hrole)
  · rwa [Buffer.swap_front_iff, Buffer.swap_front_iff]
  · rw [List.mem_pair] at hb ⊢
    exact hb.imp (congrArg _) (congrArg _)

/-- FRAME_SLOT takes the slot at the head of the panel output's events. -/
theorem execFrameSlot_cons {s : State} {p : Nat} {rest : List PanelEvent} (h : s.mail.outputToComposer = .slot p :: rest) :
    execFrameSlot s = .next (State.frameSlot { s with mail := { s.mail with outputToComposer := rest } } p) := by
  simp only [execFrameSlot, State.takePanelEvent, h]

theorem State.Takes.output {s u : State} {b : Block} {p : Port} {q : Packet} {d : Directive} (h : s.Takes b p q d u) :
    u.output = s.output := by
  obtain ⟨-, -, -, -, -, rfl⟩ := h
  rfl

theorem execPanelOutputRestart_pos {s : State} (h : 0 < s.mail.restarts[Block.output.index]) :
    execPanelOutputRestart s = .next (s.dropRestart .output) :=
  congrArg Host.Outcome.next (if_neg h.ne')

/-- Settles O57. -/
theorem outputsFollowLinksAndDirectives : Obligations.OutputsFollowLinksAndDirectives := by
  refine ⟨?_, fun s k => ⟨rfl, rfl, fun h => ?_, fun h => ?_⟩, ?_, ?_, ?_, fun s h => execPanelOutputRestart_pos h, ?_, ?_⟩
  · intro s v k o n f ho hn hv
    subst ho hn hv
    rw [State.changeOutput_eq]
    rfl
  · exact (execPanelFrameSlot_eq s k).trans (congrArg _ (if_pos h))
  · exact (execPanelFrameSlot_eq s k).trans (congrArg _ (if_neg h))
  · intro s u v p q level set rest standBy wake bright hne hle hnd hl hv hstandBy hwake hbright
    have hvalid := (validSet_iff set).mpr ⟨hne, hle, hnd⟩
    obtain rfl : standBy = Output.standBy := funext fun o => (hstandBy o).trans o.standBy_eq.symm
    obtain rfl : wake = Output.wake := funext fun o => (hwake o).trans o.wake_eq.symm
    obtain rfl : bright = Output.setBrightness level := funext hbright
    subst hv
    refine ⟨fun h => ?_, fun h => ?_, fun h => ?_, fun h => ?_, fun h => ?_, fun h => ?_⟩
    · rw [exec_panelStandby h, panelStandby_done hvalid]
      rfl
    · rw [exec_wake h, wakePanels_done hvalid]
      rfl
    · rw [exec_setBrightness h, setBrightness_done hl hvalid]
      rfl
    · refine congrArg _ ((State.takeOutputCue_cons h rfl).trans ?_)
      rw [panelStandby_done hvalid]
      rfl
    · refine congrArg _ ((State.takeOutputCue_cons h rfl).trans ?_)
      rw [wakePanels_done hvalid]
      rfl
    · refine congrArg _ ((State.takeOutputCue_cons h rfl).trans ?_)
      rw [setBrightness_done hl hvalid]
      rfl
  · intro s u p q level set
    refine ⟨fun h hbad => ?_, fun h hbad => ?_, fun h hbad => ?_⟩
    · rw [exec_panelStandby h, panelStandby_refused (validSet_eq_false hbad)]
      rfl
    · rw [exec_wake h, wakePanels_refused (validSet_eq_false hbad)]
      rfl
    · rw [exec_setBrightness h, setBrightness_refused (hbad.imp_right validSet_eq_false)]
      rfl
  · intro s u p q n rate orientation h
    rw [exec_setPanel h]
    refine ⟨fun hbad => ?_, fun k o hk hr ho he => ?_⟩
    · rw [setPanel_outOfRange hbad]
      rfl
    · subst hk he
      rw [setPanel_done k hr ho, ← State.Takes.output h]
      rfl
  · intro s k x hsound hx
    subst hx
    obtain ⟨hpanels, -⟩ := hsound
    obtain ⟨hfront, -⟩ : s.composer.PanelSound k s.composer.panels[k] := hpanels k k.isLt
    refine ⟨fun b hb hrole => ?_, fun hnone => ?_⟩
    · rw [State.panelSends_eq, Panel.buffer_front_eq_some hfront hb hrole]
      rfl
    · rw [State.panelSends_eq, Panel.buffer_front_eq_none hnone]
      exact ⟨rfl, Frame.black_pixel _⟩
  · intro s t k x rest hsound hx hmail hlive ht
    subst hx
    obtain ⟨hpanels, -⟩ := hsound
    obtain ⟨-, hready, -⟩ : s.composer.PanelSound k s.composer.panels[k] := hpanels k k.isLt
    have hsends := State.frameSlot_sends (s := { s with mail := { s.mail with outputToComposer := rest } }) hlive
    dsimp only at hsends
    obtain rfl : State.frameSlot { s with mail := { s.mail with outputToComposer := rest } } k = t :=
      Host.Outcome.next.inj ((execFrameSlot_cons hmail).symm.trans ht)
    refine ⟨fun b hb hrole => ?_, fun hnone => ?_⟩
    · rw [hsends, Panel.swap_of_ready hready hb hrole, ← b.swap_frame]
      rfl
    · rw [hsends, Panel.swap_of_notReady hnone, State.panelSends_eq]

end Sys2Proof.Machine

end

section
/-! SUPPORT. What tiles are drawn with (R36, R97 to R100): numbers, times, columns and board rows, for O39. -/

namespace Sys2Proof.Machine

open Sys2Proof

/-! ### Numbers and times (R36) -/

theorem byteOf_digitChar {n : Nat} (h : n < 10) : byteOf (Nat.digitChar n).toNat = byteOf (48 + n) := by
  have hdigits : ∀ n < 10, (Nat.digitChar n).toNat = 48 + n := by decide
  rw [hdigits n h]

theorem decimal_of_lt {n : Nat} (h : n < 10) : decimal n = [byteOf (48 + n)] := by
  rw [decimal, Nat.toDigits_of_lt_base h, List.map_singleton, byteOf_digitChar h]

theorem decimal_of_le {n : Nat} (h : 10 ≤ n) : decimal n = decimal (n / 10) ++ [byteOf (48 + n % 10)] := by
  rw [decimal, Nat.toDigits_of_base_le (by decide) h, List.map_append, List.map_singleton, byteOf_digitChar (Nat.mod_lt _ (by decide))]
  rfl

theorem decimal_of_lt_100 {n : Nat} (h : 10 ≤ n) (h' : n < 100) : decimal n = [byteOf (48 + n / 10), byteOf (48 + n % 10)] := by
  rw [decimal_of_le h, decimal_of_lt (by omega)]
  rfl

theorem twoDigits_of_lt {n : Nat} (h : n < 100) : twoDigits n = [byteOf (48 + n / 10), byteOf (48 + n % 10)] := by
  unfold twoDigits
  by_cases hn : n < 10
  · have hzero : ascii "0" = [48] := by decide
    rw [if_pos hn, decimal_of_lt hn, hzero, Nat.div_eq_of_lt hn, Nat.mod_eq_of_lt hn]
    rfl
  · rw [if_neg hn, decimal_of_lt_100 (Nat.le_of_not_lt hn) h]
    rfl

/-- R36: the 24-hour form. -/
theorem timeText_h24 {m : Nat} (h : m < 1440) :
    timeText .h24 m = [byteOf (48 + m / 60 / 10), byteOf (48 + m / 60 % 10)] ++ ascii ":"
      ++ [byteOf (48 + m % 60 / 10), byteOf (48 + m % 60 % 10)] := by
  unfold timeText
  dsimp only
  rw [twoDigits_of_lt (by omega), twoDigits_of_lt (by omega)]

/-- R36: the 12-hour form; its hour is written without a leading zero. -/
theorem timeText_h12 {m h : Nat} (hh : h = if m / 60 % 12 = 0 then 12 else m / 60 % 12) :
    timeText .h12 m = (if 10 ≤ h then [byteOf 49, byteOf (48 + (h - 10))] else [byteOf (48 + h)]) ++ ascii ":"
      ++ [byteOf (48 + m % 60 / 10), byteOf (48 + m % 60 % 10)] ++ (if m < 720 then ascii " AM" else ascii " PM") := by
  have hle : h ≤ 12 := by
    rw [hh]
    split <;> omega
  have hhour : decimal h = if 10 ≤ h then [byteOf 49, byteOf (48 + (h - 10))] else [byteOf (48 + h)] := by
    split
    · rw [decimal_of_lt_100 (by omega) (by omega), show h / 10 = 1 by omega, show h % 10 = h - 10 by omega]
    · exact decimal_of_lt (by omega)
  have hnoon : m / 60 < 12 ↔ m < 720 := by omega
  unfold timeText
  dsimp only
  rw [← hh, hhour, twoDigits_of_lt (by omega), if_congr hnoon rfl rfl]

/-! ### Columns (R97) -/

theorem column_length {c : Nat} (h : 1 ≤ c) (t : Line) : (column c t).length = c := by
  unfold column
  split
  · rw [List.length_append, List.length_replicate]
    omega
  · rw [List.length_append, List.length_take, List.length_singleton]
    omega

theorem column_glyphs (c : Nat) (t : List Byte) :
    column c (glyphs t) = if t.length ≤ c then t.map glyphOf ++ List.replicate (c - t.length) (.char 32)
      else (t.map glyphOf).take (c - 1) ++ [.ellipsis] := by
  unfold column glyphs
  rw [List.length_map]

theorem column_nil (c : Nat) : column c [] = List.replicate c (.char 32) := by
  simp [column]

/-- A piece of a line stands where what is before it ends. -/
theorem take_drop_middle {α : Type} {n m : Nat} {pre mid post : List α} (hpre : pre.length = n) (hmid : mid.length = m) :
    ((pre ++ (mid ++ post)).drop n).take m = mid := by
  subst hpre hmid
  rw [List.drop_left, List.take_left]

theorem getElem?_middle {α : Type} {n : Nat} {pre post : List α} (a : α) (hpre : pre.length = n) :
    (pre ++ a :: post)[n]? = some a := by
  subst hpre
  rw [List.getElem?_append_right le_rfl, Nat.sub_self, List.getElem?_cons_zero]

/-- R97: five columns with a space between any two. -/
theorem rowLine_eq (w : Nat) (time title auditorium badges seats : List Byte) :
    rowLine w time title auditorium badges seats = column 9 (glyphs time) ++ .char 32 :: (column (2 * w - 47) (glyphs title)
      ++ .char 32 :: (column 9 (glyphs auditorium) ++ .char 32 :: (column 16 (glyphs badges)
        ++ .char 32 :: column 9 (glyphs seats)))) := by
  simp [rowLine]

theorem rowLine_length {w : Nat} (h : 27 ≤ w) (time title auditorium badges seats : List Byte) :
    (rowLine w time title auditorium badges seats).length = 2 * w := by
  have htitle := column_length (c := 2 * w - 47) (by omega) (glyphs title)
  simp only [rowLine_eq, List.length_append, List.length_cons, htitle, column_length (show 1 ≤ 9 by decide),
    column_length (show 1 ≤ 16 by decide)]
  omega

/-- The five columns of a line, and the spaces between them, by what stands before each. -/
theorem spaced_columns {α : Type} (x : α) (a b c d e : List α) {row : List α}
    (h : row = a ++ x :: (b ++ x :: (c ++ x :: (d ++ x :: e)))) {nb nc nd ne : Nat} (hb : nb = a.length + 1)
    (hc : nc = nb + b.length + 1) (hd : nd = nc + c.length + 1) (he : ne = nd + d.length + 1) :
    ((row.drop 0).take a.length = a ∧ (row.drop nb).take b.length = b ∧ (row.drop nc).take c.length = c
      ∧ (row.drop nd).take d.length = d ∧ (row.drop ne).take e.length = e)
    ∧ row[nb - 1]? = some x ∧ row[nc - 1]? = some x ∧ row[nd - 1]? = some x ∧ row[ne - 1]? = some x := by
  have hrow2 : row = (a ++ [x]) ++ (b ++ x :: (c ++ x :: (d ++ x :: e))) := by simp [h]
  have hrow3 : row = (a ++ [x] ++ b ++ [x]) ++ (c ++ x :: (d ++ x :: e)) := by simp [h]
  have hrow4 : row = (a ++ [x] ++ b ++ [x] ++ c ++ [x]) ++ (d ++ x :: e) := by simp [h]
  have hrow5 : row = (a ++ [x] ++ b ++ [x] ++ c ++ [x] ++ d ++ [x]) ++ (e ++ []) := by simp [h]
  refine ⟨⟨?_, ?_, ?_, ?_, ?_⟩, ?_, ?_, ?_, ?_⟩
  · rw [h]
    exact take_drop_middle (pre := []) rfl rfl
  · rw [hrow2]
    exact take_drop_middle (by simp; omega) rfl
  · rw [hrow3]
    exact take_drop_middle (by simp; omega) rfl
  · rw [hrow4]
    exact take_drop_middle (by simp; omega) rfl
  · rw [hrow5]
    exact take_drop_middle (by simp; omega) rfl
  · rw [h]
    exact getElem?_middle x (by omega)
  · rw [hrow2, ← List.append_assoc]
    exact getElem?_middle x (by simp; omega)
  · rw [hrow3, ← List.append_assoc]
    exact getElem?_middle x (by simp; omega)
  · rw [hrow4, ← List.append_assoc]
    exact getElem?_middle x (by simp; omega)

/-- R97: the columns of a row stand at their places, with a space between any two. -/
theorem rowLine_columns {w : Nat} (h : 27 ≤ w) (time title auditorium badges seats : List Byte) {row : Line}
    (hrow : row = rowLine w time title auditorium badges seats) :
    ((row.drop 0).take 9 = column 9 (glyphs time) ∧ (row.drop 10).take (2 * w - 47) = column (2 * w - 47) (glyphs title)
      ∧ (row.drop (2 * w - 36)).take 9 = column 9 (glyphs auditorium)
      ∧ (row.drop (2 * w - 26)).take 16 = column 16 (glyphs badges) ∧ (row.drop (2 * w - 9)).take 9 = column 9 (glyphs seats))
    ∧ row[9]? = some (.char 32) ∧ row[2 * w - 37]? = some (.char 32) ∧ row[2 * w - 27]? = some (.char 32)
    ∧ row[2 * w - 10]? = some (.char 32) := by
  have h9 := column_length (show 1 ≤ 9 by decide)
  have h16 := column_length (show 1 ≤ 16 by decide) (glyphs badges)
  have htitle := column_length (c := 2 * w - 47) (by omega) (glyphs title)
  have hspaced := spaced_columns _ _ _ _ _ _ (hrow.trans (rowLine_eq ..)) (nb := 10) (nc := 2 * w - 36) (nd := 2 * w - 26)
    (ne := 2 * w - 9) (by rw [h9]) (by omega) (by rw [h9]; omega) (by rw [h16]; omega)
  rwa [h9, h9, h9, h16, htitle] at hspaced

/-! ### Board rows (R97 to R100) -/

/-- R97: a row without texts is all spaces. -/
theorem blankRow_eq {w : Nat} (h : 27 ≤ w) : blankRow w = List.replicate (2 * w) (.char 32) := by
  have hlen : 2 * w = 9 + (1 + ((2 * w - 47) + (1 + (9 + (1 + (16 + (1 + 9))))))) := by omega
  have hnil : glyphs [] = [] := rfl
  conv_rhs => rw [hlen]
  rw [blankRow, rowLine_eq, hnil, column_nil, column_nil, column_nil]
  simp only [List.replicate_add, List.replicate_one, List.singleton_append]

/-- R98: the time text of a screening that is LISTED or BOARDING. -/
def waitingText (r : Screening) (viewMinute : Option Nat) (k : Nat) (clock : Clock) : List Byte :=
  match viewMinute with
  | some n =>
    if n + 1 ≤ r.start ∧ r.start ≤ n + k then ascii "in " ++ decimal (r.start - n) ++ ascii " min"
    else timeText clock.hourFormat (timeOfDay clock.dayStart r.start)
  | none => timeText clock.hourFormat (timeOfDay clock.dayStart r.start)

theorem timeColumn_of_waiting {r : Screening} (h : r.phase = .listed ∨ r.phase = .boarding) (viewMinute : Option Nat) (k : Nat)
    (clock : Clock) : timeColumn r viewMinute k clock = waitingText r viewMinute k clock := by
  unfold timeColumn waitingText
  cases viewMinute with
  | none => obtain h | h := h <;> simp only [h]
  | some n => obtain h | h := h <;> simp only [h]

theorem timeColumn_of_time {r : Screening} (h : r.phase = .pending ∨ r.phase = .closed) (viewMinute : Option Nat) (k : Nat)
    (clock : Clock) : timeColumn r viewMinute k clock = timeText clock.hourFormat (timeOfDay clock.dayStart r.start) := by
  unfold timeColumn
  obtain h | h := h <;> simp only [h]

/-- R98: the text of the time column, by the screening's phase and what the schedule unit sees of the time. -/
theorem timeColumn_eq {r : Screening} {viewMinute : Option Nat} {k : Nat} {clock : Clock} {time : List Byte}
    (hcancelled : r.phase = .cancelled → time = ascii "Cancelled") (hrunning : r.phase = .running → time = ascii "Started")
    (hsoon : ∀ n, (r.phase = .listed ∨ r.phase = .boarding) → viewMinute = some n → n < r.start → r.start ≤ n + k →
      time = ascii "in " ++ decimal (r.start - n) ++ ascii " min")
    (hother : r.phase ≠ .cancelled → r.phase ≠ .running →
      (∀ n, (r.phase = .listed ∨ r.phase = .boarding) → viewMinute = some n → r.start ≤ n ∨ n + k < r.start) →
      time = timeText clock.hourFormat ((clock.dayStart * 60 + r.start) % 1440)) :
    timeColumn r viewMinute k clock = time := by
  by_cases hwaiting : r.phase = .listed ∨ r.phase = .boarding
  · have hc : r.phase ≠ .cancelled := fun h => by simp [h] at hwaiting
    have hr : r.phase ≠ .running := fun h => by simp [h] at hwaiting
    rw [timeColumn_of_waiting hwaiting]
    cases viewMinute with
    | none => exact (hother hc hr fun n _ hn => nomatch hn).symm
    | some n =>
      by_cases hn : n + 1 ≤ r.start ∧ r.start ≤ n + k
      · exact (if_pos hn).trans (hsoon n hwaiting rfl hn.1 hn.2).symm
      · refine (if_neg hn).trans (hother hc hr fun m _ hm => ?_).symm
        cases hm
        omega
  · cases hp : r.phase with
    | listed => exact absurd (.inl hp) hwaiting
    | boarding => exact absurd (.inr hp) hwaiting
    | cancelled => simp only [timeColumn, hp, hcancelled hp]
    | running => simp only [timeColumn, hp, hrunning hp]
    | pending | closed =>
      rw [timeColumn_of_time (by simp [hp])]
      exact (hother (by simp [hp]) (by simp [hp]) fun n h => absurd h hwaiting).symm

/-- R97: the text of the title column. -/
theorem titleColumn_some (x : Title) :
    titleColumn (some x) = if x.rating = [] then x.text else x.text ++ ascii " " ++ x.rating := by
  by_cases h : x.rating = []
  · rw [if_pos h]
    exact (congrArg (x.text ++ ·) (if_pos h)).trans (List.append_nil _)
  · rw [if_neg h, List.append_assoc]
    exact congrArg (x.text ++ ·) (if_neg h)

/-- R99: the labels of the badge codes. -/
theorem badgeLabel_eq (c : Nat) : badgeLabel c
    = ([[], ascii "3D", ascii "Sub", ascii "AD", ascii "Relaxed", ascii "Premium", ascii "Late"] : List (List Byte))[c]?.getD [] := by
  match c with
  | 0 | 1 | 2 | 3 | 4 | 5 | 6 => rfl
  | n + 7 => rfl

theorem Phase.delayable_iff (p : Phase) : (p = .pending ∨ p = .listed ∨ p = .boarding) ↔ p.number ≤ 2 := by
  cases p <;> simp [Phase.number]

/-- R99: the parts of the badges column. -/
theorem badgesColumn_eq (r : Screening) :
    badgesColumn r = List.intercalate (ascii " ") ((if r.phase = .boarding then [ascii "Doors open"] else [])
      ++ (if 0 < r.delay ∧ r.phase.number ≤ 2 then [ascii "Delayed"] else [])
      ++ r.note.elim (r.badges.map badgeLabel) fun t => [t]) := by
  rw [← if_congr (and_congr_right' r.phase.delayable_iff) rfl rfl]
  unfold badgesColumn
  cases r.note <;> rfl

/-! ### The image of each kind of tile (R40, R95, R117, R144, R151) -/

theorem drawTile_row {t : Nat} (h : t < 128) (s : State) (w ht : Nat) :
    drawTile s t w ht = .text w ht .small (boardRowLines s (t / 16) (t % 16) w) :=
  if_pos (Nat.le_of_lt_succ h)

theorem drawTile_clock {t : Nat} (h : 192 ≤ t) (h' : t ≤ 199) (s : State) (w ht : Nat) :
    drawTile s t w ht = .text w ht (if t ≤ 195 then .large else .small) [glyphs s.clock.tileText] :=
  (if_neg (by omega)).trans (if_pos ⟨h, h'⟩)

theorem drawTile_text {t : Nat} (h : 200 ≤ t) (h' : t ≤ 223) {s : State} {x : Tile} (hx : s.render.tiles[t]? = some x) (w ht : Nat) :
    drawTile s t w ht = .text w ht x.glyphSet (layOut x.glyphSet w ht x.text) := by
  refine (if_neg (by omega)).trans ((if_neg (by omega)).trans ((if_pos ⟨h, h'⟩).trans ?_))
  rw [hx]

theorem drawTile_noNotice {s : State} {k : Nat} (hn : noticeInSlot s.notice.notices k = none) (w ht : Nat) :
    drawTile s (224 + k) w ht = .text w ht .small [] := by
  refine (if_neg (by omega)).trans ((if_neg (by omega)).trans ((if_neg (by omega)).trans ?_))
  rw [Nat.add_sub_cancel_left, hn]

theorem drawTile_notice {s : State} {k : Nat} {n : Notice} (hn : noticeInSlot s.notice.notices k = some n) (w ht : Nat) :
    drawTile s (224 + k) w ht = .text w ht n.cls.glyphSet (layOut n.cls.glyphSet w ht n.text) := by
  refine (if_neg (by omega)).trans ((if_neg (by omega)).trans ((if_neg (by omega)).trans ?_))
  rw [Nat.add_sub_cancel_left, hn]

theorem boardRowLines_undefined {s : State} {k : Nat} {b : Board} (hb : s.builder.boards[k]? = some b) (hd : b.defn = none)
    (r w : Nat) : boardRowLines s k r w = [] := by
  simp only [boardRowLines, hb, hd]

theorem boardRowLines_unused {s : State} {k : Nat} {b : Board} {d : BoardDef} (hb : s.builder.boards[k]? = some b)
    (hd : b.defn = some d) {r : Nat} (hr : d.rowsPerPage ≤ r) (w : Nat) : boardRowLines s k r w = [] := by
  simp only [boardRowLines, hb, hd]
  exact if_neg hr.not_gt

theorem Board.occupant_of_lt (b : Board) {d : BoardDef} {r : Nat} (hr : r < d.rowsPerPage) :
    b.occupant d r = b.rows[b.page * d.rowsPerPage + r]? :=
  if_pos hr

/-- R95, R151: a row slot without an occupant, or whose record is gone, is blank. -/
theorem boardRowLines_blank {s : State} {k : Nat} {b : Board} {d : BoardDef} (hb : s.builder.boards[k]? = some b)
    (hd : b.defn = some d) {r : Nat} (hr : r < d.rowsPerPage)
    (hgone : ∀ e, b.rows[b.page * d.rowsPerPage + r]? = some e → findScreening s.schedule.table e.screening = none) (w : Nat) :
    boardRowLines s k r w = [blankRow w] := by
  simp only [boardRowLines, hb, hd, if_pos hr, b.occupant_of_lt hr]
  cases he : b.rows[b.page * d.rowsPerPage + r]? with
  | none => rfl
  | some e => simp only [hgone e he]

theorem boardRowLines_screening {s : State} {k : Nat} {b : Board} {d : BoardDef} (hb : s.builder.boards[k]? = some b)
    (hd : b.defn = some d) {r : Nat} (hr : r < d.rowsPerPage) {e : RowEntry} {x : Screening}
    (he : b.rows[b.page * d.rowsPerPage + r]? = some e) (hx : findScreening s.schedule.table e.screening = some x) (w : Nat) :
    boardRowLines s k r w = [screeningRow s w x] := by
  simp only [boardRowLines, hb, hd, if_pos hr, b.occupant_of_lt hr, he, hx]

/-! ### Blank images (R151) -/

theorem Glyph.space_pixel (g : GlyphSet) (px py : Nat) : Glyph.pixel g (.char 32) px py = false := by
  simp [Glyph.pixel]

/-- R151: an image whose lines hold spaces only is clear. -/
theorem Image.pixel_of_spaces {lines : List Line} (h : ∀ l ∈ lines, ∀ x ∈ l, x = .char 32) (w ht : Nat) (g : GlyphSet) (px py : Nat) :
    (Image.text w ht g lines).pixel px py = none := by
  unfold Image.pixel
  dsimp only
  split
  · split
    · rfl
    · rename_i x hx
      have hmem := List.mem_of_getElem? hx
      have hspace : x = .char 32 := by
        cases hl : lines[py / g.pixelHeight]? with
        | none => rw [hl] at hmem; cases hmem
        | some l =>
          rw [hl] at hmem
          exact h l (List.mem_of_getElem? hl) x hmem
      rw [hspace, Glyph.space_pixel]
      rfl
  · rfl

end Sys2Proof.Machine

end

section
/-! SUPPORT. Wrapped texts (R117, R118): the words of a text, the lines they fill, and the lines a tile keeps, for O39. -/

namespace Sys2Proof.Machine

open Sys2Proof

/-! ### Splitting a text -/

theorem splitOn_ne_nil (sep : Byte) (t : List Byte) : splitOn sep t ≠ [] := by
  cases t with
  | nil => exact List.cons_ne_nil _ _
  | cons b t =>
    rw [splitOn]
    split
    · exact List.cons_ne_nil _ _
    · split <;> exact List.cons_ne_nil _ _

theorem splitOn_cons_sep (sep : Byte) (t : List Byte) : splitOn sep (sep :: t) = [] :: splitOn sep t := by
  rw [splitOn]
  split
  · rename_i h
    exact absurd h (splitOn_ne_nil sep t)
  · rename_i part parts h
    rw [if_pos rfl, h]

/-- A part without separators joins the first part of what follows. -/
theorem splitOn_append {sep : Byte} {a : List Byte} (ha : sep ∉ a) (t : List Byte) {part : List Byte} {parts : List (List Byte)}
    (h : splitOn sep t = part :: parts) : splitOn sep (a ++ t) = (a ++ part) :: parts := by
  induction a with
  | nil => exact h
  | cons b a ih =>
    rw [List.mem_cons, not_or] at ha
    obtain ⟨hb, ha⟩ := ha
    rw [List.cons_append, splitOn, ih ha]
    exact if_neg (Ne.symm hb)

theorem splitOn_of_notMem {sep : Byte} {a : List Byte} (ha : sep ∉ a) : splitOn sep a = [a] := by
  have h := splitOn_append ha [] (part := []) (parts := []) rfl
  rwa [List.append_nil] at h

theorem splitOn_append_sep {sep : Byte} {a : List Byte} (ha : sep ∉ a) (t : List Byte) :
    splitOn sep (a ++ sep :: t) = a :: splitOn sep t := by
  rw [splitOn_append ha _ (splitOn_cons_sep sep t), List.append_nil]

/-! ### The words of a text (R118 step 1) -/

theorem words_of_word {a : List Byte} (hne : a ≠ []) (ha : 32 ∉ a) : words a = [a] := by
  rw [words, splitOn_of_notMem ha]
  simp [hne]

theorem words_space (t : List Byte) : words (32 :: t) = words t := by
  rw [words, splitOn_cons_sep, words]
  simp

theorem words_spaces (n : Nat) (t : List Byte) : words (List.replicate n 32 ++ t) = words t := by
  induction n with
  | zero => rfl
  | succ n ih => rw [List.replicate_succ, List.cons_append, words_space, ih]

/-- A word that a space ends. -/
theorem words_word_space {a : List Byte} (hne : a ≠ []) (ha : 32 ∉ a) (t : List Byte) : words (a ++ 32 :: t) = a :: words t := by
  rw [words, splitOn_append_sep ha, words]
  simp [hne]

/-- R118 step 1: words with at least one space between any two. -/
theorem words_flatMap {ws : List (List Byte × Nat)} (hw : ∀ x ∈ ws, x.1 ≠ [] ∧ 32 ∉ x.1) (hs : ∀ x ∈ ws.dropLast, 1 ≤ x.2) :
    words (ws.flatMap fun x => x.1 ++ List.replicate x.2 32) = ws.map Prod.fst := by
  induction ws with
  | nil => rfl
  | cons x ws ih =>
    rw [List.forall_mem_cons] at hw
    obtain ⟨⟨hne, hx⟩, hw⟩ := hw
    rw [List.flatMap_cons, List.map_cons, List.append_assoc]
    cases hn : x.2 with
    | zero =>
      cases ws with
      | nil =>
        rw [List.replicate_zero, List.flatMap_nil, List.append_nil, List.append_nil]
        exact words_of_word hne hx
      | cons y ws =>
        have := hs x (by simp)
        omega
    | succ n =>
      rw [List.replicate_succ, List.cons_append, words_word_space hne hx, words_spaces, ih hw]
      intro y hy
      cases ws with
      | nil => cases hy
      | cons z ws => exact hs y (by rw [List.dropLast_cons_cons]; exact List.mem_cons_of_mem _ hy)

/-! ### Broken words (R118 step 3) -/

theorem breakWord_length {c : Nat} (fuel : Nat) (t l : List Byte) (h : l ∈ breakWord c fuel t) : l.length ≤ c := by
  induction fuel generalizing t with
  | zero => cases h
  | succ fuel ih =>
    cases t with
    | nil => cases h
    | cons b rest =>
      rw [breakWord, List.mem_cons] at h
      obtain rfl | h := h
      · exact List.length_take_le _ _
      · exact ih _ h

theorem breakWord_ne_nil {c : Nat} {w : List Byte} (hw : w ≠ []) : breakWord c w.length w ≠ [] := by
  cases w with
  | nil => exact absurd rfl hw
  | cons b rest => exact List.cons_ne_nil _ _

/-- The pieces of a word are one more than those of what follows its first piece. -/
theorem pieces_succ {c n : Nat} (hc : 1 ≤ c) (hn : 1 ≤ n) : (n + c - 1) / c = (n - c + c - 1) / c + 1 := by
  by_cases h : c ≤ n
  · rw [Nat.sub_add_cancel h, ← Nat.add_div_right _ hc, Nat.sub_add_comm hn]
  · rw [Nat.sub_eq_zero_of_le (Nat.le_of_not_le h), Nat.div_eq_of_lt (show 0 + c - 1 < c by omega)]
    exact Nat.div_eq_of_lt_le (by omega) (by omega)

/-- R118 step 3: the pieces of a word, each at its place. -/
theorem breakWord_eq {c : Nat} (hc : 1 ≤ c) (fuel : Nat) (t : List Byte) (h : t.length ≤ fuel) :
    breakWord c fuel t = (List.range ((t.length + c - 1) / c)).map fun k => (t.drop (k * c)).take c := by
  induction fuel generalizing t with
  | zero =>
    obtain rfl : t = [] := List.length_eq_zero_iff.mp (Nat.le_zero.mp h)
    rw [List.length_nil, Nat.div_eq_of_lt (by omega)]
    rfl
  | succ fuel ih =>
    cases t with
    | nil =>
      rw [List.length_nil, Nat.div_eq_of_lt (by omega)]
      rfl
    | cons b rest =>
      have hlen : ((b :: rest).drop c).length = (b :: rest).length - c := List.length_drop
      have hpieces : ((b :: rest).length + c - 1) / c = (((b :: rest).drop c).length + c - 1) / c + 1 := by
        rw [hlen]
        exact pieces_succ hc (by simp)
      rw [breakWord, ih _ (by rw [hlen]; simp at h ⊢; omega), hpieces, List.range_succ_eq_map, List.map_cons, List.map_map]
      refine congrArg₂ _ (by rw [Nat.zero_mul, List.drop_zero]) (List.map_congr_left fun k _ => ?_)
      rw [Function.comp_apply, List.drop_drop, Nat.succ_mul, Nat.add_comm]

/-! ### Filled lines (R118 steps 2 and 3) -/

/-- The text of a line that holds some words. -/
abbrev joinWords (g : List (List Byte)) : List Byte := List.intercalate [32] g

theorem joinWords_singleton (w : List Byte) : joinWords [w] = w := List.intercalate_singleton

theorem joinWords_concat {g : List (List Byte)} (hg : g ≠ []) (w : List Byte) : joinWords (g ++ [w]) = joinWords g ++ 32 :: w := by
  induction g with
  | nil => exact absurd rfl hg
  | cons v g ih =>
    cases g with
    | nil => simp [joinWords]
    | cons u g =>
      rw [List.cons_append, List.cons_append, joinWords, List.intercalate_cons_cons, ← List.cons_append]
      rw [show List.intercalate [32] (u :: g ++ [w]) = _ from ih (List.cons_ne_nil _ _), joinWords, joinWords,
        List.intercalate_cons_cons]
      simp

/-- The words of each line, as R118 places them; the first argument is the line being filled. -/
def groups (c : Nat) : Option (List (List Byte)) → List (List Byte) → List (List (List Byte))
  | line, [] => line.toList
  | line, w :: rest =>
    if c < w.length then line.toList ++ [w] :: groups c none rest
    else
      match line with
      | none => groups c (some [w]) rest
      | some g => if (joinWords g).length + 1 + w.length ≤ c then groups c (some (g ++ [w])) rest else g :: groups c (some [w]) rest

/-- R118 step 3: a line, or the pieces of a word that is longer than one. -/
def piecesOf (c : Nat) (l : List Byte) : List (List Byte) :=
  if l.length ≤ c then [l] else (List.range ((l.length + c - 1) / c)).map fun k => (l.drop (k * c)).take c

theorem piecesOf_short {c : Nat} {l : List Byte} (h : l.length ≤ c) : piecesOf c l = [l] := if_pos h

theorem piecesOf_long {c : Nat} (hc : 1 ≤ c) {l : List Byte} (h : c < l.length) : piecesOf c l = breakWord c l.length l :=
  (if_neg h.not_ge).trans (breakWord_eq hc _ _ le_rfl).symm

section Groups

variable {c : Nat}

theorem groups_long {w : List Byte} (h : c < w.length) (line : Option (List (List Byte))) (rest : List (List Byte)) :
    groups c line (w :: rest) = line.toList ++ [w] :: groups c none rest := by
  cases line <;> rw [groups, if_pos h]

theorem groups_start {w : List Byte} (h : w.length ≤ c) (rest : List (List Byte)) :
    groups c none (w :: rest) = groups c (some [w]) rest := by
  rw [groups, if_neg h.not_gt]

theorem groups_join {w : List Byte} {g : List (List Byte)} (h : w.length ≤ c) (hg : (joinWords g).length + 1 + w.length ≤ c)
    (rest : List (List Byte)) : groups c (some g) (w :: rest) = groups c (some (g ++ [w])) rest := by
  rw [groups, if_neg h.not_gt]
  exact if_pos hg

theorem groups_next {w : List Byte} {g : List (List Byte)} (h : w.length ≤ c) (hg : ¬(joinWords g).length + 1 + w.length ≤ c)
    (rest : List (List Byte)) : groups c (some g) (w :: rest) = g :: groups c (some [w]) rest := by
  rw [groups, if_neg h.not_gt]
  exact if_neg hg

theorem fillLines_long {w : List Byte} (h : c < w.length) (line : Option (List Byte)) (rest : List (List Byte)) :
    fillLines c line (w :: rest) = line.toList ++ breakWord c w.length w ++ fillLines c none rest := by
  cases line <;> rw [fillLines, if_pos h]

theorem fillLines_start {w : List Byte} (h : w.length ≤ c) (rest : List (List Byte)) :
    fillLines c none (w :: rest) = fillLines c (some w) rest := by
  rw [fillLines, if_neg h.not_gt]

theorem fillLines_join {w l : List Byte} (h : w.length ≤ c) (hl : l.length + 1 + w.length ≤ c) (rest : List (List Byte)) :
    fillLines c (some l) (w :: rest) = fillLines c (some (l ++ 32 :: w)) rest := by
  rw [fillLines, if_neg h.not_gt]
  exact if_pos hl

theorem fillLines_next {w l : List Byte} (h : w.length ≤ c) (hl : ¬l.length + 1 + w.length ≤ c) (rest : List (List Byte)) :
    fillLines c (some l) (w :: rest) = l :: fillLines c (some w) rest := by
  rw [fillLines, if_neg h.not_gt]
  exact if_neg hl

/-- The lines of R118 are the texts of its groups of words, a word longer than a line in its pieces. -/
theorem fillLines_eq (hc : 1 ≤ c) (ws : List (List Byte)) (line : Option (List (List Byte)))
    (hline : ∀ g, line = some g → g ≠ [] ∧ (joinWords g).length ≤ c) :
    fillLines c (line.map joinWords) ws = ((groups c line ws).map joinWords).flatMap (piecesOf c) := by
  induction ws generalizing line with
  | nil =>
    cases line with
    | none => rfl
    | some g =>
      obtain ⟨-, hlen⟩ := hline g rfl
      simp [fillLines, groups, piecesOf_short hlen]
  | cons w rest ih =>
    have hrest := ih none fun g h => nomatch h
    by_cases hw : c < w.length
    · have hflush : (line.map joinWords).toList = (line.toList.map joinWords).flatMap (piecesOf c) := by
        cases line with
        | none => rfl
        | some g =>
          obtain ⟨-, hlen⟩ := hline g rfl
          simp [piecesOf_short hlen]
      rw [fillLines_long hw, groups_long hw, List.map_append, List.flatMap_append, ← hflush, List.map_cons, List.flatMap_cons,
        joinWords_singleton, piecesOf_long hc hw, List.append_assoc, ← hrest, Option.map_none]
    · have hle : w.length ≤ c := Nat.le_of_not_lt hw
      have hstart := ih (some [w]) fun g h => by cases h; exact ⟨List.cons_ne_nil _ _, by rwa [joinWords_singleton]⟩
      rw [Option.map_some, joinWords_singleton] at hstart
      cases line with
      | none =>
        rw [groups_start hle, ← hstart, Option.map_none, fillLines_start hle]
      | some g =>
        obtain ⟨hne, hlen⟩ := hline g rfl
        by_cases hg : (joinWords g).length + 1 + w.length ≤ c
        · have hjoin := ih (some (g ++ [w])) fun x h => by
            cases h
            rw [joinWords_concat hne, List.length_append, List.length_cons]
            exact ⟨by simp, by omega⟩
          rw [Option.map_some, joinWords_concat hne] at hjoin
          rw [groups_join hle hg, ← hjoin, Option.map_some, fillLines_join hle hg]
        · rw [groups_next hle hg, List.map_cons, List.flatMap_cons, piecesOf_short hlen, ← hstart, Option.map_some,
            fillLines_next hle hg, List.singleton_append]

/-- The groups hold the words, in order. -/
theorem groups_flatten (ws : List (List Byte)) (line : Option (List (List Byte))) :
    (groups c line ws).flatten = line.getD [] ++ ws := by
  induction ws generalizing line with
  | nil => cases line <;> simp [groups]
  | cons w rest ih =>
    by_cases hw : c < w.length
    · rw [groups_long hw]
      cases line <;> simp [ih]
    · have hle : w.length ≤ c := Nat.le_of_not_lt hw
      cases line with
      | none => rw [groups_start hle, ih]; simp
      | some g =>
        by_cases hg : (joinWords g).length + 1 + w.length ≤ c
        · rw [groups_join hle hg, ih]; simp
        · rw [groups_next hle hg, List.flatten_cons, ih]; simp

/-- No group is empty, and only a single word is longer than a line. -/
theorem groups_fit (ws : List (List Byte)) (line : Option (List (List Byte)))
    (hline : ∀ g, line = some g → g ≠ [] ∧ (joinWords g).length ≤ c) :
    ∀ x ∈ groups c line ws, x ≠ [] ∧ (c < (joinWords x).length → x.length = 1) := by
  have hfit (g : List (List Byte)) (h : g ≠ [] ∧ (joinWords g).length ≤ c) : g ≠ [] ∧ (c < (joinWords g).length → g.length = 1) :=
    ⟨h.1, fun hlt => absurd hlt h.2.not_gt⟩
  induction ws generalizing line with
  | nil =>
    cases line with
    | none => exact fun x hx => nomatch hx
    | some g =>
      intro x hx
      obtain rfl : x = g := by simpa [groups] using hx
      exact hfit x (hline x rfl)
  | cons w rest ih =>
    by_cases hw : c < w.length
    · rw [groups_long hw]
      intro x hx
      rw [List.mem_append, List.mem_cons] at hx
      obtain hx | rfl | hx := hx
      · exact hfit x (hline x (by simpa using hx))
      · exact ⟨List.cons_ne_nil _ _, fun _ => rfl⟩
      · exact ih none (fun g h => nomatch h) x hx
    · have hle : w.length ≤ c := Nat.le_of_not_lt hw
      have hstart := ih (some [w]) fun g h => by cases h; exact ⟨List.cons_ne_nil _ _, by rwa [joinWords_singleton]⟩
      cases line with
      | none => rwa [groups_start hle]
      | some g =>
        have hcur := hline g rfl
        by_cases hg : (joinWords g).length + 1 + w.length ≤ c
        · rw [groups_join hle hg]
          refine ih _ fun x h => ?_
          cases h
          rw [joinWords_concat hcur.1, List.length_append, List.length_cons]
          exact ⟨by simp, by omega⟩
        · rw [groups_next hle hg, List.forall_mem_cons]
          exact ⟨hfit g hcur, hstart⟩

/-- R118 step 2: a word starts the next line only where it would not have fitted on this one. -/
def Greedy (c : Nat) (x y : List (List Byte)) : Prop :=
  ∀ w, y.head? = some w → (joinWords x).length ≤ c → w.length ≤ c → c < (joinWords x).length + 1 + w.length

/-- The first group starts as the line being filled does. -/
theorem groups_head (ws : List (List Byte)) {g : List (List Byte)} (hg : g ≠ []) :
    ∃ y ys, groups c (some g) ws = y :: ys ∧ y.head? = g.head? := by
  induction ws generalizing g with
  | nil => exact ⟨g, [], rfl, rfl⟩
  | cons w rest ih =>
    by_cases hw : c < w.length
    · rw [groups_long hw]
      exact ⟨g, _, rfl, rfl⟩
    · have hle : w.length ≤ c := Nat.le_of_not_lt hw
      by_cases hfits : (joinWords g).length + 1 + w.length ≤ c
      · rw [groups_join hle hfits]
        obtain ⟨y, ys, he, hy⟩ := ih (g := g ++ [w]) (by simp)
        exact ⟨y, ys, he, hy.trans (List.head?_append_of_ne_nil _ hg)⟩
      · rw [groups_next hle hfits]
        exact ⟨g, _, rfl, rfl⟩

theorem groups_greedy (ws : List (List Byte)) (line : Option (List (List Byte))) (hline : ∀ g, line = some g → g ≠ []) :
    (groups c line ws).IsChain (Greedy c) := by
  induction ws generalizing line with
  | nil => cases line <;> simp [groups]
  | cons w rest ih =>
    have hrest := ih none fun g h => nomatch h
    by_cases hw : c < w.length
    · have hlong : ([w] :: groups c none rest).IsChain (Greedy c) := by
        cases hgroups : groups c none rest with
        | nil => exact .singleton _
        | cons y ys =>
          rw [hgroups] at hrest
          refine .cons_cons (fun v _ hx _ => ?_) hrest
          rw [joinWords_singleton] at hx
          omega
      rw [groups_long hw]
      cases line with
      | none => exact hlong
      | some g =>
        refine .cons_cons (fun v hv _ hle => ?_) hlong
        cases hv
        omega
    · have hle : w.length ≤ c := Nat.le_of_not_lt hw
      have hstart := ih (some [w]) fun g h => by cases h; exact List.cons_ne_nil _ _
      cases line with
      | none => rwa [groups_start hle]
      | some g =>
        by_cases hfits : (joinWords g).length + 1 + w.length ≤ c
        · rw [groups_join hle hfits]
          exact ih _ fun x h => by cases h; simp
        · obtain ⟨y, ys, he, hy⟩ := groups_head (c := c) rest (List.cons_ne_nil w [])
          rw [groups_next hle hfits]
          rw [he] at hstart ⊢
          refine .cons_cons (fun v hv _ _ => ?_) hstart
          rw [hy] at hv
          cases hv
          omega

/-- R118 steps 2 and 3: no line is longer than it may be. -/
theorem fillLines_length (ws : List (List Byte)) (line : Option (List Byte)) (hline : ∀ l, line = some l → l.length ≤ c) :
    ∀ l ∈ fillLines c line ws, l.length ≤ c := by
  induction ws generalizing line with
  | nil =>
    cases line with
    | none => exact fun l hl => nomatch hl
    | some x =>
      intro l hl
      obtain rfl : l = x := by simpa [fillLines] using hl
      exact hline l rfl
  | cons w rest ih =>
    by_cases hw : c < w.length
    · rw [fillLines_long hw]
      intro l hl
      rw [List.mem_append, List.mem_append] at hl
      obtain (hl | hl) | hl := hl
      · exact hline l (by simpa using hl)
      · exact breakWord_length _ _ l hl
      · exact ih none (fun l h => nomatch h) l hl
    · have hle : w.length ≤ c := Nat.le_of_not_lt hw
      have hstart := ih (some w) fun l h => by cases h; exact hle
      cases line with
      | none => rwa [fillLines_start hle]
      | some x =>
        by_cases hx : x.length + 1 + w.length ≤ c
        · rw [fillLines_join hle hx]
          refine ih _ fun l h => ?_
          cases h
          rw [List.length_append, List.length_cons]
          omega
        · rw [fillLines_next hle hx, List.forall_mem_cons]
          exact ⟨hline x rfl, hstart⟩

theorem fillLines_some_ne_nil (ws : List (List Byte)) (l : List Byte) : fillLines c (some l) ws ≠ [] := by
  induction ws generalizing l with
  | nil => exact List.cons_ne_nil _ _
  | cons w rest ih =>
    by_cases hw : c < w.length
    · rw [fillLines_long hw]
      exact List.cons_ne_nil _ _
    · have hle : w.length ≤ c := Nat.le_of_not_lt hw
      by_cases hl : l.length + 1 + w.length ≤ c
      · rw [fillLines_join hle hl]
        exact ih _
      · rw [fillLines_next hle hl]
        exact List.cons_ne_nil _ _

/-- Words make lines. -/
theorem fillLines_none_eq_nil_iff {ws : List (List Byte)} (hne : ∀ w ∈ ws, w ≠ []) : fillLines c none ws = [] ↔ ws = [] := by
  cases ws with
  | nil => exact iff_of_true rfl rfl
  | cons w rest =>
    refine iff_of_false ?_ (List.cons_ne_nil _ _)
    by_cases hw : c < w.length
    · rw [fillLines_long hw]
      simp [breakWord_ne_nil (hne w (List.mem_cons_self ..))]
    · rw [fillLines_start (Nat.le_of_not_lt hw)]
      exact fillLines_some_ne_nil rest w

end Groups

/-! ### Runs between breaks (R118 step 4) -/

theorem ne_nil_of_mem_words {t w : List Byte} (h : w ∈ words t) : w ≠ [] := by
  simpa using List.of_mem_filter h

theorem wrap_of_noBreak {t : List Byte} (h : 10 ∉ t) (c : Nat) : wrap c t = fillLines c none (words t) := by
  rw [wrap, splitOn_of_notMem h]
  rfl

/-- R118 step 4: a break ends the line, and a run without words before it is an empty line. -/
theorem wrap_break {a : List Byte} (h : 10 ∉ a) (c : Nat) (b : List Byte) :
    wrap c (a ++ 10 :: b) = (if wrap c a = [] then [[]] else wrap c a) ++ wrap c b := by
  have hempty : wrap c a = [] ↔ words a = [] := by
    rw [wrap_of_noBreak h]
    exact fillLines_none_eq_nil_iff fun w hw => ne_nil_of_mem_words hw
  rw [if_congr hempty rfl rfl, wrap_of_noBreak h, wrap, wrap, splitOn_append_sep h]
  cases hb : splitOn 10 b with
  | nil => exact absurd hb (splitOn_ne_nil 10 b)
  | cons part parts => rfl

theorem wrapRuns_length (c : Nat) (runs : List (List Byte)) : ∀ l ∈ wrapRuns c runs, l.length ≤ c := by
  have hfill (ws : List (List Byte)) : ∀ l ∈ fillLines c none ws, l.length ≤ c := fillLines_length ws none fun l h => nomatch h
  induction runs with
  | nil => exact fun l hl => nomatch hl
  | cons run rest ih =>
    cases rest with
    | nil => exact hfill _
    | cons next rest =>
      intro l hl
      rw [wrapRuns, List.mem_append] at hl
      · obtain hl | hl := hl
        · split at hl
          · obtain rfl : l = [] := by simpa using hl
            exact Nat.zero_le _
          · exact hfill _ l hl
        · exact ih l hl
      · exact fun h => nomatch h

/-- R118: no line of a wrapped text is longer than it may be. -/
theorem wrap_length (c : Nat) (t : List Byte) : ∀ l ∈ wrap c t, l.length ≤ c := wrapRuns_length c _

/-- R118: the words of a text without breaks, in lines that each hold as many as fit. -/
theorem wrap_words {c : Nat} (hc : 1 ≤ c) {before : Nat} {t : List Byte} {ws : List (List Byte × Nat)}
    (hw : ∀ x ∈ ws, x.1 ≠ [] ∧ 32 ∉ x.1 ∧ 10 ∉ x.1) (hs : ∀ x ∈ ws.dropLast, 1 ≤ x.2)
    (ht : t = List.replicate before 32 ++ ws.flatMap fun x => x.1 ++ List.replicate x.2 32) :
    wrap c t = ((groups c none (ws.map Prod.fst)).map joinWords).flatMap (piecesOf c) := by
  have hbreak : 10 ∉ t := by
    rw [ht, List.mem_append, List.mem_flatMap]
    rintro (h | ⟨x, hx, h⟩)
    · exact absurd (List.eq_of_mem_replicate h) (by decide)
    · obtain ⟨-, -, h10⟩ := hw x hx
      rw [List.mem_append] at h
      exact h.elim h10 fun h => absurd (List.eq_of_mem_replicate h) (by decide)
  have hwords : words t = ws.map Prod.fst := by
    rw [ht, words_spaces]
    exact words_flatMap (fun x hx => ⟨(hw x hx).1, (hw x hx).2.1⟩) hs
  rw [wrap_of_noBreak hbreak, hwords]
  exact fillLines_eq hc _ none fun g h => nomatch h

/-! ### The lines a tile keeps (R118) -/

theorem keepLines_all {c n : Nat} {ls : List (List Byte)} (h : ls.length ≤ n) : keepLines c n ls = ls.map glyphs := if_pos h

theorem cutLine_eq (c : Nat) (l : List Byte) : cutLine c l
    = (if l.length + 1 ≤ c then l.map glyphOf else (l.map glyphOf).take (c - 1)) ++ [.ellipsis] := by
  unfold cutLine glyphs
  split
  · rfl
  · rw [List.map_take]

/-- R118: of a text that does not fit, the first lines are kept, and the last of them is cut. -/
theorem keepLines_cut (c : Nat) {n : Nat} {ls : List (List Byte)} {l : List Byte} (hl : ls[n]? = some l) (h : n + 1 < ls.length) :
    keepLines c (n + 1) ls = (ls.take n).map glyphs ++ [cutLine c l] := by
  obtain ⟨hn, rfl⟩ := List.getElem?_eq_some_iff.mp hl
  have hlast : (ls.take (n + 1)).drop n = [ls[n]] := by
    rw [← List.take_concat_get' ls n hn]
    exact List.drop_left' (List.length_take_of_le hn.le)
  rw [keepLines, if_neg h.not_ge, Nat.add_sub_cancel, hlast]
  rfl

theorem keepLines_length {n : Nat} (hn : 1 ≤ n) (c : Nat) (ls : List (List Byte)) : (keepLines c n ls).length ≤ n := by
  unfold keepLines
  split
  · rwa [List.length_map]
  · simp only [List.length_append, List.length_map, List.length_take, List.length_drop]
    omega

theorem cutLine_length {c : Nat} (hc : 1 ≤ c) (l : List Byte) : (cutLine c l).length ≤ c := by
  rw [cutLine_eq, List.length_append, List.length_singleton]
  split
  · rwa [List.length_map]
  · rw [List.length_take]
    omega

theorem keepLines_line_length {c : Nat} (hc : 1 ≤ c) (n : Nat) {ls : List (List Byte)} (h : ∀ l ∈ ls, l.length ≤ c) :
    ∀ l ∈ keepLines c n ls, l.length ≤ c := by
  have hglyphs (ms : List (List Byte)) (hms : ms ⊆ ls) : ∀ l ∈ ms.map glyphs, l.length ≤ c := by
    rw [List.forall_mem_map]
    intro m hm
    rw [glyphs, List.length_map]
    exact h m (hms hm)
  unfold keepLines
  split
  · exact hglyphs ls (List.Subset.refl ls)
  · intro l hl
    rw [List.mem_append] at hl
    obtain hl | hl := hl
    · exact hglyphs _ (List.take_subset _ _) l hl
    · obtain ⟨m, -, rfl⟩ := List.mem_map.mp hl
      exact cutLine_length hc m

end Sys2Proof.Machine

end

section
/-! SUPPORT. Settles O39: the lines that tiles are drawn with. -/

namespace Sys2Proof.Machine

open Sys2Proof

/-- R97 to R100: the row of a screening, from the texts of its columns. -/
theorem drawTile_screening {s : State} {t w h : Nat} {b : Board} {d : BoardDef} {e : RowEntry} {r : Screening} (ht : t < 128)
    (hb : s.builder.boards[t / 16]? = some b) (hd : b.defn = some d) (hr : t % 16 < d.rowsPerPage)
    (he : b.rows[b.page * d.rowsPerPage + t % 16]? = some e) (hx : findScreening s.schedule.table e.screening = some r)
    {time title badges seats : List Byte}
    (htime : timeColumn r s.schedule.viewMinute s.schedule.settings.countdown s.clock = time)
    (htitle : titleColumn (s.schedule.titles[r.title]?.getD none) = title) (hbadges : badgesColumn r = badges)
    (hseats : seatsColumn r (findTally s.seat.tallies r.number) = seats) :
    drawTile s t w h = .text w h .small [rowLine w time title (ascii "Screen " ++ decimal r.auditorium) badges seats] := by
  rw [drawTile_row ht, boardRowLines_screening hb hd hr he hx, screeningRow, htime, htitle, hbadges, hseats]

theorem layOut_notice (n : Notice) (w h : Nat) :
    Image.text w h n.cls.glyphSet (layOut n.cls.glyphSet w h n.text)
      = if n.cls = .urgent then .text w h .large (keepLines w (h / 2) (wrap w n.text))
        else .text w h .small (keepLines (2 * w) h (wrap (2 * w) n.text)) := by
  cases n.cls <;> rfl

theorem layOut_glyphSet (g : GlyphSet) (w h : Nat) (t : List Byte) :
    layOut g w h t = if g = .large then keepLines w (h / 2) (wrap w t) else keepLines (2 * w) h (wrap (2 * w) t) := by
  cases g <;> rfl

theorem noticeInSlot_eq_none {ns : List Notice} {k : Nat} (h : ∀ n ∈ ns, n.slot ≠ k) : noticeInSlot ns k = none := by
  rw [noticeInSlot, List.find?_eq_none]
  simpa using h

/-- Settles O39. -/
theorem linesFitTheirTiles : Obligations.LinesFitTheirTiles := by
  refine ⟨?_, ?_, ?_, ?_, ?_, ?_, ?_, ?_, ?_, ?_, ?_, ?_, fun b => rfl, ?_⟩
  · intro w time title auditorium badges seats row h hrow
    obtain ⟨⟨h1, h2, h3, h4, h5⟩, hgaps⟩ := rowLine_columns h time title auditorium badges seats hrow
    refine ⟨hrow ▸ rowLine_length h .., ?_, ?_⟩
    · simpa [List.forall_mem_cons] using hgaps
    · simp only [List.forall_mem_cons, ← column_glyphs]
      exact ⟨h1, h2, h3, h4, h5, fun _ hx => nomatch hx⟩
  · intro m h d hm hd hh
    simp only [hd]
    exact ⟨timeText_h24 hm, timeText_h12 hh⟩
  · intro s t w h ht ht'
    rw [drawTile_clock ht ht']
    rfl
  · intro s t w h b d ht hb hd
    refine ⟨fun hr => ?_, fun hr hw => ⟨fun hgone => ?_, ?_⟩⟩
    · rw [drawTile_row ht, boardRowLines_unused hb hd hr]
    · rw [drawTile_row ht, boardRowLines_blank hb hd hr hgone, blankRow_eq hw]
    · intro e r time title badges seats labels he hx hcancelled hrunning hsoon hother htitle hlabels hbadges hseats
      refine drawTile_screening ht hb hd hr he hx (timeColumn_eq hcancelled hrunning hsoon hother) ?_ ?_ ?_
      · rw [htitle]
        cases s.schedule.titles[r.title]? with
        | none => rfl
        | some o =>
          cases o with
          | none => rfl
          | some x => exact titleColumn_some x
      · rw [badgesColumn_eq, hbadges, hlabels, funext badgeLabel_eq]
        cases r.note <;> rfl
      · rw [hseats]
        cases findTally s.seat.tallies r.number with
        | none => rfl
        | some x =>
          refine if_congr Iff.rfl rfl ?_
          unfold seatsText
          cases x.band <;> cases x.figure <;> rfl
  · intro s t w h b ht hb hd
    rw [drawTile_row ht, boardRowLines_undefined hb hd]
  · intro s k w h _
    refine ⟨fun hn => drawTile_noNotice (noticeInSlot_eq_none hn) w h, fun n hn => ?_⟩
    rw [drawTile_notice hn, layOut_notice]
  · intro s t w h x ht ht' hx
    rw [drawTile_text ht ht' hx, layOut_glyphSet]
  · intro w h n px py
    refine ⟨Image.pixel_of_spaces (lines := []) (fun l hl => absurd hl List.not_mem_nil) ..,
      Image.pixel_of_spaces (fun l hl x hx => ?_) ..⟩
    obtain rfl := List.mem_singleton.mp hl
    exact List.eq_of_mem_replicate hx
  · intro c before t ws hc hw hs ht
    have hnone : ∀ g : List (List Byte), none = some g → g ≠ [] ∧ (joinWords g).length ≤ c := fun g h => nomatch h
    refine ⟨groups c none (ws.map Prod.fst), groups_flatten _ _, wrap_words hc hw hs ht, groups_fit _ none hnone, ?_⟩
    intro k x y w hx hy hhead
    obtain ⟨hk, rfl⟩ := List.getElem?_eq_some_iff.mp hx
    obtain ⟨hk', rfl⟩ := List.getElem?_eq_some_iff.mp hy
    exact List.isChain_iff_getElem.mp (groups_greedy _ none fun g h => nomatch h) k hk' w hhead
  · exact fun c a b ha => wrap_break ha c b
  · intro c n ls l hl h
    rw [keepLines_cut c hl h, cutLine_eq]
    rfl
  · intro n
    split
    · rename_i h
      exact decimal_of_lt h
    · rename_i h
      exact decimal_of_le (Nat.le_of_not_lt h)
  · exact fun c n t hc hn => ⟨wrap_length c t, keepLines_length hn c _, keepLines_line_length hc n (wrap_length c t), keepLines_all⟩

end Sys2Proof.Machine

end

section
/-! SUPPORT. The screening table and the phase computation (R44, R47, R48): what is found in a table and put into it, and where the
computation leaves a record, said once. -/

namespace Sys2Proof.Machine

open Sys2Proof

/-! ### Records found in a table (R44) -/

theorem mem_of_findScreening {table : List Screening} {n : Nat} {r : Screening} (h : findScreening table n = some r) :
    r ∈ table ∧ r.number = n :=
  ⟨List.mem_of_find?_eq_some h, by simpa using List.find?_some h⟩

theorem findScreening_eq_none_iff (table : List Screening) (n : Nat) :
    findScreening table n = none ↔ ∀ x ∈ table, x.number ≠ n := by
  simp [findScreening]

/-- In a table in order a screening number names one record. -/
theorem eq_of_number_eq {table : List Screening} (h : table.Pairwise fun x y => x.number < y.number) {r x : Screening}
    (hr : r ∈ table) (hx : x ∈ table) (hn : r.number = x.number) : r = x :=
  List.inj_on_of_nodup_map (List.pairwise_map.mpr (h.imp fun hlt => Nat.ne_of_lt hlt)) hr hx hn

theorem findScreening_eq_some_iff {table : List Screening} (h : table.Pairwise fun x y => x.number < y.number) (n : Nat)
    (r : Screening) : findScreening table n = some r ↔ r ∈ table ∧ r.number = n := by
  refine ⟨mem_of_findScreening, fun ⟨hr, hn⟩ => ?_⟩
  cases hf : findScreening table n with
  | none => exact absurd hn ((findScreening_eq_none_iff table n).mp hf r hr)
  | some x =>
    obtain ⟨hx, hxn⟩ := mem_of_findScreening hf
    rw [eq_of_number_eq h hr hx (hn.trans hxn.symm)]

/-! ### Records put into a table (R44) -/

/-- A record goes behind the lower numbers, takes the place of its own number, and goes before the higher ones. -/
theorem insertScreening_append {r : Screening} {before same after : List Screening} (hb : ∀ x ∈ before, x.number < r.number)
    (hs : same = [] ∨ ∃ x, same = [x] ∧ x.number = r.number) (ha : ∀ x ∈ after, r.number < x.number) :
    insertScreening r (before ++ same ++ after) = before ++ r :: after := by
  induction before with
  | nil =>
    obtain rfl | ⟨x, rfl, hx⟩ := hs
    · cases after with
      | nil => rfl
      | cons x after => exact if_pos (ha x List.mem_cons_self)
    · exact (if_neg (by omega)).trans (if_pos hx.symm)
  | cons x before ih =>
    have hx : x.number < r.number := hb x List.mem_cons_self
    refine (if_neg (by omega)).trans ((if_neg (by omega)).trans ?_)
    exact congrArg (x :: ·) (ih fun y hy => hb y (List.mem_cons_of_mem x hy))

theorem mem_of_mem_insertScreening {r x : Screening} {table : List Screening} (h : x ∈ insertScreening r table) :
    x = r ∨ x ∈ table := by
  induction table with
  | nil => exact .inl (List.mem_singleton.mp h)
  | cons y table ih => grind [insertScreening]

/-- A record of another number stays. -/
theorem mem_insertScreening_of_ne {r x : Screening} {table : List Screening} (h : x ∈ table) (hn : x.number ≠ r.number) :
    x ∈ insertScreening r table := by
  induction table with
  | nil => nomatch h
  | cons y table ih => grind [insertScreening]

/-- The record put in last stands for its number. -/
theorem insertScreening_insertScreening {r x : Screening} (h : r.number = x.number) (table : List Screening) :
    insertScreening r (insertScreening x table) = insertScreening r table := by
  induction table with
  | nil => grind [insertScreening]
  | cons y table ih => grind [insertScreening]

/-- A new number joins the numbers in order. -/
theorem insertScreening_pairwise {table : List Screening} (h : table.Pairwise fun x y => x.number < y.number) (r : Screening) :
    (insertScreening r table).Pairwise fun x y => x.number < y.number := by
  induction table with
  | nil => exact List.pairwise_singleton ..
  | cons y table ih =>
    obtain ⟨hy, ht⟩ := List.pairwise_cons.mp h
    unfold insertScreening
    split
    · rename_i hlt
      exact List.pairwise_cons.mpr ⟨List.forall_mem_cons.mpr ⟨hlt, fun x hx => hlt.trans (hy x hx)⟩, h⟩
    · split
      · rename_i heq
        exact List.pairwise_cons.mpr ⟨fun x hx => heq ▸ hy x hx, ht⟩
      · refine List.pairwise_cons.mpr ⟨fun x hx => ?_, ih ht⟩
        obtain rfl | hx := mem_of_mem_insertScreening hx
        · omega
        · exact hy x hx

theorem insertScreening_length_le (r : Screening) (table : List Screening) :
    (insertScreening r table).length ≤ table.length + 1 := by
  induction table with
  | nil => exact le_rfl
  | cons y table ih => grind [insertScreening]

/-- A record put in the place of its number leaves the numbers of a table in order as they were. -/
theorem insertScreening_map_number {table : List Screening} (h : table.Pairwise fun x y => x.number < y.number) {r x : Screening}
    (hx : x ∈ table) (hn : x.number = r.number) :
    (insertScreening r table).map Screening.number = table.map Screening.number := by
  induction table with
  | nil => nomatch hx
  | cons y table ih =>
    obtain ⟨hy, ht⟩ := List.pairwise_cons.mp h
    unfold insertScreening
    obtain rfl | hx := List.mem_cons.mp hx
    · rw [if_neg (by omega), if_pos hn.symm, List.map_cons, List.map_cons, hn]
    · have hlt := hy x hx
      rw [if_neg (by omega), if_neg (by omega), List.map_cons, List.map_cons, ih ht hx]

theorem insertScreening_length_of_mem {table : List Screening} (h : table.Pairwise fun x y => x.number < y.number)
    {r x : Screening} (hx : x ∈ table) (hn : x.number = r.number) : (insertScreening r table).length = table.length := by
  simpa using congrArg List.length (insertScreening_map_number h hx hn)

/-! ### The target phase (R47) -/

theorem target_of_elsewhere {u : ScheduleUnit} {r : Screening} (h : u.viewMinute = none ∨ r.day ≠ u.viewDay) :
    u.target r = .pending := by
  unfold ScheduleUnit.target
  split
  · rfl
  · rename_i n hn
    exact if_neg (h.resolve_left (by simp [hn]))

theorem target_of_view {u : ScheduleUnit} {r : Screening} {n : Nat} (hn : u.viewMinute = some n) (hd : r.day = u.viewDay) :
    u.target r = phaseAt u.settings r.start n := by
  unfold ScheduleUnit.target
  rw [hn]
  exact if_pos hd

/-- A phase computation never leads to CANCELLED. -/
theorem target_ne_cancelled (u : ScheduleUnit) (r : Screening) : u.target r ≠ .cancelled := by
  unfold ScheduleUnit.target
  split
  · nofun
  · split
    · unfold phaseAt
      repeat' split
      all_goals nofun
    · nofun

theorem target_number_le (u : ScheduleUnit) (r : Screening) : (u.target r).number ≤ 4 := by
  cases h : u.target r with
  | cancelled => exact absurd h (target_ne_cancelled u r)
  | _ => decide

/-! ### The phase computation (R48) -/

theorem later_of_lt {a b : Phase} (h : a.number < b.number) : a.later b = b := if_pos h

theorem later_of_not_lt {a b : Phase} (h : ¬a.number < b.number) : a.later b = a := if_neg h

theorem moved_of_cancelled (u : ScheduleUnit) {r : Screening} (h : r.phase = .cancelled) : u.moved r = r := if_pos h

theorem moved_of_ne_cancelled (u : ScheduleUnit) {r : Screening} (h : r.phase ≠ .cancelled) :
    u.moved r = { r with phase := r.phase.later (u.target r) } := if_neg h

@[simp] theorem moved_number (u : ScheduleUnit) (r : Screening) : (u.moved r).number = r.number := by
  unfold ScheduleUnit.moved
  split <;> rfl

theorem moveEvent_of_same {r x : Screening} (h : x.phase = r.phase) : moveEvent r x = [] := if_pos h.symm

theorem moveEvent_of_ne {r x : Screening} (h : x.phase ≠ r.phase) : moveEvent r x = [.phaseChanged x.number x.phase] :=
  if_neg (Ne.symm h)

/-- A list of at most one event for each record, as one list. -/
theorem flatMap_moveEvent (f : Screening → Screening) (table : List Screening) :
    (table.flatMap fun r => moveEvent r (f r))
      = table.filterMap fun r => if (f r).phase = r.phase then none else some (.phaseChanged (f r).number (f r).phase) := by
  induction table with
  | nil => rfl
  | cons r table ih =>
    rw [List.flatMap_cons, ih, List.filterMap_cons]
    by_cases h : (f r).phase = r.phase
    · rw [moveEvent_of_same h, if_pos h]
      rfl
    · rw [moveEvent_of_ne h, if_neg h]
      rfl

/-- R48: where a computation over the whole table leaves the records, and the moves it sends. -/
theorem recompute_eq (u : ScheduleUnit) :
    u.recompute = ({ u with table := u.table.map u.moved }, u.table.filterMap fun r =>
      if (u.moved r).phase = r.phase then none else some (.phaseChanged r.number (u.moved r).phase)) := by
  unfold ScheduleUnit.recompute
  simp only [flatMap_moveEvent, moved_number]

/-- R48: a computation for one record that has just been put into the table. -/
theorem recomputeOne_insert (u : ScheduleUnit) (r : Screening) :
    ({ u with table := insertScreening r u.table } : ScheduleUnit).recomputeOne r
      = ({ u with table := insertScreening (u.moved r) u.table }, moveEvent r (u.moved r)) :=
  congrArg (fun t : List Screening => (({ u with table := t } : ScheduleUnit), moveEvent r (u.moved r)))
    (insertScreening_insertScreening (moved_number u r) u.table)

end Sys2Proof.Machine

end

section
/-! SUPPORT. Settles O18: minutes, rollovers and linger ends (R45, R47 to R50). -/

namespace Sys2Proof.Machine

open Sys2Proof

/-! ### The latest phase whose condition holds (R47) -/

theorem phaseAt_eq_closed_iff (p : PhaseSettings) (e n : Nat) : phaseAt p e n = .closed ↔ e + p.lateWindow ≤ n := by
  unfold phaseAt
  split
  · rename_i h
    exact iff_of_true rfl h
  · rename_i h
    refine iff_of_false ?_ h
    repeat' split
    all_goals nofun

/-- The view minutes from which a screening is at least RUNNING, BOARDING and LISTED. -/
theorem le_phaseAt_iff (p : PhaseSettings) (e n : Nat) :
    (3 ≤ (phaseAt p e n).number ↔ e ≤ n) ∧ (2 ≤ (phaseAt p e n).number ↔ e - p.doorsLead ≤ n)
      ∧ (1 ≤ (phaseAt p e n).number ↔ e - p.doorsLead ≤ n ∨ e - p.horizon ≤ n) := by
  unfold phaseAt
  repeat' split
  all_goals simp only [Phase.number]; omega

/-- Before its doors open a screening is LISTED only within the horizon. -/
theorem horizon_of_phaseAt_listed {p : PhaseSettings} {e n : Nat} (h : phaseAt p e n = .listed) : e - p.horizon ≤ n := by
  obtain ⟨-, h2, h1⟩ := le_phaseAt_iff p e n
  rw [h] at h1 h2
  simp only [Phase.number] at h1 h2
  omega

theorem Phase.running_or_closed {a : Phase} (h : 3 ≤ a.number) (hc : a ≠ .cancelled) : a = .running ∨ a = .closed := by
  cases a <;> simp [Phase.number] at h hc ⊢

/-- R48: where a computation over the whole table leaves the records that are not CANCELLED, and the moves it sends. -/
theorem recompute_eq_later (u : ScheduleUnit) :
    u.recompute = ({ u with
        table := u.table.map fun r => if r.phase = .cancelled then r else { r with phase := r.phase.later (u.target r) } },
      u.table.filterMap fun r =>
        if r.phase = .cancelled ∨ r.phase.later (u.target r) = r.phase then none
        else some (.phaseChanged r.number (r.phase.later (u.target r)))) := by
  rw [recompute_eq]
  refine Prod.ext rfl (congrArg (u.table.filterMap ·) (funext fun r => ?_))
  by_cases h : r.phase = .cancelled
  · rw [moved_of_cancelled u h, if_pos rfl, if_pos (.inl h)]
  · rw [moved_of_ne_cancelled u h]
    exact if_congr (or_iff_right h).symm rfl rfl

/-! ### Events from the board clock (R45, R49) -/

theorem exec_scheduleMinuteEvent_cons {s : State} {n : Nat} {rest : List DayEvent}
    (h : s.mail.clockToSchedule = .minute n :: rest) :
    exec .scheduleMinuteEvent s = .next (({ s with mail := { s.mail with clockToSchedule := rest } } : State).withSchedule
      ({ s.schedule with viewMinute := some n } : ScheduleUnit).recompute) := by
  show execScheduleMinuteEvent s = _
  unfold execScheduleMinuteEvent
  rw [h]

theorem exec_scheduleRollover_cons {s : State} {day : Nat} {rest : List DayEvent}
    (h : s.mail.clockToSchedule = .rollover day :: rest) :
    exec .scheduleRollover s = .next (({ s with mail := { s.mail with clockToSchedule := rest } } : State).withSchedule
      (s.schedule.rollover day)) := by
  show execScheduleRollover s = _
  unfold execScheduleRollover
  rw [h]

/-- R49: the removals that a rollover sends, as one list. -/
theorem gone_eq (table : List Screening) (day : Nat) :
    (table.filter fun r => !(r.day = day || r.day = day + 1 : Bool)).map (fun r => ScheduleEvent.removed r.number)
      = table.filterMap fun r => if r.day = day ∨ r.day = day + 1 then none else some (.removed r.number) := by
  induction table with
  | nil => rfl
  | cons r table ih =>
    by_cases h : r.day = day ∨ r.day = day + 1
    · rw [List.filter_cons_of_neg (by simpa [← or_iff_not_imp_left] using h), List.filterMap_cons, if_pos h, ih]
    · rw [List.filter_cons_of_pos (by simpa using h), List.filterMap_cons, if_neg h, List.map_cons, ih]

/-! ### Linger ends (R50) -/

theorem lingerOver_iff (r : Screening) (l t : Nat) :
    r.lingerOver l t = true ↔ r.phase = .cancelled ∧ ∃ c, r.cancelTime = some c ∧ min (c + 60 * l) 4294967295 ≤ t := by
  unfold Screening.lingerOver addTime maxCount32
  cases r.cancelTime <;> simp

theorem exec_lingerEnd_some {s : State} {t : Nat} (h : s.nextSecond .schedule = some t) :
    exec .lingerEnd s = .next ((s.dropSecond .schedule).withSchedule (s.schedule.endLingers t)) := by
  show execLingerEnd s = _
  unfold execLingerEnd
  rw [h]
  rfl

/-- Settles O18: the target from the minutes of each phase, and the three events from the computation they run. -/
theorem timeMovesTheScreenings : Obligations.TimeMovesTheScreenings := by
  refine ⟨fun u r => ⟨target_of_elsewhere, fun n hn hd => ?_⟩, ?_, ?_, ?_⟩
  · have hcancelled := target_ne_cancelled u r
    rw [target_of_view hn hd] at hcancelled ⊢
    obtain ⟨h3, h2, h1⟩ := le_phaseAt_iff u.settings r.start n
    have hclosed := phaseAt_eq_closed_iff u.settings r.start n
    have hstart : r.start = r.showTime + r.delay := rfl
    refine ⟨hclosed, fun h => Phase.running_or_closed (h3.mpr h) hcancelled, fun h => h3.mp (by rw [h]; decide),
      fun h => h2.mpr (by omega), fun h => ?_, fun h => h1.mpr (by omega), fun h => ?_, hcancelled, fun _ => rfl,
      fun hle hlt h => ?_⟩
    · have hdoors := h2.mp (by rw [h]; decide)
      omega
    · have hhorizon := horizon_of_phaseAt_listed h
      omega
    · have hlate := hclosed.mp h
      omega
  · intro s u x n rest h hu hx
    rw [exec_scheduleMinuteEvent_cons h, recompute_eq_later, hu, hx]
  · intro s u x day rest h hu hx
    rw [exec_scheduleRollover_cons h, ScheduleUnit.rollover, gone_eq, recompute_eq_later, hu, hx]
  · intro s t ended h hended
    have hover : ended = fun r => r.lingerOver s.schedule.settings.linger t :=
      funext fun r => Bool.eq_iff_iff.mpr ((hended r).trans (lingerOver_iff ..).symm)
    rw [exec_lingerEnd_some h, hover]
    rfl

end Sys2Proof.Machine

end

section
/-! SUPPORT. Settles O19: LOAD TITLE, SET PHASE TIMES, CANCEL and DROP SCREENING, and the recipients of the schedule unit's events
(R43, R46, R57 to R59). -/

namespace Sys2Proof.Machine

open Sys2Proof

/-- Taking a directive leaves the schedule unit to its effect (R8). -/
theorem State.Takes.schedule {s u : State} {b : Block} {p : Port} {q : Packet} {d : Directive} (h : s.Takes b p q d u) :
    u.schedule = s.schedule := by
  obtain ⟨-, -, -, -, -, rfl⟩ := h
  rfl

/-! ### LOAD TITLE (R43) -/

theorem loadTitle_outOfRange {n m : Nat} {text rating : List Byte}
    (h : 127 < n ∨ text.length < 1 ∨ 48 < text.length ∨ 5 < rating.length ∨ m < 1 ∨ 400 < m) (s : State) :
    loadTitle n text rating m s = refuse s .outOfRange := by
  unfold loadTitle
  split
  · rfl
  · rename_i hok
    exact dif_neg (by have := h.resolve_right hok; omega)

theorem loadTitle_done {n m : Nat} {text rating : List Byte} (hn : n < 128)
    (h : ¬(text.length < 1 ∨ 48 < text.length ∨ 5 < rating.length ∨ m < 1 ∨ 400 < m)) (s : State) :
    loadTitle n text rating m s = done (s.withSchedule
      ({ s.schedule with titles := s.schedule.titles.set n (some ⟨text, rating, m⟩) hn }, [.titleChanged n])) := by
  unfold loadTitle
  exact (if_neg h).trans (dif_pos hn)

/-! ### SET PHASE TIMES (R46) -/

theorem PhaseSettings.valid_iff (x : PhaseSettings) : x.valid = true ↔ x.doorsLead ≤ 60 ∧ x.lateWindow ≤ 60 ∧ x.horizon ≤ 720
    ∧ x.linger ≤ 60 ∧ x.countdown ≤ 60 ∧ x.doorsLead ≤ x.horizon := by
  simp [PhaseSettings.valid, and_assoc]

theorem setPhaseTimes_outOfRange {x : PhaseSettings} (h : ¬x.valid = true) (s : State) :
    setPhaseTimes x s = refuse s .outOfRange := if_neg h

theorem setPhaseTimes_done {x : PhaseSettings} (h : x.valid = true) (s : State) :
    setPhaseTimes x s = done (s.withSchedule (({ s.schedule with settings := x } : ScheduleUnit).recompute.1,
      ({ s.schedule with settings := x } : ScheduleUnit).recompute.2
        ++ countdownEvents s.schedule.settings ({ s.schedule with settings := x } : ScheduleUnit).recompute.1)) := if_pos h

/-! ### CANCEL SCREENING and DROP SCREENING (R57, R58) -/

theorem cancelScreening_noSuch {s : State} {n : Nat} (h : findScreening s.schedule.table n = none) :
    cancelScreening n s = refuse s .noSuch := by
  unfold cancelScreening
  rw [h]

theorem cancelScreening_tooLate {s : State} {n : Nat} {r : Screening} (h : findScreening s.schedule.table n = some r)
    (hp : r.phase = .running ∨ r.phase = .closed) : cancelScreening n s = refuse s .tooLate := by
  unfold cancelScreening
  obtain hp | hp := hp <;> simp only [h, hp]

theorem cancelScreening_again {s : State} {n : Nat} {r : Screening} (h : findScreening s.schedule.table n = some r)
    (hp : r.phase = .cancelled) : cancelScreening n s = done s := by
  unfold cancelScreening
  simp only [h, hp]

theorem cancelScreening_done {s : State} {n : Nat} {r : Screening} (h : findScreening s.schedule.table n = some r)
    (hp : r.phase = .pending ∨ r.phase = .listed ∨ r.phase = .boarding) :
    cancelScreening n s = done (s.withSchedule
      ({ s.schedule with
         table := insertScreening { r with phase := .cancelled, cancelTime := some s.clock.runTime } s.schedule.table },
       [.phaseChanged n .cancelled])) := by
  unfold cancelScreening
  obtain hp | hp | hp := hp <;> simp only [h, hp]

theorem dropScreening_noSuch {s : State} {n : Nat} (h : findScreening s.schedule.table n = none) :
    dropScreening n s = refuse s .noSuch := by
  unfold dropScreening
  rw [h]

theorem dropScreening_done {s : State} {n : Nat} {r : Screening} (h : findScreening s.schedule.table n = some r) :
    dropScreening n s = done (s.withSchedule
      ({ s.schedule with table := removeScreening n s.schedule.table }, [.removed n])) := by
  unfold dropScreening
  rw [h]

/-! ### Who hears of what (R59) -/

/-- R59: events sent one after another reach each recipient in the order sent. -/
theorem sendScheduleAll_eq (s : State) (es : List ScheduleEvent) {seat three : ScheduleEvent → Bool}
    (hseat : ∀ e, seat e = match e with | .added .. | .capacityChanged .. | .phaseChanged .. | .removed .. => true | _ => false)
    (hthree : ∀ e, three e = match e with | .phaseChanged .. | .removed .. => true | _ => false) :
    s.sendScheduleAll es = { s with mail := { s.mail with
      scheduleToSeat := s.mail.scheduleToSeat ++ es.filter seat
      scheduleToNotice := s.mail.scheduleToNotice ++ es.filter three
      scheduleToBuilder := s.mail.scheduleToBuilder ++ es.filter fun e =>
        match e with | .phaseChanged .. | .removed .. | .changed .. | .titleChanged .. => true | _ => false } } := by
  induction es generalizing s with
  | nil => simp [State.sendScheduleAll]
  | cons e es ih =>
    rw [show s.sendScheduleAll (e :: es) = (s.sendSchedule e).sendScheduleAll es from rfl, ih]
    cases e <;> simp [State.sendSchedule, hseat, hthree]

/-- Settles O19: each directive from its refusals and its DONE, and the tables and events from their own lemmas. -/
theorem titlesPhasesAndCancellations : Obligations.TitlesPhasesAndCancellations := by
  refine ⟨⟨fun s u p q n text rating m h => ?_, fun s u p q x h => ?_, fun s u p q n h => ?_, fun s u p q n h => ?_⟩,
    fun s es seat three hseat hthree => sendScheduleAll_eq s es hseat hthree, fun _ _ => rfl, fun u next hnext => ?_,
    fun table n r h => findScreening_eq_some_iff h n r, findScreening_eq_none_iff,
    fun r before same after hb hs ha => insertScreening_append hb hs ha⟩
  · rw [exec_loadTitle h, ← State.Takes.schedule h]
    refine ⟨fun hbad => by rw [loadTitle_outOfRange hbad]; rfl, fun hn h1 h2 h3 h4 h5 => ?_⟩
    rw [loadTitle_done hn (by omega)]
    rfl
  · rw [exec_setPhaseTimes h, ← State.Takes.schedule h]
    refine ⟨fun hbad => ?_, fun h1 h2 h3 h4 h5 h6 v hv => ?_⟩
    · rw [setPhaseTimes_outOfRange (by rw [x.valid_iff]; omega)]
      rfl
    · rw [setPhaseTimes_done (x.valid_iff.mpr ⟨h1, h2, h3, h4, h5, h6⟩), hv]
      rfl
  · rw [exec_cancelScreening h, ← State.Takes.schedule h, ← State.Takes.clock h]
    refine ⟨fun hn => by rw [cancelScreening_noSuch hn]; rfl, fun r hr => ⟨fun hp => ?_, fun hp => ?_, fun hp => ?_⟩⟩
    · rw [cancelScreening_tooLate hr hp]
      rfl
    · rw [cancelScreening_again hr hp]
      rfl
    · rw [cancelScreening_done hr hp]
      rfl
  · rw [exec_dropScreening h, ← State.Takes.schedule h]
    refine ⟨fun hn => by rw [dropScreening_noSuch hn]; rfl, fun hsome => ?_⟩
    obtain ⟨r, hr⟩ := Option.isSome_iff_exists.mp hsome
    rw [dropScreening_done hr]
    rfl
  · have hmoved : u.moved = next := by
      funext r
      rw [hnext]
      by_cases hc : r.phase = .cancelled
      · rw [moved_of_cancelled u hc, if_pos hc]
      · rw [moved_of_ne_cancelled u hc, if_neg hc]
        by_cases hlt : r.phase.number < (u.target r).number
        · rw [later_of_lt hlt, if_pos hlt]
        · rw [later_of_not_lt hlt, if_neg hlt]
    rw [recompute_eq, hmoved]

end Sys2Proof.Machine

end

section
/-! SUPPORT. Settles O20: LOAD SCREENING and AMEND SCREENING (R51, R52, R54 to R56). -/

namespace Sys2Proof.Machine

open Sys2Proof

/-! ### Ranges (R51, R55) -/

theorem badgesOk_iff (bs : List Nat) :
    badgesOk bs = true ↔ bs.length ≤ 4 ∧ (∀ c ∈ bs, 1 ≤ c ∧ c ≤ 6) ∧ bs.Nodup := by
  simp [badgesOk, hasRepeat, and_assoc]

theorem ScreeningFields.inRange_iff (f : ScreeningFields) : f.inRange = true ↔
    1 ≤ f.number ∧ 1 ≤ f.auditorium ∧ f.auditorium ≤ 24 ∧ f.title ≤ 127 ∧ f.showTime ≤ 1439 ∧ f.delay ≤ 120 ∧ 1 ≤ f.capacity
      ∧ f.capacity ≤ 999 ∧ f.badges.length ≤ 4 ∧ (∀ c ∈ f.badges, 1 ≤ c ∧ c ≤ 6) ∧ f.badges.Nodup ∧ f.note.length ≤ 24 := by
  simp [ScreeningFields.inRange, badgesOk_iff, and_assoc, Nat.one_le_iff_ne_zero]

theorem AmendFields.inRange_iff (f : AmendFields) : f.inRange = true ↔
    (∀ d, f.delay = some d → d ≤ 120) ∧ (∀ c, f.capacity = some c → 1 ≤ c ∧ c ≤ 999)
      ∧ (∀ b, f.badges = some b → b.length ≤ 4 ∧ (∀ c ∈ b, 1 ≤ c ∧ c ≤ 6) ∧ b.Nodup)
      ∧ ∀ t, f.note = some t → t.length ≤ 24 := by
  simp [AmendFields.inRange, badgesOk_iff, Option.all_eq_true, and_assoc]

theorem dayAccepted_iff (u : ScheduleUnit) (day : Nat) :
    u.dayAccepted day = true ↔ u.viewMinute = none ∨ day = u.viewDay ∨ day = u.viewDay + 1 := by
  simp [ScheduleUnit.dayAccepted, or_assoc]

/-! ### LOAD SCREENING (R51, R52, R54) -/

/-- R51 steps 1 to 4: what a LOAD SCREENING passes before the table is looked at. -/
structure ScreeningFields.Accepted (f : ScreeningFields) (u : ScheduleUnit) : Prop where
  range : f.inRange = true
  start : f.showTime + f.delay ≤ 1439
  day : u.dayAccepted f.day = true
  title : ∃ x, u.titles[f.title]? = some (some x)

theorem loadScreening_outOfRange {f : ScreeningFields} {s : State}
    (h : f.inRange = false ∨ 1439 < f.showTime + f.delay ∨ s.schedule.dayAccepted f.day = false) :
    loadScreening f s = refuse s .outOfRange := by
  unfold loadScreening
  split
  · rfl
  · split
    · rfl
    · exact if_pos (by grind)

theorem loadScreening_noSuch {f : ScreeningFields} {s : State} (hr : f.inRange = true) (he : f.showTime + f.delay ≤ 1439)
    (hd : s.schedule.dayAccepted f.day = true) (ht : s.schedule.titles[f.title]? = some none) :
    loadScreening f s = refuse s .noSuch := by
  simp [loadScreening, hr, hd, ht, Nat.not_lt.mpr he]

/-- R54: a number of the table. -/
theorem loadScreening_replaces {f : ScreeningFields} {s : State} {old : Screening} (h : f.Accepted s.schedule)
    (hf : findScreening s.schedule.table f.number = some old) :
    loadScreening f s = done (s.withSchedule (s.schedule.replace old f)) := by
  obtain ⟨hr, he, hd, x, hx⟩ := h
  simp [loadScreening, hr, hd, hx, hf, Nat.not_lt.mpr he]

/-- R52, R53: a new number for which there is room, or room can be made. -/
theorem loadScreening_creates {f : ScreeningFields} {s : State} {v : ScheduleUnit} {gone : List ScheduleEvent}
    (h : f.Accepted s.schedule) (hf : findScreening s.schedule.table f.number = none)
    (hv : s.schedule.makeRoom = some (v, gone)) :
    loadScreening f s = done (s.withSchedule ((v.create f).1, gone ++ (v.create f).2)) := by
  obtain ⟨hr, he, hd, x, hx⟩ := h
  simp [loadScreening, hr, hd, hx, hf, hv, Nat.not_lt.mpr he]

/-- R53: a new number for which no room can be made. -/
theorem loadScreening_full {f : ScreeningFields} {s : State} (h : f.Accepted s.schedule)
    (hf : findScreening s.schedule.table f.number = none) (hv : s.schedule.makeRoom = none) :
    loadScreening f s = refuse s .full := by
  obtain ⟨hr, he, hd, x, hx⟩ := h
  simp [loadScreening, hr, hd, hx, hf, hv, Nat.not_lt.mpr he]

theorem makeRoom_of_lt {u : ScheduleUnit} (h : u.table.length < 96) : u.makeRoom = some (u, []) := if_pos h

/-- R51, R52: the record that LOAD SCREENING leaves, PENDING at first and moved to the later of that and its target. -/
theorem moved_record (u : ScheduleUnit) (f : ScreeningFields) : u.moved f.record =
    ⟨f.number, f.day, f.auditorium, f.title, f.showTime, f.delay, f.capacity, f.badges,
      if f.note = [] then none else some f.note, Phase.later .pending (u.target
        ⟨f.number, f.day, f.auditorium, f.title, f.showTime, f.delay, f.capacity, f.badges, none, .pending, none⟩), none⟩ :=
  moved_of_ne_cancelled u (r := f.record) nofun

/-- R52: a new record is announced, then its move. -/
theorem create_eq (u : ScheduleUnit) (f : ScreeningFields) :
    u.create f = ({ u with table := insertScreening (u.moved f.record) u.table },
      .added f.number f.capacity ::
        if (u.moved f.record).phase = .pending then [] else [.phaseChanged f.number (u.moved f.record).phase]) := by
  unfold ScheduleUnit.create
  rw [recomputeOne_insert]
  refine Prod.ext rfl (congrArg (ScheduleEvent.added f.number f.capacity :: ·) ?_)
  by_cases h : (u.moved f.record).phase = .pending
  · rw [if_pos h]
    exact moveEvent_of_same h
  · rw [if_neg h]
    exact (moveEvent_of_ne h).trans (by rw [moved_number]; rfl)

/-- R54: a record replaced in its place, announcing what changed. -/
theorem replace_eq (u : ScheduleUnit) (old : Screening) (f : ScreeningFields) :
    u.replace old f = ({ u with table := insertScreening (u.moved f.record) u.table },
      (if f.capacity = old.capacity then [] else [.capacityChanged f.number f.capacity]) ++ [.changed f.number]
        ++ if (u.moved f.record).phase = old.phase then [] else [.phaseChanged f.number (u.moved f.record).phase]) := by
  unfold ScheduleUnit.replace
  rw [recomputeOne_insert]

/-! ### AMEND SCREENING (R55, R56) -/

theorem tooLate_iff (f : AmendFields) (a : Phase) :
    f.tooLate a = true ↔ (f.delay.isSome = true ∧ 3 ≤ a.number) ∨ (f.capacity.isSome = true ∧ 4 ≤ a.number) := by
  cases a <;> simp [AmendFields.tooLate, Phase.number]

theorem amendScreening_noSuch {s : State} {n : Nat} {f : AmendFields} (h : findScreening s.schedule.table n = none) :
    amendScreening n f s = refuse s .noSuch := by
  unfold amendScreening
  rw [h]

theorem amendScreening_outOfRange {s : State} {n : Nat} {f : AmendFields} {r : Screening}
    (h : findScreening s.schedule.table n = some r)
    (hf : f.inRange = false ∨ ∃ d, f.delay = some d ∧ 1439 < r.showTime + d) :
    amendScreening n f s = refuse s .outOfRange := by
  unfold amendScreening
  simp only [h]
  split
  · rfl
  · rename_i hr
    obtain ⟨d, hd, hlt⟩ := hf.resolve_left hr
    exact if_pos (by simpa [hd] using hlt)

/-- R55 steps 1 to 3 passed: the phase decides. -/
theorem amendScreening_of_inRange {s : State} {n : Nat} {f : AmendFields} {r : Screening}
    (h : findScreening s.schedule.table n = some r) (hr : f.inRange = true) (hd : ∀ d, f.delay = some d → r.showTime + d ≤ 1439) :
    amendScreening n f s
      = if f.tooLate r.phase then refuse s .tooLate else done (s.withSchedule (s.schedule.amend r f)) := by
  have hany : f.delay.any (fun d => 1439 < r.showTime + d) = false := by
    cases hf : f.delay with
    | none => rfl
    | some d => simpa using hd d hf
  simp [amendScreening, h, hr, hany]

theorem AmendFields.apply_phase (f : AmendFields) (r : Screening) : (f.apply r).phase = r.phase := rfl

/-- R56: the record an amendment leaves: the fields present changed, and moved by an amended delay. -/
def ScheduleUnit.amended (u : ScheduleUnit) (r : Screening) (f : AmendFields) : Screening :=
  if f.delay.isSome then u.moved (f.apply r) else f.apply r

theorem amended_eq {u : ScheduleUnit} {r : Screening} {f : AmendFields} :
    u.amended r f = if f.delay.isSome ∧ r.phase ≠ .cancelled
      then { f.apply r with phase := (f.apply r).phase.later (u.target (f.apply r)) } else f.apply r := by
  unfold ScheduleUnit.amended
  by_cases hd : f.delay.isSome = true
  · by_cases hc : r.phase = .cancelled
    · rw [if_pos hd, if_neg fun h => h.2 hc, moved_of_cancelled u ((f.apply_phase r).trans hc)]
    · rw [if_pos hd, if_pos ⟨hd, hc⟩, moved_of_ne_cancelled u fun h => hc ((f.apply_phase r).symm.trans h)]
  · rw [if_neg hd, if_neg fun h => hd h.1]

/-- R56: capacity, then the move of an amended delay, then the row. -/
theorem amend_eq (u : ScheduleUnit) (r : Screening) (f : AmendFields) :
    u.amend r f = ({ u with table := insertScreening (u.amended r f) u.table },
      (if (f.apply r).capacity = r.capacity then [] else [.capacityChanged r.number (f.apply r).capacity])
        ++ (if (u.amended r f).phase = r.phase then [] else [.phaseChanged r.number (u.amended r f).phase])
        ++ if (f.apply r).delay = r.delay ∧ (f.apply r).badges = r.badges ∧ (f.apply r).note = r.note then []
          else [.changed r.number]) := by
  have hmove (x : Screening) (hn : x.number = r.number) :
      moveEvent (f.apply r) x = if x.phase = r.phase then [] else [.phaseChanged r.number x.phase] := by
    rw [← hn]
    exact if_congr eq_comm rfl rfl
  unfold ScheduleUnit.amend ScheduleUnit.amended
  by_cases hd : f.delay.isSome = true
  · simp only [if_pos hd]
    rw [recomputeOne_insert, hmove (u.moved (f.apply r)) (moved_number u _)]
  · simp only [if_neg hd]
    rw [if_pos (f.apply_phase r)]

/-- Settles O20: the checks in order, then the record that is put into the table and the events it brings. -/
theorem screeningsAreLoadedAndAmended : Obligations.ScreeningsAreLoadedAndAmended := by
  refine ⟨ScreeningFields.inRange_iff, fun _ _ _ _ => AmendFields.inRange_iff _, fun s u p q f h => ?_,
    fun s u p q n delay capacity badges note h => ?_⟩
  · rw [exec_loadScreening h, ← State.Takes.schedule h]
    refine ⟨fun hbad => ?_, fun hr he hday => ?_⟩
    · have hbad : f.inRange = false ∨ 1439 < f.showTime + f.delay ∨ u.schedule.dayAccepted f.day = false := by
        refine hbad.imp_right (Or.imp_right fun ⟨⟨n, hn⟩, h1, h2⟩ => ?_)
        rw [← Bool.not_eq_true, dayAccepted_iff, hn]
        simp [h1, h2]
      rw [loadScreening_outOfRange hbad]
      rfl
    · have hday := (dayAccepted_iff ..).mpr hday
      refine ⟨fun ht => by rw [loadScreening_noSuch hr he hday ht]; rfl, fun title r ht hrec => ?_⟩
      have hok : f.Accepted u.schedule := ⟨hr, he, hday, title, ht⟩
      rw [← moved_record] at hrec
      refine ⟨fun hf hlt => ?_, fun old hf => ?_⟩
      · rw [loadScreening_creates hok hf (makeRoom_of_lt hlt), create_eq, hrec]
        rfl
      · rw [loadScreening_replaces hok hf, replace_eq, hrec]
        rfl
  · rw [exec_amendScreening h, ← State.Takes.schedule h]
    refine ⟨fun hf => by rw [amendScreening_noSuch hf]; rfl, fun r hf => ⟨fun hbad => ?_, fun hr hd => ?_⟩⟩
    · rw [amendScreening_outOfRange hf hbad]
      rfl
    · rw [amendScreening_of_inRange hf hr hd]
      refine ⟨fun hlate => ?_, fun hnd hnc x y hx hy => ?_⟩
      · rw [if_pos ((tooLate_iff ..).mpr hlate)]
        rfl
      · have happly : x = (AmendFields.mk delay capacity badges note).apply r := by
          rw [hx]
          cases note <;> rfl
        subst happly
        rw [← amended_eq (f := ⟨delay, capacity, badges, note⟩)] at hy
        rw [if_neg fun hlate => ((tooLate_iff ..).mp hlate).elim hnd hnc, amend_eq, hy]
        rfl

end Sys2Proof.Machine

end

section
/-! SUPPORT. Settles O21: a full table gives up its earliest CLOSED record, and a LOAD SCREENING removes no other (R53). -/

namespace Sys2Proof.Machine

open Sys2Proof

/-! ### The record given up (R53) -/

theorem givenUpBefore_iff (a b : Screening) : givenUpBefore a b = true ↔
    a.day < b.day ∨ a.day = b.day ∧ (a.start < b.start ∨ a.start = b.start ∧ a.number < b.number) := by
  simp [givenUpBefore]

theorem not_givenUpBefore_of_givenUpBefore {a b : Screening} (h : givenUpBefore a b = true) : ¬givenUpBefore b a = true := by
  rw [givenUpBefore_iff] at h ⊢
  omega

/-- The earlier of the best record so far and the next. -/
def earlier (best : Option Screening) (r : Screening) : Option Screening :=
  match best with
  | none => some r
  | some b => if givenUpBefore r b then some r else some b

theorem pickClosed_eq (table : List Screening) :
    pickClosed table = (table.filter fun r => r.phase = .closed).foldl earlier none := rfl

theorem earlier_some (b r : Screening) : earlier (some b) r = some (if givenUpBefore r b then r else b) :=
  (apply_ite some ..).symm

/-- The best of some records is one of them. -/
theorem foldl_earlier_mem (b : Screening) (rs : List Screening) : ∃ c ∈ b :: rs, rs.foldl earlier (some b) = some c := by
  induction rs generalizing b with
  | nil => exact ⟨b, List.mem_cons_self, rfl⟩
  | cons r rs ih =>
    rw [List.foldl_cons, earlier_some]
    obtain ⟨c, hc, he⟩ := ih (if givenUpBefore r b then r else b)
    refine ⟨c, ?_, he⟩
    obtain rfl | hc := List.mem_cons.mp hc
    · split <;> simp
    · exact List.mem_cons_of_mem _ (List.mem_cons_of_mem _ hc)

/-- A record that goes before every other one of some records is their best. -/
theorem foldl_earlier_eq {r : Screening} (b : Screening) (rs : List Screening) (hr : r ∈ b :: rs)
    (hmin : ∀ x ∈ b :: rs, x ≠ r → givenUpBefore r x = true) : rs.foldl earlier (some b) = some r := by
  induction rs generalizing b with
  | nil => rw [List.mem_singleton.mp hr]; rfl
  | cons y rs ih =>
    rw [List.foldl_cons, earlier_some]
    have hb := hmin b (by simp)
    have hy := hmin y (by simp)
    have hbest : r ∈ (if givenUpBefore y b then y else b) :: rs := by
      by_cases hrs : r ∈ rs
      · exact List.mem_cons_of_mem _ hrs
      · obtain rfl | rfl : r = b ∨ r = y := by simpa [hrs] using hr
        · by_cases hyr : y = r
          · simp [hyr]
          · rw [if_neg (not_givenUpBefore_of_givenUpBefore (hy hyr))]
            exact List.mem_cons_self
        · by_cases hbr : b = r
          · simp [hbr]
          · rw [if_pos (hb hbr)]
            exact List.mem_cons_self
    refine ih _ hbest fun x hx => ?_
    obtain rfl | hx := List.mem_cons.mp hx
    · split
      · exact hy
      · exact hb
    · exact hmin x (by simp [hx])

theorem pickClosed_eq_none {table : List Screening} (h : ∀ r ∈ table, r.phase ≠ .closed) : pickClosed table = none := by
  rw [pickClosed_eq, List.filter_eq_nil_iff.mpr fun r hr => by simpa using h r hr]
  rfl

/-- Only a CLOSED record of the table is given up. -/
theorem mem_of_pickClosed {table : List Screening} {r : Screening} (h : pickClosed table = some r) :
    r ∈ table ∧ r.phase = .closed := by
  have hmem : r ∈ table.filter fun r => r.phase = .closed := by
    rw [pickClosed_eq] at h
    cases hc : table.filter fun r => r.phase = .closed with
    | nil => rw [hc] at h; nomatch h
    | cons b rs =>
      obtain ⟨c, hc', he⟩ := foldl_earlier_mem b rs
      rw [hc] at h
      cases he.symm.trans h
      exact hc'
  simpa using hmem

theorem pickClosed_eq_some {table : List Screening} {r : Screening} (hr : r ∈ table) (hc : r.phase = .closed)
    (hmin : ∀ x ∈ table, x.phase = .closed → x ≠ r → givenUpBefore r x = true) : pickClosed table = some r := by
  have hr : r ∈ table.filter fun r => r.phase = .closed := by simp [hr, hc]
  have hmin : ∀ x ∈ table.filter fun r => r.phase = .closed, x ≠ r → givenUpBefore r x = true := fun x hx => by
    obtain ⟨hx, hxc⟩ : x ∈ table ∧ x.phase = .closed := by simpa using hx
    exact hmin x hx hxc
  rw [pickClosed_eq]
  cases hl : table.filter fun r => r.phase = .closed with
  | nil => rw [hl] at hr; nomatch hr
  | cons b rs =>
    rw [hl] at hr hmin
    exact foldl_earlier_eq b rs hr hmin

theorem makeRoom_of_le {u : ScheduleUnit} (h : 96 ≤ u.table.length) : u.makeRoom = (pickClosed u.table).map fun r =>
    ({ u with table := removeScreening r.number u.table }, [.removed r.number]) := if_neg (by omega)

/-! ### The table after a LOAD SCREENING (R51 to R54) -/

/-- R51 to R54: what a LOAD SCREENING can make of the table. -/
inductive ScheduleUnit.Loads (u : ScheduleUnit) (f : ScreeningFields) : List Screening → Prop where
  | refused : u.Loads f u.table
  | replaced (old : Screening) (found : findScreening u.table f.number = some old) :
      u.Loads f (insertScreening (u.moved f.record) u.table)
  | added (new : findScreening u.table f.number = none) (room : u.table.length < 96) :
      u.Loads f (insertScreening (u.moved f.record) u.table)
  | gaveUp (r : Screening) (new : findScreening u.table f.number = none) (full : 96 ≤ u.table.length)
      (picked : pickClosed u.table = some r) :
      u.Loads f (insertScreening (u.moved f.record) (removeScreening r.number u.table))

theorem create_table (u : ScheduleUnit) (f : ScreeningFields) :
    (u.create f).1.table = insertScreening (u.moved f.record) u.table := by
  rw [create_eq]

theorem loadScreening_loads (f : ScreeningFields) (s : State) : s.schedule.Loads f (loadScreening f s).1.schedule.table := by
  by_cases hout : f.inRange = false ∨ 1439 < f.showTime + f.delay ∨ s.schedule.dayAccepted f.day = false
  · rw [loadScreening_outOfRange hout]
    exact .refused
  obtain ⟨hr, he, hd⟩ : f.inRange = true ∧ f.showTime + f.delay ≤ 1439 ∧ s.schedule.dayAccepted f.day = true := by
    simpa using hout
  have hlt : f.title < 128 := by
    obtain ⟨-, -, -, hle, -⟩ := f.inRange_iff.mp hr
    omega
  cases ht : s.schedule.titles[f.title] with
  | none =>
    rw [loadScreening_noSuch hr he hd (by rw [Vector.getElem?_eq_getElem hlt, ht])]
    exact .refused
  | some x =>
    have hok : f.Accepted s.schedule := ⟨hr, he, hd, x, by rw [Vector.getElem?_eq_getElem hlt, ht]⟩
    cases hf : findScreening s.schedule.table f.number with
    | some old =>
      rw [loadScreening_replaces hok hf, done_fst, State.withSchedule_schedule, replace_eq]
      exact .replaced old hf
    | none =>
      by_cases hroom : s.schedule.table.length < 96
      · rw [loadScreening_creates hok hf (makeRoom_of_lt hroom), done_fst, State.withSchedule_schedule, create_table]
        exact .added hf hroom
      · have hfull : 96 ≤ s.schedule.table.length := by omega
        have hmake := makeRoom_of_le hfull
        cases hp : pickClosed s.schedule.table with
        | none =>
          rw [hp] at hmake
          rw [loadScreening_full hok hf hmake]
          exact .refused
        | some r =>
          rw [hp] at hmake
          rw [loadScreening_creates hok hf hmake, done_fst, State.withSchedule_schedule, create_table]
          exact .gaveUp r hf hfull hp

/-- R8: a directive's command leaves the schedule unit as it was, or as the action on the directive at the head leaves it. -/
theorem State.takeAndAnswer_schedule {α : Type} {b : Block} {p : Port} {select : Directive → Option α}
    {act : α → State → State × Reply} (s : State) :
    (s.takeAndAnswer b p select act).schedule = s.schedule
      ∨ ∃ q d a u, (s.handoffOf b p).head? = some q ∧ q.directive = some d ∧ select d = some a ∧ u.schedule = s.schedule
        ∧ (s.takeAndAnswer b p select act).schedule = (act a u).1.schedule := by
  obtain e | ⟨q, d, a, ⟨hq, hd, -⟩, ha, e⟩ | ⟨q, d, a, -, -, -, -, e⟩ := State.take_cases b p select
    (fun q a s => (act a s).1.issue p (q.answer (act a s).2)) s
  · exact .inl (congrArg State.schedule e)
  · have hact := congrArg State.schedule e
    exact .inr ⟨q, d, a, s.putHandoff b p (s.handoffOf b p).tail, hq, hd, ha, rfl, hact⟩
  · have hrefused := congrArg State.schedule e
    exact .inl hrefused

theorem exec_loadScreening_cases {s t : State} {p : Port} (h : exec (.loadScreening p) s = .next t) :
    t.schedule = s.schedule ∨ ∃ q f, (s.handoffOf .schedule p).head? = some q ∧ q.directive = some (.loadScreening f)
      ∧ s.schedule.Loads f t.schedule.table := by
  cases h
  refine (State.takeAndAnswer_schedule s).imp_right fun ⟨q, d, f, u, hq, hd, ha, hu, e⟩ => ⟨q, f, hq, ?_, ?_⟩
  · cases d
    case loadScreening => cases ha; exact hd
    all_goals nomatch ha
  · rw [e, ← hu]
    exact loadScreening_loads f u

/-- R53: the records that a LOAD SCREENING takes out of a table in order. -/
theorem ScheduleUnit.Loads.removed {u : ScheduleUnit} {f : ScreeningFields} {table : List Screening} (h : u.Loads f table)
    (hu : u.Sound) {r : Screening} (hr : r ∈ u.table) (hgone : r ∉ table) :
    f.number = r.number
      ∨ r.phase = .closed ∧ findScreening u.table f.number = none ∧ 96 ≤ u.table.length := by
  refine or_iff_not_imp_left.mpr fun hne => ?_
  have hstays (t : List Screening) (ht : r ∈ t) : r ∈ insertScreening (u.moved f.record) t :=
    mem_insertScreening_of_ne ht fun hn => hne ((hn.trans (moved_number ..)).symm)
  cases h with
  | refused => exact absurd hr hgone
  | replaced => exact absurd (hstays _ hr) hgone
  | added => exact absurd (hstays _ hr) hgone
  | gaveUp x hnew hfull hpick =>
    obtain ⟨hsorted, -, -⟩ := hu
    obtain ⟨hx, hclosed⟩ := mem_of_pickClosed hpick
    have hn : r.number = x.number := by
      by_contra hn
      exact hgone (hstays _ (List.mem_filter.mpr ⟨hr, decide_eq_true hn⟩))
    rw [eq_of_number_eq hsorted hr hx hn]
    exact ⟨hclosed, hnew, hfull⟩

/-- Settles O21: the record picked by a full table, and no other removed in any outcome of a LOAD SCREENING. -/
theorem fullTableGivesUpTheEarliestClosed : Obligations.FullTableGivesUpTheEarliestClosed := by
  refine ⟨fun s u p q f title h hr he hd ht hf hfull => ?_, dayAccepted_iff, fun v f r hrec => ?_,
    fun s t p r hs h hr hgone => ?_⟩
  · rw [← State.Takes.schedule h] at hd ht hf hfull ⊢
    have hok : f.Accepted u.schedule := ⟨hr, he, hd, title, ht⟩
    rw [exec_loadScreening h]
    refine ⟨fun hnone => ?_, fun r hr hc hmin => ⟨_, rfl, ?_⟩⟩
    · rw [loadScreening_full hok hf (by rw [makeRoom_of_le hfull, pickClosed_eq_none hnone]; rfl)]
      rfl
    · have hpick := pickClosed_eq_some hr hc fun x hx hxc hne => (givenUpBefore_iff r x).mpr (hmin x hx hxc hne)
      rw [loadScreening_creates hok hf (by rw [makeRoom_of_le hfull, hpick]; rfl)]
      rfl
  · rw [create_eq, moved_record, hrec]
  · obtain e | ⟨q, f, hq, hd, hload⟩ := exec_loadScreening_cases h
    · exact absurd (e ▸ hr) hgone
    · exact ⟨q, f, hq, hd, hload.removed hs hr hgone⟩

end Sys2Proof.Machine

end

section
/-! SUPPORT. Settles O22 and O23: the screening table stays in order, and phases move only forward (R44, R48, R50, R57, L4). -/

namespace Sys2Proof.Machine

open Sys2Proof

/-! ### How a record and a table may move -/

/-- L4: the moves along PENDING, LISTED, BOARDING, RUNNING, CLOSED, to CANCELLED, and from it. -/
theorem Phase.movesTo_iff (a b : Phase) : a.movesTo b = true ↔
    b = a ∨ (a.number < b.number ∧ b.number ≤ 4) ∨ (a.number ≤ 2 ∧ b = .cancelled) ∨ (a = .cancelled ∧ b = .closed) := by
  cases a <;> cases b <;> decide

theorem Phase.movesTo_refl (a : Phase) : a.movesTo a = true := (a.movesTo_iff a).mpr (.inl rfl)

theorem Phase.movesTo_later {a b : Phase} (hb : b.number ≤ 4) : a.movesTo (a.later b) = true := by
  rw [Phase.movesTo_iff]
  by_cases h : a.number < b.number
  · rw [later_of_lt h]
    exact .inr (.inl ⟨h, hb⟩)
  · rw [later_of_not_lt h]
    exact .inl rfl

/-- A record has a cancel time exactly while it is CANCELLED (R50, R57). -/
def Screening.CancelSound (r : Screening) : Prop := r.cancelTime.isSome = true ↔ r.phase = .cancelled

/-- One record in the place of another: of its number, its phase kept or moved forward, its cancel time still right. -/
structure Screening.MovesTo (r x : Screening) : Prop where
  number : x.number = r.number
  phase : r.phase.movesTo x.phase = true
  cancel : r.CancelSound → x.CancelSound

/-- L4: every record of a table has come from a record of the table before, and the numbers are in the order they were. -/
structure TableMoves (old new : List Screening) : Prop where
  numbers : (new.map Screening.number).Sublist (old.map Screening.number)
  records : ∀ x ∈ new, ∃ r ∈ old, r.MovesTo x

theorem Screening.MovesTo.refl (r : Screening) : r.MovesTo r := ⟨rfl, r.phase.movesTo_refl, id⟩

/-- Some records are removed, and every other one is moved. -/
theorem TableMoves.map {f : Screening → Screening} (h : ∀ r : Screening, r.MovesTo (f r)) {old new : List Screening}
    (hs : new.Sublist old) : TableMoves old (new.map f) where
  numbers := by
    rw [List.map_map, show Screening.number ∘ f = Screening.number from funext fun r => (h r).number]
    exact hs.map _
  records x hx := by
    obtain ⟨r, hr, rfl⟩ := List.mem_map.mp hx
    exact ⟨r, hs.subset hr, h r⟩

theorem TableMoves.of_sublist {old new : List Screening} (hs : new.Sublist old) : TableMoves old new :=
  ⟨hs.map _, fun x hx => ⟨x, hs.subset hx, .refl x⟩⟩

theorem TableMoves.refl (table : List Screening) : TableMoves table table := .of_sublist (.refl _)

/-- One record takes another's place. -/
theorem TableMoves.insert {table : List Screening} (h : table.Pairwise fun x y => x.number < y.number) {r x : Screening}
    (hr : r ∈ table) (hx : r.MovesTo x) : TableMoves table (insertScreening x table) where
  numbers := by rw [insertScreening_map_number h hr hx.number.symm]
  records y hy := by
    obtain rfl | hy := mem_of_mem_insertScreening hy
    · exact ⟨r, hr, hx⟩
    · exact ⟨y, hy, .refl y⟩

/-- A table in order that moves is in order, holds no more records, and its cancel times are right. -/
theorem ScheduleUnit.Sound.of_moves {u v : ScheduleUnit} (h : u.Sound) (hm : TableMoves u.table v.table) : v.Sound := by
  obtain ⟨hsorted, hlength, hcancel⟩ := h
  refine ⟨?_, ?_, fun x hx => ?_⟩
  · exact List.pairwise_map.mp ((List.pairwise_map.mpr hsorted).sublist hm.numbers)
  · have hle := hm.numbers.length_le
    rw [List.length_map, List.length_map] at hle
    omega
  · obtain ⟨r, hr, hrx⟩ := hm.records x hx
    exact hrx.cancel (hcancel r hr)

/-! ### The schedule unit's own moves (R48, R49, R50) -/

theorem Screening.movesTo_moved (u : ScheduleUnit) (r : Screening) : r.MovesTo (u.moved r) := by
  by_cases h : r.phase = .cancelled
  · rw [moved_of_cancelled u h]
    exact .refl r
  · rw [moved_of_ne_cancelled u h]
    refine ⟨rfl, Phase.movesTo_later (target_number_le u r), fun hr => ?_⟩
    have hlater : r.phase.later (u.target r) ≠ .cancelled := by
      unfold Phase.later
      split
      · exact target_ne_cancelled u r
      · exact h
    exact iff_of_false (fun hs => h (hr.mp hs)) hlater

theorem recompute_moves (u : ScheduleUnit) : TableMoves u.table u.recompute.1.table :=
  .map (Screening.movesTo_moved u) (.refl _)

theorem rollover_moves (u : ScheduleUnit) (day : Nat) : TableMoves u.table (u.rollover day).1.table :=
  .map (Screening.movesTo_moved _) List.filter_sublist

theorem endLingers_moves (u : ScheduleUnit) (t : Nat) : TableMoves u.table (u.endLingers t).1.table := by
  refine .map (fun r => ?_) (.refl _)
  by_cases h : r.lingerOver u.settings.linger t = true
  · obtain ⟨hc, -⟩ := (lingerOver_iff ..).mp h
    rw [if_pos h]
    exact ⟨rfl, (Phase.movesTo_iff ..).mpr (.inr (.inr (.inr ⟨hc, rfl⟩))), fun _ => iff_of_false nofun nofun⟩
  · rw [if_neg h]
    exact .refl r

/-! ### The directives that are not LOAD SCREENING -/

theorem loadTitle_moves (n m : Nat) (text rating : List Byte) (s : State) :
    TableMoves s.schedule.table (loadTitle n text rating m s).1.schedule.table := by
  by_cases h : 127 < n ∨ text.length < 1 ∨ 48 < text.length ∨ 5 < rating.length ∨ m < 1 ∨ 400 < m
  · rw [loadTitle_outOfRange h]
    exact .refl _
  · rw [loadTitle_done (by omega) fun hbad => h (.inr hbad), done_fst, State.withSchedule_schedule]
    exact .refl _

theorem setPhaseTimes_moves (x : PhaseSettings) (s : State) :
    TableMoves s.schedule.table (setPhaseTimes x s).1.schedule.table := by
  by_cases h : x.valid = true
  · rw [setPhaseTimes_done h, done_fst, State.withSchedule_schedule]
    exact recompute_moves { s.schedule with settings := x }
  · rw [setPhaseTimes_outOfRange h]
    exact .refl _

theorem Screening.movesTo_amended (u : ScheduleUnit) (r : Screening) (f : AmendFields) : r.MovesTo (u.amended r f) := by
  unfold ScheduleUnit.amended
  split
  · obtain ⟨hn, hp, hc⟩ := Screening.movesTo_moved u (f.apply r)
    exact ⟨hn, hp, hc⟩
  · exact ⟨rfl, r.phase.movesTo_refl, id⟩

theorem amendScreening_moves {s : State} (h : s.schedule.Sound) (n : Nat) (f : AmendFields) :
    TableMoves s.schedule.table (amendScreening n f s).1.schedule.table := by
  obtain ⟨hsorted, -, -⟩ := h
  cases hr : findScreening s.schedule.table n with
  | none =>
    rw [amendScreening_noSuch hr]
    exact .refl _
  | some r =>
    by_cases hbad : f.inRange = false ∨ ∃ d, f.delay = some d ∧ 1439 < r.showTime + d
    · rw [amendScreening_outOfRange hr hbad]
      exact .refl _
    · obtain ⟨hin, hd⟩ : f.inRange = true ∧ ∀ d, f.delay = some d → r.showTime + d ≤ 1439 := by simpa using hbad
      rw [amendScreening_of_inRange hr hin hd]
      split
      · exact .refl _
      · rw [done_fst, State.withSchedule_schedule, amend_eq]
        exact .insert hsorted (mem_of_findScreening hr).1 (Screening.movesTo_amended ..)

theorem Screening.movesTo_cancelled {r : Screening} (h : r.phase = .pending ∨ r.phase = .listed ∨ r.phase = .boarding) (t : Nat) :
    r.MovesTo { r with phase := .cancelled, cancelTime := some t } := by
  have hle : r.phase.number ≤ 2 := by obtain h | h | h := h <;> rw [h] <;> decide
  exact ⟨rfl, (Phase.movesTo_iff ..).mpr (.inr (.inr (.inl ⟨hle, rfl⟩))), fun _ => iff_of_true rfl rfl⟩

theorem cancelScreening_moves {s : State} (h : s.schedule.Sound) (n : Nat) :
    TableMoves s.schedule.table (cancelScreening n s).1.schedule.table := by
  obtain ⟨hsorted, -, -⟩ := h
  cases hr : findScreening s.schedule.table n with
  | none =>
    rw [cancelScreening_noSuch hr]
    exact .refl _
  | some r =>
    have hdone (hp : r.phase = .pending ∨ r.phase = .listed ∨ r.phase = .boarding) :
        TableMoves s.schedule.table (cancelScreening n s).1.schedule.table := by
      rw [cancelScreening_done hr hp, done_fst, State.withSchedule_schedule]
      exact .insert hsorted (mem_of_findScreening hr).1 (Screening.movesTo_cancelled hp _)
    cases hp : r.phase with
    | pending => exact hdone (.inl hp)
    | listed => exact hdone (.inr (.inl hp))
    | boarding => exact hdone (.inr (.inr hp))
    | running =>
      rw [cancelScreening_tooLate hr (.inl hp)]
      exact .refl _
    | closed =>
      rw [cancelScreening_tooLate hr (.inr hp)]
      exact .refl _
    | cancelled =>
      rw [cancelScreening_again hr hp]
      exact .refl _

theorem dropScreening_moves (n : Nat) (s : State) : TableMoves s.schedule.table (dropScreening n s).1.schedule.table := by
  cases hr : findScreening s.schedule.table n with
  | none =>
    rw [dropScreening_noSuch hr]
    exact .refl _
  | some r =>
    rw [dropScreening_done hr, done_fst, State.withSchedule_schedule]
    exact .of_sublist List.filter_sublist

/-! ### Every command -/

/-- The screening table moves on from a table to the one a command leads to. -/
def TableKept (table : List Screening) (r : Result) : Prop := Result.Keeps (fun t => TableMoves table t.schedule.table) r

theorem TableKept.next {table : List Screening} {t : State} (h : TableMoves table t.schedule.table) : TableKept table (.next t) :=
  Result.Keeps.next h

/-- What a directive's action makes of the table of every state with the same schedule unit, its command makes of it. -/
theorem TableKept.takeAndAnswer {α : Type} {b : Block} {p : Port} {select : Directive → Option α}
    {act : α → State → State × Reply} {s : State}
    (hact : ∀ a u, u.schedule = s.schedule → TableMoves u.schedule.table (act a u).1.schedule.table) :
    TableKept s.schedule.table (.next (s.takeAndAnswer b p select act)) := by
  refine .next ?_
  obtain e | ⟨-, -, a, u, -, -, -, hu, e⟩ := State.takeAndAnswer_schedule (b := b) (p := p) (select := select) (act := act) s
  · rw [e]
    exact .refl _
  · rw [e, ← hu]
    exact hact a u hu

theorem execScheduleMinuteEvent_moves (s : State) : TableKept s.schedule.table (execScheduleMinuteEvent s) := by
  refine .next ?_
  split
  · dsimp only
    rw [State.withSchedule_schedule]
    exact recompute_moves { s.schedule with viewMinute := some _ }
  · exact .refl _

theorem execScheduleRollover_moves (s : State) : TableKept s.schedule.table (execScheduleRollover s) := by
  refine .next ?_
  split
  · dsimp only
    rw [State.withSchedule_schedule]
    exact rollover_moves s.schedule _
  · exact .refl _

theorem execLingerEnd_moves (s : State) : TableKept s.schedule.table (execLingerEnd s) := by
  refine .next ?_
  split
  · exact .refl _
  · dsimp only
    rw [State.withSchedule_schedule]
    exact endLingers_moves s.schedule _

/-- L4 (R48): every command but LOAD SCREENING moves the screening table on; a full reset empties it. -/
theorem exec_tableKept {i : Instr} {s : State} (h : s.schedule.Sound) (hi : ∀ p, i ≠ .loadScreening p) :
    TableKept s.schedule.table (exec i s) := by
  have hreset (t : State) : TableMoves s.schedule.table t.fullReset.schedule.table :=
    .of_sublist (List.nil_sublist _)
  cases i with
  | loadScreening p => exact absurd rfl (hi p)
  | answerSent p =>
    refine execAnswerSent_preserves (P := fun t => TableMoves s.schedule.table t.schedule.table) (fun hf hp => ?_) hreset
      (.refl _) p
    rwa [← hf.same (.block .schedule) (by simp)]
  | fullReset => exact .next (hreset s)
  | scheduleMinuteEvent => exact execScheduleMinuteEvent_moves s
  | scheduleRollover => exact execScheduleRollover_moves s
  | lingerEnd => exact execLingerEnd_moves s
  | loadTitle p => exact .takeAndAnswer fun _ u _ => loadTitle_moves _ _ _ _ u
  | setPhaseTimes p => exact .takeAndAnswer fun x u _ => setPhaseTimes_moves x u
  | amendScreening p => exact .takeAndAnswer fun _ _ e => amendScreening_moves (e ▸ h) _ _
  | cancelScreening p => exact .takeAndAnswer fun n _ e => cancelScreening_moves (e ▸ h) n
  | dropScreening p => exact .takeAndAnswer fun n u _ => dropScreening_moves n u
  | _ =>
    refine (exec_frame _ s).keeps fun t hf => ?_
    have hsame : s.schedule = t.schedule := hf.same (.block .schedule)
      (by simp [Instr.touches, Instr.takes, Instr.queryKind, Instr.eventTouches, Instr.block])
    rw [← hsame]
    exact .refl _

/-! ### LOAD SCREENING (R51 to R54) -/

/-- A record is put into a table that it does not make too long. -/
theorem ScheduleUnit.Sound.insert {u v : ScheduleUnit} (h : u.Sound) {r : Screening} (hr : r.CancelSound)
    (hv : v.table = insertScreening r u.table) (hle : (insertScreening r u.table).length ≤ 96) : v.Sound := by
  obtain ⟨hsorted, -, hcancel⟩ := h
  unfold ScheduleUnit.Sound
  rw [hv]
  refine ⟨insertScreening_pairwise hsorted r, hle, fun x hx => ?_⟩
  obtain rfl | hx := mem_of_mem_insertScreening hx
  · exact hr
  · exact hcancel x hx

theorem cancelSound_moved_record (u : ScheduleUnit) (f : ScreeningFields) : (u.moved f.record).CancelSound :=
  (Screening.movesTo_moved u f.record).cancel (iff_of_false nofun nofun)

theorem ScheduleUnit.Loads.sound {u v : ScheduleUnit} {f : ScreeningFields} (h : u.Loads f v.table) (hu : u.Sound) : v.Sound := by
  have hrecord := cancelSound_moved_record u f
  obtain ⟨hsorted, hlength, -⟩ := id hu
  generalize hv : v.table = table at h
  cases h with
  | refused => exact hu.of_moves (hv ▸ .refl _)
  | replaced old found =>
    obtain ⟨hold, hn⟩ := mem_of_findScreening found
    have hsame := insertScreening_length_of_mem hsorted hold (hn.trans (moved_number u f.record).symm)
    exact hu.insert hrecord hv (hsame.trans_le hlength)
  | added new room => exact hu.insert hrecord hv ((insertScreening_length_le ..).trans room)
  | gaveUp r new full picked =>
    obtain ⟨hr, -⟩ := mem_of_pickClosed picked
    have hkept : ({ u with table := removeScreening r.number u.table } : ScheduleUnit).Sound :=
      hu.of_moves (.of_sublist List.filter_sublist)
    have hlt : (removeScreening r.number u.table).length < u.table.length :=
      List.length_filter_lt_length_iff_exists.mpr ⟨r, hr, by simp⟩
    exact hkept.insert hrecord hv ((insertScreening_length_le ..).trans (Nat.le_trans hlt hlength))

/-- A LOAD SCREENING leaves every record of another number as it was. -/
theorem ScheduleUnit.Loads.mem_of_ne {u : ScheduleUnit} {f : ScreeningFields} {table : List Screening} (h : u.Loads f table)
    {x : Screening} (hx : x ∈ table) (hn : f.number ≠ x.number) : x ∈ u.table := by
  have hother {t : List Screening} (ht : x ∈ insertScreening (u.moved f.record) t) : x ∈ t := by
    refine (mem_of_mem_insertScreening ht).resolve_left fun he => hn ?_
    rw [he]
    exact (moved_number u f.record).symm
  cases h with
  | refused => exact hx
  | replaced => exact hother hx
  | added => exact hother hx
  | gaveUp => exact List.mem_of_mem_filter (hother hx)

/-- R44, R50, R57: every command keeps the screening table in order. -/
theorem exec_scheduleSound (i : Instr) {s : State} (h : s.schedule.Sound) :
    Result.Keeps (fun t => t.schedule.Sound) (exec i s) := by
  intro t ht
  by_cases hi : ∃ p, i = .loadScreening p
  · obtain ⟨p, rfl⟩ := hi
    obtain e | ⟨q, f, -, -, hload⟩ := exec_loadScreening_cases ht
    · rwa [e]
    · exact hload.sound h
  · exact h.of_moves (exec_tableKept h (not_exists.mp hi) t ht)

/-- Settles O22: LOAD SCREENING keeps the table sound, and every other command moves it on. -/
theorem screeningTableStaysInOrder : Obligations.ScreeningTableStaysInOrder := fun _ _ h hs =>
  step_keeps (P := fun t => t.schedule.Sound) (fun _ _ h => h) (fun i _ h => exec_scheduleSound i h) h hs

/-- Settles O23: in a table in order the record of a number is the one it has come from. -/
theorem phasesMoveOnlyForward : Obligations.PhasesMoveOnlyForward := by
  refine ⟨fun i s t r r' h he hi hr hr' hn => ?_, fun s t p r r' h he hr hr' hn hother => ?_⟩
  · obtain ⟨x, hx, hmove⟩ := (exec_tableKept h hi t he).records r' hr'
    obtain ⟨hsorted, -, -⟩ := h
    obtain rfl := eq_of_number_eq hsorted hr hx (hn.symm.trans hmove.number)
    exact (Phase.movesTo_iff ..).mp hmove.phase
  · have hmem : r' ∈ s.schedule.table := by
      obtain e | ⟨q, f, hq, hd, hload⟩ := exec_loadScreening_cases he
      · exact e ▸ hr'
      · exact hload.mem_of_ne hr' (hn ▸ hother q f hq hd)
    obtain ⟨hsorted, -, -⟩ := h
    exact eq_of_number_eq hsorted hmem hr hn

end Sys2Proof.Machine

end

section
/-! SUPPORT. Settles O24 and O25: the tally table and the availability computation (R63, R78 to R83). -/

namespace Sys2Proof.Machine

open Sys2Proof

/-! ### Tallies found in a table (R63) -/

theorem mem_of_findTally {ts : List Tally} {n : Nat} {t : Tally} (h : findTally ts n = some t) : t ∈ ts ∧ t.number = n :=
  ⟨List.mem_of_find?_eq_some h, by simpa using List.find?_some h⟩

theorem findTally_eq_none_iff (ts : List Tally) (n : Nat) : findTally ts n = none ↔ ∀ x ∈ ts, x.number ≠ n := by
  simp [findTally]

theorem findTally_isSome_iff (ts : List Tally) (n : Nat) : (findTally ts n).isSome = true ↔ ∃ x ∈ ts, x.number = n := by
  simp [findTally]

theorem findTally_cons (x : Tally) (ts : List Tally) (n : Nat) :
    findTally (x :: ts) n = if x.number = n then some x else findTally ts n := by
  by_cases h : x.number = n <;> simp [findTally, h]

/-- In a table in order, a tally is the one found under its number. -/
theorem findTally_of_mem {ts : List Tally} (h : ts.Pairwise fun x y => x.number < y.number) {x : Tally} (hx : x ∈ ts) :
    findTally ts x.number = some x := by
  induction ts with
  | nil => nomatch hx
  | cons y ts ih =>
    obtain ⟨hy, ht⟩ := List.pairwise_cons.mp h
    rw [findTally_cons]
    obtain rfl | hx := List.mem_cons.mp hx
    · exact if_pos rfl
    · rw [if_neg (Nat.ne_of_lt (hy x hx)), ih ht hx]

/-! ### Tallies put into a table (R63) -/

theorem mem_of_mem_insertTally {t x : Tally} {ts : List Tally} (h : x ∈ insertTally t ts) : x = t ∨ x ∈ ts := by
  induction ts with
  | nil => exact .inl (List.mem_singleton.mp h)
  | cons y ts ih => grind [insertTally]

/-- A tally of another number stays. -/
theorem mem_insertTally_of_ne {t x : Tally} {ts : List Tally} (h : x ∈ ts) (hn : x.number ≠ t.number) : x ∈ insertTally t ts := by
  induction ts with
  | nil => nomatch h
  | cons y ts ih => grind [insertTally]

/-- Under its own number the new tally is found, under another what was found before. -/
theorem findTally_insertTally (t : Tally) (ts : List Tally) (n : Nat) :
    findTally (insertTally t ts) n = if t.number = n then some t else findTally ts n := by
  induction ts with
  | nil => exact findTally_cons t [] n
  | cons y ts ih =>
    unfold insertTally
    split
    · exact findTally_cons ..
    · split
      · rename_i heq
        rw [findTally_cons, findTally_cons, ← heq]
        exact ite_congr rfl (fun _ => rfl) fun h => (if_neg h).symm
      · rename_i hne
        rw [findTally_cons, findTally_cons, ih]
        by_cases hy : y.number = n
        · rw [if_pos hy, if_pos hy, if_neg (hy ▸ hne)]
        · rw [if_neg hy, if_neg hy]

/-- A tally goes behind the lower numbers, takes the place of its own number, and goes before the higher ones. -/
theorem insertTally_append {t : Tally} {before same after : List Tally} (hb : ∀ x ∈ before, x.number < t.number)
    (hs : same = [] ∨ ∃ x, same = [x] ∧ x.number = t.number) (ha : ∀ x ∈ after, t.number < x.number) :
    insertTally t (before ++ same ++ after) = before ++ t :: after := by
  induction before with
  | nil =>
    obtain rfl | ⟨x, rfl, hx⟩ := hs
    · cases after with
      | nil => rfl
      | cons x after => exact if_pos (ha x List.mem_cons_self)
    · exact (if_neg (by omega)).trans (if_pos hx.symm)
  | cons x before ih =>
    have hx : x.number < t.number := hb x List.mem_cons_self
    refine (if_neg (by omega)).trans ((if_neg (by omega)).trans ?_)
    exact congrArg (x :: ·) (ih fun y hy => hb y (List.mem_cons_of_mem x hy))

/-- A new number joins the numbers in order. -/
theorem insertTally_pairwise {ts : List Tally} (h : ts.Pairwise fun x y => x.number < y.number) (t : Tally) :
    (insertTally t ts).Pairwise fun x y => x.number < y.number := by
  induction ts with
  | nil => exact List.pairwise_singleton ..
  | cons y ts ih =>
    obtain ⟨hy, ht⟩ := List.pairwise_cons.mp h
    unfold insertTally
    split
    · rename_i hlt
      exact List.pairwise_cons.mpr ⟨List.forall_mem_cons.mpr ⟨hlt, fun x hx => hlt.trans (hy x hx)⟩, h⟩
    · split
      · rename_i heq
        exact List.pairwise_cons.mpr ⟨fun x hx => heq ▸ hy x hx, ht⟩
      · refine List.pairwise_cons.mpr ⟨fun x hx => ?_, ih ht⟩
        obtain rfl | hx := mem_of_mem_insertTally hx
        · omega
        · exact hy x hx

/-! ### The bands (R80, R81) -/

theorem stays_iff (b : BandSettings) (left fill : Nat) :
    (stays b left fill .soldOut = true ↔ left < b.reopenSeats)
      ∧ (stays b left fill .few = true ↔ left ≤ b.fewSeats + b.marginSeats ∨ fill ≥ b.fewFill - b.marginFill)
      ∧ (stays b left fill .filling = true ↔ fill ≥ b.fillingFill - b.marginFill)
      ∧ stays b left fill .plenty = false := by
  simp [stays]

/-- A small auditorium with seats left never shows FILLING or PLENTY. -/
theorem rawBand_eq_few (b : BandSettings) {left fill : Nat} (h : left ≤ b.fewSeats) (hpos : 0 < left) :
    rawBand b left fill = .few := by
  unfold rawBand
  rw [if_neg (by omega), if_pos (.inl h)]

theorem Band.number_injective {a b : Band} (h : a.number = b.number) : a = b := by
  cases a <;> cases b <;> simp [Band.number] at h ⊢

theorem Band.number_le (b : Band) : b.number ≤ 3 := by cases b <;> decide

theorem Band.number_down (b : Band) : b.down.number = b.number - 1 := by cases b <;> rfl

/-- R81: how a band may fall toward a lower raw band: not below it, not staying in any band it passes, and stopping at the raw
band or at a band that stays. -/
structure FallsTo (b : BandSettings) (left fill : Nat) (raw previous new : Band) : Prop where
  raw_le : raw.number ≤ new.number
  le_previous : new.number ≤ previous.number
  passed : ∀ x : Band, new.number < x.number → x.number ≤ previous.number → stays b left fill x = false
  stops : new = raw ∨ stays b left fill new = true

theorem FallsTo.of_stays {b : BandSettings} {left fill : Nat} {raw band : Band} (h : raw.number ≤ band.number)
    (hs : stays b left fill band = true) : FallsTo b left fill raw band band :=
  ⟨h, le_rfl, fun _ hlt hle => absurd hlt (Nat.not_lt.mpr hle), .inr hs⟩

theorem FallsTo.refl (b : BandSettings) (left fill : Nat) (raw : Band) : FallsTo b left fill raw raw raw :=
  ⟨le_rfl, le_rfl, fun _ hlt hle => absurd hlt (Nat.not_lt.mpr hle), .inl rfl⟩

/-- A band that does not stay falls to wherever the band below it falls. -/
theorem FallsTo.step {b : BandSettings} {left fill : Nat} {raw band new : Band} (hs : stays b left fill band = false)
    (h : FallsTo b left fill raw band.down new) : FallsTo b left fill raw band new := by
  obtain ⟨hraw, hle, hpassed, hstops⟩ := h
  rw [Band.number_down] at hle hpassed
  refine ⟨hraw, by omega, fun x hlt hx => ?_, hstops⟩
  by_cases heq : x.number = band.number
  · rw [Band.number_injective heq, hs]
  · exact hpassed x hlt (by omega)

theorem fallBand_fallsTo (b : BandSettings) (left fill : Nat) {raw : Band} (steps : Nat) {band : Band}
    (h : raw.number < band.number) (hn : band.number ≤ raw.number + steps) :
    FallsTo b left fill raw band (fallBand b left fill raw steps band) := by
  induction steps generalizing band with
  | zero => omega
  | succ steps ih =>
    unfold fallBand
    split
    · rename_i hs
      exact .of_stays h.le hs
    · rename_i hs
      refine .step (Bool.eq_false_iff.mpr hs) ?_
      have hdown := band.number_down
      split
      · rename_i hle
        have heq : band.down = raw := Band.number_injective (by omega)
        rw [heq]
        exact .refl ..
      · exact ih (by omega) (by omega)

/-- R81: a band rises at once. -/
theorem newBand_of_le {b : BandSettings} {left fill : Nat} {previous : Band}
    (h : previous.number ≤ (rawBand b left fill).number) : newBand b left fill previous = rawBand b left fill := if_pos h

/-- R81: a band falls by stages. -/
theorem newBand_fallsTo {b : BandSettings} {left fill : Nat} {previous : Band}
    (h : (rawBand b left fill).number < previous.number) :
    FallsTo b left fill (rawBand b left fill) previous (newBand b left fill previous) := by
  have hfall : newBand b left fill previous = fallBand b left fill (rawBand b left fill) 3 previous := if_neg (by omega)
  rw [hfall]
  exact fallBand_fallsTo b left fill 3 h (by have := previous.number_le; omega)

/-- Settles O24: a rise is the raw band, and a fall is `FallsTo`. -/
theorem bandsRiseAtOnceAndFallByStages : Obligations.BandsRiseAtOnceAndFallByStages := by
  refine ⟨fun _ _ _ => rfl, by decide, by decide, by decide, fun b _ _ _ hle hc hpos => rawBand_eq_few b (hle.trans hc) hpos,
    stays_iff, fun b left fill previous => ⟨newBand_of_le, fun h => ?_⟩⟩
  obtain ⟨hraw, hle, hpassed, hstops⟩ := newBand_fallsTo h
  exact ⟨hraw, hle, hpassed, hstops⟩

/-! ### The availability computation (R78 to R83) -/

@[simp] theorem Tally.computed_number (t : Tally) (b : BandSettings) : (t.computed b).number = t.number := rfl

theorem Tally.computed_oversold_iff (t : Tally) (b : BandSettings) :
    (t.computed b).oversold = true ↔ t.capacity < t.sold + t.blocked := decide_eq_true_iff

/-- R78 step 2: the seats left stop at 0. -/
theorem seatsLeft_eq_ite (capacity sold held blocked : Nat) : seatsLeft capacity sold held blocked
    = if sold + held + blocked < capacity then capacity - (sold + held + blocked) else 0 := by
  unfold seatsLeft
  split <;> omega

@[simp] theorem compute_tallies (u : SeatUnit) (t : Tally) :
    (u.compute t).1.tallies = insertTally (t.computed u.bands) u.tallies := rfl

/-- Settles O25: the computed tally and the oversold count, and what is found in the table they are put into. -/
theorem availabilityIsComputed : Obligations.AvailabilityIsComputed := fun u t =>
  ⟨t.computed u.bands, oversoldCount t.oversold (t.computed u.bands).oversold u.oversold, rfl, rfl, rfl, rfl, rfl, rfl,
    seatsLeft_eq_ite .., rfl, t.computed_oversold_iff _, rfl, rfl, rfl, (findTally_insertTally ..).trans (if_pos rfl),
    fun _ hx hn => mem_insertTally_of_ne hx hn, fun _ hx => mem_of_mem_insertTally hx,
    fun _ _ _ hsplit hb hs ha => (congrArg (insertTally _) hsplit).trans (insertTally_append hb hs ha), rfl, fun _ => rfl⟩

end Sys2Proof.Machine

end

section
/-! SUPPORT. Settles O27 and O28: the checks that the six tally messages share, and what each does once they pass (R68 to R75). -/

namespace Sys2Proof.Machine

open Sys2Proof

/-- Taking a directive leaves the seat unit to its effect (R8). -/
theorem State.Takes.seat {s u : State} {b : Block} {p : Port} {q : Packet} {d : Directive} (h : s.Takes b p q d u) :
    u.seat = s.seat := by
  obtain ⟨-, -, -, -, -, rfl⟩ := h
  rfl

/-! ### The presence and phase checks (R68) -/

theorem checkScreening_noSuch {s : State} {n : Nat}
    (h : findScreening s.schedule.table n = none ∨ findTally s.seat.tallies n = none) : s.checkScreening n = .error .noSuch := by
  unfold State.checkScreening
  split
  · rename_i hr ht
    simp [hr, ht] at h
  · rfl

theorem checkScreening_tooLate {s : State} {n : Nat} {r : Screening} {t : Tally} (hr : findScreening s.schedule.table n = some r)
    (ht : findTally s.seat.tallies n = some t) (hp : r.phase = .closed ∨ r.phase = .cancelled) :
    s.checkScreening n = .error .tooLate := by
  unfold State.checkScreening
  rw [hr, ht]
  exact if_pos hp

theorem checkScreening_ok {s : State} {n : Nat} {r : Screening} {t : Tally} (hr : findScreening s.schedule.table n = some r)
    (ht : findTally s.seat.tallies n = some t) (hclosed : r.phase ≠ .closed) (hcancelled : r.phase ≠ .cancelled) :
    s.checkScreening n = .ok t := by
  unfold State.checkScreening
  rw [hr, ht]
  exact if_neg (not_or.mpr ⟨hclosed, hcancelled⟩)

/-- The tally that passes the checks is the screening's. -/
theorem findTally_of_checkScreening {s : State} {n : Nat} {t : Tally} (h : s.checkScreening n = .ok t) :
    findTally s.seat.tallies n = some t := by
  unfold State.checkScreening at h
  split at h
  · rename_i ht
    split at h
    · nomatch h
    · cases h
      exact ht
  · nomatch h

/-- L12: a screening that is absent, CLOSED or CANCELLED, or has no tally, is refused. -/
theorem checkScreening_error {s : State} {n : Nat}
    (h : (∀ r, findScreening s.schedule.table n = some r → r.phase = .closed ∨ r.phase = .cancelled)
      ∨ findTally s.seat.tallies n = none) : ∃ o, s.checkScreening n = .error o := by
  cases hr : findScreening s.schedule.table n with
  | none => exact ⟨_, checkScreening_noSuch (.inl hr)⟩
  | some r =>
    cases ht : findTally s.seat.tallies n with
    | none => exact ⟨_, checkScreening_noSuch (.inr ht)⟩
    | some t => exact ⟨_, checkScreening_tooLate hr ht (h.elim (· r hr) fun hn => nomatch ht.symm.trans hn)⟩

/-! ### Holds found in the list (R72) -/

theorem findHold_eq_none_iff (hs : List Hold) (id : Nat) : findHold hs id = none ↔ ∀ x ∈ hs, x.id ≠ id := by
  simp [findHold]

theorem findHold_isSome_iff (hs : List Hold) (id : Nat) : (findHold hs id).isSome = true ↔ ∃ x ∈ hs, x.id = id := by
  simp [findHold]

/-- R72: a new hold goes behind every hold that expires no later, and before the first that expires later. -/
theorem insertHold_append {h : Hold} {before after : List Hold} (hb : ∀ x ∈ before, x.expiry ≤ h.expiry)
    (ha : ∀ x, after.head? = some x → h.expiry < x.expiry) : insertHold h (before ++ after) = before ++ h :: after := by
  induction before with
  | nil =>
    cases after with
    | nil => rfl
    | cons x after => exact if_neg (Nat.not_le.mpr (ha x rfl))
  | cons x before ih =>
    exact (if_pos (hb x List.mem_cons_self)).trans (congrArg (x :: ·) (ih fun y hy => hb y (List.mem_cons_of_mem x hy)))

/-! ### The checks of each message, as one value (R68) -/

/-- What a message does once its checks are known: refuse with their outcome, or act on what they give. -/
def State.orRefuse {α : Type} (s : State) (check : Except OutcomeCode α) (act : α → State × Reply) : State × Reply :=
  match check with
  | .error o => refuse s o
  | .ok x => act x

theorem orRefuse_ok {α : Type} (s : State) (x : α) (act : α → State × Reply) : s.orRefuse (.ok x) act = act x := rfl

/-- R68: the ranges of a message that names a screening, and behind them the screening's own checks. -/
def State.checkMessage (s : State) (bad : Prop) [Decidable bad] (n : Nat) : Except OutcomeCode Tally :=
  if bad then .error .outOfRange else s.checkScreening n

section Checks
variable {s : State} {bad : Prop} [Decidable bad] {n : Nat}

theorem checkMessage_outOfRange (h : bad) : s.checkMessage bad n = .error .outOfRange := if_pos h

theorem checkMessage_inRange (h : ¬bad) : s.checkMessage bad n = s.checkScreening n := if_neg h

theorem findTally_of_checkMessage {t : Tally} (h : s.checkMessage bad n = .ok t) : findTally s.seat.tallies n = some t := by
  by_cases hb : bad
  · nomatch (checkMessage_outOfRange hb).symm.trans h
  · exact findTally_of_checkScreening ((checkMessage_inRange hb).symm.trans h)

theorem checkMessage_error (h : ∃ o, s.checkScreening n = .error o) : ∃ o, s.checkMessage bad n = .error o := by
  by_cases hb : bad
  · exact ⟨_, checkMessage_outOfRange hb⟩
  · rwa [checkMessage_inRange hb]

theorem orRefuse_checkMessage (act : Tally → State × Reply) :
    s.orRefuse (s.checkMessage bad n) act
      = if bad then refuse s .outOfRange else s.orRefuse (s.checkScreening n) act := by
  by_cases hb : bad
  · rw [checkMessage_outOfRange hb, if_pos hb]
    rfl
  · rw [checkMessage_inRange hb, if_neg hb]

end Checks

theorem checkHold_outOfRange (s : State) : s.checkHold 0 = .error .outOfRange := rfl

theorem checkHold_noSuch {s : State} {id : Nat} (hid : 1 ≤ id) (h : ∀ x ∈ s.seat.holds, x.id ≠ id) :
    s.checkHold id = .error .noSuch := by
  unfold State.checkHold
  rw [if_neg (by omega), (findHold_eq_none_iff ..).mpr h]

/-- Behind its own checks, a hold's message has those of its screening. -/
theorem checkHold_of_findHold {s : State} {id : Nat} {h : Hold} (hid : 1 ≤ id) (hf : findHold s.seat.holds id = some h) :
    s.checkHold id = (s.checkScreening h.screening).map (h, ·) := by
  unfold State.checkHold
  rw [if_neg (by omega), hf]
  dsimp only
  split
  · rename_i hc
    rw [hc]
    rfl
  · rename_i hc
    rw [hc]
    rfl

theorem checkHold_ok {s : State} {id : Nat} {h : Hold} {t : Tally} (hid : 1 ≤ id) (hf : findHold s.seat.holds id = some h)
    (hc : s.checkScreening h.screening = .ok t) : s.checkHold id = .ok (h, t) := by
  rw [checkHold_of_findHold hid hf, hc]
  rfl

theorem checkHold_error_of_screening {s : State} {id : Nat} {h : Hold} {o : OutcomeCode} (hid : 1 ≤ id)
    (hf : findHold s.seat.holds id = some h) (hc : s.checkScreening h.screening = .error o) : s.checkHold id = .error o := by
  rw [checkHold_of_findHold hid hf, hc]
  rfl

theorem checkHold_error {s : State} {id : Nat} {h : Hold} (hf : findHold s.seat.holds id = some h)
    (hc : ∃ o, s.checkScreening h.screening = .error o) : ∃ o, s.checkHold id = .error o := by
  obtain ⟨o, hc⟩ := hc
  cases id with
  | zero => exact ⟨_, checkHold_outOfRange s⟩
  | succ id => exact ⟨o, checkHold_error_of_screening (by omega) hf hc⟩

/-- The hold and the tally that pass the checks are the id's and its screening's. -/
theorem find_of_checkHold {s : State} {id : Nat} {x : Hold × Tally} (h : s.checkHold id = .ok x) :
    findHold s.seat.holds id = some x.1 ∧ findTally s.seat.tallies x.1.screening = some x.2 := by
  unfold State.checkHold at h
  split at h
  · nomatch h
  · split at h
    · nomatch h
    · rename_i hf
      split at h
      · nomatch h
      · rename_i hc
        cases h
        exact ⟨hf, findTally_of_checkScreening hc⟩

/-! ### The six messages (R69 to R75) -/

/-- R69: what SELL does with the tally. -/
def sellTally (n : Nat) (s : State) (t : Tally) : State × Reply :=
  countTally s s.seat { t with sold := min (t.sold + n) 999 } (if 999 < t.sold + n then .doneClamped else .done)

/-- R70: what REFUND does with the tally. -/
def refundTally (n : Nat) (s : State) (t : Tally) : State × Reply :=
  countTally (if t.sold < n then s.sendCondition .seat (.raise .tallyUnderflow) else s) s.seat { t with sold := t.sold - n }
    (if t.sold < n then .doneClamped else .done)

/-- R71: what SET SOLD does with the tally. -/
def setSoldTally (sold blocked : Nat) (s : State) (t : Tally) : State × Reply :=
  countTally s s.seat { t with sold := sold, blocked := blocked } .done

/-- R73: what HOLD does with the tally. -/
def holdTally (scr id seats minutes : Nat) (s : State) (t : Tally) : State × Reply :=
  if (findHold s.seat.holds id).isSome then refuse s .duplicate
  else if 64 ≤ s.seat.holds.length then refuse (s.sendCondition .seat (.raise .holdsFull)) .full
  else if 999 < t.held + seats then refuse s .full
  else
    countTally s { s.seat with holds := insertHold ⟨id, scr, seats, addTime s.clock.runTime (60 * minutes)⟩ s.seat.holds }
      { t with held := t.held + seats } .done

/-- R74: what CONFIRM does with the hold and its tally. -/
def confirmTally (id : Nat) (s : State) (x : Hold × Tally) : State × Reply :=
  countTally s { s.seat with holds := removeHold id s.seat.holds }
    { x.2 with held := x.2.held - x.1.seats, sold := min (x.2.sold + x.1.seats) 999 }
    (if 999 < x.2.sold + x.1.seats then .doneClamped else .done)

/-- R75: what RELEASE does with the hold and its tally. -/
def releaseTally (id : Nat) (s : State) (x : Hold × Tally) : State × Reply :=
  countTally s { s.seat with holds := removeHold id s.seat.holds } { x.2 with held := x.2.held - x.1.seats } .done

theorem sell_eq (scr n : Nat) (s : State) :
    sell scr n s = s.orRefuse (s.checkMessage (scr = 0 ∨ n < 1 ∨ 50 < n) scr) (sellTally n s) := by
  rw [orRefuse_checkMessage]
  unfold sell
  cases s.checkScreening scr <;> rfl

theorem refund_eq (scr n : Nat) (s : State) :
    refund scr n s = s.orRefuse (s.checkMessage (scr = 0 ∨ n < 1 ∨ 50 < n) scr) (refundTally n s) := by
  rw [orRefuse_checkMessage]
  unfold refund
  refine ite_congr rfl (fun _ => rfl) fun _ => ?_
  cases s.checkScreening scr with
  | error o => rfl
  | ok t =>
    show _ = refundTally n s t
    unfold refundTally
    by_cases h : t.sold < n
    · simp only [if_pos h, Nat.sub_eq_zero_of_le h.le]
    · simp only [if_neg h]

theorem setSold_eq (scr sold blocked : Nat) (s : State) :
    setSold scr sold blocked s
      = s.orRefuse (s.checkMessage (scr = 0 ∨ 999 < sold ∨ 999 < blocked) scr) (setSoldTally sold blocked s) := by
  rw [orRefuse_checkMessage]
  unfold setSold
  cases s.checkScreening scr <;> rfl

theorem hold_eq (scr id seats minutes : Nat) (s : State) :
    hold scr id seats minutes s
      = s.orRefuse (s.checkMessage (scr = 0 ∨ id = 0 ∨ seats < 1 ∨ 20 < seats ∨ minutes < 1 ∨ 30 < minutes) scr)
          (holdTally scr id seats minutes s) := by
  rw [orRefuse_checkMessage]
  unfold hold
  cases s.checkScreening scr <;> rfl

theorem confirm_eq (id : Nat) (s : State) : confirm id s = s.orRefuse (s.checkHold id) (confirmTally id s) := by
  unfold confirm
  cases s.checkHold id <;> rfl

theorem release_eq (id : Nat) (s : State) : release id s = s.orRefuse (s.checkHold id) (releaseTally id s) := by
  unfold release
  cases s.checkHold id <;> rfl

/-! ### Refused messages (R68, L12) -/

theorem orRefuse_error_fst {α : Type} {s : State} {check : Except OutcomeCode α} (h : ∃ o, check = .error o)
    (act : α → State × Reply) : (s.orRefuse check act).1 = s := by
  obtain ⟨o, rfl⟩ := h
  rfl

/-- Taking a directive leaves the checks as they were (R8). -/
theorem State.Takes.checkScreening {s u : State} {b : Block} {p : Port} {q : Packet} {d : Directive} (h : s.Takes b p q d u)
    (n : Nat) : u.checkScreening n = s.checkScreening n := by
  obtain ⟨-, -, -, -, -, rfl⟩ := h
  rfl

/-- A directive whose action leaves the state leaves the seat unit and sends nothing, whether or not it may be taken (R8). -/
theorem exec_leaves_seats {α : Type} {s t : State} {i : Instr} {p : Port} {q : Packet} {d : Directive} {a : α}
    {select : Directive → Option α} {act : α → State → State × Reply}
    (he : exec i s = .next (s.takeAndAnswer .seat p select act)) (ht : exec i s = .next t)
    (hq : (s.handoffOf .seat p).head? = some q) (hd : q.directive = some d) (ha : select d = some a)
    (hact : (act a (s.putHandoff .seat p (s.handoffOf .seat p).tail)).1 = s.putHandoff .seat p (s.handoffOf .seat p).tail) :
    t.seat = s.seat ∧ t.mail = s.mail := by
  obtain rfl : s.takeAndAnswer .seat p select act = t := by
    rw [he] at ht
    cases ht
    rfl
  obtain e | ⟨q', d', a', ⟨hq', hd', -⟩, ha', e⟩ | ⟨q', d', a', -, -, -, -, e⟩ := State.take_cases .seat p select
    (fun q a s => (act a s).1.issue p (q.answer (act a s).2)) s
  · rw [State.takeAndAnswer, e]
    exact ⟨rfl, rfl⟩
  · cases hq.symm.trans hq'
    cases hd.symm.trans hd'
    cases ha.symm.trans ha'
    rw [State.takeAndAnswer, e, hact]
    exact ⟨rfl, rfl⟩
  · rw [State.takeAndAnswer, e]
    exact ⟨rfl, rfl⟩

/-- Settles O28: a screening's refusal is a refusal of each of its six messages. -/
theorem closedScreeningsTakeNoSeats : Obligations.ClosedScreeningsTakeNoSeats := by
  refine ⟨fun s t p i q d scr hq hd hmessage hclosed ht => ?_, fun s u p i q d scr h hmessage => ?_⟩
  · have herror := checkScreening_error hclosed
    have hscreening {bad : Prop} [Decidable bad] : ∃ o,
        (s.putHandoff .seat p (s.handoffOf .seat p).tail).checkMessage bad scr = .error o := checkMessage_error herror
    have hhold {id : Nat} {h : Hold} (hf : findHold s.seat.holds id = some h) (hn : h.screening = scr) :
        ∃ o, (s.putHandoff .seat p (s.handoffOf .seat p).tail).checkHold id = .error o :=
      checkHold_error (s := s.putHandoff ..) hf (hn ▸ herror)
    obtain ⟨n, rfl, rfl⟩ | ⟨n, rfl, rfl⟩ | ⟨a, b, rfl, rfl⟩ | ⟨a, b, c, rfl, rfl⟩ | ⟨id, h, rfl, rfl, hf, hn⟩
      | ⟨id, h, rfl, rfl, hf, hn⟩ := hmessage
    · exact exec_leaves_seats (a := (scr, n)) rfl ht hq hd rfl (by dsimp only; rw [sell_eq, orRefuse_error_fst hscreening])
    · exact exec_leaves_seats (a := (scr, n)) rfl ht hq hd rfl (by dsimp only; rw [refund_eq, orRefuse_error_fst hscreening])
    · exact exec_leaves_seats (a := (scr, a, b)) rfl ht hq hd rfl (by dsimp only; rw [setSold_eq, orRefuse_error_fst hscreening])
    · exact exec_leaves_seats (a := (scr, a, b, c)) rfl ht hq hd rfl (by dsimp only; rw [hold_eq, orRefuse_error_fst hscreening])
    · exact exec_leaves_seats (a := id) rfl ht hq hd rfl (by rw [confirm_eq, orRefuse_error_fst (hhold hf hn)])
    · exact exec_leaves_seats (a := id) rfl ht hq hd rfl (by rw [release_eq, orRefuse_error_fst (hhold hf hn)])
  · have hrefused (o : OutcomeCode) (ho : s.checkScreening scr = .error o) : exec i s = .next (u.answered p q o) := by
      rw [← State.Takes.checkScreening h] at ho
      rw [← State.Takes.seat h] at hmessage
      obtain ⟨n, rfl, rfl, _⟩ | ⟨n, rfl, rfl, _⟩ | ⟨sold, blocked, rfl, rfl, _⟩ | ⟨id, seats, minutes, rfl, rfl, _⟩
        | ⟨id, hold, rfl, rfl, hid, hf, rfl⟩ | ⟨id, hold, rfl, rfl, hid, hf, rfl⟩ := hmessage
      · rw [exec_sell h, sell_eq, checkMessage_inRange (by omega), ho]
        rfl
      · rw [exec_refund h, refund_eq, checkMessage_inRange (by omega), ho]
        rfl
      · rw [exec_setSold h, setSold_eq, checkMessage_inRange (by omega), ho]
        rfl
      · rw [exec_hold h, hold_eq, checkMessage_inRange (by omega), ho]
        rfl
      · rw [exec_confirm h, confirm_eq, checkHold_error_of_screening hid hf ho]
        rfl
      · rw [exec_release h, release_eq, checkHold_error_of_screening hid hf ho]
        rfl
    exact ⟨fun hnone => hrefused _ (checkScreening_noSuch hnone),
      fun r t hr ht hphase => hrefused _ (checkScreening_tooLate hr ht hphase)⟩

/-! ### Accepted messages (R69 to R75) -/

/-- A screening that passes the checks passes them once the message has left its queue (R8). -/
theorem State.Takes.checkScreening_ok {s u : State} {b : Block} {p : Port} {q : Packet} {d : Directive} (h : s.Takes b p q d u)
    {n : Nat} {r : Screening} {t : Tally} (hr : findScreening s.schedule.table n = some r) (hclosed : r.phase ≠ .closed)
    (hcancelled : r.phase ≠ .cancelled) (ht : findTally s.seat.tallies n = some t) : u.checkScreening n = .ok t :=
  (State.Takes.checkScreening h n).trans (Machine.checkScreening_ok hr ht hclosed hcancelled)

section Hold
variable {scr id seats minutes : Nat} {s : State} {t : Tally}

theorem holdTally_duplicate (h : ∃ x ∈ s.seat.holds, x.id = id) :
    holdTally scr id seats minutes s t = refuse s .duplicate := if_pos ((findHold_isSome_iff ..).mpr h)

/-- Where no hold has the id, the list's room and the held count are checked. -/
theorem holdTally_of_new (h : ∀ x ∈ s.seat.holds, x.id ≠ id) :
    holdTally scr id seats minutes s t
      = if 64 ≤ s.seat.holds.length then refuse (s.sendCondition .seat (.raise .holdsFull)) .full
        else if 999 < t.held + seats then refuse s .full
        else countTally s
          { s.seat with holds := insertHold ⟨id, scr, seats, addTime s.clock.runTime (60 * minutes)⟩ s.seat.holds }
          { t with held := t.held + seats } .done := by
  refine if_neg fun hsome => ?_
  obtain ⟨x, hx, hid⟩ := (findHold_isSome_iff ..).mp hsome
  exact h x hx hid

end Hold

/-- Settles O27: each message from its checks, and what it does with the tally that they give. -/
theorem tallyMessagesCountSeats : Obligations.TallyMessagesCountSeats := by
  refine ⟨⟨?_, ?_, ?_, ?_, ?_, ?_⟩, ?_, ?_, ?_⟩
  · intro s u p q scr n r t h hscr hn hle hr hclosed hcancelled ht
    have hok := State.Takes.checkScreening_ok h hr hclosed hcancelled ht
    rw [exec_sell h, sell_eq, checkMessage_inRange (by omega), hok, ← State.Takes.seat h]
    rfl
  · intro s u p q scr n r t h hscr hn hle hr hclosed hcancelled ht
    have hok := State.Takes.checkScreening_ok h hr hclosed hcancelled ht
    rw [exec_refund h, refund_eq, checkMessage_inRange (by omega), hok, ← State.Takes.seat h]
    rfl
  · intro s u p q scr sold blocked r t h hscr hsold hblocked hr hclosed hcancelled ht
    have hok := State.Takes.checkScreening_ok h hr hclosed hcancelled ht
    rw [exec_setSold h, setSold_eq, checkMessage_inRange (by omega), hok, ← State.Takes.seat h]
    rfl
  · intro s u p q scr id seats minutes r t new before after h hscr hid hseats hseats' hminutes hminutes' hr hclosed hcancelled ht
      hfree hroom hheld hnew hsplit hbefore hafter
    have hok := State.Takes.checkScreening_ok h hr hclosed hcancelled ht
    have hinsert := insertHold_append hbefore hafter
    rw [← hsplit, hnew, ← State.Takes.seat h, ← State.Takes.clock h] at hinsert
    rw [← State.Takes.seat h] at hfree hroom
    rw [exec_hold h, hold_eq, checkMessage_inRange (by omega), hok, ← State.Takes.seat h, hnew, ← State.Takes.clock h, ← hinsert]
    rw [orRefuse_ok, holdTally_of_new hfree, if_neg (by omega), if_neg (by omega)]
    rfl
  · intro s u p q id r t hold h hid hf hr hclosed hcancelled ht
    have hok := State.Takes.checkScreening_ok h hr hclosed hcancelled ht
    rw [← State.Takes.seat h] at hf ⊢
    rw [exec_confirm h, confirm_eq, checkHold_ok hid hf hok]
    rfl
  · intro s u p q id r t hold h hid hf hr hclosed hcancelled ht
    have hok := State.Takes.checkScreening_ok h hr hclosed hcancelled ht
    rw [← State.Takes.seat h] at hf ⊢
    rw [exec_release h, release_eq, checkHold_ok hid hf hok]
    rfl
  · intro s u p q scr id seats minutes r t h hscr hid hseats hseats' hminutes hminutes' hr hclosed hcancelled ht
    have hok := State.Takes.checkScreening_ok h hr hclosed hcancelled ht
    rw [exec_hold h, hold_eq, checkMessage_inRange (by omega), hok, orRefuse_ok, ← State.Takes.seat h]
    refine ⟨fun htaken => ?_, fun hfree hfull => ?_, fun hfree hroom hover => ?_⟩
    · rw [holdTally_duplicate htaken]
      rfl
    · rw [holdTally_of_new hfree, if_pos hfull]
      rfl
    · rw [holdTally_of_new hfree, if_neg (by omega), if_pos hover]
      rfl
  · intro s u p q id hid hnone
    refine ⟨fun h => ?_, fun h => ?_⟩
    · rw [← State.Takes.seat h] at hnone
      rw [exec_confirm h, confirm_eq, checkHold_noSuch hid hnone]
      rfl
    · rw [← State.Takes.seat h] at hnone
      rw [exec_release h, release_eq, checkHold_noSuch hid hnone]
      rfl
  · intro s u p q scr n sold blocked id seats minutes
    refine ⟨fun hbad => ⟨fun h => ?_, fun h => ?_⟩, fun hbad h => ?_, fun hbad h => ?_, fun h => ?_, fun h => ?_⟩
    · rw [exec_sell h, sell_eq, checkMessage_outOfRange (by omega)]
      rfl
    · rw [exec_refund h, refund_eq, checkMessage_outOfRange (by omega)]
      rfl
    · rw [exec_setSold h, setSold_eq, checkMessage_outOfRange hbad]
      rfl
    · rw [exec_hold h, hold_eq, checkMessage_outOfRange (by omega)]
      rfl
    · rw [exec_confirm h, confirm_eq, checkHold_outOfRange]
      rfl
    · rw [exec_release h, release_eq, checkHold_outOfRange]
      rfl

end Sys2Proof.Machine

end

section
/-! SUPPORT. Settles O26: the schedule unit's events, run-time seconds and SET BANDS at the seat unit (R64 to R67, R76, R84). -/

namespace Sys2Proof.Machine

open Sys2Proof

/-! ### What the seat unit sends (R79, R83) -/

theorem put_put {α : Type} {n : Nat} (v : Vector α n) (i : Fin n) (a b : α) : put (put v i a) i b = put v i b :=
  Vector.ext fun k hk => by by_cases h : k = i.val <;> simp [put, h]

theorem put_getElem_eq_self {α : Type} {n : Nat} (v : Vector α n) (i : Fin n) : put v i v[i] = v := by
  simp [put]

section Sent
variable {figure : SeatEvent → Option Nat} {condition : SeatEvent → Option ConditionEvent}

/-- Events sent one after another reach the board builder and the link unit in the order sent. -/
theorem foldl_sendSeat (hfigure : ∀ n, figure (.figure n) = some n) (hcondition : ∀ c, condition (.condition c) = some c)
    (hfigure' : ∀ c, figure (.condition c) = none) (hcondition' : ∀ n, condition (.figure n) = none) (es : List SeatEvent)
    (s : State) : es.foldl State.sendSeat s = { s with mail := { s.mail with
      figuresToBuilder := s.mail.figuresToBuilder ++ es.filterMap figure
      conditions := put s.mail.conditions Block.seat.index
        (s.mail.conditions[Block.seat.index] ++ es.filterMap condition) } } := by
  induction es generalizing s with
  | nil => simp only [List.foldl_nil, List.filterMap_nil, List.append_nil, put_getElem_eq_self]
  | cons e es ih =>
    rw [List.foldl_cons, ih]
    cases e with
    | figure n => simp [State.sendSeat, hfigure, hcondition']
    | condition c => simp [State.sendSeat, State.sendCondition, hfigure', hcondition, put_put]

end Sent

/-! ### The schedule unit's events (R64 to R67) -/

section Events
variable {u : SeatUnit} {n capacity : Nat} {t : Tally}

theorem added_of_none (h : findTally u.tallies n = none) : u.added n capacity = u.compute (Tally.fresh n capacity) := by
  unfold SeatUnit.added
  rw [h]

theorem takeCapacity_of_none (h : findTally u.tallies n = none) : u.takeCapacity n capacity = (u, []) := by
  unfold SeatUnit.takeCapacity
  rw [h]

theorem takeCapacity_of_some (h : findTally u.tallies n = some t) :
    u.takeCapacity n capacity = u.compute { t with capacity := capacity } := by
  unfold SeatUnit.takeCapacity
  rw [h]

theorem added_of_some (h : findTally u.tallies n = some t) :
    u.added n capacity = u.compute { t with capacity := capacity } := by
  unfold SeatUnit.added
  rw [h]
  exact takeCapacity_of_some h

theorem phaseChanged_of_other {phase : Phase} (hclosed : phase ≠ .closed) (hcancelled : phase ≠ .cancelled) :
    u.phaseChanged n phase = (u, []) := if_neg (not_or.mpr ⟨hclosed, hcancelled⟩)

theorem phaseChanged_of_none {phase : Phase} (hp : phase = .closed ∨ phase = .cancelled) (h : findTally u.tallies n = none) :
    u.phaseChanged n phase = ({ u with holds := u.holds.filter fun h => h.screening ≠ n }, []) := by
  refine (if_pos hp).trans ?_
  dsimp only
  rw [h]

theorem phaseChanged_of_some {phase : Phase} (hp : phase = .closed ∨ phase = .cancelled) (h : findTally u.tallies n = some t) :
    u.phaseChanged n phase
      = SeatUnit.compute { u with holds := u.holds.filter fun h => h.screening ≠ n } { t with held := 0 } := by
  refine (if_pos hp).trans ?_
  dsimp only
  rw [h]

theorem removed_of_none (h : findTally u.tallies n = none) : u.removed n = (u, []) := by
  unfold SeatUnit.removed
  rw [h]

theorem removed_of_some (h : findTally u.tallies n = some t) :
    u.removed n = ({ u with
        holds := u.holds.filter fun h => h.screening ≠ n
        tallies := u.tallies.filter fun x => x.number ≠ n
        oversold := if t.oversold then u.oversold - 1 else u.oversold },
      if t.oversold ∧ (if t.oversold then u.oversold - 1 else u.oversold) = 0 then [.condition (.ends .oversold)] else []) := by
  unfold SeatUnit.removed
  rw [h]

end Events

/-- The event at the head of the schedule unit's queue is taken where the command is the event's. -/
theorem takeSeatEvent_cons {s : State} {act : ScheduleEvent → Option (SeatUnit × List SeatEvent)} {e : ScheduleEvent}
    {rest : List ScheduleEvent} {x : SeatUnit × List SeatEvent} (h : s.mail.scheduleToSeat = e :: rest) (hact : act e = some x) :
    s.takeSeatEvent act = ({ s with mail := { s.mail with scheduleToSeat := rest } } : State).withSeat x := by
  unfold State.takeSeatEvent
  rw [h]
  dsimp only
  rw [hact]

theorem exec_screeningAdded_cons {s : State} {n c : Nat} {rest : List ScheduleEvent}
    (h : s.mail.scheduleToSeat = .added n c :: rest) : exec .screeningAdded s
      = .next (({ s with mail := { s.mail with scheduleToSeat := rest } } : State).withSeat (s.seat.added n c)) :=
  congrArg Host.Outcome.next (takeSeatEvent_cons h rfl)

theorem exec_capacityChanged_cons {s : State} {n c : Nat} {rest : List ScheduleEvent}
    (h : s.mail.scheduleToSeat = .capacityChanged n c :: rest) : exec .capacityChanged s
      = .next (({ s with mail := { s.mail with scheduleToSeat := rest } } : State).withSeat (s.seat.takeCapacity n c)) :=
  congrArg Host.Outcome.next (takeSeatEvent_cons h rfl)

theorem exec_seatPhaseChanged_cons {s : State} {n : Nat} {phase : Phase} {rest : List ScheduleEvent}
    (h : s.mail.scheduleToSeat = .phaseChanged n phase :: rest) : exec .seatPhaseChanged s
      = .next (({ s with mail := { s.mail with scheduleToSeat := rest } } : State).withSeat (s.seat.phaseChanged n phase)) :=
  congrArg Host.Outcome.next (takeSeatEvent_cons h rfl)

theorem exec_seatScreeningRemoved_cons {s : State} {n : Nat} {rest : List ScheduleEvent}
    (h : s.mail.scheduleToSeat = .removed n :: rest) : exec .seatScreeningRemoved s
      = .next (({ s with mail := { s.mail with scheduleToSeat := rest } } : State).withSeat (s.seat.removed n)) :=
  congrArg Host.Outcome.next (takeSeatEvent_cons h rfl)

/-! ### Hold expiry (R76) -/

theorem exec_holdExpiry_some {s : State} {t : Nat} (h : s.nextSecond .seat = some t) :
    exec .holdExpiry s = .next ((s.dropSecond .seat).withSeat (s.seat.expire t)) := by
  show execHoldExpiry s = _
  unfold execHoldExpiry
  rw [h]

/-- R76: the holds that leave are those before the first one that is not due. -/
theorem expire_eq {u : SeatUnit} {t : Nat} {gone kept : List Hold} (hsplit : u.holds = gone ++ kept)
    (hgone : ∀ h ∈ gone, h.expiry ≤ t) (hkept : ∀ h, kept.head? = some h → t < h.expiry) :
    u.expire t = SeatUnit.computeAll { u with holds := kept }
      ((u.tallies.filter fun x => gone.any fun h => h.screening = x.number).map fun x =>
        { x with held := x.held - heldSeats gone x.number }) := by
  have hgone' : ∀ h ∈ gone, decide (h.expiry ≤ t) = true := fun h hm => decide_eq_true (hgone h hm)
  have hkeep : kept.takeWhile (fun h => h.expiry ≤ t) = [] ∧ kept.dropWhile (fun h => h.expiry ≤ t) = kept := by
    cases kept with
    | nil => exact ⟨rfl, rfl⟩
    | cons x kept => simp [hkept x rfl]
  obtain ⟨htake, hdrop⟩ := hkeep
  unfold SeatUnit.expire
  rw [hsplit, List.takeWhile_append_of_pos hgone', List.dropWhile_append_of_pos hgone', htake, hdrop, List.append_nil]

/-! ### SET BANDS (R84) -/

theorem BandSettings.valid_iff (b : BandSettings) : b.valid = true ↔ 1 ≤ b.fewSeats ∧ b.fewSeats ≤ 99 ∧ 500 ≤ b.fewFill
    ∧ b.fewFill ≤ 1000 ∧ 100 ≤ b.fillingFill ∧ b.fillingFill ≤ 900 ∧ b.marginSeats ≤ 20 ∧ b.marginFill ≤ 100 ∧ 1 ≤ b.reopenSeats
    ∧ b.reopenSeats ≤ 20 ∧ b.fillingFill < b.fewFill := by
  simp [BandSettings.valid, and_assoc]

theorem setBands_outOfRange {b : BandSettings} (h : ¬b.valid = true) (s : State) : setBands b s = refuse s .outOfRange := if_neg h

theorem setBands_done {b : BandSettings} (h : b.valid = true) (s : State) :
    setBands b s = done (s.withSeat (({ s.seat with bands := b } : SeatUnit).computeAll s.seat.tallies)) := if_pos h

/-- Settles O26: each event from the unit's own operation on it, and what is sent from `foldl_sendSeat`. -/
theorem seatUnitFollowsTheSchedule : Obligations.SeatUnitFollowsTheSchedule := by
  refine ⟨⟨?_, ?_, ?_, ?_, ?_⟩, ?_,
    fun s x => foldl_sendSeat (fun _ => rfl) (fun _ => rfl) (fun _ => rfl) (fun _ => rfl) x.2 { s with seat := x.1 },
    fun _ _ => rfl, fun _ _ => rfl⟩
  · intro s u n c rest h hu
    rw [exec_screeningAdded_cons h, hu]
    exact ⟨fun hnone => by rw [added_of_none hnone]; rfl, fun t ht => by rw [added_of_some ht]⟩
  · intro s u n c rest h hu
    rw [exec_capacityChanged_cons h, hu]
    exact ⟨fun hnone => by rw [takeCapacity_of_none hnone]; rfl, fun t ht => by rw [takeCapacity_of_some ht]⟩
  · intro s u n phase rest h hu
    rw [exec_seatPhaseChanged_cons h, hu]
    exact ⟨fun hclosed hcancelled => by rw [phaseChanged_of_other hclosed hcancelled]; rfl,
      fun t hp ht => by rw [phaseChanged_of_some hp ht]⟩
  · intro s u n rest h hu
    rw [exec_seatScreeningRemoved_cons h, hu]
    exact ⟨fun hnone => by rw [removed_of_none hnone]; rfl, fun t count ht hcount => by rw [removed_of_some ht, hcount]⟩
  · intro s t gone kept h hsplit hgone hkept
    rw [exec_holdExpiry_some h, expire_eq hsplit hgone hkept]
    rfl
  · intro s u p q b h
    rw [exec_setBands h, ← State.Takes.seat h]
    refine ⟨fun hvalid => ?_, fun hbad => ?_⟩
    · rw [setBands_done (b.valid_iff.mpr hvalid)]
      rfl
    · rw [setBands_outOfRange (by rw [b.valid_iff]; omega)]
      rfl

end Sys2Proof.Machine

end

section
/-! SUPPORT. Settles O29: the seat laws (R72, R78, R79). The hold list and the oversold count, a seat unit in the course of its
availability computations, and what each command does to it. -/

namespace Sys2Proof.Machine

open Sys2Proof

/-! ### The seats of a screening's holds (R72) -/

theorem heldSeats_cons (h : Hold) (hs : List Hold) (n : Nat) :
    heldSeats (h :: hs) n = (if h.screening = n then h.seats else 0) + heldSeats hs n := by
  by_cases hn : h.screening = n <;> simp [heldSeats, hn]

theorem heldSeats_append (hs ks : List Hold) (n : Nat) : heldSeats (hs ++ ks) n = heldSeats hs n + heldSeats ks n := by
  simp [heldSeats]

theorem heldSeats_perm {hs ks : List Hold} (h : hs.Perm ks) (n : Nat) : heldSeats hs n = heldSeats ks n :=
  ((h.filter _).map _).sum_eq

theorem heldSeats_eq_zero {hs : List Hold} {n : Nat} (h : ∀ x ∈ hs, x.screening ≠ n) : heldSeats hs n = 0 := by
  unfold heldSeats
  rw [List.filter_eq_nil_iff.mpr fun x hx => by simpa using h x hx]
  rfl

/-- Without a screening's holds, the holds of the others are as they were. -/
theorem heldSeats_filter_ne {n m : Nat} (hm : m ≠ n) (hs : List Hold) :
    heldSeats (hs.filter fun h => h.screening ≠ n) m = heldSeats hs m := by
  unfold heldSeats
  rw [List.filter_filter]
  congr 2
  refine List.filter_congr fun x _ => ?_
  by_cases hx : x.screening = m <;> simp [hx, hm]

/-! ### The hold list (R72, L3) -/

theorem insertHold_perm (h : Hold) (hs : List Hold) : (insertHold h hs).Perm (h :: hs) := by
  induction hs with
  | nil => exact .refl _
  | cons x hs ih =>
    unfold insertHold
    split
    · exact (ih.cons x).trans (.swap ..)
    · exact .refl _

theorem heldSeats_insertHold (h : Hold) (hs : List Hold) (n : Nat) :
    heldSeats (insertHold h hs) n = (if h.screening = n then h.seats else 0) + heldSeats hs n :=
  (heldSeats_perm (insertHold_perm h hs) n).trans (heldSeats_cons ..)

theorem insertHold_pairwise {hs : List Hold} (hp : hs.Pairwise fun a b => a.expiry ≤ b.expiry) (h : Hold) :
    (insertHold h hs).Pairwise fun a b => a.expiry ≤ b.expiry := by
  induction hs with
  | nil => exact List.pairwise_singleton ..
  | cons x hs ih =>
    obtain ⟨hx, hs'⟩ := List.pairwise_cons.mp hp
    unfold insertHold
    split
    · rename_i hle
      have hall : ∀ y ∈ h :: hs, x.expiry ≤ y.expiry := List.forall_mem_cons.mpr ⟨hle, hx⟩
      exact List.pairwise_cons.mpr ⟨fun y hy => hall y ((insertHold_perm h hs).mem_iff.mp hy), ih hs'⟩
    · rename_i hlt
      exact List.pairwise_cons.mpr ⟨List.forall_mem_cons.mpr ⟨by omega, fun y hy => by have := hx y hy; omega⟩, hp⟩

/-- An id names one hold: that hold and the list without it are the list. -/
theorem removeHold_perm {hs : List Hold} (hn : (hs.map Hold.id).Nodup) {id : Nat} {h : Hold} (hf : findHold hs id = some h) :
    (h :: removeHold id hs).Perm hs := by
  induction hs with
  | nil => nomatch hf
  | cons x hs ih =>
    obtain ⟨hx, hs'⟩ := List.nodup_cons.mp hn
    by_cases hid : x.id = id
    · obtain rfl : x = h := by simpa [findHold, hid] using hf
      have hother : removeHold id hs = hs := List.filter_eq_self.mpr fun y hy => by
        have hne : y.id ≠ id := fun he => hx (by rw [hid, ← he]; exact List.mem_map_of_mem hy)
        simpa using hne
      have hremove : removeHold id (x :: hs) = hs := (List.filter_cons_of_neg (by simpa using hid)).trans hother
      rw [hremove]
    · have hremove : removeHold id (x :: hs) = x :: removeHold id hs := List.filter_cons_of_pos (by simpa using hid)
      rw [hremove]
      exact (List.Perm.swap ..).trans ((ih hs' (by simpa [findHold, hid] using hf)).cons x)

theorem SeatUnit.HoldsOrdered.of_sublist {u v : SeatUnit} (h : u.HoldsOrdered) (hs : v.holds.Sublist u.holds) :
    v.HoldsOrdered := by
  obtain ⟨hlength, hids, hexpiry⟩ := h
  exact ⟨hs.length_le.trans hlength, hids.sublist (hs.map _), hexpiry.sublist hs⟩

/-- L3: a hold of a new id joins a list that has room. -/
theorem SeatUnit.HoldsOrdered.insert {u v : SeatUnit} (h : u.HoldsOrdered) {x : Hold} (hv : v.holds = insertHold x u.holds)
    (hfree : ∀ y ∈ u.holds, y.id ≠ x.id) (hroom : u.holds.length < 64) : v.HoldsOrdered := by
  obtain ⟨-, hids, hexpiry⟩ := h
  have hperm := insertHold_perm x u.holds
  unfold SeatUnit.HoldsOrdered
  rw [hv]
  refine ⟨by rw [hperm.length_eq]; exact hroom, ((hperm.map Hold.id).nodup_iff).mpr ?_, insertHold_pairwise hexpiry x⟩
  refine List.nodup_cons.mpr ⟨fun hm => ?_, hids⟩
  obtain ⟨y, hy, he⟩ := List.mem_map.mp hm
  exact hfree y hy he

/-! ### The oversold count (R79) -/

/-- The tallies of a table that are oversold. -/
def countOversold (ts : List Tally) : Nat := (ts.filter fun t => t.oversold).length

/-- The oversold flag of a number's tally; a number without one is not oversold. -/
def flagOf (ts : List Tally) (n : Nat) : Bool := (findTally ts n).any Tally.oversold

theorem flagOf_of_some {ts : List Tally} {n : Nat} {t : Tally} (h : findTally ts n = some t) : flagOf ts n = t.oversold := by
  rw [flagOf, h]
  rfl

theorem flagOf_of_none {ts : List Tally} {n : Nat} (h : findTally ts n = none) : flagOf ts n = false := by
  rw [flagOf, h]
  rfl

theorem countOversold_cons (t : Tally) (ts : List Tally) : countOversold (t :: ts) = countOversold ts + t.oversold.toNat := by
  cases h : t.oversold <;> simp [countOversold, h]

/-- In a table in order, a tally put in counts for the one whose place it takes. -/
theorem countOversold_insertTally {ts : List Tally} (h : ts.Pairwise fun x y => x.number < y.number) (t : Tally) :
    countOversold (insertTally t ts) + (flagOf ts t.number).toNat = countOversold ts + t.oversold.toNat := by
  induction ts with
  | nil => rw [flagOf_of_none rfl]; exact countOversold_cons t []
  | cons y ts ih =>
    obtain ⟨hy, ht⟩ := List.pairwise_cons.mp h
    unfold insertTally
    split
    · rename_i hlt
      have hnone : findTally (y :: ts) t.number = none := (findTally_eq_none_iff ..).mpr <|
        List.forall_mem_cons.mpr ⟨by omega, fun x hx => by have := hy x hx; omega⟩
      rw [flagOf_of_none hnone, countOversold_cons]
      rfl
    · split
      · rename_i heq
        rw [flagOf_of_some ((findTally_cons ..).trans (if_pos heq.symm)), countOversold_cons, countOversold_cons]
        omega
      · rename_i hne
        have hflag : flagOf (y :: ts) t.number = flagOf ts t.number := by
          rw [flagOf, findTally_cons, if_neg (Ne.symm hne), flagOf]
        have hrest := ih ht
        rw [hflag, countOversold_cons, countOversold_cons]
        omega

/-- A tally taken out of a table in order counts no longer. -/
theorem countOversold_filter_ne {ts : List Tally} (h : ts.Pairwise fun x y => x.number < y.number) {n : Nat} {t : Tally}
    (hf : findTally ts n = some t) : countOversold (ts.filter fun x => x.number ≠ n) + t.oversold.toNat = countOversold ts := by
  induction ts with
  | nil => nomatch hf
  | cons y ts ih =>
    obtain ⟨hy, ht⟩ := List.pairwise_cons.mp h
    rw [findTally_cons] at hf
    by_cases hn : y.number = n
    · rw [if_pos hn] at hf
      cases hf
      have hother : ts.filter (fun x => x.number ≠ n) = ts := List.filter_eq_self.mpr fun x hx => by
        have := hy x hx
        exact decide_eq_true (by omega)
      rw [List.filter_cons_of_neg (by simpa using hn), hother, countOversold_cons]
    · rw [if_neg hn] at hf
      have hrest := ih ht hf
      rw [List.filter_cons_of_pos (by simpa using hn), countOversold_cons, countOversold_cons]
      omega

/-- R79: the count changed by the flag's move is the count of the table with the move. -/
theorem oversoldCount_of_add_eq {before after : Bool} {old new : Nat} (h : new + before.toNat = old + after.toNat) :
    oversoldCount before after old = new := by
  unfold oversoldCount
  cases before <;> cases after <;> simp at h ⊢ <;> omega

/-! ### A seat unit in the course of its computations (R78) -/

/-- L1, L2, R78: a tally's left, held count and oversold flag are right. -/
structure Tally.Right (t : Tally) (holds : List Hold) : Prop where
  left : t.left = seatsLeft t.capacity t.sold t.held t.blocked
  held : t.held = heldSeats holds t.number
  oversold : t.oversold = true ↔ t.capacity < t.sold + t.blocked

/-- A seat unit that is sound but for the tallies `ts`, which are yet to be computed: each has its held count and the flag that
the table has. -/
structure SeatUnit.Computing (u : SeatUnit) (ts : List Tally) : Prop where
  sorted : u.tallies.Pairwise fun a b => a.number < b.number
  tallied : ∀ h ∈ u.holds, (findTally u.tallies h.screening).isSome = true
  ordered : u.HoldsOrdered
  counted : u.oversold = countOversold u.tallies
  right : ∀ x ∈ u.tallies, (∃ t ∈ ts, t.number = x.number) ∨ x.Right u.holds
  distinct : ts.Pairwise fun a b => a.number ≠ b.number
  held : ∀ t ∈ ts, t.held = heldSeats u.holds t.number
  flag : ∀ t ∈ ts, t.oversold = flagOf u.tallies t.number

theorem SeatUnit.Sound.right {u : SeatUnit} (h : u.Sound) {x : Tally} (hx : x ∈ u.tallies) : x.Right u.holds := by
  obtain ⟨-, -, hleft, hheld, -, hflags, -⟩ := h
  exact ⟨hleft x hx, hheld x hx, hflags x hx⟩

/-- With nothing left to compute, the unit is sound. -/
theorem SeatUnit.computing_nil_iff (u : SeatUnit) : u.Computing [] ↔ u.Sound := by
  constructor
  · intro h
    have hright (t : Tally) (ht : t ∈ u.tallies) : t.Right u.holds := (h.right t ht).resolve_left fun ⟨_, hm, _⟩ => nomatch hm
    exact ⟨h.sorted, h.tallied, fun t ht => (hright t ht).left, fun t ht => (hright t ht).held, h.ordered,
      fun t ht => (hright t ht).oversold, h.counted⟩
  · intro h
    obtain ⟨hsorted, htallied, -, -, hordered, -, hcount⟩ := id h
    exact ⟨hsorted, htallied, hordered, hcount, fun t ht => .inr (h.right ht), .nil, nofun, nofun⟩

theorem Tally.computed_right {t : Tally} {holds : List Hold} (h : t.held = heldSeats holds t.number) (b : BandSettings) :
    (t.computed b).Right holds := ⟨rfl, h, t.computed_oversold_iff b⟩

/-- A tally of a table that one has been put into is that one, or has another number. -/
theorem eq_or_ne_of_mem_insertTally {ts : List Tally} (h : ts.Pairwise fun x y => x.number < y.number) {t x : Tally}
    (hx : x ∈ insertTally t ts) : x = t ∨ (x ∈ ts ∧ t.number ≠ x.number) := by
  refine or_iff_not_imp_left.mpr fun hne => ⟨(mem_of_mem_insertTally hx).resolve_left hne, fun hn => hne ?_⟩
  have hfound := findTally_of_mem (insertTally_pairwise h t) hx
  rw [findTally_insertTally, if_pos hn] at hfound
  exact (Option.some.inj hfound).symm

/-- The computation of the first tally leaves the others to be computed. -/
theorem SeatUnit.Computing.compute {u : SeatUnit} {t : Tally} {ts : List Tally} (h : u.Computing (t :: ts)) :
    (u.compute t).1.Computing ts := by
  obtain ⟨hne, hdistinct⟩ := List.pairwise_cons.mp h.distinct
  have hfind := findTally_insertTally (t.computed u.bands) u.tallies
  refine ⟨insertTally_pairwise h.sorted _, fun x hx => ?_, h.ordered, ?_, fun x hx => ?_, hdistinct,
    fun x hx => h.held x (List.mem_cons_of_mem t hx), fun x hx => ?_⟩
  · rw [compute_tallies, hfind]
    split
    · rfl
    · exact h.tallied x hx
  · have hcount := countOversold_insertTally h.sorted (t.computed u.bands)
    rw [Tally.computed_number, ← h.flag t List.mem_cons_self, ← h.counted] at hcount
    exact oversoldCount_of_add_eq hcount
  · obtain rfl | ⟨hx, hn⟩ := eq_or_ne_of_mem_insertTally h.sorted hx
    · exact .inr (t.computed_right (h.held t List.mem_cons_self) u.bands)
    · refine (h.right x hx).imp_left fun ⟨y, hy, hyn⟩ => ⟨y, (List.mem_cons.mp hy).resolve_left ?_, hyn⟩
      rintro rfl
      exact hn hyn
  · rw [compute_tallies, flagOf, hfind, Tally.computed_number, if_neg (hne x hx)]
    exact h.flag x (List.mem_cons_of_mem t hx)

theorem SeatUnit.Computing.computeAll {u : SeatUnit} {ts : List Tally} (h : u.Computing ts) : (u.computeAll ts).1.Sound := by
  induction ts generalizing u with
  | nil => exact u.computing_nil_iff.mp h
  | cons t ts ih => exact ih h.compute

/-- The computation of the one tally that is not right makes the unit sound. -/
theorem SeatUnit.Computing.sound {u : SeatUnit} {t : Tally} (h : u.Computing [t]) : (u.compute t).1.Sound :=
  (SeatUnit.computing_nil_iff _).mp h.compute

/-! ### One tally changed (R65 to R75) -/

/-- The holds of one screening and its tally's counts are changed together, and the tally is computed. -/
theorem SeatUnit.Sound.compute_holds {u v : SeatUnit} (h : u.Sound) {n : Nat} {t t' : Tally}
    (ht : findTally u.tallies n = some t) (htallies : v.tallies = u.tallies) (hcount : v.oversold = u.oversold)
    (hordered : v.HoldsOrdered) (htallied : ∀ x ∈ v.holds, x ∈ u.holds ∨ x.screening = n)
    (hother : ∀ m, m ≠ n → heldSeats v.holds m = heldSeats u.holds m)
    (hnumber : t'.number = t.number) (hflag : t'.oversold = t.oversold) (hheld : t'.held = heldSeats v.holds n) :
    (v.compute t').1.Sound := by
  have hu := u.computing_nil_iff.mpr h
  obtain ⟨-, hn⟩ := mem_of_findTally ht
  refine SeatUnit.Computing.sound ⟨htallies ▸ hu.sorted, fun x hx => ?_, hordered, ?_, fun x hx => ?_,
    List.pairwise_singleton .., List.forall_mem_singleton.mpr ?_, List.forall_mem_singleton.mpr ?_⟩
  · rw [htallies]
    obtain hx | hx := htallied x hx
    · exact hu.tallied x hx
    · rw [hx, ht]
      rfl
  · rw [hcount, htallies]
    exact hu.counted
  · by_cases hxn : x.number = n
    · exact .inl ⟨t', List.mem_singleton_self t', by rw [hnumber, hn, hxn]⟩
    · obtain ⟨hleft, hheld', hflag'⟩ := h.right (htallies ▸ hx)
      exact .inr ⟨hleft, hheld'.trans (hother x.number hxn).symm, hflag'⟩
  · rw [hheld, hnumber, hn]
  · rw [htallies, hnumber, hn, flagOf_of_some ht, hflag]

theorem SeatUnit.Sound.held_eq {u : SeatUnit} (h : u.Sound) {n : Nat} {t : Tally} (ht : findTally u.tallies n = some t) :
    t.held = heldSeats u.holds n := by
  obtain ⟨hm, hn⟩ := mem_of_findTally ht
  exact hn ▸ (h.right hm).held

theorem SeatUnit.Sound.holdsOrdered {u : SeatUnit} (h : u.Sound) : u.HoldsOrdered := (u.computing_nil_iff.mpr h).ordered

/-- A tally whose held count stays is computed. -/
theorem SeatUnit.Sound.compute {u : SeatUnit} (h : u.Sound) {n : Nat} {t t' : Tally} (ht : findTally u.tallies n = some t)
    (hnumber : t'.number = t.number) (hflag : t'.oversold = t.oversold) (hheld : t'.held = t.held) : (u.compute t').1.Sound :=
  h.compute_holds ht rfl rfl h.holdsOrdered (fun _ hx => .inl hx) (fun _ _ => rfl) hnumber hflag (hheld.trans (h.held_eq ht))

/-- A number without a tally has no holds. -/
theorem SeatUnit.Sound.no_holds {u : SeatUnit} (h : u.Sound) {n : Nat} (hn : findTally u.tallies n = none) :
    ∀ x ∈ u.holds, x.screening ≠ n := by
  rintro x hx rfl
  obtain ⟨-, htallied, -⟩ := h
  have hsome := htallied x hx
  rw [hn] at hsome
  nomatch hsome

/-! ### The schedule unit's events (R64 to R67) -/

theorem SeatUnit.Sound.takeCapacity {u : SeatUnit} (h : u.Sound) (n capacity : Nat) : (u.takeCapacity n capacity).1.Sound := by
  cases ht : findTally u.tallies n with
  | none => rwa [takeCapacity_of_none ht]
  | some t =>
    rw [takeCapacity_of_some ht]
    exact h.compute ht rfl rfl rfl

theorem SeatUnit.Sound.added {u : SeatUnit} (h : u.Sound) (n capacity : Nat) : (u.added n capacity).1.Sound := by
  cases ht : findTally u.tallies n with
  | some t =>
    rw [added_of_some ht]
    exact h.compute ht rfl rfl rfl
  | none =>
    rw [added_of_none ht]
    obtain ⟨hsorted, htallied, hordered, hcount, -⟩ := u.computing_nil_iff.mpr h
    have hheld : (0 : Nat) = heldSeats u.holds n := (heldSeats_eq_zero (h.no_holds ht)).symm
    exact SeatUnit.Computing.sound ⟨hsorted, htallied, hordered, hcount,
      fun x hx => .inr (h.right hx), List.pairwise_singleton ..,
      List.forall_mem_singleton.mpr hheld, List.forall_mem_singleton.mpr (flagOf_of_none ht).symm⟩

theorem SeatUnit.Sound.phaseChanged {u : SeatUnit} (h : u.Sound) (n : Nat) (phase : Phase) :
    (u.phaseChanged n phase).1.Sound := by
  by_cases hp : phase = .closed ∨ phase = .cancelled
  · cases ht : findTally u.tallies n with
    | none =>
      have hsame : u.holds.filter (fun x => x.screening ≠ n) = u.holds :=
        List.filter_eq_self.mpr fun x hx => decide_eq_true (h.no_holds ht x hx)
      rw [phaseChanged_of_none hp ht, hsame]
      exact h
    | some t =>
      rw [phaseChanged_of_some hp ht]
      refine h.compute_holds ht rfl rfl (h.holdsOrdered.of_sublist List.filter_sublist) (fun x hx => .inl (List.mem_of_mem_filter hx))
        (fun m hm => heldSeats_filter_ne hm _) rfl rfl (heldSeats_eq_zero fun x hx => ?_).symm
      simpa using (List.mem_filter.mp hx).2
  · obtain ⟨hclosed, hcancelled⟩ := not_or.mp hp
    rwa [phaseChanged_of_other hclosed hcancelled]

theorem SeatUnit.Sound.removed {u : SeatUnit} (h : u.Sound) (n : Nat) : (u.removed n).1.Sound := by
  cases ht : findTally u.tallies n with
  | none => rwa [removed_of_none ht]
  | some t =>
    rw [removed_of_some ht]
    obtain ⟨hsorted, htallied, hordered, hcount, -⟩ := u.computing_nil_iff.mpr h
    refine (SeatUnit.computing_nil_iff _).mp ⟨hsorted.sublist List.filter_sublist, fun x hx => ?_,
      hordered.of_sublist List.filter_sublist, ?_, fun x hx => ?_, .nil, nofun, nofun⟩
    · obtain ⟨hx, hn⟩ := List.mem_filter.mp hx
      obtain ⟨y, hy, hyx⟩ := (findTally_isSome_iff ..).mp (htallied x hx)
      exact (findTally_isSome_iff ..).mpr ⟨y, List.mem_filter.mpr ⟨hy, by rwa [hyx]⟩, hyx⟩
    · have hrest := countOversold_filter_ne hsorted ht
      rw [← hcount] at hrest
      dsimp only
      cases hflag : t.oversold with
      | true =>
        rw [hflag] at hrest
        exact Nat.sub_eq_of_eq_add hrest.symm
      | false =>
        rw [hflag] at hrest
        exact hrest.symm
    · obtain ⟨hx, hn⟩ := List.mem_filter.mp hx
      obtain ⟨hleft, hheld, hflag⟩ := h.right hx
      exact .inr ⟨hleft, hheld.trans (heldSeats_filter_ne (by simpa using hn) _).symm, hflag⟩

/-! ### Run-time seconds and SET BANDS (R76, R84) -/

/-- R76: without the holds that leave, each tally that lost one is yet to be computed. -/
theorem SeatUnit.Sound.expire {u : SeatUnit} (h : u.Sound) (t : Nat) : (u.expire t).1.Sound := by
  obtain ⟨hsorted, htallied, hordered, hcount, -⟩ := u.computing_nil_iff.mpr h
  have hsplit : u.holds = u.holds.takeWhile (fun h => h.expiry ≤ t) ++ u.holds.dropWhile (fun h => h.expiry ≤ t) :=
    List.takeWhile_append_dropWhile.symm
  have hheld (n : Nat) := (congrArg (heldSeats · n) hsplit).trans (heldSeats_append ..)
  refine SeatUnit.Computing.computeAll ⟨hsorted, fun x hx => htallied x ((List.dropWhile_sublist _).subset hx),
    hordered.of_sublist (List.dropWhile_sublist _), hcount, fun x hx => ?_, ?_, fun x hx => ?_, fun x hx => ?_⟩
  · by_cases hlost : (u.holds.takeWhile fun h => h.expiry ≤ t).any (fun h => h.screening = x.number) = true
    · exact .inl ⟨_, List.mem_map.mpr ⟨x, List.mem_filter.mpr ⟨hx, hlost⟩, rfl⟩, rfl⟩
    · obtain ⟨hleft, hheld', hflag⟩ := h.right hx
      have hnone : heldSeats (u.holds.takeWhile fun h => h.expiry ≤ t) x.number = 0 :=
        heldSeats_eq_zero (by simpa using hlost)
      refine .inr ⟨hleft, ?_, hflag⟩
      rw [hheld', hheld, hnone, Nat.zero_add]
  · exact List.pairwise_map.mpr ((hsorted.imp Nat.ne_of_lt).sublist List.filter_sublist)
  · obtain ⟨y, hy, rfl⟩ := List.mem_map.mp hx
    have hy' := h.held_eq (findTally_of_mem hsorted (List.mem_of_mem_filter hy))
    dsimp only
    rw [hy', hheld, Nat.add_sub_cancel_left]
  · obtain ⟨y, hy, rfl⟩ := List.mem_map.mp hx
    exact (flagOf_of_some (findTally_of_mem hsorted (List.mem_of_mem_filter hy))).symm

/-- R84: the settings count for no law, so every tally may be computed again. -/
theorem SeatUnit.Sound.setBands {u : SeatUnit} (h : u.Sound) (b : BandSettings) :
    (SeatUnit.computeAll { u with bands := b } u.tallies).1.Sound := by
  obtain ⟨hsorted, htallied, hordered, hcount, -⟩ := u.computing_nil_iff.mpr h
  exact SeatUnit.Computing.computeAll ⟨hsorted, htallied, hordered, hcount, fun x hx => .inl ⟨x, hx, rfl⟩,
    hsorted.imp Nat.ne_of_lt, fun x hx => h.held_eq (findTally_of_mem hsorted hx),
    fun x hx => (flagOf_of_some (findTally_of_mem hsorted hx)).symm⟩

/-! ### The tally messages (R69 to R75) -/

theorem orRefuse_seatSound {α : Type} {s : State} (h : s.seat.Sound) {check : Except OutcomeCode α} {act : α → State × Reply}
    (hact : ∀ x, check = .ok x → (act x).1.seat.Sound) : (s.orRefuse check act).1.seat.Sound := by
  cases check with
  | error o => exact h
  | ok x => exact hact x rfl

theorem countTally_seatSound {s : State} {u : SeatUnit} {t : Tally} {o : OutcomeCode} (h : (u.compute t).1.Sound) :
    (countTally s u t o).1.seat.Sound := by
  show (s.withSeat (u.compute t)).seat.Sound
  rwa [State.withSeat_seat]

section Messages
variable {s : State} (h : s.seat.Sound)
include h

theorem sell_seatSound (scr n : Nat) : (sell scr n s).1.seat.Sound := by
  rw [sell_eq]
  exact orRefuse_seatSound h fun t ht => countTally_seatSound (h.compute (findTally_of_checkMessage ht) rfl rfl rfl)

theorem refund_seatSound (scr n : Nat) : (refund scr n s).1.seat.Sound := by
  rw [refund_eq]
  exact orRefuse_seatSound h fun t ht => countTally_seatSound (h.compute (findTally_of_checkMessage ht) rfl rfl rfl)

theorem setSold_seatSound (scr sold blocked : Nat) : (setSold scr sold blocked s).1.seat.Sound := by
  rw [setSold_eq]
  exact orRefuse_seatSound h fun t ht => countTally_seatSound (h.compute (findTally_of_checkMessage ht) rfl rfl rfl)

/-- R73: the new hold's seats are the screening's, and no other's. -/
theorem hold_seatSound (scr id seats minutes : Nat) : (hold scr id seats minutes s).1.seat.Sound := by
  rw [hold_eq]
  refine orRefuse_seatSound h fun t ht => ?_
  have ht := findTally_of_checkMessage ht
  by_cases htaken : ∃ x ∈ s.seat.holds, x.id = id
  · rw [holdTally_duplicate htaken]
    exact h
  · have hfree : ∀ x ∈ s.seat.holds, x.id ≠ id := fun x hx he => htaken ⟨x, hx, he⟩
    rw [holdTally_of_new hfree]
    split
    · exact h
    · rename_i hroom
      split
      · exact h
      · refine countTally_seatSound (h.compute_holds ht rfl rfl (h.holdsOrdered.insert rfl hfree (by omega)) (fun x hx => ?_)
          (fun m hm => ?_) rfl rfl ?_)
        · obtain rfl | hx := List.mem_cons.mp ((insertHold_perm ..).mem_iff.mp hx)
          · exact .inr rfl
          · exact .inl hx
        · dsimp only
          rw [heldSeats_insertHold, if_neg (Ne.symm hm), Nat.zero_add]
        · dsimp only
          rw [heldSeats_insertHold, if_pos rfl, h.held_eq ht, Nat.add_comm]

/-- R74, R75: the hold that leaves takes its seats from its screening, and from no other. -/
theorem removeHold_seatSound {id : Nat} {x : Hold × Tally} (hx : s.checkHold id = .ok x) {t : Tally}
    (hnumber : t.number = x.2.number) (hflag : t.oversold = x.2.oversold) (hheld : t.held = x.2.held - x.1.seats) :
    (SeatUnit.compute { s.seat with holds := removeHold id s.seat.holds } t).1.Sound := by
  obtain ⟨hf, ht⟩ := find_of_checkHold hx
  obtain ⟨-, hids, -⟩ := h.holdsOrdered
  have hsplit (m : Nat) := (heldSeats_perm (removeHold_perm hids hf) m).symm.trans (heldSeats_cons ..)
  refine h.compute_holds ht rfl rfl (h.holdsOrdered.of_sublist List.filter_sublist)
    (fun y hy => .inl (List.mem_of_mem_filter hy)) (fun m hm => ?_) hnumber hflag ?_
  · rw [hsplit m, if_neg (Ne.symm hm), Nat.zero_add]
  · rw [hheld, h.held_eq ht, hsplit, if_pos rfl, Nat.add_sub_cancel_left]

theorem confirm_seatSound (id : Nat) : (confirm id s).1.seat.Sound := by
  rw [confirm_eq]
  exact orRefuse_seatSound h fun x hx => countTally_seatSound (removeHold_seatSound h hx rfl rfl rfl)

theorem release_seatSound (id : Nat) : (release id s).1.seat.Sound := by
  rw [release_eq]
  exact orRefuse_seatSound h fun x hx => countTally_seatSound (removeHold_seatSound h hx rfl rfl rfl)

theorem setBands_seatSound (b : BandSettings) : (setBands b s).1.seat.Sound := by
  by_cases hv : b.valid = true
  · rw [setBands_done hv, done_fst, State.withSeat_seat]
    exact h.setBands b
  · rw [setBands_outOfRange hv]
    exact h

end Messages

/-! ### Every command -/

theorem takeSeatEvent_seatSound {s : State} (h : s.seat.Sound) {act : ScheduleEvent → Option (SeatUnit × List SeatEvent)}
    (hact : ∀ e x, act e = some x → x.1.Sound) : (s.takeSeatEvent act).seat.Sound := by
  unfold State.takeSeatEvent
  split
  · exact h
  · split
    · exact h
    · rename_i hx
      rw [State.withSeat_seat]
      exact hact _ _ hx

theorem execHoldExpiry_seatSound {s : State} (h : s.seat.Sound) :
    Result.Keeps (fun t => t.seat.Sound) (execHoldExpiry s) := by
  refine .next ?_
  split
  · exact h
  · rw [State.withSeat_seat]
    exact h.expire _

/-- L1, L2, L3, R79: every command keeps the seat laws. -/
theorem exec_seatSound (i : Instr) {s : State} (h : s.seat.Sound) : Result.Keeps (fun t => t.seat.Sound) (exec i s) := by
  have hmove {s t : State} (hf : s.Frame [.queues, .block .link] t) (hs : s.seat.Sound) : t.seat.Sound := by
    rwa [← hf.same (.block .seat) (by simp)]
  have hreset (t : State) : t.fullReset.seat.Sound := reset_seatSound
  cases i with
  | answerSent p => exact execAnswerSent_preserves hmove hreset h p
  | fullReset => exact .next (hreset s)
  | sell p => exact .next (State.takeAndAnswer_preserves hmove (fun _ _ ht => sell_seatSound ht ..) h)
  | refund p => exact .next (State.takeAndAnswer_preserves hmove (fun _ _ ht => refund_seatSound ht ..) h)
  | setSold p => exact .next (State.takeAndAnswer_preserves hmove (fun _ _ ht => setSold_seatSound ht ..) h)
  | hold p => exact .next (State.takeAndAnswer_preserves hmove (fun _ _ ht => hold_seatSound ht ..) h)
  | confirm p => exact .next (State.takeAndAnswer_preserves hmove (fun id _ ht => confirm_seatSound ht id) h)
  | release p => exact .next (State.takeAndAnswer_preserves hmove (fun id _ ht => release_seatSound ht id) h)
  | setBands p => exact .next (State.takeAndAnswer_preserves hmove (fun b _ ht => setBands_seatSound ht b) h)
  | holdExpiry => exact execHoldExpiry_seatSound h
  | screeningAdded =>
    refine .next (takeSeatEvent_seatSound h fun e x hx => ?_)
    cases e with
    | added n c => cases hx; exact h.added n c
    | _ => nomatch hx
  | capacityChanged =>
    refine .next (takeSeatEvent_seatSound h fun e x hx => ?_)
    cases e with
    | capacityChanged n c => cases hx; exact h.takeCapacity n c
    | _ => nomatch hx
  | seatPhaseChanged =>
    refine .next (takeSeatEvent_seatSound h fun e x hx => ?_)
    cases e with
    | phaseChanged n phase => cases hx; exact h.phaseChanged n phase
    | _ => nomatch hx
  | seatScreeningRemoved =>
    refine .next (takeSeatEvent_seatSound h fun e x hx => ?_)
    cases e with
    | removed n => cases hx; exact h.removed n
    | _ => nomatch hx
  | _ =>
    refine (exec_frame _ s).keeps fun t hf => ?_
    have hsame : s.seat = t.seat := hf.same (.block .seat)
      (by simp [Instr.touches, Instr.takes, Instr.queryKind, Instr.eventTouches, Instr.block])
    rwa [← hsame]

/-- Settles O29: a step runs one command, and every command keeps the laws. -/
theorem seatLawsAreKept : Obligations.SeatLawsAreKept := fun _ _ h hs =>
  step_keeps (P := fun t => t.seat.Sound) (fun _ _ h => h) (fun i _ h => exec_seatSound i h) h hs

end Sys2Proof.Machine

end

section
/-! SUPPORT. Settles O30: the orders that row lists stand in, and the entries that a rebuild puts into one (R87, R91, R92). -/

namespace Sys2Proof.Machine

open Sys2Proof

/-! ### The sort orders (R87) -/

/-- R87: the keys are compared in turn. -/
theorem keysLE_iff (a b : Nat × Nat × Nat) : keysLE a b = true ↔
    a.1 < b.1 ∨ a.1 = b.1 ∧ (a.2.1 < b.2.1 ∨ a.2.1 = b.2.1 ∧ a.2.2 ≤ b.2.2) := by
  simp [keysLE]

theorem rowLE_iff (o : SortOrder) (x y : RowEntry) : rowLE o x y = true ↔
    (x.keys o).1 < (y.keys o).1 ∨ (x.keys o).1 = (y.keys o).1 ∧ ((x.keys o).2.1 < (y.keys o).2.1
      ∨ (x.keys o).2.1 = (y.keys o).2.1 ∧ (x.keys o).2.2 ≤ (y.keys o).2.2) :=
  keysLE_iff ..

theorem rowLE_total (o : SortOrder) (x y : RowEntry) : rowLE o x y = true ∨ rowLE o y x = true := by
  rw [rowLE_iff, rowLE_iff]
  omega

theorem rowLE_trans {o : SortOrder} {x y z : RowEntry} (hxy : rowLE o x y = true) (hyz : rowLE o y z = true) :
    rowLE o x z = true := by
  rw [rowLE_iff] at *
  omega

/-! ### The rows of a list (R91, R92) -/

/-- R91: the filters that a definition gives are met, and the phase is shown. -/
theorem BoardDef.admits_iff (d : BoardDef) (day : Nat) (minute : Option Nat) (r : Screening) : d.admits day minute r = true ↔
    (∀ xs, d.auditoriums = some xs → r.auditorium ∈ xs) ∧ (∀ t, d.title = some t → r.title = t)
      ∧ (r.phase = .listed ∨ r.phase = .boarding ∨ r.phase = .running
        ∨ r.phase = .cancelled ∧ d.showCancelled = true ∧ minute.isSome = true ∧ r.day = day) := by
  unfold BoardDef.admits
  rw [Bool.and_eq_true, Bool.and_eq_true, and_assoc]
  refine and_congr ?_ (and_congr ?_ ?_)
  · cases d.auditoriums <;> simp
  · cases d.title <;> simp [eq_comm]
  · cases r.phase <;> simp [and_assoc]

/-- R92: every admitted record's entry, in the board's sort order; the row list is the first 32 of them. -/
def BoardDef.sortedRows (d : BoardDef) (day : Nat) (minute : Option Nat) (table : List Screening) : List RowEntry :=
  ((table.filter (d.admits day minute)).map Screening.rowEntry).insertionSort fun a b => rowLE d.sort a b = true

section Rows
variable (d : BoardDef) (day : Nat) (minute : Option Nat) (table : List Screening)

theorem BoardDef.rowList_eq : d.rowList day minute table = (d.sortedRows day minute table).take 32 := rfl

theorem BoardDef.sortedRows_perm :
    (d.sortedRows day minute table).Perm ((table.filter (d.admits day minute)).map Screening.rowEntry) :=
  List.perm_insertionSort ..

theorem BoardDef.mem_sortedRows (e : RowEntry) :
    e ∈ d.sortedRows day minute table ↔ ∃ r ∈ table, d.admits day minute r = true ∧ r.rowEntry = e := by
  rw [(d.sortedRows_perm day minute table).mem_iff]
  simp [and_assoc]

theorem BoardDef.sortedRows_pairwise : (d.sortedRows day minute table).Pairwise fun x y => rowLE d.sort x y = true := by
  have : Std.Total fun x y : RowEntry => rowLE d.sort x y = true := ⟨rowLE_total d.sort⟩
  have : IsTrans RowEntry fun x y => rowLE d.sort x y = true := ⟨fun _ _ _ => rowLE_trans⟩
  exact List.pairwise_insertionSort ..

theorem BoardDef.rowList_length_le : (d.rowList day minute table).length ≤ 32 := List.length_take_le ..

theorem BoardDef.rowList_sublist : (d.rowList day minute table).Sublist (d.sortedRows day minute table) :=
  List.take_sublist ..

theorem BoardDef.rowList_pairwise : (d.rowList day minute table).Pairwise fun x y => rowLE d.sort x y = true :=
  (d.sortedRows_pairwise day minute table).sublist (d.rowList_sublist ..)

end Rows

/-- A member of an ordered list that is not among its first `n` stands behind `n` of them. -/
theorem mem_take_or_behind {α : Type} {R : α → α → Prop} {l : List α} (h : l.Pairwise R) {a : α} (ha : a ∈ l) (n : Nat) :
    a ∈ l.take n ∨ (l.take n).length = n ∧ ∀ x ∈ l.take n, R x a := by
  rw [← List.take_append_drop n l] at h ha
  obtain ha | ha := List.mem_append.mp ha
  · exact .inl ha
  · obtain ⟨-, -, hbefore⟩ := List.pairwise_append.mp h
    have hlong := List.length_pos_of_mem ha
    rw [List.length_drop] at hlong
    exact .inr ⟨List.length_take_of_le (by omega), fun x hx => hbefore x hx a ha⟩

/-- Settles O30: the row list is the front of the sorted rows, and the sorted rows are the admitted records' entries. -/
theorem rowListHoldsTheFirstAdmitted : Obligations.RowListHoldsTheFirstAdmitted := by
  refine ⟨fun x y => ⟨rowLE_iff .byTime x y, rowLE_iff .byScreen x y⟩, fun d day minute table admitted hadmitted => ?_⟩
  have hadmits (r : Screening) : d.admits day minute r = true ↔ admitted r := (d.admits_iff ..).trans (hadmitted r).symm
  refine ⟨d.rowList_length_le .., d.rowList_pairwise .., fun e he => ?_, fun r hr ha => ?_⟩
  · obtain ⟨r, hr, ha, rfl⟩ := (d.mem_sortedRows ..).mp ((d.rowList_sublist ..).subset he)
    exact ⟨r, hr, (hadmits r).mp ha, rfl⟩
  · exact mem_take_or_behind (d.sortedRows_pairwise ..) ((d.mem_sortedRows ..).mpr ⟨r, hr, (hadmits r).mpr ha, rfl⟩) 32

end Sys2Proof.Machine

end

section
/-! SUPPORT. Settles O31: what changing the defined boards comes to, board by board, and the pages and slots that a rebuild moves
(R92, R93, R95, R96). -/

namespace Sys2Proof.Machine

open Sys2Proof

/-! ### Pages (R93) -/

/-- R93: the rows divided by the rows of a page, rounded up. -/
theorem pageCount_eq (n : Nat) {rows : Nat} (h : 1 ≤ rows) :
    pageCount n rows = max 1 (if n % rows = 0 then n / rows else n / rows + 1) := by
  have hn := Nat.div_add_mod n rows
  have hm := Nat.mod_lt n h
  unfold pageCount
  congr 1
  split
  · rw [Nat.div_eq_iff h, Nat.mul_comm]
    omega
  · rw [Nat.div_eq_iff h, Nat.add_mul, Nat.mul_comm (n / rows)]
    omega

theorem one_le_pageCount (n rows : Nat) : 1 ≤ pageCount n rows := Nat.le_max_left ..

/-- Every row stands on a page. -/
theorem le_pageCount_mul (n : Nat) {rows : Nat} (h : 1 ≤ rows) : n ≤ pageCount n rows * rows := by
  have hn := Nat.lt_div_mul_add h (a := n + rows - 1)
  have hp := Nat.mul_le_mul_right rows (Nat.le_max_right 1 ((n + rows - 1) / rows))
  unfold pageCount
  omega

/-- No page but the first is empty. -/
theorem pageCount_pred_mul_lt {n : Nat} (hn : 1 ≤ n) (rows : Nat) : (pageCount n rows - 1) * rows < n := by
  have hd := Nat.div_mul_le_self (n + rows - 1) rows
  unfold pageCount
  obtain h | h := Nat.le_total ((n + rows - 1) / rows) 1
  · rw [Nat.max_eq_left h]
    omega
  · rw [Nat.max_eq_right h, Nat.sub_mul]
    omega

/-! ### Changing boards -/

theorem setIfInBounds_eq_put {α : Type} {n : Nat} (v : Vector α n) (i : Fin n) (a : α) : v.setIfInBounds i a = put v i a :=
  Vector.ext fun k hk => by rw [Vector.getElem_setIfInBounds, put, Vector.getElem_set]

section Change
variable (u : BuilderUnit) (f : Nat → Board → BoardDef → Board × List TileRequest)

/-- What a change of the defined boards makes of one board, with the requests that it brings. -/
def BuilderUnit.boardChange (i : Fin 8) : Board × List TileRequest :=
  match u.boards[i].defn with
  | none => (u.boards[i], [])
  | some d => f i u.boards[i] d

variable {u f} in
theorem BuilderUnit.boardChange_of_none {i : Fin 8} (h : u.boards[i].defn = none) : u.boardChange f i = (u.boards[i], []) := by
  unfold BuilderUnit.boardChange
  rw [h]

variable {u f} in
theorem BuilderUnit.boardChange_of_some {i : Fin 8} {d : BoardDef} (h : u.boards[i].defn = some d) :
    u.boardChange f i = f i u.boards[i] d := by
  unfold BuilderUnit.boardChange
  rw [h]

theorem BuilderUnit.changeBoard_eq (i : Fin 8) :
    u.changeBoard i (f i) = ({ u with boards := put u.boards i (u.boardChange f i).1 }, (u.boardChange f i).2) := by
  have hi : u.boards[i.val]? = some u.boards[i] := Vector.getElem?_eq_getElem i.isLt
  unfold BuilderUnit.changeBoard
  rw [hi]
  dsimp only
  cases h : u.boards[i].defn with
  | none => rw [BuilderUnit.boardChange_of_none h, put_getElem_eq_self]
  | some d =>
    rw [BuilderUnit.boardChange_of_some h, ← setIfInBounds_eq_put]

/-- The boards of a list are changed one after another; none of these changes sees another. -/
theorem BuilderUnit.changeEach_eq (is : List (Fin 8)) (hs : is.Nodup) (rs : List TileRequest) :
    is.foldl (fun x i => ((x.1.changeBoard i (f i)).1, x.2 ++ (x.1.changeBoard i (f i)).2)) (u, rs)
      = ({ u with boards := Vector.ofFn fun k => if k ∈ is then (u.boardChange f k).1 else u.boards[k] },
          rs ++ is.flatMap fun k => (u.boardChange f k).2) := by
  induction is generalizing u rs with
  | nil => simp
  | cons i is ih =>
    obtain ⟨hi, hs⟩ := List.nodup_cons.mp hs
    have hother {k : Fin 8} (hk : k ≠ i) :
        BuilderUnit.boardChange { u with boards := put u.boards i (u.boardChange f i).1 } f k = u.boardChange f k := by
      simp only [BuilderUnit.boardChange, put_getElem_of_ne _ _ hk]
    rw [List.foldl_cons, u.changeBoard_eq, ih _ hs, List.flatMap_cons, ← List.append_assoc]
    refine Prod.ext ?_ ?_
    · simp only [BuilderUnit.mk.injEq, and_true]
      congr 1
      funext k
      by_cases hk : k = i
      · subst hk
        simp [hi]
      · simp only [List.mem_cons, hk, false_or, put_getElem_of_ne _ _ hk, hother hk]
    · refine congrArg (rs ++ (u.boardChange f i).2 ++ ·) (List.flatMap_congr fun k hk => ?_)
      rw [hother fun he => hi (he ▸ hk)]

/-- Each board's change is worked out from the boards as they were. -/
theorem BuilderUnit.changeAll_eq : u.changeAll f
    = ({ u with boards := Vector.ofFn fun k => (u.boardChange f k).1 },
        (List.finRange 8).flatMap fun k => (u.boardChange f k).2) := by
  unfold BuilderUnit.changeAll
  rw [← List.map_coe_finRange_eq_range, List.foldl_map, u.changeEach_eq f _ (List.nodup_finRange 8)]
  simp

@[simp] theorem BuilderUnit.changeAll_viewDay : (u.changeAll f).1.viewDay = u.viewDay := by rw [u.changeAll_eq]

@[simp] theorem BuilderUnit.changeAll_viewMinute : (u.changeAll f).1.viewMinute = u.viewMinute := by rw [u.changeAll_eq]

theorem BuilderUnit.changeAll_getElem (i : Fin 8) : (u.changeAll f).1.boards[i] = (u.boardChange f i).1 := by
  rw [u.changeAll_eq]
  simp

theorem BuilderUnit.changeAll_requests : (u.changeAll f).2 = (List.finRange 8).flatMap fun i => (u.boardChange f i).2 := by
  rw [u.changeAll_eq]

end Change

/-! ### A rebuild (R92, R93, R96) -/

/-- R92, R93: the page is kept, with its dwell, up to the last one. -/
theorem Board.withRows_eq (b : Board) (d : BoardDef) (rows : List RowEntry) : b.withRows d rows =
    ⟨b.defn, rows, if b.page ≤ pageCount rows.length d.rowsPerPage - 1 then b.page else pageCount rows.length d.rowsPerPage - 1,
      if b.page ≤ pageCount rows.length d.rowsPerPage - 1 then b.dwell else some (10 * d.pageDwell)⟩ := by
  unfold Board.withRows
  by_cases h : b.page ≤ pageCount rows.length d.rowsPerPage - 1
  · simp only [h, if_true, if_neg (Nat.not_lt.mpr h)]
  · simp only [h, if_false, if_pos (Nat.not_le.mp h)]
    rfl

/-- R96: a slot is asked for where its occupant is another, or is the one named. -/
theorem slotChanged_eq (old new : Board) (d : BoardDef) (named : Option Nat) (r : Nat) : slotChanged old new d named r =
    (decide ((old.occupant d r).map RowEntry.screening ≠ (new.occupant d r).map RowEntry.screening)
      || decide (named.isSome = true ∧ (new.occupant d r).map RowEntry.screening = named)) := by
  unfold slotChanged
  dsimp only
  generalize (new.occupant d r).map RowEntry.screening = after
  rw [← Bool.decide_coe after.isSome, ← Bool.decide_and]
  congr 2
  exact propext ⟨fun ⟨hs, he⟩ => ⟨he ▸ hs, he⟩, fun ⟨hs, he⟩ => ⟨he ▸ hs, he⟩⟩

/-- Settles O31: each defined board is rebuilt by itself. -/
theorem rebuildsRedrawWhatMoved : Obligations.RebuildsRedrawWhatMoved := by
  refine ⟨fun n rows h => ⟨pageCount_eq n h, le_pageCount_mul n h, fun hn => pageCount_pred_mul_lt hn rows⟩, fun _ _ _ => rfl,
    fun u table named old new hold hnew => ?_⟩
  have hnew' (i : Fin 8) : new i = _ := (hnew i).trans (u.changeAll_getElem _ i)
  refine ⟨u.changeAll_viewDay _, u.changeAll_viewMinute _, fun i h => ?_, fun i d p h hp => ?_, ?_⟩
  · rw [hnew', BuilderUnit.boardChange_of_none (hold i ▸ h), hold]
  · rw [hnew', BuilderUnit.boardChange_of_some (hold i ▸ h), ← hold, hp, ← h]
    exact Board.withRows_eq ..
  · refine (u.changeAll_requests _).trans (List.flatMap_congr fun i _ => ?_)
    cases h : (old i).defn with
    | none => rw [BuilderUnit.boardChange_of_none (hold i ▸ h)]
    | some d =>
      rw [hnew', BuilderUnit.boardChange_of_some (hold i ▸ h), ← hold]
      exact congrArg (List.map (slotRedraw i)) (List.filter_congr fun r _ => slotChanged_eq ..)

end Sys2Proof.Machine

end

section
/-! SUPPORT. Settles O34: the boards stay sound (R89, R92, R93, L5). What each change of a board keeps, and each command. -/

namespace Sys2Proof.Machine

open Sys2Proof

/-! ### Sound boards -/

theorem Board.sound_of_some {b : Board} {d : BoardDef} (h : b.defn = some d) : b.Sound ↔
    b.rows.length ≤ 32 ∧ (b.rows.map RowEntry.screening).Nodup ∧ b.rows.Pairwise (fun x y => rowLE d.sort x y = true)
      ∧ b.page < pageCount b.rows.length d.rowsPerPage ∧ b.dwell.isSome = true := by
  unfold Board.Sound
  rw [h]

theorem Board.sound_undefined : Board.Sound ⟨none, [], 0, none⟩ := ⟨rfl, rfl, rfl⟩

/-- R92: in a table in order no number stands twice, so no screening has two rows. -/
theorem BoardDef.rowList_nodup {table : List Screening} (h : table.Pairwise fun a b => a.number < b.number) (d : BoardDef)
    (day : Nat) (minute : Option Nat) : ((d.rowList day minute table).map RowEntry.screening).Nodup := by
  have hnumbers : (table.map Screening.number).Nodup := List.pairwise_map.mpr (h.imp Nat.ne_of_lt)
  have hsorted : ((d.sortedRows day minute table).map RowEntry.screening).Nodup := by
    rw [((d.sortedRows_perm day minute table).map _).nodup_iff, List.map_map]
    exact hnumbers.sublist (List.filter_sublist.map Screening.number)
  exact hsorted.sublist ((d.rowList_sublist ..).map _)

section Boards
variable {b : Board} {d : BoardDef}

/-- The rows are kept, the page lies below the page count, and the dwell runs. -/
theorem Board.Sound.turn (h : b.Sound) (hd : b.defn = some d) {page n : Nat}
    (hp : page < pageCount b.rows.length d.rowsPerPage) : Board.Sound { b with page := page, dwell := some n } := by
  obtain ⟨hlength, hnodup, hsorted, -, -⟩ := (Board.sound_of_some hd).mp h
  exact (Board.sound_of_some (b := { b with page := page, dwell := some n }) hd).mpr ⟨hlength, hnodup, hsorted, hp, rfl⟩

theorem Board.Sound.page_lt (h : b.Sound) (hd : b.defn = some d) : b.page < pageCount b.rows.length d.rowsPerPage := by
  obtain ⟨-, -, -, hpage, -⟩ := (Board.sound_of_some hd).mp h
  exact hpage

/-- R94: a tick leaves the board a dwell. -/
theorem Board.Sound.tick (h : b.Sound) (hd : b.defn = some d) : Board.Sound { b with dwell := b.dwell.map (· - 1) } := by
  obtain ⟨hlength, hnodup, hsorted, hpage, hdwell⟩ := (Board.sound_of_some hd).mp h
  exact (Board.sound_of_some (b := { b with dwell := b.dwell.map (· - 1) }) hd).mpr
    ⟨hlength, hnodup, hsorted, hpage, by rwa [Option.isSome_map]⟩

/-- R94: the page turned to lies below the page count. -/
theorem Board.Sound.expire (h : b.Sound) (hd : b.defn = some d) (i : Nat) : (Board.expire i b d).1.Sound := by
  unfold Board.expire
  dsimp only
  split
  · exact h
  · split
    · exact h.turn hd (h.page_lt hd)
    · exact h.turn hd (Nat.mod_lt _ (one_le_pageCount ..))

section Rows
variable {table : List Screening} (ht : table.Pairwise fun a b => a.number < b.number) (day : Nat) (minute : Option Nat)
include ht

/-- R88: a board that is defined shows page 0 of its list. -/
theorem Board.sound_defined (d : BoardDef) (n : Nat) : Board.Sound ⟨some d, d.rowList day minute table, 0, some n⟩ :=
  (Board.sound_of_some rfl).mpr ⟨d.rowList_length_le .., d.rowList_nodup ht .., d.rowList_pairwise .., one_le_pageCount .., rfl⟩

/-- R92, R93: a board that is rebuilt shows a page of its new list. -/
theorem Board.Sound.withRows (h : b.Sound) (hd : b.defn = some d) : (b.withRows d (d.rowList day minute table)).Sound := by
  obtain ⟨-, -, -, -, hdwell⟩ := (Board.sound_of_some hd).mp h
  have hpages := one_le_pageCount (d.rowList day minute table).length d.rowsPerPage
  rw [Board.withRows_eq, hd]
  refine (Board.sound_of_some rfl).mpr ⟨d.rowList_length_le .., d.rowList_nodup ht .., d.rowList_pairwise .., ?_, ?_⟩
  · dsimp only
    split <;> omega
  · dsimp only
    split
    · exact hdwell
    · rfl

end Rows

end Boards

/-! ### The board builder -/

section Change
variable {u : BuilderUnit} {f : Nat → Board → BoardDef → Board × List TileRequest} (h : u.Sound)
include h

/-- R90: a view day and a view minute leave the boards as they are. -/
theorem BuilderUnit.Sound.withView (day : Nat) (minute : Option Nat) : BuilderUnit.Sound ⟨u.boards, day, minute⟩ := h

theorem BuilderUnit.Sound.getElem (i : Fin 8) : u.boards[i].Sound := (forall_mem_toList_iff _).mp h i i.isLt

theorem BuilderUnit.Sound.boardChange (hf : ∀ i b d, b.Sound → b.defn = some d → (f i b d).1.Sound) (i : Fin 8) :
    (u.boardChange f i).1.Sound := by
  cases hd : u.boards[i].defn with
  | none =>
    rw [BuilderUnit.boardChange_of_none hd]
    exact h.getElem i
  | some d =>
    rw [BuilderUnit.boardChange_of_some hd]
    exact hf i _ d (h.getElem i) hd

theorem BuilderUnit.Sound.changeAll (hf : ∀ i b d, b.Sound → b.defn = some d → (f i b d).1.Sound) :
    (u.changeAll f).1.Sound :=
  (forall_mem_toList_iff _).mpr fun k hk => by
    have hsound := h.boardChange hf ⟨k, hk⟩
    rwa [← u.changeAll_getElem] at hsound

theorem BuilderUnit.Sound.changeBoard (hf : ∀ i b d, b.Sound → b.defn = some d → (f i b d).1.Sound) (n : Nat) :
    (u.changeBoard n (f n)).1.Sound := by
  by_cases hn : n < 8
  · rw [u.changeBoard_eq f ⟨n, hn⟩]
    exact forall_put h _ (h.boardChange hf _)
  · rw [BuilderUnit.changeBoard, getElem?_of_le _ (Nat.not_lt.mp hn)]
    exact h

theorem BuilderUnit.Sound.rebuildAll {table : List Screening} (ht : table.Pairwise fun a b => a.number < b.number)
    (named : Option Nat) : (u.rebuildAll table named).1.Sound :=
  h.changeAll fun _ _ _ hb hd => hb.withRows ht _ _ hd

end Change

/-! ### Every command -/

/-- The screening table in order and the boards sound. -/
def State.BoardsSound (s : State) : Prop := s.schedule.Sound ∧ s.builder.Sound

theorem State.BoardsSound.of_frame {s t : State} (h : s.BoardsSound) {ps : List Part} (hf : s.Frame ps t)
    (hs : .block .schedule ∉ ps := by simp) (hb : .block .builder ∉ ps := by simp) : t.BoardsSound := by
  obtain ⟨hschedule, hbuilder⟩ := h
  exact ⟨hf.same (.block .schedule) hs ▸ hschedule, hf.same (.block .builder) hb ▸ hbuilder⟩

theorem defineBoard_boardsSound {s : State} (h : s.BoardsSound) (n : Nat) (f : BoardFields) :
    (defineBoard n f s).1.BoardsSound := by
  obtain ⟨hschedule, hbuilder⟩ := h
  obtain ⟨ht, -, -⟩ := id hschedule
  unfold defineBoard
  split
  · exact ⟨hschedule, hbuilder⟩
  · split
    · rename_i hn
      exact ⟨hschedule, forall_put hbuilder ⟨n, hn⟩ (Board.sound_defined ht ..)⟩
    · exact ⟨hschedule, hbuilder⟩

theorem clearBoard_boardsSound {s : State} (h : s.BoardsSound) (n : Nat) : (clearBoard n s).1.BoardsSound := by
  obtain ⟨hschedule, hbuilder⟩ := h
  unfold clearBoard
  split
  · rename_i hn
    split
    · exact ⟨hschedule, hbuilder⟩
    · exact ⟨hschedule, forall_put hbuilder ⟨n, hn⟩ Board.sound_undefined⟩
  · exact ⟨hschedule, hbuilder⟩

theorem takeBuilderClock_sound {s : State} (h : s.builder.Sound) {act : BuilderEvent → Option (BuilderUnit × List TileRequest)}
    (hact : ∀ e, (act e).elim True fun x => x.1.Sound) : (s.takeBuilderClock act).builder.Sound := by
  unfold State.takeBuilderClock
  split
  · exact h
  · split
    · exact h
    · rename_i e _ _ _ _ hx
      split
      · have hsound := hact e
        rwa [hx] at hsound
      · exact h

theorem takeBuilderSchedule_sound {s : State} (h : s.builder.Sound)
    {act : ScheduleEvent → Option (BuilderUnit × List TileRequest)} (hact : ∀ e, (act e).elim True fun x => x.1.Sound) :
    (s.takeBuilderSchedule act).builder.Sound := by
  unfold State.takeBuilderSchedule
  split
  · exact h
  · split
    · exact h
    · rename_i e _ _ _ _ hx
      split
      · have hsound := hact e
        rwa [hx] at hsound
      · exact h

theorem execFigureChanged_sound {s : State} (h : s.builder.Sound) :
    Result.Keeps (fun t => t.builder.Sound) (execFigureChanged s) := by
  refine .next ?_
  split
  · exact h
  · split <;> exact h

theorem execBoardRestart_sound {s : State} (h : s.builder.Sound) :
    Result.Keeps (fun t => t.builder.Sound) (execBoardRestart s) := by
  refine .next ?_
  split
  · exact h
  · rw [State.withBuilder_builder]
    exact h.changeAll fun _ _ _ hb hd => hb.turn hd (hb.page_lt hd)

section Events
variable {s : State} (h : s.builder.Sound)
include h

theorem execTitleChanged_sound : Result.Keeps (fun t => t.builder.Sound) (execTitleChanged s) := by
  refine .next (takeBuilderSchedule_sound h fun e => ?_)
  cases e with
  | titleChanged n => exact h
  | _ => trivial

theorem execBuilderMinuteEvent_sound : Result.Keeps (fun t => t.builder.Sound) (execBuilderMinuteEvent s) := by
  refine .next (takeBuilderClock_sound h fun e => ?_)
  cases e with
  | minute n => exact h.withView s.builder.viewDay (some n)
  | _ => trivial

theorem execHourFormatChanged_sound : Result.Keeps (fun t => t.builder.Sound) (execHourFormatChanged s) := by
  refine .next (takeBuilderClock_sound h fun e => ?_)
  cases e with
  | hourFormatChanged => exact h
  | _ => trivial

theorem execBuilderTenthTick_sound : Result.Keeps (fun t => t.builder.Sound) (execBuilderTenthTick s) := by
  refine .next (takeBuilderClock_sound h fun e => ?_)
  cases e with
  | tick => exact h.changeAll fun _ _ _ hb hd => hb.tick hd
  | _ => trivial

section Rebuilds
variable (ht : s.schedule.table.Pairwise fun a b => a.number < b.number)
include ht

theorem execBuilderPhaseChanged_sound : Result.Keeps (fun t => t.builder.Sound) (execBuilderPhaseChanged s) := by
  refine .next (takeBuilderSchedule_sound h fun e => ?_)
  cases e with
  | phaseChanged n phase => exact h.rebuildAll ht _
  | _ => trivial

theorem execBuilderScreeningRemoved_sound : Result.Keeps (fun t => t.builder.Sound) (execBuilderScreeningRemoved s) := by
  refine .next (takeBuilderSchedule_sound h fun e => ?_)
  cases e with
  | removed n => exact h.rebuildAll ht _
  | _ => trivial

theorem execScreeningChanged_sound : Result.Keeps (fun t => t.builder.Sound) (execScreeningChanged s) := by
  refine .next (takeBuilderSchedule_sound h fun e => ?_)
  cases e with
  | changed n => exact h.rebuildAll ht _
  | _ => trivial

theorem execBuilderRollover_sound : Result.Keeps (fun t => t.builder.Sound) (execBuilderRollover s) := by
  refine .next (takeBuilderClock_sound h fun e => ?_)
  cases e with
  | rollover day =>
    dsimp only [Option.elim]
    exact (h.withView day (some 0)).rebuildAll ht none
  | _ => trivial

end Rebuilds

end Events

/-- R89, R92, R93, L5: every command keeps the boards sound. -/
theorem exec_builderSound (i : Instr) {s : State} (hs : s.BoardsSound) : Result.Keeps (fun t => t.builder.Sound) (exec i s) := by
  obtain ⟨⟨ht, -, -⟩, h⟩ := id hs
  have hmove {s t : State} (hf : s.Frame [.queues, .block .link] t) (hs : s.BoardsSound) : t.BoardsSound := hs.of_frame hf
  have hreset (t : State) : t.fullReset.BoardsSound := ⟨reset_scheduleSound, reset_builderSound⟩
  cases i with
  | answerSent p => exact fun t e => (execAnswerSent_preserves hmove hreset hs p t e).2
  | fullReset => exact .next reset_builderSound
  | defineBoard p =>
    exact .next (State.takeAndAnswer_preserves hmove (fun _ _ hu => defineBoard_boardsSound hu ..) hs).2
  | clearBoard p => exact .next (State.takeAndAnswer_preserves hmove (fun n _ hu => clearBoard_boardsSound hu n) hs).2
  | pageDwellExpiry n =>
    refine .next ?_
    rw [State.withBuilder_builder]
    exact h.changeBoard (fun i _ _ hb hd => hb.expire hd i) n
  | boardRestart => exact execBoardRestart_sound h
  | figureChanged => exact execFigureChanged_sound h
  | builderPhaseChanged => exact execBuilderPhaseChanged_sound h ht
  | builderScreeningRemoved => exact execBuilderScreeningRemoved_sound h ht
  | screeningChanged => exact execScreeningChanged_sound h ht
  | titleChanged => exact execTitleChanged_sound h
  | builderRollover => exact execBuilderRollover_sound h ht
  | builderMinuteEvent => exact execBuilderMinuteEvent_sound h
  | hourFormatChanged => exact execHourFormatChanged_sound h
  | builderTenthTick => exact execBuilderTenthTick_sound h
  | _ =>
    refine (exec_frame _ s).keeps fun t hf => ?_
    have hsame : s.builder = t.builder := hf.same (.block .builder)
      (by simp [Instr.touches, Instr.takes, Instr.queryKind, Instr.eventTouches, Instr.block])
    rwa [← hsame]

/-- Settles O34: every command keeps the screening table in order, and in such a state it keeps the boards sound. -/
theorem rowListsStayInOrder : Obligations.RowListsStayInOrder := by
  intro s t hschedule hbuilder hs
  have hexec (i : Instr) (s : State) (h : s.BoardsSound) : Result.Keeps State.BoardsSound (exec i s) := fun t e =>
    ⟨exec_scheduleSound i h.1 t e, exec_builderSound i h t e⟩
  obtain ⟨-, hsound⟩ := step_keeps (fun _ _ h => h) hexec ⟨hschedule, hbuilder⟩ hs
  exact hsound

end Sys2Proof.Machine

end

section
/-! SUPPORT. Settles O32: the board builder's events, the slots they redraw, its ticks, page turns and restart (R90, R92, R94,
R101 to R103, R107). -/

namespace Sys2Proof.Machine

open Sys2Proof

/-! ### Requests (R95, R104) -/

theorem State.requestTiles_nil (s : State) (b : Block) : s.requestTiles b [] = s := by
  simp only [State.requestTiles, List.append_nil, put_getElem_eq_self]

theorem slotRedraws_all (board : Nat) (d : BoardDef) :
    slotRedraws board d (fun _ => true) = (List.range d.rowsPerPage).map (slotRedraw board) := by
  rw [slotRedraws, List.filter_true]

/-- R101 to R103: the occupied slots of each board's page whose entry meets the test. -/
theorem redrawWhere_eq (u : BuilderUnit) (test : RowEntry → Bool) : u.redrawWhere test =
    (List.finRange 8).flatMap fun i => u.boards[i].defn.elim [] fun d =>
      ((List.range d.rowsPerPage).filter fun r => u.boards[i].rows[u.boards[i].page * d.rowsPerPage + r]?.elim false test).map
        (slotRedraw i) := by
  refine (u.changeAll_requests _).trans (List.flatMap_congr fun i _ => ?_)
  cases h : u.boards[i].defn with
  | none => rw [BuilderUnit.boardChange_of_none h, Option.elim_none]
  | some d =>
    rw [BuilderUnit.boardChange_of_some h, Option.elim_some]
    refine congrArg (List.map (slotRedraw i)) (List.filter_congr fun r hr => ?_)
    rw [Board.occupant, if_pos (List.mem_range.mp hr)]
    cases u.boards[i].rows[u.boards[i].page * d.rowsPerPage + r]? <;> rfl

/-! ### Every defined board changed alike (R94, R107) -/

theorem BuilderUnit.changeAll_alike (u : BuilderUnit) (g : Board → BoardDef → Board) (rs : Nat → BoardDef → List TileRequest) :
    u.changeAll (fun i b d => (g b d, rs i d))
      = ({ u with boards := mapAll (fun b => b.defn.elim b (g b)) u.boards },
          (List.finRange 8).flatMap fun i => u.boards[i].defn.elim [] (rs i)) := by
  have hchange (i : Fin 8) : u.boardChange (fun i b d => (g b d, rs i d)) i
      = (u.boards[i].defn.elim u.boards[i] (g u.boards[i]), u.boards[i].defn.elim [] (rs i)) := by
    cases h : u.boards[i].defn with
    | none => rw [BuilderUnit.boardChange_of_none h]; rfl
    | some d => rw [BuilderUnit.boardChange_of_some h]; rfl
  rw [u.changeAll_eq]
  simp only [hchange]
  congr 2
  exact Vector.ext fun k hk => by simp

/-- R94: a dwell that has run out restarts, and where there is another page it is shown, every slot drawn again. -/
theorem Board.expire_due {b : Board} (h : b.dwell = some 0) (i : Nat) (d : BoardDef) : b.expire i d =
    ({ b with
        dwell := some d.fullDwell
        page := if pageCount b.rows.length d.rowsPerPage = 1 then b.page
          else (b.page + 1) % pageCount b.rows.length d.rowsPerPage },
      if pageCount b.rows.length d.rowsPerPage = 1 then [] else (List.range d.rowsPerPage).map (slotRedraw i)) := by
  unfold Board.expire
  rw [if_neg (not_not.mpr h), slotRedraws_all]
  split <;> rfl

/-! ### Countdowns (R102) -/

theorem countsDown_iff (e n k : Nat) : countsDown e n k = true ↔ 1 ≤ (e : Int) - n ∧ (e : Int) - n ≤ k := by
  rw [countsDown, Bool.and_eq_true, decide_eq_true_iff, decide_eq_true_iff]
  omega

theorem countdownMoves_eq (x : RowEntry) (old : Option Nat) (n k : Nat) : x.countdownMoves old n k =
    (decide (x.phase = .listed ∨ x.phase = .boarding) && decide ((1 ≤ (x.start : Int) - n ∧ (x.start : Int) - n ≤ k)
      ∨ ∃ m ∈ old, 1 ≤ (x.start : Int) - m ∧ (x.start : Int) - m ≤ k)) := by
  unfold RowEntry.countdownMoves
  rw [Bool.decide_or]
  congr 1
  rw [Bool.eq_iff_iff, Bool.or_eq_true, countsDown_iff, decide_eq_true_iff]
  cases old with
  | none => simp
  | some m => simp [countsDown_iff]

/-! ### Events taken -/

section Take
variable {s : State} (hs : s.builder.settled = true)
include hs

/-- The event at the head of the schedule unit's queue is taken where the command is the event's. -/
theorem takeBuilderSchedule_cons {act : ScheduleEvent → Option (BuilderUnit × List TileRequest)} {e : ScheduleEvent}
    {rest : List ScheduleEvent} {x : BuilderUnit × List TileRequest} (h : s.mail.scheduleToBuilder = e :: rest)
    (hact : act e = some x) : s.takeBuilderSchedule act
      = ({ s with mail := { s.mail with scheduleToBuilder := rest } } : State).withBuilder x := by
  unfold State.takeBuilderSchedule
  rw [h]
  dsimp only
  rw [hact]
  exact if_pos hs

/-- The event at the head of the board clock's queue is taken where the command is the event's. -/
theorem takeBuilderClock_cons {act : BuilderEvent → Option (BuilderUnit × List TileRequest)} {e : BuilderEvent}
    {rest : List BuilderEvent} {x : BuilderUnit × List TileRequest} (h : s.mail.clockToBuilder = e :: rest)
    (hact : act e = some x) : s.takeBuilderClock act
      = ({ s with mail := { s.mail with clockToBuilder := rest } } : State).withBuilder x := by
  unfold State.takeBuilderClock
  rw [h]
  dsimp only
  rw [hact]
  exact if_pos hs

theorem exec_builderPhaseChanged_cons {n : Nat} {phase : Phase} {rest : List ScheduleEvent}
    (h : s.mail.scheduleToBuilder = .phaseChanged n phase :: rest) : exec .builderPhaseChanged s
      = .next (({ s with mail := { s.mail with scheduleToBuilder := rest } } : State).withBuilder
        (s.builder.rebuildAll s.schedule.table (some n))) :=
  congrArg Host.Outcome.next (takeBuilderSchedule_cons hs h rfl)

theorem exec_builderScreeningRemoved_cons {n : Nat} {rest : List ScheduleEvent}
    (h : s.mail.scheduleToBuilder = .removed n :: rest) : exec .builderScreeningRemoved s
      = .next (({ s with mail := { s.mail with scheduleToBuilder := rest } } : State).withBuilder
        (s.builder.rebuildAll s.schedule.table none)) :=
  congrArg Host.Outcome.next (takeBuilderSchedule_cons hs h rfl)

theorem exec_screeningChanged_cons {n : Nat} {rest : List ScheduleEvent}
    (h : s.mail.scheduleToBuilder = .changed n :: rest) : exec .screeningChanged s
      = .next (({ s with mail := { s.mail with scheduleToBuilder := rest } } : State).withBuilder
        (s.builder.rebuildAll s.schedule.table (some n))) :=
  congrArg Host.Outcome.next (takeBuilderSchedule_cons hs h rfl)

theorem exec_titleChanged_cons {n : Nat} {rest : List ScheduleEvent}
    (h : s.mail.scheduleToBuilder = .titleChanged n :: rest) : exec .titleChanged s
      = .next (({ s with mail := { s.mail with scheduleToBuilder := rest } } : State).withBuilder
        (s.builder, s.builder.redrawWhere fun x => x.title = n)) :=
  congrArg Host.Outcome.next (takeBuilderSchedule_cons hs h rfl)

theorem exec_figureChanged_cons {n : Nat} {rest : List Nat} (h : s.mail.figuresToBuilder = n :: rest) :
    exec .figureChanged s = .next (({ s with mail := { s.mail with figuresToBuilder := rest } } : State).withBuilder
      (s.builder, s.builder.redrawWhere fun x => x.screening = n)) := by
  show execFigureChanged s = _
  unfold execFigureChanged
  rw [h]
  exact congrArg Host.Outcome.next (if_pos hs)

theorem exec_builderMinuteEvent_cons {n : Nat} {rest : List BuilderEvent} (h : s.mail.clockToBuilder = .minute n :: rest) :
    exec .builderMinuteEvent s = .next (({ s with mail := { s.mail with clockToBuilder := rest } } : State).withBuilder
      ({ s.builder with viewMinute := some n },
        s.builder.redrawWhere fun x => x.countdownMoves s.builder.viewMinute n s.schedule.settings.countdown)) :=
  congrArg Host.Outcome.next (takeBuilderClock_cons hs h rfl)

theorem exec_builderRollover_cons {day : Nat} {rest : List BuilderEvent} (h : s.mail.clockToBuilder = .rollover day :: rest) :
    exec .builderRollover s = .next (({ s with mail := { s.mail with clockToBuilder := rest } } : State).withBuilder
      (BuilderUnit.rebuildAll { s.builder with viewDay := day, viewMinute := some 0 } s.schedule.table none)) :=
  congrArg Host.Outcome.next (takeBuilderClock_cons hs h rfl)

theorem exec_hourFormatChanged_cons {rest : List BuilderEvent} (h : s.mail.clockToBuilder = .hourFormatChanged :: rest) :
    exec .hourFormatChanged s = .next (({ s with mail := { s.mail with clockToBuilder := rest } } : State).withBuilder
      (s.builder, s.builder.redrawWhere fun _ => true)) :=
  congrArg Host.Outcome.next (takeBuilderClock_cons hs h rfl)

/-- R94: no tick asks for a slot. -/
theorem exec_builderTenthTick_cons {u : State} {rest : List BuilderEvent} (h : s.mail.clockToBuilder = .tick :: rest)
    (hu : u = { s with mail := { s.mail with clockToBuilder := rest } }) : exec .builderTenthTick s = .next { u with
      builder := { s.builder with
        boards := mapAll (fun b => if b.defn = none then b else { b with dwell := b.dwell.map (· - 1) }) s.builder.boards } } := by
  have htick := s.builder.changeAll_alike (fun b _ => { b with dwell := b.dwell.map (· - 1) }) fun _ _ => []
  have hnone : ((List.finRange 8).flatMap fun i => s.builder.boards[i].defn.elim [] fun _ => ([] : List TileRequest)) = [] :=
    List.flatMap_eq_nil_iff.mpr fun i _ => by cases s.builder.boards[i].defn <;> rfl
  have hlower : (fun b : Board => b.defn.elim b fun _ => { b with dwell := b.dwell.map (· - 1) })
      = fun b => if b.defn = none then b else { b with dwell := b.dwell.map (· - 1) } :=
    funext fun b => by cases h : b.defn <;> simp
  rw [hnone, hlower] at htick
  refine (congrArg Host.Outcome.next (takeBuilderClock_cons hs h rfl)).trans ?_
  rw [htick, ← hu]
  exact congrArg Host.Outcome.next (State.requestTiles_nil ..)

theorem exec_boardRestart_due (h : 0 < s.mail.restarts[Block.builder.index]) :
    exec .boardRestart s = .next ((s.dropRestart .builder).withBuilder
      ({ s.builder with boards := mapAll (fun b => match b.defn with
          | none => b
          | some d => { b with dwell := some d.fullDwell }) s.builder.boards },
        (List.finRange 8).flatMap fun i => match s.builder.boards[i].defn with
          | none => []
          | some d => (List.range d.rowsPerPage).map (slotRedraw i))) := by
  have hdue : ¬(s.mail.restarts[Block.builder.index] = 0 ∨ s.builder.settled = false) :=
    not_or.mpr ⟨Nat.ne_of_gt h, fun hf => Bool.false_ne_true (hf.symm.trans hs)⟩
  have hfull := s.builder.changeAll_alike (fun b d => { b with dwell := some d.fullDwell })
    fun i d => (List.range d.rowsPerPage).map (slotRedraw i)
  refine congrArg Host.Outcome.next ((if_neg hdue).trans ?_)
  simp only [slotRedraws_all]
  rw [hfull]
  congr 2
  · congr 2
    funext b
    cases b.defn <;> rfl
  · congr 1
    funext i
    cases s.builder.boards[i].defn <;> rfl

end Take

/-- R94: the expiry is the one board's. -/
theorem exec_pageDwellExpiry_due {s : State} {i : Fin 8} {d : BoardDef} (hd : s.builder.boards[i].defn = some d) :
    exec (.pageDwellExpiry i.val) s = .next (s.withBuilder
      ({ s.builder with boards := put s.builder.boards i (s.builder.boards[i].expire i d).1 },
        (s.builder.boards[i].expire i d).2)) := by
  have hchange := s.builder.changeBoard_eq Board.expire i
  rw [BuilderUnit.boardChange_of_some hd] at hchange
  exact congrArg (fun x => Host.Outcome.next (s.withBuilder x)) hchange

/-- Settles O32: each event from its command's lemma. -/
theorem boardBuilderTakesItsEvents : Obligations.BoardBuilderTakesItsEvents := by
  refine ⟨⟨?_, ?_, ?_⟩, ⟨?_, ?_⟩, ?_, fun _ _ => rfl⟩
  · intro s u e rest h hs hu
    refine ⟨?_, ?_, ?_, ?_⟩
    · rintro n phase rfl
      rw [exec_builderPhaseChanged_cons hs h, hu]
    · rintro n rfl
      rw [exec_builderScreeningRemoved_cons hs h, hu]
    · rintro n rfl
      rw [exec_screeningChanged_cons hs h, hu]
    · rintro n rfl
      rw [exec_titleChanged_cons hs h, hu]
      rfl
  · intro s u e rest h hs hu
    refine ⟨?_, ?_, ?_, ?_⟩
    · rintro day rfl
      rw [exec_builderRollover_cons hs h, hu]
    · rintro n k rfl rfl
      rw [exec_builderMinuteEvent_cons hs h, hu]
      simp only [countdownMoves_eq]
      rfl
    · rintro rfl
      rw [exec_hourFormatChanged_cons hs h, hu]
      rfl
    · rintro rfl
      exact exec_builderTenthTick_cons hs h hu
  · intro s n rest h hs
    rw [exec_figureChanged_cons hs h]
    rfl
  · rintro s i d p hd hdwell rfl
    rw [exec_pageDwellExpiry_due hd, Board.expire_due hdwell]
    rfl
  · intro s h hs
    rw [exec_boardRestart_due hs h]
    rfl
  · intro u test
    refine (redrawWhere_eq u test).trans (List.flatMap_congr fun i _ => ?_)
    cases u.boards[i].defn with
    | none => rfl
    | some d =>
      refine congrArg (List.map _) (List.filter_congr fun r _ => ?_)
      cases u.boards[i].rows[u.boards[i].page * d.rowsPerPage + r]? <;> rfl

end Sys2Proof.Machine

end

section
/-! SUPPORT. Settles O33: DEFINE BOARD and CLEAR BOARD (R88, R89). -/

namespace Sys2Proof.Machine

open Sys2Proof

/-- Taking a directive leaves the board builder to its effect (R8). -/
theorem State.Takes.builder {s u : State} {b : Block} {p : Port} {q : Packet} {d : Directive} (h : s.Takes b p q d u) :
    u.builder = s.builder := by
  obtain ⟨-, -, -, -, -, rfl⟩ := h
  rfl

/-! ### The fields (R88 step 1) -/

/-- R88 step 1: every field of a DEFINE BOARD but the sort order lies in its range. -/
def BoardFields.InRange (f : BoardFields) : Prop :=
  (∀ xs, f.auditoriums = some xs → xs ≠ [] ∧ (∀ a ∈ xs, 1 ≤ a ∧ a ≤ 24) ∧ xs.Nodup) ∧ (f.title ≤ 127 ∨ f.title = 65535)
    ∧ 1 ≤ f.rowsPerPage ∧ f.rowsPerPage ≤ 16 ∧ 2 ≤ f.pageDwell ∧ f.pageDwell ≤ 60 ∧ 27 ≤ f.rowWidth ∧ f.rowWidth ≤ 48
    ∧ f.showCancelled ≤ 1

/-- The definition that fields in range stand for, in a sort order. -/
def BoardFields.toDef (f : BoardFields) (o : SortOrder) : BoardDef :=
  ⟨f.auditoriums, if f.title = 65535 then none else some f.title, o, f.rowsPerPage, f.pageDwell, f.showCancelled = 1, f.rowWidth⟩

theorem definition_eq_some_iff (f : BoardFields) (d : BoardDef) :
    f.definition = some d ↔ f.InRange ∧ ∃ o, sortOf f.sort = some o ∧ f.toDef o = d := by
  unfold BoardFields.definition
  rw [Option.ite_none_right_eq_some, Option.map_eq_some_iff]
  refine and_congr ?_ Iff.rfl
  simp only [Bool.and_eq_true, Bool.or_eq_true, decide_eq_true_iff, and_assoc]
  refine and_congr ?_ Iff.rfl
  cases f.auditoriums <;> simp [hasRepeat, and_assoc]

theorem sortOf_eq_some_iff (n : Nat) (o : SortOrder) : sortOf n = some o ↔ n = 1 ∧ o = .byTime ∨ n = 2 ∧ o = .byScreen := by
  unfold sortOf
  split
  · simp [eq_comm]
  · simp [eq_comm]
  · rename_i h1 h2
    exact iff_of_false nofun fun h => h.elim (fun h => h1 h.1) fun h => h2 h.1

/-! ### DEFINE BOARD (R88) -/

section Define
variable {n : Nat} {f : BoardFields} {s : State}

theorem defineBoard_outOfRange (h : n < 8 → ∀ d, f.definition ≠ some d) : defineBoard n f s = refuse s .outOfRange := by
  unfold defineBoard
  split
  · rfl
  · rename_i d hd
    exact dif_neg fun hn => h hn d hd

theorem defineBoard_done {d : BoardDef} (hd : f.definition = some d) (h : n < 8) : defineBoard n f s =
    done (s.withBuilder
      ({ s.builder with
          boards := s.builder.boards.set n
            ⟨some d, d.rowList s.builder.viewDay s.builder.viewMinute s.schedule.table, 0, some d.fullDwell⟩ h },
        rowTiles n (s.builder.boards[n].defn.elim 0 BoardDef.rowsPerPage) d
          ++ (List.range d.rowsPerPage).map (slotRedraw n))) := by
  unfold defineBoard
  rw [hd]
  dsimp only
  rw [dif_pos h, slotRedraws_all]
  cases s.builder.boards[n].defn <;> rfl

end Define

/-! ### CLEAR BOARD (R89) -/

section Clear
variable {n : Nat} {s : State}

theorem clearBoard_outOfRange (h : ¬n < 8) : clearBoard n s = refuse s .outOfRange := dif_neg h

theorem clearBoard_noSuch (h : n < 8) (hd : s.builder.boards[n].defn = none) : clearBoard n s = refuse s .noSuch := by
  unfold clearBoard
  rw [dif_pos h, hd]

theorem clearBoard_done {d : BoardDef} (h : n < 8) (hd : s.builder.boards[n].defn = some d) : clearBoard n s =
    done (s.withBuilder ({ s.builder with boards := s.builder.boards.set n ⟨none, [], 0, none⟩ h },
      (List.range d.rowsPerPage).map fun r => .empty (16 * n + r))) := by
  unfold clearBoard
  rw [dif_pos h, hd]

end Clear

/-- Settles O33. -/
theorem boardsAreDefinedAndCleared : Obligations.BoardsAreDefinedAndCleared := by
  refine ⟨fun s u p q n f h => ⟨fun hbad => ?_, ?_⟩, fun s u p q n h => ⟨fun hn => ?_, fun hn => ⟨fun hd => ?_, fun d hd => ?_⟩⟩⟩
  · rw [exec_defineBoard h, defineBoard_outOfRange]
    · rfl
    · intro hn d hd
      obtain ⟨⟨hfilter, hfields⟩, o, ho, -⟩ := (definition_eq_some_iff f d).mp hd
      rw [sortOf_eq_some_iff] at ho
      obtain hbad | hnil | ⟨xs, hxs, hbad⟩ | hbad := hbad
      · omega
      · exact (hfilter _ hnil).1 rfl
      · obtain ⟨-, hall, hnodup⟩ := hfilter xs hxs
        obtain ⟨a, ha, hbad⟩ | hbad := hbad
        · have := hall a ha
          omega
        · exact hbad hnodup
      · omega
  · intro hn d before hfilter hauditoriums htitle hsort hrows hrows' hrowsEq hdwell hdwell' hdwellEq hshow hshowEq hwidth hwidth'
      hwidthEq hbefore
    have hd : f.definition = some d := by
      refine (definition_eq_some_iff f d).mpr ⟨⟨fun xs hxs => ?_, ?_, hrows, hrows', hdwell, hdwell', hwidth, hwidth', hshow⟩,
        d.sort, (sortOf_eq_some_iff ..).mpr hsort, ?_⟩
      · obtain ⟨hne, hnodup, hall⟩ := hfilter xs hxs
        exact ⟨hne, hall, hnodup⟩
      · omega
      · obtain ⟨auditoriums, title, sort, rows, dwell, shown, width⟩ := d
        subst hauditoriums hrowsEq hdwellEq hshowEq hwidthEq
        obtain ⟨ht, rfl⟩ | ⟨ht, rfl⟩ := htitle
        · simp [BoardFields.toDef, ht]
        · simp [BoardFields.toDef]
          omega
    have hbefore' : before = s.builder.boards[n].defn.elim 0 BoardDef.rowsPerPage := by
      rw [hbefore]
      cases s.builder.boards[n].defn <;> rfl
    rw [exec_defineBoard h, defineBoard_done hd hn, hbefore', h.builder, ← h.schedule]
    rfl
  · rw [exec_clearBoard h, clearBoard_outOfRange (by omega)]
    rfl
  · rw [exec_clearBoard h, clearBoard_noSuch hn (h.builder ▸ hd)]
    rfl
  · rw [exec_clearBoard h, clearBoard_done hn (h.builder ▸ hd), h.builder]
    rfl

end Sys2Proof.Machine

end

section
/-! SUPPORT. The notice unit's operations (R108, R111, R114, R115): live notices found by number and slot, how an urgent list follows
its notices, and what a withdrawal and a posting make of the unit, panel by panel. Settles O36. -/

namespace Sys2Proof.Machine

open Sys2Proof

/-! ### Live notices (R108) -/

/-- Where no key stands twice, the first entry of a key is the entry of that key. -/
theorem find?_key_eq_some_iff {α : Type} {f : α → Nat} {l : List α} (h : (l.map f).Nodup) (k : Nat) (x : α) :
    (l.find? fun y => f y = k) = some x ↔ x ∈ l ∧ f x = k := by
  refine ⟨fun hx => ⟨List.mem_of_find?_eq_some hx, by simpa using List.find?_some hx⟩, fun ⟨hx, hk⟩ => ?_⟩
  cases hf : l.find? fun y => f y = k with
  | none => exact absurd hk (by simpa using List.find?_eq_none.mp hf x hx)
  | some z =>
    have hz : f z = k := by simpa using List.find?_some hf
    rw [List.inj_on_of_nodup_map h (List.mem_of_find?_eq_some hf) hx (hz.trans hk.symm)]

section Lookup
variable {ns : List Notice} {n : Nat} {x : Notice}

theorem mem_of_findNotice (h : findNotice ns n = some x) : x ∈ ns ∧ x.number = n :=
  ⟨List.mem_of_find?_eq_some h, by simpa using List.find?_some h⟩

theorem findNotice_eq_none_iff : findNotice ns n = none ↔ ∀ x ∈ ns, x.number ≠ n := by simp [findNotice]

theorem findNotice_eq_some_iff (h : (ns.map Notice.number).Nodup) : findNotice ns n = some x ↔ x ∈ ns ∧ x.number = n :=
  find?_key_eq_some_iff h n x

theorem mem_of_noticeInSlot (h : noticeInSlot ns n = some x) : x ∈ ns ∧ x.slot = n :=
  ⟨List.mem_of_find?_eq_some h, by simpa using List.find?_some h⟩

theorem noticeInSlot_eq_some_iff (h : (ns.map Notice.slot).Nodup) : noticeInSlot ns n = some x ↔ x ∈ ns ∧ x.slot = n :=
  find?_key_eq_some_iff h n x

end Lookup

/-! ### An urgent list (R114, R115) -/

/-- R115: the notice that follows in a list, wrapping after the last. -/
theorem following_append {before : List Nat} {n : Nat} (h : n ∉ before) (after : List Nat) :
    following (before ++ n :: after) n = (after ++ before ++ [n]).head? := by
  have hdrop : (before ++ n :: after).dropWhile (· ≠ n) = n :: after := by
    rw [List.dropWhile_append_of_pos fun a ha => by simpa using fun he : a = n => h (he ▸ ha)]
    simp
  unfold following
  rw [hdrop, List.drop_one, List.tail_cons]
  cases after with
  | cons m after => rfl
  | nil => cases before <;> rfl

theorem filter_ne_append {before after : List Nat} {n : Nat} (hb : n ∉ before) (ha : n ∉ after) :
    (before ++ n :: after).filter (· ≠ n) = before ++ after := by
  have hkeep {l : List Nat} (hl : n ∉ l) : l.filter (· ≠ n) = l :=
    List.filter_eq_self.mpr fun a hm => by simpa using fun he : a = n => hl (he ▸ hm)
  rw [List.filter_append, List.filter_cons_of_neg (by simp), hkeep hb, hkeep ha]

section List
variable {x : UrgentState} {n : Nat}

theorem UrgentState.leave_of_notMem (h : n ∉ x.list) (dwell : Nat) : x.leave n dwell = x :=
  if_pos (by simpa using h)

/-- R115: the notices around one that leaves stay in their order, and the one that followed it is shown in its place. -/
theorem UrgentState.leave_append {before after : List Nat} (hx : x.list = before ++ n :: after) (hb : n ∉ before)
    (ha : n ∉ after) (dwell : Nat) : x.leave n dwell =
      if before ++ after = [] then ⟨[], none, none⟩
      else if x.shown = some n then ⟨before ++ after, (after ++ before).head?, some dwell⟩
      else ⟨before ++ after, x.shown, x.dwell⟩ := by
  have hmem : ¬x.list.contains n = false := by simp [hx]
  unfold UrgentState.leave
  rw [if_neg hmem, hx, filter_ne_append hb ha]
  dsimp only
  split
  · rfl
  · rename_i hne
    rw [following_append hb, List.head?_append_of_ne_nil _ (by simpa [and_comm] using hne)]

theorem UrgentState.mem_leave (x : UrgentState) (n dwell m : Nat) : m ∈ (x.leave n dwell).list ↔ m ∈ x.list ∧ m ≠ n := by
  have hmem : m ∈ x.list.filter (· ≠ n) ↔ m ∈ x.list ∧ m ≠ n := by simp
  unfold UrgentState.leave
  split
  · rename_i h
    exact ⟨fun hm => ⟨hm, fun he => by simp [← he, hm] at h⟩, And.left⟩
  · dsimp only
    split
    · rename_i h
      rw [← hmem, h]
    · split <;> exact hmem

theorem UrgentState.join_list (x : UrgentState) (n dwell : Nat) : (x.join n dwell).list = x.list ++ [n] := by
  unfold UrgentState.join
  split
  · rename_i h
    rw [h]
    rfl
  · rfl

theorem UrgentState.mem_join (x : UrgentState) (n dwell m : Nat) : m ∈ (x.join n dwell).list ↔ m ∈ x.list ∨ m = n := by
  rw [x.join_list, List.mem_append, List.mem_singleton]

theorem UrgentState.toTail_append {before after : List Nat} (hx : x.list = before ++ n :: after) (hb : n ∉ before)
    (ha : n ∉ after) : x.toTail n = ⟨before ++ after ++ [n], x.shown, x.dwell⟩ := by
  unfold UrgentState.toTail
  rw [hx, filter_ne_append hb ha]

theorem UrgentState.mem_toTail (x : UrgentState) (n m : Nat) : m ∈ (x.toTail n).list ↔ m ∈ x.list ∨ m = n := by
  by_cases h : m = n <;> simp [UrgentState.toTail, h]

end List

/-! ### One panel's urgent state -/

section Panel
variable (u : NoticeUnit) (panel : Fin 12)

theorem NoticeUnit.urgentOf_eq : u.urgentOf panel.val = u.urgent[panel] := by
  rw [NoticeUnit.urgentOf, Vector.getElem?_eq_getElem panel.isLt]
  rfl

theorem NoticeUnit.putUrgent_eq (x : UrgentState) :
    u.putUrgent panel.val x = { u with urgent := put u.urgent panel x } := by
  rw [NoticeUnit.putUrgent, setIfInBounds_eq_put]

end Panel

/-! ### Withdrawal (R111) -/

/-- R111: a live notice leaves the table and every urgent list, and its tile is emptied. -/
theorem NoticeUnit.withdraw_live {u : NoticeUnit} {n : Nat} {x : Notice} (h : findNotice u.notices n = some x) :
    u.withdraw n = ({ u with
      urgent := mapAll (fun y => y.leave n u.style.urgentDwell) u.urgent
      notices := u.notices.filter fun (y : Notice) => y.number ≠ n }, [.empty (224 + x.slot)]) := by
  unfold NoticeUnit.withdraw
  rw [h]
  rfl

theorem NoticeUnit.withdraw_absent {u : NoticeUnit} {n : Nat} (h : ∀ x ∈ u.notices, x.number ≠ n) :
    u.withdraw n = (u, []) := by
  unfold NoticeUnit.withdraw
  rw [findNotice_eq_none_iff.mpr h]

theorem NoticeUnit.mem_withdraw (u : NoticeUnit) (n : Nat) (y : Notice) :
    y ∈ (u.withdraw n).1.notices ↔ y ∈ u.notices ∧ y.number ≠ n := by
  cases h : findNotice u.notices n with
  | none =>
    have habsent := findNotice_eq_none_iff.mp h
    rw [NoticeUnit.withdraw_absent habsent]
    exact ⟨fun hy => ⟨hy, habsent y hy⟩, And.left⟩
  | some x =>
    rw [NoticeUnit.withdraw_live h]
    simp

/-- The requests of several withdrawals follow one another. -/
theorem NoticeUnit.foldl_withdraw (ns : List Nat) (u : NoticeUnit) (rs : List TileRequest) :
    ns.foldl (fun x n => ((x.1.withdraw n).1, x.2 ++ (x.1.withdraw n).2)) (u, rs)
      = ((u.withdrawAll ns).1, rs ++ (u.withdrawAll ns).2) := by
  unfold NoticeUnit.withdrawAll
  induction ns generalizing u rs with
  | nil => simp
  | cons n ns ih =>
    simp only [List.foldl_cons, List.nil_append]
    rw [ih, ih _ (u.withdraw n).2, List.append_assoc]

theorem NoticeUnit.withdrawAll_nil (u : NoticeUnit) : u.withdrawAll [] = (u, []) := rfl

theorem NoticeUnit.withdrawAll_cons (u : NoticeUnit) (n : Nat) (ns : List Nat) : u.withdrawAll (n :: ns) =
    (((u.withdraw n).1.withdrawAll ns).1, (u.withdraw n).2 ++ ((u.withdraw n).1.withdrawAll ns).2) :=
  NoticeUnit.foldl_withdraw ns (u.withdraw n).1 (u.withdraw n).2

/-! ### A panel brought into step with a notice (R114) -/

/-- R114: a notice that is pushed out of a panel's list loses the panel from its targets. -/
def Notice.untarget (head panel : Nat) (y : Notice) : Notice :=
  if y.number = head then { y with targets := y.targets.filter (· ≠ panel) } else y

@[simp] theorem Notice.untarget_number (head panel : Nat) (y : Notice) : (y.untarget head panel).number = y.number := by
  unfold Notice.untarget
  split <;> rfl

@[simp] theorem Notice.untarget_slot (head panel : Nat) (y : Notice) : (y.untarget head panel).slot = y.slot := by
  unfold Notice.untarget
  split <;> rfl

@[simp] theorem Notice.untarget_cls (head panel : Nat) (y : Notice) : (y.untarget head panel).cls = y.cls := by
  unfold Notice.untarget
  split <;> rfl

theorem Notice.untarget_of_ne {head : Nat} {y : Notice} (h : y.number ≠ head) (panel : Nat) : y.untarget head panel = y :=
  if_neg h

theorem Notice.mem_untarget_targets (head panel : Nat) (y : Notice) (q : Nat) :
    q ∈ (y.untarget head panel).targets ↔ q ∈ y.targets ∧ ¬(y.number = head ∧ q = panel) := by
  unfold Notice.untarget
  split <;> simp [*]

/-- R114: a notice joins a panel's full list, whose head is pushed out. -/
def NoticeUnit.pushedOut (u : NoticeUnit) (n : Notice) (panel : Fin 12) (head : Nat) : NoticeUnit :=
  { u with
    notices := u.notices.map (Notice.untarget head panel.val)
    urgent := put u.urgent panel ((u.urgent[panel].leave head u.style.urgentDwell).join n.number u.style.urgentDwell) }

section Step
variable {u : NoticeUnit} {n : Notice} {panel : Fin 12}

theorem NoticeUnit.stepPanel_leave (h : ¬(n.cls = .urgent ∧ panel.val ∈ n.targets)) : u.stepPanel n panel.val =
    ({ u with urgent := put u.urgent panel (u.urgent[panel].leave n.number u.style.urgentDwell) }, []) := by
  unfold NoticeUnit.stepPanel
  rw [if_neg (by simpa using h), u.putUrgent_eq, u.urgentOf_eq]

section Urgent
variable (hc : n.cls = .urgent) (ht : panel.val ∈ n.targets)
include hc ht

theorem NoticeUnit.stepPanel_toTail (hm : n.number ∈ u.urgent[panel].list) : u.stepPanel n panel.val =
    ({ u with urgent := put u.urgent panel (u.urgent[panel].toTail n.number) }, []) := by
  unfold NoticeUnit.stepPanel
  rw [if_pos ⟨hc, by simpa using ht⟩, u.urgentOf_eq, if_pos (by simpa using hm), u.putUrgent_eq]

theorem NoticeUnit.stepPanel_join (hm : n.number ∉ u.urgent[panel].list) (hl : u.urgent[panel].list.length ≤ 3) :
    u.stepPanel n panel.val =
      ({ u with urgent := put u.urgent panel (u.urgent[panel].join n.number u.style.urgentDwell) }, []) := by
  unfold NoticeUnit.stepPanel
  rw [if_pos ⟨hc, by simpa using ht⟩, u.urgentOf_eq, if_neg (by simpa using hm), if_pos (Nat.lt_succ_of_le hl), u.putUrgent_eq]

theorem NoticeUnit.stepPanel_full (hm : n.number ∉ u.urgent[panel].list) {head : Nat} {rest : List Nat}
    (hl : u.urgent[panel].list = head :: rest) (hr : 3 ≤ rest.length) :
    u.stepPanel n panel.val = (u.pushedOut n panel head).withdrawIfTargetless head := by
  have hlong : ¬u.urgent[panel].list.length < 4 := by
    rw [hl, List.length_cons]
    omega
  have hpush : u.pushOut panel.val = ({ u with
      notices := u.notices.map (Notice.untarget head panel.val)
      urgent := put u.urgent panel (u.urgent[panel].leave head u.style.urgentDwell) }, some head) := by
    unfold NoticeUnit.pushOut
    rw [u.urgentOf_eq]
    dsimp only
    rw [hl]
    dsimp only
    rw [NoticeUnit.putUrgent_eq]
    rfl
  unfold NoticeUnit.stepPanel
  rw [if_pos ⟨hc, by simpa using ht⟩, u.urgentOf_eq, if_neg (by simpa using hm), if_neg hlong, hpush]
  dsimp only
  rw [NoticeUnit.putUrgent_eq, NoticeUnit.urgentOf_eq, put_put]
  congr 1
  unfold NoticeUnit.pushedOut
  congr 3
  exact put_getElem_self ..

end Urgent

theorem NoticeUnit.withdrawIfTargetless_of_targetless {k : Nat} {x : Notice} (h : findNotice u.notices k = some x)
    (ht : x.targets = []) : u.withdrawIfTargetless k = u.withdraw k := by
  unfold NoticeUnit.withdrawIfTargetless
  rw [h]
  exact if_pos ht

/-- Either no live notice of the number is without targets and nothing is done, or it is withdrawn and its tile emptied. -/
theorem NoticeUnit.withdrawIfTargetless_cases (u : NoticeUnit) (k : Nat) :
    (u.withdrawIfTargetless k = (u, []) ∧ ∀ x, findNotice u.notices k = some x → x.targets ≠ [])
      ∨ u.withdrawIfTargetless k = u.withdraw k ∧ (u.withdraw k).2 ≠ [] := by
  cases h : findNotice u.notices k with
  | none =>
    refine .inl ⟨?_, nofun⟩
    unfold NoticeUnit.withdrawIfTargetless
    rw [h]
  | some x =>
    by_cases ht : x.targets = []
    · refine .inr ⟨NoticeUnit.withdrawIfTargetless_of_targetless h ht, ?_⟩
      rw [NoticeUnit.withdraw_live h]
      exact nofun
    · refine .inl ⟨?_, fun y hy => Option.some.inj hy ▸ ht⟩
      unfold NoticeUnit.withdrawIfTargetless
      rw [h]
      exact if_neg ht

/-- R114: a notice pushed out from its last target panel is withdrawn. -/
theorem NoticeUnit.stepPanel_withdraws (hc : n.cls = .urgent) (ht : panel.val ∈ n.targets)
    (hm : n.number ∉ u.urgent[panel].list) {head : Nat} {rest : List Nat} (hl : u.urgent[panel].list = head :: rest)
    (hr : 3 ≤ rest.length) {y : Notice} (hy : findNotice u.notices head = some y) (hlast : ∀ k ∈ y.targets, k = panel.val) :
    u.stepPanel n panel.val = ({ u with
      notices := u.notices.filter fun (z : Notice) => z.number ≠ head
      urgent := mapAll (fun x => x.leave head u.style.urgentDwell) (put u.urgent panel
        ((u.urgent[panel].leave head u.style.urgentDwell).join n.number u.style.urgentDwell)) }, [.empty (224 + y.slot)]) := by
  obtain ⟨-, hnumber⟩ := mem_of_findNotice hy
  have hfind : findNotice (u.pushedOut n panel head).notices head = some (y.untarget head panel.val) := by
    have hcomp : ((fun x : Notice => decide (x.number = head)) ∘ Notice.untarget head panel.val)
        = fun x => decide (x.number = head) := funext fun x => by simp
    show (u.notices.map _).find? _ = _
    rw [List.find?_map, hcomp, show u.notices.find? _ = some y from hy]
    rfl
  have htargetless : (y.untarget head panel.val).targets = [] := by
    refine List.eq_nil_iff_forall_not_mem.mpr fun q hq => ?_
    obtain ⟨hq, hne⟩ := (Notice.mem_untarget_targets ..).mp hq
    exact hne ⟨hnumber, hlast q hq⟩
  have hfilter : (u.notices.map (Notice.untarget head panel.val)).filter (fun z => z.number ≠ head)
      = u.notices.filter fun z => z.number ≠ head := by
    have hcomp : ((fun z : Notice => decide (z.number ≠ head)) ∘ Notice.untarget head panel.val)
        = fun z => decide (z.number ≠ head) := funext fun z => by simp
    rw [List.filter_map, hcomp]
    exact (List.map_congr_left fun z hz => Notice.untarget_of_ne (by simpa using (List.mem_filter.mp hz).2) _).trans
      (List.map_id _)
  rw [NoticeUnit.stepPanel_full hc ht hm hl hr, NoticeUnit.withdrawIfTargetless_of_targetless hfind htargetless,
    NoticeUnit.withdraw_live hfind, Notice.untarget_slot]
  exact congrArg (fun ns => (NoticeUnit.mk ns _ _, _)) hfilter

end Step

/-- Settles O36: the lists' own operations, and a panel's step in each of its cases. -/
theorem urgentListsFollowTheirNotices : Obligations.UrgentListsFollowTheirNotices := by
  refine ⟨fun x n dwell h => ⟨UrgentState.leave_of_notMem h dwell, rfl⟩, fun x n dwell before after hx hb ha =>
    ⟨UrgentState.leave_append hx hb ha dwell, UrgentState.toTail_append hx hb ha, fun hs hd => ?_⟩,
    fun u n y panel head rest hc ht hm hl hr hy hlast => NoticeUnit.stepPanel_withdraws hc ht hm hl hr hy hlast,
    fun u v n panel h => ⟨fun hn => ?_, fun hc ht hm => ?_, fun hc ht hm hl => ?_, fun head rest hc ht hm hl hr => ?_⟩⟩
  · unfold UrgentState.advance
    rw [if_pos hd, hs, Option.bind_some, hx, following_append hb]
  · rw [NoticeUnit.stepPanel_leave (fun hn' => hn.elim (· hn'.1) (· hn'.2))] at h
    exact (Prod.ext_iff.mp h).1.symm
  · rw [NoticeUnit.stepPanel_toTail hc ht hm] at h
    exact (Prod.ext_iff.mp h).1.symm
  · rw [NoticeUnit.stepPanel_join hc ht hm hl] at h
    exact (Prod.ext_iff.mp h).1.symm
  · rw [NoticeUnit.stepPanel_full hc ht hm hl hr] at h
    obtain ⟨hkept, -⟩ | ⟨hwithdrawn, hsent⟩ := (u.pushedOut n panel head).withdrawIfTargetless_cases head
    · rw [hkept] at h
      exact (Prod.ext_iff.mp h).1.symm
    · rw [hwithdrawn] at h
      exact absurd (congrArg Prod.snd h) hsent

end Sys2Proof.Machine

end

section
/-! SUPPORT. Settles O35: POST NOTICE (R108 to R110). Its checks in order, the slot a posting takes, and the notice it makes. -/

namespace Sys2Proof.Machine

open Sys2Proof

/-- Taking a directive leaves the notice unit to its effect (R8). -/
theorem State.Takes.notice {s u : State} {b : Block} {p : Port} {q : Packet} {d : Directive} (h : s.Takes b p q d u) :
    u.notice = s.notice := by
  obtain ⟨-, -, -, -, -, rfl⟩ := h
  rfl

/-! ### The checks (R109) -/

theorem classOf_eq_some_iff (k : Nat) (c : NoticeClass) : classOf k = some c ↔ c.number = k := by
  constructor
  · intro h
    unfold classOf at h
    split at h <;> cases h <;> rfl
  · rintro rfl
    cases c <;> rfl

/-- R109 step 1: every field of a POST NOTICE but its class lies in its range. -/
def NoticeFields.InRange (f : NoticeFields) : Prop :=
  1 ≤ f.number ∧ f.number ≤ 255 ∧ 1 ≤ f.text.length ∧ f.text.length ≤ 120
    ∧ (f.targets ≠ [] ∧ (∀ x ∈ f.targets, x ≤ 11) ∧ f.targets.Nodup) ∧ f.bound ≠ some 0
    ∧ ∀ m, f.lifetime = some m → 1 ≤ m ∧ m ≤ 720

theorem NoticeFields.inRange_eq_some_iff (f : NoticeFields) (c : NoticeClass) :
    f.inRange = some c ↔ f.InRange ∧ c.number = f.cls := by
  unfold NoticeFields.inRange
  rw [Option.ite_none_right_eq_some, classOf_eq_some_iff]
  refine and_congr ?_ Iff.rfl
  simp only [Bool.and_eq_true, decide_eq_true_iff, validSet_iff, and_assoc, NoticeFields.InRange]
  cases f.bound <;> cases f.lifetime <;> simp

theorem bindingRefusal_noSuch {table : List Screening} {n : Nat} (h : findScreening table n = none) :
    bindingRefusal table (some n) = some .noSuch := by
  unfold bindingRefusal
  dsimp only
  rw [h]

theorem bindingRefusal_tooLate {table : List Screening} {n : Nat} {r : Screening} (h : findScreening table n = some r)
    (hp : r.phase = .closed ∨ r.phase = .cancelled) : bindingRefusal table (some n) = some .tooLate := by
  unfold bindingRefusal
  dsimp only
  rw [h]
  exact if_pos hp

/-- R109 step 2: a binding passes to a screening that is neither CLOSED nor CANCELLED. -/
theorem bindingRefusal_eq_none {table : List Screening} {b : Option Nat}
    (h : ∀ n, b = some n → ∃ r, findScreening table n = some r ∧ r.phase ≠ .closed ∧ r.phase ≠ .cancelled) :
    bindingRefusal table b = none := by
  cases b with
  | none => rfl
  | some n =>
    obtain ⟨r, hr, hclosed, hcancelled⟩ := h n rfl
    unfold bindingRefusal
    dsimp only
    rw [hr]
    exact if_neg (not_or.mpr ⟨hclosed, hcancelled⟩)

/-! ### The slot (R110) -/

section Slot
variable (u : NoticeUnit)

theorem NoticeUnit.freeSlot_eq_some_iff (k : Nat) : u.freeSlot = some k ↔
    k < 32 ∧ (∀ x ∈ u.notices, x.slot ≠ k) ∧ ∀ i < k, ∃ x ∈ u.notices, x.slot = i := by
  have hfree (i : Nat) : (noticeInSlot u.notices i).isNone = true ↔ ∀ x ∈ u.notices, x.slot ≠ i := by
    simp [noticeInSlot]
  have htaken (i : Nat) : (!(noticeInSlot u.notices i).isNone) = true ↔ ∃ x ∈ u.notices, x.slot = i := by
    rw [Bool.not_eq_true', ← Bool.not_eq_true, hfree]
    simp
  unfold NoticeUnit.freeSlot
  rw [List.find?_range_eq_some, hfree, List.mem_range]
  simp only [htaken]
  exact and_left_comm

/-- R110: a posting takes its own number's slot, or the lowest free one. -/
theorem NoticeUnit.slotFor_eq_some_iff (n k : Nat) : u.slotFor n = some k ↔
    (∃ x, findNotice u.notices n = some x ∧ x.slot = k) ∨ findNotice u.notices n = none ∧ k < 32
      ∧ (∀ x ∈ u.notices, x.slot ≠ k) ∧ ∀ i < k, ∃ x ∈ u.notices, x.slot = i := by
  unfold NoticeUnit.slotFor
  cases findNotice u.notices n with
  | none => simp [u.freeSlot_eq_some_iff]
  | some x => simp

theorem NoticeUnit.slotFor_eq_none {n : Nat} (hn : ∀ x ∈ u.notices, x.number ≠ n)
    (hfull : ∀ k < 32, ∃ x ∈ u.notices, x.slot = k) : u.slotFor n = none := by
  refine Option.eq_none_iff_forall_ne_some.mpr fun k hk => ?_
  obtain ⟨x, hx, -⟩ | ⟨-, hlt, hfree, -⟩ := (u.slotFor_eq_some_iff n k).mp hk
  · obtain ⟨hx, hnumber⟩ := mem_of_findNotice hx
    exact hn x hx hnumber
  · obtain ⟨x, hx, hslot⟩ := hfull k hlt
    exact hfree x hx hslot

end Slot

/-! ### What a posting answers (R109, R110) -/

section Post
variable {f : NoticeFields} {s : State}

theorem postNotice_outOfRange (h : ∀ c, f.inRange ≠ some c) : postNotice f s = refuse s .outOfRange := by
  unfold postNotice
  rw [Option.eq_none_iff_forall_ne_some.mpr h]

variable {c : NoticeClass} (hc : f.inRange = some c)
include hc

theorem postNotice_refused {o : OutcomeCode} (hb : bindingRefusal s.schedule.table f.bound = some o) :
    postNotice f s = refuse s o := by
  unfold postNotice
  rw [hc]
  dsimp only
  rw [hb]

theorem postNotice_full (hb : bindingRefusal s.schedule.table f.bound = none) (hs : s.notice.slotFor f.number = none) :
    postNotice f s = refuse s .full := by
  unfold postNotice
  rw [hc]
  dsimp only
  rw [hb]
  dsimp only
  rw [hs]

theorem postNotice_done {slot : Nat} (hb : bindingRefusal s.schedule.table f.bound = none)
    (hs : s.notice.slotFor f.number = some slot) :
    postNotice f s = done (s.withNotice (s.notice.post (f.notice c s.clock.runTime slot))) := by
  unfold postNotice
  rw [hc]
  dsimp only
  rw [hb]
  dsimp only
  rw [hs]

end Post

/-- R110, R119: a notice's tile is sized for its class and asked for in its class's lane. -/
theorem NoticeStyle.requests_eq (st : NoticeStyle) (n : Notice) : st.requests n = if n.cls = .urgent then
    [.size (224 + n.slot) st.urgentWidth st.urgentHeight, .redraw (224 + n.slot) .urgent]
    else [.size (224 + n.slot) st.normalWidth st.normalHeight, .redraw (224 + n.slot) .normal] := by
  unfold NoticeStyle.requests Notice.tile
  cases n.cls <;> rfl

/-- Settles O35: the checks in order, then the slot, and what the posting makes of the unit. -/
theorem noticesArePosted : Obligations.NoticesArePosted := by
  refine ⟨fun _ _ => rfl, fun _ _ => rfl, fun _ _ => rfl, fun s u p q f h => ⟨fun hbad => ?_, ?_⟩⟩
  · rw [exec_postNotice h, postNotice_outOfRange]
    · rfl
    · intro c hc
      obtain ⟨⟨hn, hn', ht, ht', ⟨hne, hall, hnodup⟩, hbound, hlife⟩, hcls⟩ := (f.inRange_eq_some_iff c).mp hc
      have hclass : 1 ≤ c.number ∧ c.number ≤ 3 := by cases c <;> decide
      obtain hbad | hbad | hbad | hbad | hbad | hbad | hbad | ⟨x, hx, hbad⟩ | hbad | hbad | ⟨m, hm, hbad⟩ := hbad
      · omega
      · omega
      · omega
      · omega
      · omega
      · omega
      · exact hne hbad
      · have := hall x hx
        omega
      · exact hbad hnodup
      · exact hbound hbad
      · have := hlife m hm
        omega
  · intro c hcls hn hn' ht ht' hne hall hnodup hbound hlife
    have hc : f.inRange = some c := (f.inRange_eq_some_iff c).mpr
      ⟨⟨hn, hn', ht, ht', ⟨hne, hall, hnodup⟩, hbound, hlife⟩, hcls⟩
    rw [exec_postNotice h]
    refine ⟨fun scr hb hr => ?_, fun scr r hb hr hp => ?_, fun hb => ⟨fun hfresh hfull => ?_, fun slot life n hslot hl hnotice => ?_⟩⟩
    · rw [postNotice_refused hc (hb ▸ bindingRefusal_noSuch (h.schedule ▸ hr))]
      rfl
    · rw [postNotice_refused hc (hb ▸ bindingRefusal_tooLate (h.schedule ▸ hr) hp)]
      rfl
    · rw [postNotice_full hc (bindingRefusal_eq_none (h.schedule ▸ hb)) (h.notice ▸ s.notice.slotFor_eq_none hfresh hfull)]
      rfl
    · have hslot : u.notice.slotFor f.number = some slot := h.notice ▸ (s.notice.slotFor_eq_some_iff ..).mpr hslot
      rw [postNotice_done hc (bindingRefusal_eq_none (h.schedule ▸ hb)) hslot, NoticeUnit.post, NoticeStyle.requests_eq, h.notice,
        h.clock]
      subst hl hnotice
      rfl

end Sys2Proof.Machine

end

section
/-! SUPPORT. Settles O38: the urgent lists stay the live URGENT notices of their panels (R108, R114, R115). Sound lists, a unit in
the course of a posting, panel by panel, and every command. -/

namespace Sys2Proof.Machine

open Sys2Proof

/-! ### A sound urgent list (R114, R115) -/

/-- R114, R115: a list is empty and nothing is shown, or it holds at most 4 notices, none twice, and shows one of them for a dwell. -/
def UrgentState.Sound (x : UrgentState) : Prop :=
  x = ⟨[], none, none⟩
    ∨ ∃ n k, x.shown = some n ∧ x.dwell = some k ∧ n ∈ x.list ∧ x.list.length ≤ 4 ∧ x.list.Nodup

/-- Whether a panel's urgent list must hold a notice number: that of a live URGENT notice that targets the panel (R114). -/
def Listed (ns : List Notice) (p n : Nat) : Prop := ∃ y ∈ ns, y.number = n ∧ y.cls = .urgent ∧ p ∈ y.targets

theorem NoticeUnit.panelSound_iff (u : NoticeUnit) (p : Nat) (x : UrgentState) :
    u.PanelSound p x ↔ x.Sound ∧ ∀ n, n ∈ x.list ↔ Listed u.notices p n := by
  obtain ⟨list, shown, dwell⟩ := x
  unfold NoticeUnit.PanelSound UrgentState.Sound Listed
  constructor
  · rintro ⟨hlength, hnodup, hlisted, hshown⟩
    refine ⟨?_, hlisted⟩
    cases shown with
    | none =>
      obtain ⟨rfl, rfl⟩ := hshown
      exact .inl rfl
    | some n =>
      obtain ⟨hn, hdwell⟩ := hshown
      obtain ⟨k, rfl⟩ := Option.isSome_iff_exists.mp hdwell
      exact .inr ⟨n, k, rfl, rfl, hn, hlength, hnodup⟩
  · rintro ⟨h | ⟨n, k, rfl, rfl, hn, hlength, hnodup⟩, hlisted⟩
    · cases h
      exact ⟨Nat.zero_le _, .nil, hlisted, rfl, rfl⟩
    · exact ⟨hlength, hnodup, hlisted, hn, rfl⟩

theorem exists_split_of_mem {l : List Nat} {n : Nat} (hm : n ∈ l) (hl : l.Nodup) :
    ∃ before after, l = before ++ n :: after ∧ n ∉ before ∧ n ∉ after ∧ (before ++ after).Nodup := by
  obtain ⟨before, after, rfl⟩ := List.append_of_mem hm
  obtain ⟨hn, hnodup⟩ := List.nodup_cons.mp (List.nodup_middle.mp hl)
  rw [List.mem_append, not_or] at hn
  exact ⟨before, after, rfl, hn.1, hn.2, hnodup⟩

section List
variable {x : UrgentState} (h : x.Sound)
include h

theorem UrgentState.Sound.nodup : x.list.Nodup := by
  obtain rfl | ⟨n, k, -, -, -, -, hnodup⟩ := h
  · exact .nil
  · exact hnodup

theorem UrgentState.Sound.length_le : x.list.length ≤ 4 := by
  obtain rfl | ⟨n, k, -, -, -, hlength, -⟩ := h
  · exact Nat.zero_le _
  · exact hlength

/-- A list of notices shows one of them, for any dwell. -/
theorem UrgentState.Sound.withDwell (hne : x.list ≠ []) (k : Nat) : UrgentState.Sound { x with dwell := some k } := by
  obtain rfl | ⟨n, -, hshown, -, hrest⟩ := h
  · exact absurd rfl hne
  · exact .inr ⟨n, k, hshown, rfl, hrest⟩

/-- R115: the notice that follows one that leaves is of the list. -/
theorem UrgentState.Sound.leave (n dwell : Nat) : (x.leave n dwell).Sound := by
  by_cases hm : n ∈ x.list
  · obtain rfl | ⟨m, k, hshown, hdwell, hmem, hlength, hnodup⟩ := h
    · exact nomatch hm
    · obtain ⟨before, after, hx, hb, ha, hrest⟩ := exists_split_of_mem hm hnodup
      have hshort : (before ++ after).length ≤ 4 := by
        rw [hx, List.length_append, List.length_cons] at hlength
        rw [List.length_append]
        omega
      rw [UrgentState.leave_append hx hb ha]
      split
      · exact .inl rfl
      · rename_i hne
        split
        · have hne' : after ++ before ≠ [] := by simpa [and_comm] using hne
          refine .inr ⟨(after ++ before).head hne', dwell, List.head?_eq_some_head hne', rfl, ?_, hshort, hrest⟩
          exact List.mem_append.mpr (List.mem_append.mp (List.head_mem hne')).symm
        · rename_i hother
          refine .inr ⟨m, k, hshown, hdwell, ?_, hshort, hrest⟩
          rw [hx, List.mem_append, List.mem_cons] at hmem
          rw [hshown, Option.some_inj] at hother
          exact List.mem_append.mpr (hmem.imp_right (·.resolve_left hother))
  · rwa [UrgentState.leave_of_notMem hm]

/-- R115: a first notice is shown. -/
theorem UrgentState.Sound.join {n : Nat} (hm : n ∉ x.list) (hl : x.list.length ≤ 3) (dwell : Nat) : (x.join n dwell).Sound := by
  obtain rfl | ⟨m, k, hshown, hdwell, hmem, -, hnodup⟩ := h
  · exact .inr ⟨n, dwell, rfl, rfl, List.mem_singleton_self n, by simp [UrgentState.join], List.nodup_singleton n⟩
  · unfold UrgentState.join
    rw [if_neg (List.ne_nil_of_mem hmem)]
    refine .inr ⟨m, k, hshown, hdwell, List.mem_append_left _ hmem, ?_, ?_⟩
    · rw [List.length_append, List.length_singleton]
      omega
    · exact List.nodup_append.mpr ⟨hnodup, List.nodup_singleton n, fun a ha b hb he =>
        hm (by rwa [← List.mem_singleton.mp hb, ← he])⟩

theorem UrgentState.Sound.toTail {n : Nat} (hm : n ∈ x.list) : (x.toTail n).Sound := by
  obtain rfl | ⟨m, k, hshown, hdwell, hmem, hlength, hnodup⟩ := h
  · exact nomatch hm
  · obtain ⟨before, after, hx, hb, ha, hrest⟩ := exists_split_of_mem hm hnodup
    have hperm : (before ++ after ++ [n]).Perm x.list := by
      rw [hx, List.append_assoc]
      exact (List.perm_append_singleton n after).append_left before
    rw [UrgentState.toTail_append hx hb ha]
    exact .inr ⟨m, k, hshown, hdwell, hperm.mem_iff.mpr hmem, hperm.length_eq ▸ hlength, hperm.nodup_iff.mpr hnodup⟩

/-- R115: the next notice shown is of the list. -/
theorem UrgentState.Sound.advance (dwell : Nat) : (x.advance dwell).Sound := by
  unfold UrgentState.advance
  split
  · obtain rfl | ⟨n, k, hshown, -, hmem, hlength, hnodup⟩ := h
    · contradiction
    · obtain ⟨before, after, hx, hb, -, -⟩ := exists_split_of_mem hmem hnodup
      have hne : after ++ before ++ [n] ≠ [] := List.append_ne_nil_of_right_ne_nil _ nofun
      have hfollowing : x.shown.bind (following x.list) = some ((after ++ before ++ [n]).head hne) := by
        rw [hshown, Option.bind_some, hx, following_append hb, List.head?_eq_some_head hne]
      refine .inr ⟨_, dwell, hfollowing, rfl, ?_, hlength, hnodup⟩
      have hhead := List.head_mem hne
      rw [hx]
      simp only [List.mem_append, List.mem_cons, List.not_mem_nil, or_false] at hhead ⊢
      exact hhead.elim (fun h => h.elim (fun ha => .inr (.inr ha)) .inl) fun he => .inr (.inl he)
  · exact h

theorem UrgentState.Sound.count : x.count.Sound := by
  unfold UrgentState.count
  split
  · rename_i hlong
    obtain rfl | ⟨n, k, hshown, hdwell, hrest⟩ := id h
    · exact absurd hlong (by simp)
    · rw [hdwell]
      exact h.withDwell (fun hnil => by simp [hnil] at hlong) _
  · exact h

theorem UrgentState.Sound.restart (dwell : Nat) : (x.restart dwell).Sound := by
  unfold UrgentState.restart
  split
  · exact h
  · rename_i hne
    exact h.withDwell hne dwell

end List

theorem UrgentState.count_list (x : UrgentState) : x.count.list = x.list := by
  unfold UrgentState.count
  split <;> rfl

theorem UrgentState.restart_list (x : UrgentState) (dwell : Nat) : (x.restart dwell).list = x.list := by
  unfold UrgentState.restart
  split <;> rfl

theorem UrgentState.advance_list (x : UrgentState) (dwell : Nat) : (x.advance dwell).list = x.list := by
  unfold UrgentState.advance
  split <;> rfl

theorem UrgentState.leave_head {x : UrgentState} {head : Nat} {rest : List Nat} (hx : x.list = head :: rest)
    (h : head ∉ rest) (dwell : Nat) : (x.leave head dwell).list = rest := by
  rw [UrgentState.leave_append (before := []) hx List.not_mem_nil h]
  split
  · rename_i hnil
    exact hnil.symm
  · split <;> rfl

/-! ### Who is listed (R114) -/

theorem listed_self_iff {ns : List Notice} (h : (ns.map Notice.number).Nodup) {n : Notice} (hn : n ∈ ns) (p : Nat) :
    Listed ns p n.number ↔ n.cls = .urgent ∧ p ∈ n.targets := by
  refine ⟨fun ⟨y, hy, hnumber, hrest⟩ => ?_, fun hrest => ⟨n, hn, rfl, hrest⟩⟩
  rwa [List.inj_on_of_nodup_map h hn hy hnumber.symm]

theorem listed_filter_iff (ns : List Notice) (n p m : Nat) :
    Listed (ns.filter fun y => y.number ≠ n) p m ↔ Listed ns p m ∧ m ≠ n := by
  unfold Listed
  constructor
  · rintro ⟨y, hy, rfl, hrest⟩
    obtain ⟨hy, hne⟩ := List.mem_filter.mp hy
    exact ⟨⟨y, hy, rfl, hrest⟩, by simpa using hne⟩
  · rintro ⟨⟨y, hy, rfl, hrest⟩, hne⟩
    exact ⟨y, List.mem_filter.mpr ⟨hy, by simpa using hne⟩, rfl, hrest⟩

theorem listed_untarget_iff (ns : List Notice) (head panel p m : Nat) :
    Listed (ns.map (Notice.untarget head panel)) p m ↔ Listed ns p m ∧ ¬(m = head ∧ p = panel) := by
  unfold Listed
  constructor
  · rintro ⟨_, hmap, rfl, hcls, htargets⟩
    obtain ⟨y, hy, rfl⟩ := List.mem_map.mp hmap
    rw [Notice.mem_untarget_targets] at htargets
    rw [Notice.untarget_cls] at hcls
    rw [Notice.untarget_number]
    exact ⟨⟨y, hy, rfl, hcls, htargets.1⟩, htargets.2⟩
  · rintro ⟨⟨y, hy, rfl, hcls, htargets⟩, hne⟩
    exact ⟨_, List.mem_map_of_mem hy, y.untarget_number .., (y.untarget_cls ..).trans hcls,
      (Notice.mem_untarget_targets ..).mpr ⟨htargets, hne⟩⟩

/-! ### A unit in the course of a posting (R114) -/

/-- The live notices have numbers and slots of their own, every panel's list is sound, and it lists whom it must; but of the notice
number `n`, that only the panels below `k` have been brought into step with, the other panels' lists say nothing. -/
structure NoticeUnit.InStep (u : NoticeUnit) (n k : Nat) : Prop where
  numbers : (u.notices.map Notice.number).Nodup
  slots : (u.notices.map Notice.slot).Nodup
  slot_lt : ∀ i ∈ u.notices.map Notice.slot, i < 32
  lists : ∀ p : Fin 12, u.urgent[p].Sound
  listed : ∀ (p : Fin 12) m, m ≠ n ∨ p.val < k → (m ∈ u.urgent[p].list ↔ Listed u.notices p m)

/-- With all twelve panels in step a unit is sound where every notice has a target. -/
theorem NoticeUnit.sound_iff (u : NoticeUnit) (n : Nat) : u.Sound ↔ u.InStep n 12 ∧ ∀ y ∈ u.notices, y.targets ≠ [] := by
  constructor
  · rintro ⟨hnumbers, hslots, hnotices, hpanels⟩
    have hpanel (p : Fin 12) := (u.panelSound_iff p u.urgent[p]).mp (hpanels p p.isLt)
    refine ⟨⟨hnumbers, hslots, ?_, fun p => (hpanel p).1, fun p m _ => (hpanel p).2 m⟩, fun y hy => (hnotices y hy).2⟩
    exact List.forall_mem_map.mpr fun y hy => (hnotices y hy).1
  · rintro ⟨⟨hnumbers, hslots, hlt, hlists, hlisted⟩, htargets⟩
    refine ⟨hnumbers, hslots, fun y hy => ⟨hlt _ (List.mem_map_of_mem hy), htargets y hy⟩, fun p hp => ?_⟩
    exact (u.panelSound_iff p u.urgent[p]).mpr ⟨hlists ⟨p, hp⟩, fun m => hlisted ⟨p, hp⟩ m (.inr hp)⟩

section InStep
variable {u : NoticeUnit} {n k : Nat}

/-- R111: a notice that is withdrawn is no longer live, and leaves every list. -/
theorem NoticeUnit.InStep.withdraw (h : u.InStep n k) (m : Nat) : (u.withdraw m).1.InStep n k := by
  cases hf : findNotice u.notices m with
  | none => rwa [NoticeUnit.withdraw_absent (findNotice_eq_none_iff.mp hf)]
  | some x =>
    rw [NoticeUnit.withdraw_live hf]
    have hsub : (u.notices.filter fun y => y.number ≠ m).Sublist u.notices := List.filter_sublist
    have hpanel (p : Fin 12) : (mapAll (fun y => UrgentState.leave y m u.style.urgentDwell) u.urgent)[p]
        = u.urgent[p].leave m u.style.urgentDwell := mapAll_getElem ..
    refine ⟨h.numbers.sublist (hsub.map _), h.slots.sublist (hsub.map _), fun i hi => h.slot_lt i ((hsub.map _).subset hi),
      fun p => ?_, fun p i hi => ?_⟩
    · rw [hpanel]
      exact (h.lists p).leave m _
    · rw [hpanel, UrgentState.mem_leave, h.listed p i hi, listed_filter_iff]

/-- A panel is brought into step: its list, and the listings of that panel alone, are changed. -/
theorem NoticeUnit.InStep.put {k : Fin 12} (h : u.InStep n k) {ns : List Notice} {x : UrgentState}
    (hnumbers : ns.map Notice.number = u.notices.map Notice.number) (hslots : ns.map Notice.slot = u.notices.map Notice.slot)
    (hother : ∀ p : Fin 12, p ≠ k → ∀ m, Listed ns p m ↔ Listed u.notices p m) (hx : x.Sound)
    (hlisted : ∀ m, m ∈ x.list ↔ Listed ns k m) : NoticeUnit.InStep ⟨ns, Machine.put u.urgent k x, u.style⟩ n (k + 1) := by
  refine ⟨hnumbers ▸ h.numbers, hslots ▸ h.slots, hslots ▸ h.slot_lt, fun p => ?_, fun p m hm => ?_⟩
  · dsimp only
    rw [put_getElem]
    split
    · exact hx
    · exact h.lists p
  · dsimp only
    rw [put_getElem]
    split
    · rename_i hp
      exact hp ▸ hlisted m
    · rename_i hp
      have hbelow : p.val ≠ k.val := fun he => hp (Fin.ext he)
      rw [hother p hp, h.listed p m (hm.imp_right fun hlt => by omega)]

end InStep

/-- A unit with a notice just posted, that the panels below `k` have been brought into step with. -/
structure NoticeUnit.Posting (u : NoticeUnit) (n : Notice) (k : Nat) : Prop where
  inStep : u.InStep n.number k
  mem : n ∈ u.notices
  targets : ∀ y ∈ u.notices, y.targets ≠ []

section Posting
variable {u : NoticeUnit} {n : Notice}

/-- R114: a list that the notice has joined, or kept its place on, lists whom it must. -/
theorem NoticeUnit.Posting.listed_of_added {k : Fin 12} (h : u.Posting n k) (hc : n.cls = .urgent) (ht : k.val ∈ n.targets)
    {x : UrgentState} (hx : ∀ m, m ∈ x.list ↔ m ∈ u.urgent[k].list ∨ m = n.number) (m : Nat) :
    m ∈ x.list ↔ Listed u.notices k m := by
  rw [hx]
  by_cases he : m = n.number
  · subst he
    exact iff_of_true (.inr rfl) ((listed_self_iff h.inStep.numbers h.mem k).mpr ⟨hc, ht⟩)
  · rw [h.inStep.listed k m (.inl he)]
    exact or_iff_left he

/-- R114: the head of a full list is pushed out; where that was its last target panel, it is withdrawn. -/
theorem NoticeUnit.Posting.pushOut {k : Fin 12} (h : u.Posting n k) (hc : n.cls = .urgent) (ht : k.val ∈ n.targets)
    (hm : n.number ∉ u.urgent[k].list) {head : Nat} {rest : List Nat} (hl : u.urgent[k].list = head :: rest) :
    ((u.pushedOut n k head).withdrawIfTargetless head).1.Posting n (k + 1) := by
  obtain ⟨hstep, hn, htargets⟩ := h
  have hsound := hstep.lists k
  have hrest : head ∉ rest := (List.nodup_cons.mp (hl ▸ hsound.nodup)).1
  have hshort : rest.length + 1 ≤ 4 := List.length_cons ▸ hl ▸ hsound.length_le
  have hne : n.number ≠ head := fun he => hm (by rw [he, hl]; exact List.mem_cons_self ..)
  have hleft (m : Nat) := u.urgent[k].mem_leave head u.style.urgentDwell m
  have hself := listed_self_iff hstep.numbers hn k
  have hjoin (m : Nat) : m ∈ ((u.urgent[k].leave head u.style.urgentDwell).join n.number u.style.urgentDwell).list
      ↔ Listed (u.notices.map (Notice.untarget head k.val)) k m := by
    rw [UrgentState.mem_join, hleft, listed_untarget_iff]
    by_cases he : m = n.number
    · subst he
      exact iff_of_true (.inr rfl) ⟨hself.mpr ⟨hc, ht⟩, fun h => hne h.1⟩
    · rw [hstep.listed k m (.inl he)]
      simp [he]
  have hpushed : (u.pushedOut n k head).InStep n.number (k + 1) := by
    refine hstep.put (by simp [Function.comp_def]) (by simp [Function.comp_def]) (fun p hp m => ?_) ?_ hjoin
    · rw [listed_untarget_iff]
      exact and_iff_left fun h => hp (Fin.ext h.2)
    · refine (hsound.leave head _).join (fun h => hm ((hleft _).mp h).1) ?_ _
      rw [UrgentState.leave_head hl hrest]
      exact Nat.le_of_succ_le_succ hshort
  have hmem : n ∈ (u.pushedOut n k head).notices := List.mem_map.mpr ⟨n, hn, Notice.untarget_of_ne hne _⟩
  have hkept {y : Notice} (hy : y ∈ (u.pushedOut n k head).notices) (hyne : y.number ≠ head) : y.targets ≠ [] := by
    obtain ⟨z, hz, rfl⟩ := List.mem_map.mp hy
    rw [Notice.untarget_number] at hyne
    rw [Notice.untarget_of_ne hyne]
    exact htargets z hz
  obtain ⟨hstays, hsome⟩ | ⟨hgoes, -⟩ := (u.pushedOut n k head).withdrawIfTargetless_cases head
  · rw [hstays]
    refine ⟨hpushed, hmem, fun y hy => ?_⟩
    by_cases hyhead : y.number = head
    · exact hsome y ((findNotice_eq_some_iff hpushed.numbers).mpr ⟨hy, hyhead⟩)
    · exact hkept hy hyhead
  · rw [hgoes]
    refine ⟨hpushed.withdraw head, (NoticeUnit.mem_withdraw ..).mpr ⟨hmem, hne⟩, fun y hy => ?_⟩
    obtain ⟨hy, hyne⟩ := (NoticeUnit.mem_withdraw ..).mp hy
    exact hkept hy hyne

/-- R114: a panel's list is brought into step with the notice. -/
theorem NoticeUnit.Posting.stepPanel {k : Fin 12} (h : u.Posting n k) : (u.stepPanel n k.val).1.Posting n (k + 1) := by
  obtain ⟨hstep, hn, htargets⟩ := id h
  have hsound := hstep.lists k
  have hput {x : UrgentState} (hx : x.Sound) (hlisted : ∀ m, m ∈ x.list ↔ Listed u.notices k m) :
      NoticeUnit.Posting { u with urgent := put u.urgent k x } n (k + 1) :=
    ⟨hstep.put rfl rfl (fun _ _ _ => Iff.rfl) hx hlisted, hn, htargets⟩
  by_cases hon : n.cls = .urgent ∧ k.val ∈ n.targets
  · obtain ⟨hc, ht⟩ := hon
    by_cases hm : n.number ∈ u.urgent[k].list
    · rw [NoticeUnit.stepPanel_toTail hc ht hm]
      exact hput (hsound.toTail hm) (h.listed_of_added hc ht (u.urgent[k].mem_toTail n.number))
    · by_cases hl : u.urgent[k].list.length ≤ 3
      · rw [NoticeUnit.stepPanel_join hc ht hm hl]
        exact hput (hsound.join hm hl _) (h.listed_of_added hc ht (u.urgent[k].mem_join n.number _))
      · obtain ⟨head, rest, hlist⟩ := List.exists_cons_of_length_pos (by omega : 0 < u.urgent[k].list.length)
        rw [hlist, List.length_cons] at hl
        rw [NoticeUnit.stepPanel_full hc ht hm hlist (by omega)]
        exact h.pushOut hc ht hm hlist
  · rw [NoticeUnit.stepPanel_leave hon]
    refine hput (hsound.leave _ _) fun m => ?_
    rw [UrgentState.mem_leave]
    by_cases he : m = n.number
    · subst he
      exact iff_of_false (fun h => h.2 rfl) fun h => hon ((listed_self_iff hstep.numbers hn k).mp h)
    · rw [hstep.listed k m (.inl he)]
      exact and_iff_left he

/-- The panels are brought into step one after another. -/
theorem NoticeUnit.Posting.steps (h : u.Posting n 0) {k : Nat} (hk : k ≤ 12) : ((List.range k).foldl (fun x panel =>
    ((x.1.stepPanel n panel).1, x.2 ++ (x.1.stepPanel n panel).2)) (u, [])).1.Posting n k := by
  induction k with
  | zero => exact h
  | succ k ih =>
    rw [List.range_succ, List.foldl_append]
    exact NoticeUnit.Posting.stepPanel (k := ⟨k, hk⟩) (ih (Nat.le_of_lt hk))

theorem NoticeUnit.Posting.stepPanels (h : u.Posting n 0) : (u.stepPanels n).1.Sound := by
  obtain ⟨hstep, -, htargets⟩ := h.steps (Nat.le_refl 12)
  exact (NoticeUnit.sound_iff _ n.number).mpr ⟨hstep, htargets⟩

end Posting

/-! ### The notice unit -/

section Sound
variable {u : NoticeUnit} (h : u.Sound)
include h

theorem NoticeUnit.Sound.withdraw (n : Nat) : (u.withdraw n).1.Sound := by
  obtain ⟨hstep, htargets⟩ := (u.sound_iff n).mp h
  exact (NoticeUnit.sound_iff _ n).mpr ⟨hstep.withdraw n, fun y hy => htargets y ((NoticeUnit.mem_withdraw ..).mp hy).1⟩

theorem NoticeUnit.Sound.withdrawAll (ns : List Nat) : (u.withdrawAll ns).1.Sound := by
  induction ns generalizing u with
  | nil => exact h
  | cons n ns ih =>
    rw [NoticeUnit.withdrawAll_cons]
    exact ih (h.withdraw n)

/-- What keeps every list, and keeps it sound, keeps the unit sound. -/
theorem NoticeUnit.Sound.withUrgent {v : Vector UrgentState 12}
    (hv : ∀ p : Fin 12, u.urgent[p].Sound → v[p].Sound ∧ v[p].list = u.urgent[p].list) (st : NoticeStyle) :
    NoticeUnit.Sound ⟨u.notices, v, st⟩ := by
  obtain ⟨⟨hnumbers, hslots, hlt, hlists, hlisted⟩, htargets⟩ := (u.sound_iff 0).mp h
  refine (NoticeUnit.sound_iff _ 0).mpr ⟨⟨hnumbers, hslots, hlt, fun p => (hv p (hlists p)).1, fun p m hm => ?_⟩, htargets⟩
  exact (hv p (hlists p)).2 ▸ hlisted p m hm

theorem NoticeUnit.Sound.mapUrgent {f : UrgentState → UrgentState} (hf : ∀ x : UrgentState, x.Sound → (f x).Sound ∧ (f x).list = x.list)
    (st : NoticeStyle) : NoticeUnit.Sound ⟨u.notices, mapAll f u.urgent, st⟩ :=
  h.withUrgent (fun p hp => (mapAll_getElem f u.urgent p p.isLt).symm ▸ hf _ hp) st

/-- R110: a notice in a slot that no other notice has is posted. -/
theorem NoticeUnit.Sound.post {n : Notice} (hslot : n.slot < 32) (hfree : ∀ y ∈ u.notices, y.number ≠ n.number → y.slot ≠ n.slot)
    (htarget : n.targets ≠ []) : (u.post n).1.Sound := by
  obtain ⟨⟨hnumbers, hslots, hlt, hlists, hlisted⟩, htargets⟩ := (u.sound_iff n.number).mp h
  have hsub : (u.notices.filter fun y => y.number ≠ n.number).Sublist u.notices := List.filter_sublist
  have hothers {y : Notice} (hy : y ∈ u.notices.filter fun y => y.number ≠ n.number) : y ∈ u.notices ∧ y.number ≠ n.number :=
    (List.mem_filter.mp hy).imp_right of_decide_eq_true
  have happend {f : Notice → Nat} (hf : (u.notices.map f).Nodup)
      (hne : ∀ y ∈ u.notices.filter (fun y => y.number ≠ n.number), f y ≠ f n) :
      (((u.notices.filter fun y => y.number ≠ n.number) ++ [n]).map f).Nodup := by
    rw [List.map_append]
    refine List.nodup_append.mpr ⟨hf.sublist (hsub.map f), List.nodup_singleton _, fun a ha b hb => ?_⟩
    obtain ⟨y, hy, rfl⟩ := List.mem_map.mp ha
    rw [List.mem_singleton.mp hb]
    exact hne y hy
  refine NoticeUnit.Posting.stepPanels ⟨⟨happend hnumbers fun y hy => (hothers hy).2,
    happend hslots fun y hy => hfree y (hothers hy).1 (hothers hy).2, ?_, hlists, fun p m hm => ?_⟩, by simp, fun y hy => ?_⟩
  · rw [List.forall_mem_map]
    intro y hy
    obtain hy | hy := List.mem_append.mp hy
    · exact hlt _ (List.mem_map_of_mem (hothers hy).1)
    · exact List.mem_singleton.mp hy ▸ hslot
  · have hm : m ≠ n.number := hm.resolve_right (Nat.not_lt_zero _)
    have hlast : ¬Listed [n] p m := fun ⟨y, hy, hnumber, _⟩ => hm (by rw [← hnumber, List.mem_singleton.mp hy])
    have hfilter := listed_filter_iff u.notices n.number p m
    rw [hlisted p m (.inl hm)]
    constructor
    · intro hl
      obtain ⟨y, hy, hrest⟩ := hfilter.mpr ⟨hl, hm⟩
      exact ⟨y, List.mem_append_left _ hy, hrest⟩
    · rintro ⟨y, hy, hrest⟩
      obtain hy | hy := List.mem_append.mp hy
      · exact (hfilter.mp ⟨y, hy, hrest⟩).1
      · exact absurd ⟨y, hy, hrest⟩ hlast
  · obtain hy | hy := List.mem_append.mp hy
    · exact htargets y (hothers hy).1
    · exact List.mem_singleton.mp hy ▸ htarget

end Sound

/-! ### Every command -/

/-- R110: the slot a posting takes is its own number's, or no notice's. -/
theorem NoticeUnit.Sound.slotFor {u : NoticeUnit} (h : u.Sound) {n slot : Nat} (hs : u.slotFor n = some slot) :
    slot < 32 ∧ ∀ y ∈ u.notices, y.number ≠ n → y.slot ≠ slot := by
  obtain ⟨-, hslots, hnotices, -⟩ := h
  obtain ⟨x, hx, rfl⟩ | ⟨-, hlt, hfree, -⟩ := (u.slotFor_eq_some_iff n slot).mp hs
  · obtain ⟨hx, hnumber⟩ := mem_of_findNotice hx
    refine ⟨(hnotices x hx).1, fun y hy hne he => hne ?_⟩
    rw [List.inj_on_of_nodup_map hslots hy hx he, hnumber]
  · exact ⟨hlt, fun y hy _ => hfree y hy⟩

theorem postNotice_noticeSound {s : State} (h : s.notice.Sound) (f : NoticeFields) : (postNotice f s).1.notice.Sound := by
  unfold postNotice
  split
  · exact h
  · rename_i c hc
    split
    · exact h
    · split
      · exact h
      · rename_i slot hslot
        obtain ⟨hlt, hfree⟩ := h.slotFor hslot
        obtain ⟨⟨-, -, -, -, ⟨htarget, -⟩, -⟩, -⟩ := (f.inRange_eq_some_iff c).mp hc
        exact h.post hlt hfree htarget

theorem withdrawNotice_noticeSound {s : State} (h : s.notice.Sound) (n : Nat) : (withdrawNotice n s).1.notice.Sound := by
  unfold withdrawNotice
  split
  · exact h
  · split
    · exact h
    · exact h.withdraw n

theorem setNoticeStyle_noticeSound {s : State} (h : s.notice.Sound) (st : NoticeStyle) : (setNoticeStyle st s).1.notice.Sound := by
  unfold setNoticeStyle
  split
  · refine h.mapUrgent (fun x hx => ?_) st
    split
    · rename_i hone
      exact ⟨hx.withDwell (fun hnil => by simp [hnil] at hone) _, rfl⟩
    · exact ⟨hx, rfl⟩
  · exact h

theorem takeNoticeEvent_noticeSound {s : State} (h : s.notice.Sound)
    {act : ScheduleEvent → Option (NoticeUnit × List TileRequest)} (hact : ∀ e x, act e = some x → x.1.Sound) :
    (s.takeNoticeEvent act).notice.Sound := by
  unfold State.takeNoticeEvent
  split
  · exact h
  · split
    · exact h
    · rename_i hx
      split
      · exact hact _ _ hx
      · exact h

theorem execNoticeExpiry_noticeSound {s : State} (h : s.notice.Sound) :
    Result.Keeps (fun t => t.notice.Sound) (execNoticeExpiry s) := by
  refine .next ?_
  split
  · exact h
  · split
    · exact (h.withdrawAll _).mapUrgent (fun x hx => ⟨hx.count, x.count_list⟩) _
    · exact h

theorem execUrgentDwellExpiry_noticeSound {s : State} (h : s.notice.Sound) (panel : Nat) :
    Result.Keeps (fun t => t.notice.Sound) (execUrgentDwellExpiry panel s) := by
  refine .next (h.withUrgent (fun p hp => ?_) _)
  have hp' : (modifyAt s.notice.urgent panel fun x => x.advance s.notice.style.urgentDwell)[p]
      = if p.val = panel then s.notice.urgent[p].advance s.notice.style.urgentDwell else s.notice.urgent[p] :=
    modifyAt_getElem ..
  rw [hp']
  split
  · exact ⟨hp.advance _, UrgentState.advance_list ..⟩
  · exact ⟨hp, rfl⟩

theorem execNoticeRestart_noticeSound {s : State} (h : s.notice.Sound) :
    Result.Keeps (fun t => t.notice.Sound) (execNoticeRestart s) := by
  refine .next ?_
  split
  · exact h
  · exact h.mapUrgent (fun x hx => ⟨hx.restart _, x.restart_list _⟩) _

/-- R108, R114, R115: every command keeps the urgent lists the live URGENT notices of their panels. -/
theorem exec_noticeSound (i : Instr) {s : State} (h : s.notice.Sound) : Result.Keeps (fun t => t.notice.Sound) (exec i s) := by
  have hmove {s t : State} (hf : s.Frame [.queues, .block .link] t) (hs : s.notice.Sound) : t.notice.Sound := by
    rwa [← hf.same (.block .notice) (by simp)]
  have hreset (t : State) : t.fullReset.notice.Sound := reset_noticeSound
  cases i with
  | answerSent p => exact execAnswerSent_preserves hmove hreset h p
  | fullReset => exact .next (hreset s)
  | postNotice p => exact .next (State.takeAndAnswer_preserves hmove (fun f _ ht => postNotice_noticeSound ht f) h)
  | withdrawNotice p => exact .next (State.takeAndAnswer_preserves hmove (fun n _ ht => withdrawNotice_noticeSound ht n) h)
  | setNoticeStyle p => exact .next (State.takeAndAnswer_preserves hmove (fun st _ ht => setNoticeStyle_noticeSound ht st) h)
  | noticeExpiry => exact execNoticeExpiry_noticeSound h
  | urgentDwellExpiry p => exact execUrgentDwellExpiry_noticeSound h p
  | noticeRestart => exact execNoticeRestart_noticeSound h
  | noticePhaseChanged =>
    refine .next (takeNoticeEvent_noticeSound h fun e x hx => ?_)
    split at hx
    · cases hx
      exact h.withdrawAll _
    · cases hx
      exact h
    · cases hx
  | noticeScreeningRemoved =>
    refine .next (takeNoticeEvent_noticeSound h fun e x hx => ?_)
    split at hx
    · cases hx
      exact h.withdrawAll _
    · cases hx
  | _ =>
    refine (exec_frame _ s).keeps fun t hf => ?_
    have hsame : s.notice = t.notice := hf.same (.block .notice)
      (by simp [Instr.touches, Instr.takes, Instr.queryKind, Instr.eventTouches, Instr.block])
    rwa [← hsame]

/-- Settles O38: a step runs one command, and every command keeps the lists. -/
theorem urgentListsMatchTheNotices : Obligations.UrgentListsMatchTheNotices := fun _ _ h hs =>
  step_keeps (P := fun t => t.notice.Sound) (fun _ _ h => h) (fun i _ h => exec_noticeSound i h) h hs

end Sys2Proof.Machine

end

section
/-! SUPPORT. Settles O37: withdrawals by every cause, the notice style and the restart (R111 to R113, R115, R119, R122). -/

namespace Sys2Proof.Machine

open Sys2Proof

/-! ### Notices in order -/

/-- R112, R113: several notices go in ascending notice number. -/
theorem NoticeUnit.numbersWhere_eq (u : NoticeUnit) {test : Notice → Bool} {numbers : List Nat}
    (hsorted : numbers.Pairwise (· ≤ ·)) (hperm : numbers.Perm ((u.notices.filter test).map Notice.number)) :
    u.numbersWhere test = numbers :=
  ((List.perm_insertionSort ..).trans hperm.symm).eq_of_pairwise' (List.pairwise_insertionSort ..) hsorted

theorem NoticeUnit.bySlot_pairwise (u : NoticeUnit) : u.bySlot.Pairwise fun x y => x.slot < y.slot := by
  refine List.pairwise_filterMap.mpr (List.pairwise_lt_range.imp fun hlt x hx y hy => ?_)
  rwa [(mem_of_noticeInSlot hx).2, (mem_of_noticeInSlot hy).2]

theorem NoticeUnit.mem_bySlot_iff {u : NoticeUnit} (hslots : (u.notices.map Notice.slot).Nodup)
    (hlt : ∀ x ∈ u.notices, x.slot < 32) (n : Notice) : n ∈ u.bySlot ↔ n ∈ u.notices := by
  unfold NoticeUnit.bySlot
  simp only [List.mem_filterMap, List.mem_range, noticeInSlot_eq_some_iff hslots]
  exact ⟨fun ⟨_, _, hn, _⟩ => hn, fun hn => ⟨n.slot, hlt n hn, hn, rfl⟩⟩

/-! ### WITHDRAW NOTICE and SET NOTICE STYLE (R111, R119) -/

section Withdraw
variable {n : Nat} {s : State}

theorem withdrawNotice_outOfRange (h : n < 1 ∨ 255 < n) : withdrawNotice n s = refuse s .outOfRange :=
  if_pos (h.imp_left Nat.lt_one_iff.mp)

variable (hn : 1 ≤ n) (hn' : n ≤ 255)
include hn hn'

theorem withdrawNotice_noSuch (h : ∀ x ∈ s.notice.notices, x.number ≠ n) : withdrawNotice n s = refuse s .noSuch := by
  unfold withdrawNotice
  rw [if_neg (by omega), findNotice_eq_none_iff.mpr h]

theorem withdrawNotice_done (h : ∃ x ∈ s.notice.notices, x.number = n) :
    withdrawNotice n s = done (s.withNotice (s.notice.withdraw n)) := by
  obtain ⟨x, hx⟩ : ∃ x, findNotice s.notice.notices n = some x := by
    obtain ⟨x, hx, hnumber⟩ := h
    exact Option.ne_none_iff_exists'.mp fun hnone => findNotice_eq_none_iff.mp hnone x hx hnumber
  unfold withdrawNotice
  rw [if_neg (by omega), hx]

end Withdraw

theorem NoticeStyle.valid_iff (x : NoticeStyle) : x.valid = true ↔
    3 ≤ x.urgentDwell ∧ x.urgentDwell ≤ 60 ∧ 1 ≤ x.normalWidth ∧ x.normalWidth ≤ 48 ∧ 1 ≤ x.normalHeight ∧ x.normalHeight ≤ 48
      ∧ 1 ≤ x.urgentWidth ∧ x.urgentWidth ≤ 48 ∧ 2 ≤ x.urgentHeight ∧ x.urgentHeight ≤ 48 ∧ x.urgentColour ≤ 65535 := by
  simp only [NoticeStyle.valid, Bool.and_eq_true, decide_eq_true_iff, and_assoc]

theorem setNoticeStyle_outOfRange {x : NoticeStyle} (h : ¬x.valid = true) (s : State) :
    setNoticeStyle x s = refuse s .outOfRange := if_neg h

theorem setNoticeStyle_done {x : NoticeStyle} (h : x.valid = true) (s : State) :
    setNoticeStyle x s = done (s.withNotice (s.notice.restyle x)) := if_pos h

/-- R119: the notices of the two classes of one size that a style asks for, and those of the other. -/
theorem NoticeStyle.flatMap_requests (st : NoticeStyle) (ns : List Notice) :
    (ns.filter fun n => n.cls ≠ .urgent).flatMap st.requests
        = ((ns.filter fun n => n.cls ≠ .urgent).flatMap fun n =>
            [.size n.tile st.normalWidth st.normalHeight, .redraw n.tile .normal])
      ∧ (ns.filter fun n => n.cls = .urgent).flatMap st.requests
        = (ns.filter fun n => n.cls = .urgent).flatMap fun n =>
            [.size n.tile st.urgentWidth st.urgentHeight, .redraw n.tile .urgent] := by
  constructor <;> refine List.flatMap_congr fun n hn => ?_
  · have hcls : n.cls ≠ .urgent := by simpa using (List.mem_filter.mp hn).2
    rw [st.requests_eq, if_neg hcls]
    rfl
  · have hcls : n.cls = .urgent := by simpa using (List.mem_filter.mp hn).2
    rw [st.requests_eq, if_pos hcls]
    rfl

/-- R119: a style is taken; a class is asked for where its size changes. -/
theorem NoticeUnit.restyle_eq (u : NoticeUnit) (x : NoticeStyle) : u.restyle x =
    ({ u with
      style := x
      urgent := mapAll (fun y => if y.list.length = 1 then { y with dwell := some x.urgentDwell } else y) u.urgent },
     (if x.normalWidth = u.style.normalWidth ∧ x.normalHeight = u.style.normalHeight then []
       else (u.bySlot.filter fun n => n.cls ≠ .urgent).flatMap fun n =>
         [.size n.tile x.normalWidth x.normalHeight, .redraw n.tile .normal])
       ++ if x.urgentWidth = u.style.urgentWidth ∧ x.urgentHeight = u.style.urgentHeight then []
         else (u.bySlot.filter fun n => n.cls = .urgent).flatMap fun n =>
           [.size n.tile x.urgentWidth x.urgentHeight, .redraw n.tile .urgent]) := by
  obtain ⟨hnormal, hurgent⟩ := x.flatMap_requests u.bySlot
  unfold NoticeUnit.restyle
  dsimp only
  simp only [hnormal, hurgent, ne_eq, Prod.mk.injEq, ite_not]

/-! ### Run-time seconds and dwells (R112, R115) -/

section Settled
variable {s : State} (hs : s.notice.settled = true)
include hs

theorem exec_noticeExpiry_due {t : Nat} (h : s.nextSecond .notice = some t) :
    exec .noticeExpiry s = .next ((s.dropSecond .notice).withNotice (s.notice.second t)) := by
  show execNoticeExpiry s = _
  unfold execNoticeExpiry
  rw [h]
  exact congrArg Host.Outcome.next (if_pos hs)

/-! ### The schedule unit's events and the restart (R113, R122) -/

/-- The event at the head of the schedule unit's queue is taken where the command is the event's. -/
theorem takeNoticeEvent_cons {act : ScheduleEvent → Option (NoticeUnit × List TileRequest)} {e : ScheduleEvent}
    {rest : List ScheduleEvent} {x : NoticeUnit × List TileRequest} (h : s.mail.scheduleToNotice = e :: rest)
    (hact : act e = some x) : s.takeNoticeEvent act
      = ({ s with mail := { s.mail with scheduleToNotice := rest } } : State).withNotice x := by
  unfold State.takeNoticeEvent
  rw [h]
  dsimp only
  rw [hact]
  exact if_pos hs

theorem exec_noticePhaseChanged_closed {n : Nat} {rest : List ScheduleEvent}
    (h : s.mail.scheduleToNotice = .phaseChanged n .closed :: rest) : exec .noticePhaseChanged s
      = .next (({ s with mail := { s.mail with scheduleToNotice := rest } } : State).withNotice (s.notice.withdrawBound n)) :=
  congrArg Host.Outcome.next (takeNoticeEvent_cons hs h rfl)

theorem exec_noticePhaseChanged_open {n : Nat} {phase : Phase} {rest : List ScheduleEvent}
    (h : s.mail.scheduleToNotice = .phaseChanged n phase :: rest) (hp : phase ≠ .closed) :
    exec .noticePhaseChanged s = .next { s with mail := { s.mail with scheduleToNotice := rest } } := by
  refine congrArg Host.Outcome.next ((takeNoticeEvent_cons hs h (x := (s.notice, [])) ?_).trans (State.requestTiles_nil _ .notice))
  cases phase with
  | closed => exact absurd rfl hp
  | _ => rfl

theorem exec_noticeScreeningRemoved_cons {n : Nat} {rest : List ScheduleEvent}
    (h : s.mail.scheduleToNotice = .removed n :: rest) : exec .noticeScreeningRemoved s
      = .next (({ s with mail := { s.mail with scheduleToNotice := rest } } : State).withNotice (s.notice.withdrawBound n)) :=
  congrArg Host.Outcome.next (takeNoticeEvent_cons hs h rfl)

theorem exec_noticeRestart_due (h : 0 < s.mail.restarts[Block.notice.index]) :
    exec .noticeRestart s = .next ((s.dropRestart .notice).withNotice
      ({ s.notice with urgent := mapAll (fun x => x.restart s.notice.style.urgentDwell) s.notice.urgent },
        s.notice.bySlot.map fun n => .redraw n.tile n.cls.lane)) := by
  have hdue : ¬(s.mail.restarts[Block.notice.index] = 0 ∨ s.notice.settled = false) :=
    not_or.mpr ⟨Nat.ne_of_gt h, fun hf => Bool.false_ne_true (hf.symm.trans hs)⟩
  exact congrArg Host.Outcome.next (if_neg hdue)

end Settled

/-- R115: a panel whose dwell has run out shows the notice that follows, for a full dwell. -/
theorem exec_urgentDwellExpiry_due {s : State} {panel : Fin 12} {before after : List Nat} {n : Nat}
    (h : s.notice.urgent[panel] = ⟨before ++ n :: after, some n, some 0⟩) (hn : n ∉ before) :
    exec (.urgentDwellExpiry panel.val) s = .next { s with notice := { s.notice with
      urgent := put s.notice.urgent panel
        ⟨before ++ n :: after, (after ++ before ++ [n]).head?, some s.notice.style.urgentDwell⟩ } } := by
  have hmodify : modifyAt s.notice.urgent panel.val (fun x => x.advance s.notice.style.urgentDwell)
      = put s.notice.urgent panel (s.notice.urgent[panel].advance s.notice.style.urgentDwell) := dif_pos panel.isLt
  have hadvance (dwell : Nat) : s.notice.urgent[panel].advance dwell
      = ⟨before ++ n :: after, (after ++ before ++ [n]).head?, some dwell⟩ := by
    rw [h, UrgentState.advance, if_pos rfl, Option.bind_some, following_append hn]
  rw [hadvance] at hmodify
  exact congrArg (fun v => Host.Outcome.next { s with notice := { s.notice with urgent := v } }) hmodify

theorem NoticeClass.lane_eq (c : NoticeClass) : c.lane = if c = .urgent then .urgent else .normal := by
  cases c <;> rfl

/-- Settles O37: each withdrawal from its command's lemma, then the style, the restart and what withdrawals come to. -/
theorem noticesAreWithdrawn : Obligations.NoticesAreWithdrawn := by
  refine ⟨⟨fun u n h => NoticeUnit.withdraw_live h, fun s u p q n h => ⟨fun hn => ?_, fun hn hn' hx => ?_, fun hn hn' hx => ?_⟩,
    fun s t numbers ht hs hsorted hperm => ?_, fun s panel before after n h hn => exec_urgentDwellExpiry_due h hn, ?_⟩,
    ⟨fun s u p q x h => ⟨fun hbad => ?_, fun h1 h2 h3 h4 h5 h6 h7 h8 h9 h10 h11 => ?_⟩, fun s h hs => ?_⟩,
    fun u n h => NoticeUnit.withdraw_absent h, fun u n rest => ⟨u.withdrawAll_nil, u.withdrawAll_cons n rest⟩,
    fun u => ⟨fun _ => rfl, u.bySlot_pairwise, NoticeUnit.mem_bySlot_iff⟩⟩
  · rw [exec_withdrawNotice h, withdrawNotice_outOfRange hn]
    rfl
  · rw [exec_withdrawNotice h, withdrawNotice_noSuch hn hn' (h.notice ▸ hx)]
    rfl
  · rw [exec_withdrawNotice h, withdrawNotice_done hn hn' (h.notice ▸ hx), h.notice]
    rfl
  · rw [exec_noticeExpiry_due hs ht, NoticeUnit.second, s.notice.numbersWhere_eq hsorted hperm]
    rfl
  · intro s u e scr numbers rest h hs hu hsorted hperm
    have hbound : s.notice.withdrawBound scr = s.notice.withdrawAll numbers :=
      congrArg s.notice.withdrawAll (s.notice.numbersWhere_eq hsorted hperm)
    refine ⟨?_, ?_, ?_⟩
    · rintro rfl
      rw [exec_noticePhaseChanged_closed hs h, hbound, hu]
    · rintro phase rfl hp
      rw [exec_noticePhaseChanged_open hs h hp, hu]
    · rintro rfl
      rw [exec_noticeScreeningRemoved_cons hs h, hbound, hu]
  · rw [exec_setNoticeStyle h, setNoticeStyle_outOfRange]
    · rfl
    · rw [x.valid_iff]
      omega
  · rw [exec_setNoticeStyle h, setNoticeStyle_done (x.valid_iff.mpr ⟨h1, h2, h3, h4, h5, h6, h7, h8, h9, h10, h11⟩), h.notice,
      NoticeUnit.restyle_eq]
    rfl
  · rw [exec_noticeRestart_due hs h]
    simp only [NoticeClass.lane_eq]
    rfl

end Sys2Proof.Machine

end

section
/-! SUPPORT. Settles O51: what a frame is drawn from (R116, R120, R130, R147, R157, R158, R164, R165). The guards, the layers of tiles,
regions and layouts, the source of a frame, the urgent notice, and pixels. -/

namespace Sys2Proof.Machine

open Sys2Proof

/-! ### The guards (R120, R147) -/

section Guards
variable {s : State} {n : Notice}

theorem guardedOut_unbound (h : n.bound = none) : s.guardedOut n = false := by
  unfold State.guardedOut
  rw [h]

/-- R120: a bound notice is guarded out where its screening is absent, CLOSED or past its cancel linger. -/
theorem guardedOut_bound_iff {scr : Nat} (h : n.bound = some scr) : s.guardedOut n = true ↔
    findScreening s.schedule.table scr = none ∨ ∃ r, findScreening s.schedule.table scr = some r
      ∧ (r.phase = .closed ∨ r.phase = .cancelled
        ∧ ∃ c, r.cancelTime = some c ∧ min (c + 60 * s.schedule.settings.linger) 4294967295 ≤ s.clock.runTime) := by
  unfold State.guardedOut
  rw [h]
  dsimp only
  cases findScreening s.schedule.table scr with
  | none => simp
  | some r => simp [lingerOver_iff]

/-- R120: the screening of a bound notice that is not guarded out. -/
theorem open_of_bound {scr : Nat} (h : n.bound = some scr) (hg : ¬s.guardedOut n = true) :
    ∃ z, findScreening s.schedule.table scr = some z ∧ z.phase ≠ .closed
      ∧ (z.phase = .cancelled → ∀ c, z.cancelTime = some c →
          s.clock.runTime < min (c + 60 * s.schedule.settings.linger) 4294967295) := by
  rw [guardedOut_bound_iff h, not_or] at hg
  obtain ⟨hsome, hkept⟩ := hg
  obtain ⟨z, hz⟩ := Option.ne_none_iff_exists'.mp hsome
  refine ⟨z, hz, fun hp => hkept ⟨z, hz, .inl hp⟩, fun hp c hc => ?_⟩
  exact Nat.lt_of_not_le fun hle => hkept ⟨z, hz, .inr ⟨hp, c, hc, hle⟩⟩

end Guards

theorem tileGuarded_iff (s : State) (t : Nat) : s.tileGuarded t = true ↔ 224 ≤ t
    ∧ (TileRequest.empty t ∈ s.mail.tiles[Block.notice.index]
      ∨ ∃ n, noticeInSlot s.notice.notices (t - 224) = some n ∧ s.guardedOut n = true) := by
  unfold State.tileGuarded State.emptyUnderWay
  cases noticeInSlot s.notice.notices (t - 224) <;> simp

/-! ### Tiles, fills and boards (R157, R158) -/

section Tiles
variable {s : State} {rect : Rect} {origin : Origin} {t : Nat}

theorem tileLayers_image {z : Tile} {i : Image} (hg : s.tileGuarded t = false) (hz : s.render.tiles[t]? = some z)
    (hi : z.image = some i) : s.tileLayers rect origin t = [⟨rect, .image i, origin, some t⟩] := by
  simp [State.tileLayers, State.tileImage, hg, hz, hi]

/-- R120, R158: a tile that is guarded, or has no image, or does not exist, draws nothing. -/
theorem tileLayers_nil (h : s.tileGuarded t = true ∨ ∀ z, s.render.tiles[t]? = some z → z.image = none) :
    s.tileLayers rect origin t = [] := by
  have himage : s.tileImage t = none := by
    unfold State.tileImage
    obtain hg | hz := h
    · exact if_pos hg
    · cases ht : s.render.tiles[t]? with
      | none => exact ite_self _
      | some z => simp [hz z ht]
  unfold State.tileLayers
  rw [himage]

theorem mem_tileLayers {y : Layer} (h : y ∈ s.tileLayers rect origin t) :
    y.origin = origin ∧ y.tile = some t ∧ s.tileGuarded t = false := by
  have hg : s.tileGuarded t = false := by
    rw [← Bool.not_eq_true]
    intro hg
    rw [tileLayers_nil (.inl hg)] at h
    exact nomatch h
  unfold State.tileLayers at h
  split at h
  · exact nomatch h
  · obtain rfl := List.mem_singleton.mp h
    exact ⟨rfl, rfl, hg⟩

/-- R120, R158: what a tile draws is settled by its guard and its image, and a tile that does not exist draws nothing. -/
theorem eq_tileLayers {tile : Rect → Origin → Nat → List Layer}
    (htile : ∀ (rect : Rect) (origin : Origin) (t : Nat) (z : Tile), s.render.tiles[t]? = some z →
      (s.tileGuarded t = false → ∀ i, z.image = some i → tile rect origin t = [⟨rect, .image i, origin, some t⟩])
      ∧ ((s.tileGuarded t = true ∨ z.image = none) → tile rect origin t = []))
    (habsent : ∀ rect origin t, 256 ≤ t → tile rect origin t = []) : tile = s.tileLayers := by
  funext rect origin t
  by_cases ht : t < 256
  · have hz : s.render.tiles[t]? = some s.render.tiles[t] := Vector.getElem?_eq_getElem ht
    obtain ⟨hdrawn, hnot⟩ := htile rect origin t _ hz
    cases hi : s.render.tiles[t].image with
    | none => rw [hnot (.inr hi), tileLayers_nil (.inr fun z h => Option.some.inj (hz.symm.trans h) ▸ hi)]
    | some i =>
      cases hg : s.tileGuarded t with
      | false => rw [hdrawn hg i hi, tileLayers_image hg hz hi]
      | true => rw [hnot (.inl hg), tileLayers_nil (.inl hg)]
  · rw [habsent rect origin t (Nat.le_of_not_lt ht), tileLayers_nil (.inr fun z h => ?_)]
    rw [getElem?_of_le _ (Nat.le_of_not_lt ht)] at h
    exact nomatch h

end Tiles

/-- R158, R95: the rows of a defined board, one below another. -/
theorem boardLayers_defined {s : State} {k : Fin 8} {d : BoardDef} (h : s.builder.boards[k].defn = some d) (rect : Rect) :
    s.boardLayers rect k.val = (List.range (min d.rowsPerPage rect.height)).flatMap fun r =>
      s.tileLayers ⟨rect.col, rect.row + r, rect.width, rect.height - r⟩ .region (16 * k.val + r) := by
  have hk : s.builder.boards[k.val]? = some s.builder.boards[k] := Vector.getElem?_eq_getElem k.isLt
  unfold State.boardLayers
  rw [hk]
  dsimp only
  rw [h]

theorem boardLayers_undefined {s : State} {k : Fin 8} (h : s.builder.boards[k].defn = none) (rect : Rect) :
    s.boardLayers rect k.val = [] := by
  have hk : s.builder.boards[k.val]? = some s.builder.boards[k] := Vector.getElem?_eq_getElem k.isLt
  unfold State.boardLayers
  rw [hk]
  dsimp only
  rw [h]

theorem panelRect_eq (o : Orientation) : o.panelRect = if o = .landscape then ⟨0, 0, 48, 27⟩ else ⟨0, 0, 27, 48⟩ := by
  cases o <;> rfl

/-! ### The urgent content (R116, R120, R164) -/

theorem urgentLayers_some {s : State} {p : Nat} {n : Notice} (h : s.urgentNotice p = some n) (rect : Rect) :
    s.urgentLayers p rect = s.tileLayers rect .urgent (224 + n.slot) := by
  unfold State.urgentLayers
  rw [h]
  rfl

theorem urgentLayers_none {s : State} {p : Nat} (h : s.urgentNotice p = none) (rect : Rect) :
    s.urgentLayers p rect = [⟨rect, .colour s.notice.style.urgentColour, .urgent, none⟩] := by
  unfold State.urgentLayers
  rw [h]

theorem inTakeover_iff (s : State) (k : Fin 12) : s.inTakeover k.val = true ↔ s.notice.urgent[k].list ≠ [] := by
  unfold State.inTakeover
  rw [decide_eq_true_iff, NoticeUnit.urgentOf_eq]

/-- R120: from the shown notice on, wrapping, a list is stepped through in its order rotated. -/
theorem UrgentState.fromShown_eq_rotate {x : UrgentState} {i m : Nat} (hs : x.shown = some m) (hi : x.list[i]? = some m)
    (hl : x.list.Nodup) : x.fromShown = x.list.rotate i := by
  obtain ⟨hlt, hm⟩ := List.getElem?_eq_some_iff.mp hi
  have hrest : x.list.drop i = m :: x.list.drop (i + 1) := by rw [← hm, ← List.drop_eq_getElem_cons hlt]
  have hsplit : x.list = x.list.take i ++ m :: x.list.drop (i + 1) := by rw [← hrest, List.take_append_drop]
  have hbefore : ∀ a ∈ x.list.take i, decide (a ≠ m) = true := by
    intro a ha
    rw [hsplit] at hl
    obtain ⟨-, -, hdisjoint⟩ := List.nodup_append.mp hl
    exact decide_eq_true (hdisjoint a ha m (List.mem_cons_self ..))
  have hdrop : x.list.dropWhile (· ≠ m) = x.list.drop i := by
    conv_lhs => rw [hsplit]
    rw [List.dropWhile_append_of_pos hbefore, List.dropWhile_cons_of_neg (by simp), hrest]
  have htake : x.list.takeWhile (· ≠ m) = x.list.take i := by
    conv_lhs => rw [hsplit]
    rw [List.takeWhile_append_of_pos hbefore, List.takeWhile_cons_of_neg (by simp), List.append_nil]
  unfold UrgentState.fromShown
  rw [hs]
  dsimp only
  rw [hdrop, htake, List.rotate_eq_drop_append_take hlt.le]

section Urgent
variable {s : State} {k : Fin 12} {ls : List Nat} {i m : Nat} (hsound : s.notice.Sound) (hls : ls = s.notice.urgent[k].list)
  (hs : s.notice.urgent[k].shown = some m) (hi : ls[i]? = some m)
include hsound hls hs hi

theorem urgentNotice_eq : s.urgentNotice k.val
    = ((ls.rotate i).filterMap (findNotice s.notice.notices)).find? fun n => !s.guardedOut n := by
  subst hls
  obtain ⟨-, -, -, hpanels⟩ := hsound
  obtain ⟨-, hnodup, -, -⟩ := hpanels k k.isLt
  unfold State.urgentNotice
  rw [NoticeUnit.urgentOf_eq, UrgentState.fromShown_eq_rotate hs hi hnodup]

/-- R120: the urgent notice drawn is the first, from the shown one on and wrapping, that is not guarded out. -/
theorem urgentNotice_eq_some_iff (n : Notice) : s.urgentNotice k.val = some n ↔
    n ∈ s.notice.notices ∧ s.guardedOut n = false ∧ ∃ j < ls.length, ls[(i + j) % ls.length]? = some n.number
      ∧ ∀ h < j, ∀ y ∈ s.notice.notices, ls[(i + h) % ls.length]? = some y.number → s.guardedOut y = true := by
  obtain ⟨hnumbers, -⟩ := id hsound
  have hfind {a : Nat} {y : Notice} : findNotice s.notice.notices a = some y ↔ y ∈ s.notice.notices ∧ y.number = a :=
    findNotice_eq_some_iff hnumbers
  have hat {j : Nat} (hj : j < ls.length) (a : Nat) (hj' : j < (ls.rotate i).length) :
      ls[(i + j) % ls.length]? = some a ↔ (ls.rotate i)[j] = a := by
    rw [Nat.add_comm i j, ← List.getElem?_rotate hj, List.getElem?_eq_getElem hj', Option.some_inj]
  rw [urgentNotice_eq hsound hls hs hi, List.find?_filterMap, Option.bind_eq_some_iff]
  simp only [List.find?_eq_some_iff_getElem]
  constructor
  · rintro ⟨a, ⟨hopen, j, hj, rfl, hbefore⟩, hn⟩
    obtain ⟨hmem, hnumber⟩ := hfind.mp hn
    rw [hn, Option.any_some, Bool.not_eq_true'] at hopen
    have hjl : j < ls.length := by rwa [List.length_rotate] at hj
    refine ⟨hmem, hopen, j, hjl, (hat hjl _ hj).mpr hnumber.symm, fun h hlt y hy hnumber => ?_⟩
    have hguarded := hbefore h hlt
    rw [(hat (hlt.trans hjl) _ (hlt.trans hj)).mp hnumber, hfind.mpr ⟨hy, rfl⟩] at hguarded
    simpa using hguarded
  · rintro ⟨hmem, hopen, j, hjl, hnumber, hbefore⟩
    have hj : j < (ls.rotate i).length := by rwa [List.length_rotate]
    have hn := hfind.mpr ⟨hmem, rfl⟩
    refine ⟨n.number, ⟨by rw [hn]; simp [hopen], j, hj, (hat hjl _ hj).mp hnumber, fun h hlt => ?_⟩, hn⟩
    cases hy : findNotice s.notice.notices (ls.rotate i)[h] with
    | none => rfl
    | some y =>
      obtain ⟨hmemy, hnumbery⟩ := hfind.mp hy
      simp [hbefore h hlt y hmemy ((hat (hlt.trans hjl) _ (hlt.trans hj)).mpr hnumbery.symm)]

theorem urgentNotice_eq_none_iff : s.urgentNotice k.val = none ↔
    ∀ y ∈ s.notice.notices, y.number ∈ ls → s.guardedOut y = true := by
  obtain ⟨hnumbers, -⟩ := id hsound
  rw [urgentNotice_eq hsound hls hs hi, List.find?_eq_none]
  simp only [List.mem_filterMap, List.mem_rotate, findNotice_eq_some_iff hnumbers, Bool.not_eq_true', Bool.not_eq_false]
  exact ⟨fun h y hy hm => h y ⟨y.number, hm, hy, rfl⟩, fun h y ⟨_, hm, hy, he⟩ => h y hy (he ▸ hm)⟩

end Urgent

/-! ### Feature regions (R130, R158) -/

section Carousel
variable {s : State} {p : Nat} {c : Carousel} (hc : s.rotation.carousels[p]? = some c)
include hc

theorem shownContent_idle (h : c.run = .stopped ∨ c.phase ≠ some .mark ∨ c.shown = none) : s.shownContent p = .spaceFill := by
  unfold State.shownContent
  rw [hc]
  dsimp only
  split
  · rfl
  · rename_i hrun
    obtain hphase | hshown := h.resolve_left hrun
    · cases hp : c.phase with
      | none => rfl
      | some phase =>
        cases phase with
        | mark => exact absurd hp hphase
        | space => rfl
    · rw [hshown]
      cases c.phase with
      | none => rfl
      | some phase => cases phase <;> rfl

variable (hrun : c.run ≠ .stopped) (hphase : c.phase = some .mark)
include hrun hphase

theorem shownContent_stream {n : Nat} (h : c.shown = some (.stream n)) : s.shownContent p = .stream n := by
  simp [State.shownContent, hc, hrun, hphase, h]

theorem shownContent_tile {t : Nat} (h : c.shown = some (.tile t)) : s.shownContent p = .tile t := by
  simp [State.shownContent, hc, hrun, hphase, h]

theorem shownContent_notice {n : Nat} {y : Notice} (h : c.shown = some (.notice n)) (hy : findNotice s.notice.notices n = some y)
    (hcls : y.cls ≠ .urgent) (ht : p ∈ y.targets) (hg : s.guardedOut y = false) : s.shownContent p = .tile (224 + y.slot) := by
  simp [State.shownContent, hc, hrun, hphase, h, hy, hcls, ht, hg, Notice.tile]

/-- R130, R120: a notice that is URGENT, or not for the panel, or guarded out, or gone, gives the space fill. -/
theorem shownContent_noNotice {n : Nat} (h : c.shown = some (.notice n)) (hno : ∀ y, findNotice s.notice.notices n = some y →
    y.cls = .urgent ∨ p ∉ y.targets ∨ s.guardedOut y = true) : s.shownContent p = .spaceFill := by
  cases hy : findNotice s.notice.notices n with
  | none => simp [State.shownContent, hc, hrun, hphase, h, hy]
  | some y =>
    have hnot : ¬(y.cls ≠ .urgent ∧ y.targets.contains p ∧ s.guardedOut y = false) := by
      rintro ⟨hcls, ht, hg⟩
      obtain hbad | hbad | hbad := hno y hy
      · exact hcls hbad
      · exact hbad (by simpa using ht)
      · exact Bool.false_ne_true (hg.symm.trans hbad)
    simp only [State.shownContent, hc, hphase, h, hy, if_neg hrun, if_neg hnot]

end Carousel

/-! ### Layers that may be drawn (L8, L9) -/

/-- L8, L9: a layer is not a carousel's in takeover, and not of a guarded tile. -/
def State.MayDraw (s : State) (p : Nat) (y : Layer) : Prop :=
  (s.inTakeover p = true → y.origin ≠ .carousel ∧ y.origin ≠ .spaceFill) ∧ ∀ t, y.tile = some t → s.tileGuarded t = false

section MayDraw
variable {s : State} {p : Nat}

theorem mayDraw_single {rect : Rect} {paint : Paint} {origin : Origin}
    (ho : s.inTakeover p = true → origin ≠ .carousel ∧ origin ≠ .spaceFill) :
    ∀ y ∈ [Layer.mk rect paint origin none], s.MayDraw p y := by
  intro y hy
  obtain rfl := List.mem_singleton.mp hy
  exact ⟨ho, fun _ h => nomatch h⟩

theorem tileLayers_mayDraw {origin : Origin} (ho : s.inTakeover p = true → origin ≠ .carousel ∧ origin ≠ .spaceFill)
    (rect : Rect) (t : Nat) : ∀ y ∈ s.tileLayers rect origin t, s.MayDraw p y := by
  intro y hy
  obtain ⟨rfl, htile, hg⟩ := mem_tileLayers hy
  exact ⟨ho, fun u hu => Option.some.inj (htile.symm.trans hu) ▸ hg⟩

theorem fillLayers_mayDraw {origin : Origin} (ho : s.inTakeover p = true → origin ≠ .carousel ∧ origin ≠ .spaceFill)
    (rect : Rect) (f : Fill) : ∀ y ∈ s.fillLayers rect origin f, s.MayDraw p y := by
  cases f with
  | colour c => exact mayDraw_single ho
  | stream n => exact mayDraw_single ho
  | tile t => exact tileLayers_mayDraw ho rect t

theorem boardLayers_mayDraw (rect : Rect) (b : Nat) : ∀ y ∈ s.boardLayers rect b, s.MayDraw p y := by
  unfold State.boardLayers
  split
  · exact nofun
  · split
    · exact nofun
    · intro y hy
      obtain ⟨r, -, hy⟩ := List.mem_flatMap.mp hy
      exact tileLayers_mayDraw (fun _ => by decide) _ _ y hy

theorem urgentLayers_mayDraw (rect : Rect) : ∀ y ∈ s.urgentLayers p rect, s.MayDraw p y := by
  cases h : s.urgentNotice p with
  | none =>
    rw [urgentLayers_none h]
    exact mayDraw_single fun _ => by decide
  | some n =>
    rw [urgentLayers_some h]
    exact tileLayers_mayDraw (fun _ => by decide) _ _

/-- Out of takeover a carousel's content may be drawn. -/
theorem carouselLayers_mayDraw (h : ¬s.inTakeover p = true) (l : Layout) (rect : Rect) :
    ∀ y ∈ s.carouselLayers p l rect, s.MayDraw p y := by
  unfold State.carouselLayers
  cases s.shownContent p with
  | spaceFill => exact fillLayers_mayDraw (fun ht => absurd ht h) _ _
  | stream n => exact mayDraw_single fun ht => absurd ht h
  | tile t => exact tileLayers_mayDraw (fun ht => absurd ht h) _ _

theorem regionLayers_mayDraw (l : Layout) (r : Region) : ∀ y ∈ s.regionLayers p l r, s.MayDraw p y := by
  unfold State.regionLayers
  cases r.content with
  | stream n => exact mayDraw_single fun _ => by decide
  | tile t => exact tileLayers_mayDraw (fun _ => by decide) _ _
  | board b => exact boardLayers_mayDraw _ _
  | clock c => exact tileLayers_mayDraw (fun _ => by decide) _ _
  | feature =>
    dsimp only
    split
    · exact urgentLayers_mayDraw _
    · rename_i h
      exact carouselLayers_mayDraw h l _

theorem layoutLayers_mayDraw (l : Layout) : ∀ y ∈ s.layoutLayers p l, s.MayDraw p y := by
  intro y hy
  obtain hy | hy := List.mem_append.mp hy
  · exact fillLayers_mayDraw (fun _ => by decide) _ _ y hy
  · obtain ⟨r, -, hy⟩ := List.mem_flatMap.mp hy
    exact regionLayers_mayDraw l r y hy

theorem defaultTakeover_mayDraw (o : Orientation) : ∀ y ∈ (s.defaultTakeover p o).layers, s.MayDraw p y := by
  intro y hy
  obtain hy | hy := List.mem_cons.mp hy
  · exact mayDraw_single (fun _ => by decide) y (List.mem_singleton.mpr hy)
  · exact urgentLayers_mayDraw _ y hy

/-- L8, L9: every layer of a frame may be drawn. -/
theorem frameFor_mayDraw (x : Panel) : ∀ y ∈ (s.frameFor p x).1.layers, s.MayDraw p y := by
  unfold State.frameFor
  dsimp only
  split
  · split
    · exact layoutLayers_mayDraw _
    · exact defaultTakeover_mayDraw _
  · split
    · exact layoutLayers_mayDraw _
    · exact nofun

section Drawn
variable {x : Panel} {y : Layer} (hy : y ∈ (s.frameFor p x).1.layers)
include hy

theorem frameFor_tile_unguarded {t : Nat} (ht : y.tile = some t) : ¬s.tileGuarded t = true := by
  obtain ⟨-, hopen⟩ := frameFor_mayDraw x y hy
  rw [hopen t ht]
  exact Bool.false_ne_true

/-- L8: no frame draws the tile of a live notice that is guarded out. -/
theorem not_guardedOut_of_drawn (hsound : s.notice.Sound) {n : Notice} (hn : n ∈ s.notice.notices)
    (ht : y.tile = some (224 + n.slot)) : ¬s.guardedOut n = true := by
  obtain ⟨-, hslots, -, -⟩ := hsound
  have hslot : noticeInSlot s.notice.notices (224 + n.slot - 224) = some n :=
    (noticeInSlot_eq_some_iff hslots).mpr ⟨hn, (Nat.add_sub_cancel_left ..).symm⟩
  exact fun hg => frameFor_tile_unguarded hy ht ((tileGuarded_iff ..).mpr ⟨Nat.le_add_right .., .inr ⟨n, hslot, hg⟩⟩)

end Drawn

end MayDraw

/-! ### The source of a frame (R164, R165) -/

theorem layoutOf_eq_some_iff (s : State) (n : Nat) (l : Layout) :
    s.layoutOf n = some l ↔ s.composer.layouts[n]? = some (some l) := by
  unfold State.layoutOf
  cases s.composer.layouts[n]? <;> simp

theorem fittingLayout_eq_some_iff (s : State) (o : Orientation) (k : Option Nat) (n : Nat) (l : Layout) :
    s.fittingLayout o k = some (n, l) ↔ k = some n ∧ s.composer.layouts[n]? = some (some l) ∧ l.orientation = o := by
  cases k with
  | none => exact iff_of_false nofun fun h => nomatch h.1
  | some k =>
    unfold State.fittingLayout
    dsimp only
    rw [← layoutOf_eq_some_iff, Option.some_inj]
    constructor
    · intro h
      split at h
      · exact nomatch h
      · rename_i hl
        split at h
        · rename_i ho
          cases h
          exact ⟨rfl, hl, ho⟩
        · exact nomatch h
    · rintro ⟨rfl, hl, ho⟩
      rw [hl]
      exact if_pos ho

theorem fittingLayout_eq_none {s : State} {o : Orientation} {k : Option Nat}
    (h : ∀ n l, ¬(k = some n ∧ s.composer.layouts[n]? = some (some l) ∧ l.orientation = o)) : s.fittingLayout o k = none :=
  Option.eq_none_iff_forall_ne_some.mpr fun ⟨n, l⟩ hf => h n l ((fittingLayout_eq_some_iff ..).mp hf)

section Source
variable {s : State} {p : Nat} {x : Panel} {n : Nat} {l : Layout}

theorem frameFor_override (h : s.inTakeover p = true) (hf : s.fittingLayout (s.orientationOf p) x.override = some (n, l)) :
    s.frameFor p x = (⟨s.orientationOf p, .override n, s.layoutLayers p l⟩, 1 + l.regions.length) := by
  unfold State.frameFor
  dsimp only
  rw [if_pos h, hf]

theorem frameFor_defaultTakeover (h : s.inTakeover p = true) (hf : s.fittingLayout (s.orientationOf p) x.override = none) :
    s.frameFor p x = (s.defaultTakeover p (s.orientationOf p), 2) := by
  unfold State.frameFor
  dsimp only
  rw [if_pos h, hf]

theorem frameFor_current (h : s.inTakeover p = false) (hf : s.fittingLayout (s.orientationOf p) x.current = some (n, l)) :
    s.frameFor p x = (⟨s.orientationOf p, .current n, s.layoutLayers p l⟩, 1 + l.regions.length) := by
  unfold State.frameFor
  dsimp only
  rw [if_neg (Bool.not_eq_true _ ▸ h), hf]

theorem frameFor_black (h : s.inTakeover p = false) (hf : s.fittingLayout (s.orientationOf p) x.current = none) :
    s.frameFor p x = (.black (s.orientationOf p), 1) := by
  unfold State.frameFor
  dsimp only
  rw [if_neg (Bool.not_eq_true _ ▸ h), hf]

end Source

/-! ### Regions (R158) -/

section Region
variable {s : State} {p : Nat} {l : Layout} {r : Region} (hr : r.content = .feature)
include hr

theorem regionLayers_takeover (h : s.inTakeover p = true) : s.regionLayers p l r = s.urgentLayers p r.rect := by
  unfold State.regionLayers
  rw [hr]
  exact if_pos h

variable (h : s.inTakeover p = false)
include h

theorem regionLayers_carousel : s.regionLayers p l r = s.carouselLayers p l r.rect := by
  unfold State.regionLayers
  rw [hr]
  exact if_neg (Bool.not_eq_true _ ▸ h)

theorem regionLayers_spaceFill (hs : s.shownContent p = .spaceFill) :
    s.regionLayers p l r = s.fillLayers r.rect .spaceFill l.spaceFill := by
  rw [regionLayers_carousel hr h, State.carouselLayers, hs]

theorem regionLayers_shownStream {n : Nat} (hs : s.shownContent p = .stream n) :
    s.regionLayers p l r = [⟨r.rect, .stream n, .carousel, none⟩] := by
  rw [regionLayers_carousel hr h, State.carouselLayers, hs]

theorem regionLayers_shownTile {t : Nat} (hs : s.shownContent p = .tile t) :
    s.regionLayers p l r = s.tileLayers r.rect .carousel t := by
  rw [regionLayers_carousel hr h, State.carouselLayers, hs]

end Region

/-! ### Pixels (R157, R158) -/

/-- R158: the last layer that draws a pixel gives its colour. -/
theorem Frame.pixel_append (o : Orientation) (b : FrameBasis) (ls : List Layer) (y : Layer) (px py : Nat) :
    (Frame.mk o b (ls ++ [y])).pixel px py = (y.pixel px py).getD ((Frame.mk o b ls).pixel px py) :=
  List.foldl_append

section Pixel
variable {y : Layer} {px py : Nat}

theorem Layer.pixel_outside (h : px < 40 * y.rect.col ∨ 40 * (y.rect.col + y.rect.width) ≤ px ∨ py < 40 * y.rect.row
    ∨ 40 * (y.rect.row + y.rect.height) ≤ py) : y.pixel px py = none :=
  if_neg (by omega)

variable (hl : 40 * y.rect.col ≤ px) (hr : px < 40 * (y.rect.col + y.rect.width)) (ht : 40 * y.rect.row ≤ py)
  (hb : py < 40 * (y.rect.row + y.rect.height))
include hl hr ht hb

theorem Layer.pixel_colour {c : Nat} (h : y.paint = .colour c) : y.pixel px py = some c := by
  rw [Layer.pixel, if_pos ⟨hl, hr, ht, hb⟩, h]

theorem Layer.pixel_image {i : Image} (h : y.paint = .image i) :
    y.pixel px py = i.pixel (px - 40 * y.rect.col) (py - 40 * y.rect.row) := by
  rw [Layer.pixel, if_pos ⟨hl, hr, ht, hb⟩, h]

end Pixel

/-- R157: a colour of 16 bits from its parts. -/
theorem rgbOf_parts {c : Nat} (h : c ≤ 65535) :
    (rgbOf c).red ≤ 31 ∧ c = (rgbOf c).red * 2048 + (rgbOf c).green * 32 + (rgbOf c).blue := by
  unfold rgbOf
  dsimp only
  omega

/-- Settles O51: the source, the guards, the urgent notice, the layers and the pixels, each from its own lemmas. -/
theorem framesAreDrawnFromTheRightSource : Obligations.FramesAreDrawnFromTheRightSource := by
  refine ⟨?_, fun s n => ⟨guardedOut_unbound, fun scr hn => ?_⟩, fun s k ls i m hsound hls hs hi => ⟨?_,
      urgentNotice_eq_some_iff hsound hls hs hi, urgentNotice_eq_none_iff hsound hls hs hi⟩, fun s k h => ?_, ?_,
    fun s p k x y hempty hy ht => ?_, ?_, fun o b ls y px py => ⟨?_, Layer.pixel_outside, fun hl hr ht hb =>
      ⟨fun _ => Layer.pixel_colour hl hr ht hb, fun _ => Layer.pixel_image hl hr ht hb⟩⟩, tileGuarded_iff,
    fun s k => ?_, ?_, fun _ _ _ => rfl⟩
  · rintro s p x o fits rfl hfits
    refine ⟨fun h => ⟨fun n l hf => ?_, fun hf => ?_, fun y hy => (frameFor_mayDraw x y hy).1 h⟩, ?_,
      fun h => ⟨fun n l hf => ?_, fun hf => ?_⟩⟩
    · exact frameFor_override h ((fittingLayout_eq_some_iff ..).mpr ((hfits ..).mp hf))
    · exact frameFor_defaultTakeover h (fittingLayout_eq_none fun n l hn => hf n l ((hfits ..).mpr hn))
    · unfold State.defaultTakeover
      rw [panelRect_eq]
      cases h : s.urgentNotice p with
      | none => rw [urgentLayers_none h]
      | some n => rw [urgentLayers_some h]
    · exact frameFor_current h ((fittingLayout_eq_some_iff ..).mpr ((hfits ..).mp hf))
    · exact frameFor_black h (fittingLayout_eq_none fun n l hn => hf n l ((hfits ..).mpr hn))
  · rw [guardedOut_bound_iff hn, findScreening_eq_none_iff]
  · rw [inTakeover_iff, ← hls]
    exact fun hnil => by simp [hnil] at hi
  · rw [← Bool.not_eq_true, inTakeover_iff]
    exact not_not_intro h
  · rintro s p x y n r scr hsound hy hn ht hscr rfl
    exact open_of_bound hscr (not_guardedOut_of_drawn hy hsound hn ht)
  · exact frameFor_tile_unguarded hy ht ((tileGuarded_iff ..).mpr ⟨Nat.le_add_right .., .inl hempty⟩)
  · intro s p l tile fill htile habsent hcolour hstream hfill
    obtain rfl := eq_tileLayers htile habsent
    obtain rfl : fill = s.fillLayers := by
      funext rect origin f
      cases f with
      | colour c => exact hcolour ..
      | stream n => exact hstream ..
      | tile t => exact hfill ..
    refine ⟨by rw [State.layoutLayers, panelRect_eq], fun r => ⟨fun n hr => ?_, fun t hr => ?_, fun c hr => ?_,
      fun k d hr hd => ?_, fun k hr hd => ?_, fun hr h => ⟨fun n hn => ?_, fun hn => ?_⟩, fun c hr h hc => ⟨fun hidle => ?_,
        fun hrun hphase => ⟨fun n hs => ?_, fun t hs => ?_, fun n hs => ⟨fun y hy hcls ht hg => ?_, fun hno => ?_⟩⟩⟩⟩⟩
    · rw [State.regionLayers, hr]
    · rw [State.regionLayers, hr]
    · rw [State.regionLayers, hr]
    · rw [State.regionLayers, hr]
      exact boardLayers_defined hd _
    · rw [State.regionLayers, hr]
      exact boardLayers_undefined hd _
    · rw [regionLayers_takeover hr h, urgentLayers_some hn]
    · rw [regionLayers_takeover hr h, urgentLayers_none hn]
    · exact regionLayers_spaceFill hr h (shownContent_idle hc hidle)
    · exact regionLayers_shownStream hr h (shownContent_stream hc hrun hphase hs)
    · exact regionLayers_shownTile hr h (shownContent_tile hc hrun hphase hs)
    · have hcls : y.cls ≠ .urgent := by
        obtain hcls | hcls := hcls
        · rw [hcls]
          exact nofun
        · rw [hcls]
          exact nofun
      exact regionLayers_shownTile hr h (shownContent_notice hc hrun hphase hs hy hcls ht hg)
    · exact regionLayers_spaceFill hr h (shownContent_noNotice hc hrun hphase hs hno)
  · rw [Frame.pixel_append]
    cases y.pixel px py <;> rfl
  · rw [State.orientationOf, State.outputOf, show s.output.panels[k.val]? = some s.output.panels[k] from
      Vector.getElem?_eq_getElem k.isLt]
  · rintro f px py c rfl hc
    exact ⟨rfl, rgbOf_parts hc⟩

end Sys2Proof.Machine

end

section
/-! SUPPORT. Settles O40: the expansion of a NOTICES item, the item a cycle selects, and the start and the end of a cycle (R126,
R127, R129). -/

namespace Sys2Proof.Machine

open Sys2Proof

/-! ### The expansion (R126) -/

theorem NoticeClass.ne_urgent_iff (c : NoticeClass) : c ≠ .urgent ↔ c = .service ∨ c = .promo := by
  cases c <;> simp

theorem expansion_eq (ns : List Notice) (panel : Nat) :
    expansion ns panel
      = (ns.filter fun n => decide ((n.cls = .service ∨ n.cls = .promo) ∧ panel ∈ n.targets)).map Notice.number := by
  have hpick (n : Notice) : (n.cls ≠ .urgent && n.targets.contains panel)
      = decide ((n.cls = .service ∨ n.cls = .promo) ∧ panel ∈ n.targets) := by
    rw [List.contains_eq_mem, ← Bool.decide_and, decide_eq_decide, n.cls.ne_urgent_iff]
  exact congrArg _ (List.filter_congr fun n _ => hpick n)

/-! ### The item examined (R126) -/

/-- What an item shows where the notice step is `step`; nothing, for a NOTICES item with no notice there. -/
def Item.shownAt (notices : List Nat) (step : Nat) : Item → Option ShownItem
  | .stream n => some (.stream n)
  | .tile n => some (.tile n)
  | .notices => (notices[step]?).map .notice

theorem examine_shows {items : List Item} {notices : List Nat} {i step : Nat} {item : Item} {x : ShownItem} (fuel : Nat)
    (hi : items[i]? = some item) (hx : item.shownAt notices step = some x) :
    examine items notices (fuel + 1) i step = some (i, if item = .notices then step else 0, x) := by
  cases item with
  | stream n => cases hx; simp [examine, hi]
  | tile n => cases hx; simp [examine, hi]
  | notices =>
    obtain ⟨n, hn, rfl⟩ := Option.map_eq_some_iff.mp hx
    simp [examine, hi, hn]

theorem examine_succ_of_noNotice {items : List Item} {notices : List Nat} {i step : Nat} (fuel : Nat)
    (hi : items[i]? = some .notices) (hn : notices.length ≤ step) :
    examine items notices (fuel + 1) i step = examine items notices fuel ((i + 1) % items.length) 0 := by
  rw [examine, hi]
  dsimp only
  rw [List.getElem?_eq_none hn]

/-- The next `count` items from a position on, wrapping, are NOTICES items with no notice to show. -/
def NoNoticeFor (items : List Item) (notices : List Nat) (i step count : Nat) : Prop :=
  ∀ j < count, items[(i + j) % items.length]? = some .notices ∧ notices.length ≤ if j = 0 then step else 0

/-- NOTICES items with no notice to show are passed over, and the notice step is 0 after the first. -/
theorem examine_skips {items : List Item} {notices : List Nat} {i step : Nat} (hi : i < items.length) (count fuel : Nat)
    (h : NoNoticeFor items notices i step count) :
    examine items notices (count + fuel) i step
      = examine items notices fuel ((i + count) % items.length) (if count = 0 then step else 0) := by
  induction count generalizing fuel with
  | zero => rw [Nat.zero_add, Nat.add_zero, Nat.mod_eq_of_lt hi, if_pos rfl]
  | succ n ih =>
    obtain ⟨hitem, hnone⟩ := h n n.lt_succ_self
    calc examine items notices (n + 1 + fuel) i step
        = examine items notices (n + (fuel + 1)) i step := by rw [Nat.add_assoc, Nat.add_comm 1]
      _ = examine items notices (fuel + 1) ((i + n) % items.length) (if n = 0 then step else 0) :=
          ih _ fun j hj => h j (Nat.lt_succ_of_lt hj)
      _ = examine items notices fuel (((i + n) % items.length + 1) % items.length) 0 := examine_succ_of_noNotice _ hitem hnone
      _ = examine items notices fuel ((i + (n + 1)) % items.length) (if n + 1 = 0 then step else 0) := by
          rw [Nat.mod_add_mod, Nat.add_assoc, if_neg n.succ_ne_zero]

/-- R126: the first item with something to show, from the cursor on and wrapping, is selected. -/
theorem Carousel.select_of_first {c : Carousel} {notices : List Nat} {first : Nat} {item : Item} {x : ShownItem}
    (hc : c.cursor < c.items.length) (hf : first < c.items.length)
    (hi : c.items[(c.cursor + first) % c.items.length]? = some item)
    (hx : item.shownAt notices (if first = 0 then c.noticeStep else 0) = some x)
    (hskip : NoNoticeFor c.items notices c.cursor c.noticeStep first) :
    c.select notices = { c.setCursor ((c.cursor + first) % c.items.length) with
      noticeStep := if item = .notices ∧ first = 0 then c.noticeStep else 0, shown := some x } := by
  obtain ⟨rest, hrest⟩ : ∃ rest, c.items.length = first + (rest + 1) := ⟨c.items.length - first - 1, by omega⟩
  have hfound := examine_skips hc first (rest + 1) hskip
  rw [examine_shows rest hi hx, ← hrest] at hfound
  unfold Carousel.select
  rw [hfound, ite_and]

/-- R126: where no item has anything to show, the cycle is space-only. -/
theorem Carousel.select_of_none {c : Carousel} {notices : List Nat}
    (h : NoNoticeFor c.items notices c.cursor c.noticeStep c.items.length) : c.select notices = { c with shown := none } := by
  have hnone : examine c.items notices c.items.length c.cursor c.noticeStep = none := by
    by_cases hc : c.cursor < c.items.length
    · exact (examine_skips hc c.items.length 0 h).trans rfl
    · cases c.items.length with
      | zero => rfl
      | succ n => rw [examine, List.getElem?_eq_none (Nat.le_of_not_lt hc)]
  unfold Carousel.select
  rw [hnone]

/-! ### The start of a cycle (R127) -/

theorem Carousel.start_space {c : Carousel} (h : c.quiet = true ∨ c.shown = none) : c.start = { c with
    quietInEffect := c.quiet, phase := some .space, remaining := some (c.activeMark + c.activeSpace) } :=
  if_pos (by simpa using h)

theorem Carousel.start_mark {c : Carousel} (hq : c.quiet = false) (hs : c.shown ≠ none) : c.start = { c with
    quietInEffect := false, phase := some .mark, remaining := some c.activeMark } := by
  rw [← hq]
  exact if_neg (by simpa [hq] using hs)

/-! ### The end of a cycle (R129) -/

theorem Carousel.applyContent_of_none {c : Carousel} (h : c.pendingContent = none) : c.applyContent = c := by
  unfold Carousel.applyContent
  rw [h]

theorem Carousel.applyContent_of_some {c : Carousel} {x : CarouselContent} (h : c.pendingContent = some x) :
    c.applyContent = { c with
      content := x, pendingContent := none, primaryCursor := 0, secondaryCursor := 0, noticeStep := 0, choice := .primary } := by
  unfold Carousel.applyContent
  rw [h]

/-- R129: pending content is taken, or the carousel moves on. -/
theorem Carousel.moved_eq (c : Carousel) (notices : List Nat) : c.moved notices
    = if c.pendingContent.isSome then c.applyPeriods.applyContent else c.applyPeriods.advance notices := by
  unfold Carousel.moved
  cases h : c.pendingContent with
  | some x => rfl
  | none => rw [Carousel.applyContent_of_none (c := c.applyPeriods) h]

theorem ListChoice.other_eq (x : ListChoice) : x.other = if x = .primary then .secondary else .primary := by
  cases x <;> rfl

@[simp] theorem Carousel.setCursor_choice (c : Carousel) (k : Nat) : (c.setCursor k).choice = c.choice := by
  unfold Carousel.setCursor; split <;> rfl

theorem Carousel.stepped_content (c : Carousel) (ns : List Nat) : (c.stepped ns).content = c.content := by
  unfold Carousel.stepped; split <;> simp

theorem Carousel.stepped_choice (c : Carousel) (ns : List Nat) : (c.stepped ns).choice = c.choice := by
  unfold Carousel.stepped; split <;> simp

/-- R129 step 3: in SINGLE the list stays, and in ALTERNATE it is the other one. -/
theorem Carousel.advance_eq_ite (c : Carousel) (notices : List Nat) :
    c.advance notices = if c.content.mode = .single then c.stepped notices
      else { c.stepped notices with choice := if c.choice = .primary then .secondary else .primary } := by
  rw [Carousel.advance_eq, Carousel.stepped_content, Carousel.stepped_choice, ListChoice.other_eq]
  cases c.content.mode <;> rfl

/-- Whether the item shown is a notice (R129 step 3). -/
def Carousel.showsNotice (c : Carousel) : Bool :=
  match c.shown with
  | some (.notice _) => true
  | _ => false

theorem Carousel.hasMore_iff (c : Carousel) (notices : List Nat) :
    c.hasMore notices = true ↔ c.showsNotice = true ∧ c.noticeStep + 1 < notices.length := by
  unfold Carousel.hasMore Carousel.showsNotice
  cases c.shown with
  | none => simp
  | some x => cases x <;> simp

/-- R129 step 3: the next notice, else the next position. -/
theorem Carousel.stepped_eq (c : Carousel) (notices : List Nat) : c.stepped notices
    = if c.showsNotice = true ∧ c.noticeStep + 1 < notices.length then { c with noticeStep := c.noticeStep + 1 }
      else { c.setCursor c.nextCursor with noticeStep := 0 } := by
  simp only [Carousel.stepped, Carousel.hasMore_iff]

/-- Settles O40. -/
theorem cyclesSelectStartAndEnd : Obligations.CyclesSelectStartAndEnd := by
  refine ⟨expansion_eq, fun c k => ⟨fun h => ?_, fun h => ?_, Carousel.applyContent_of_none⟩, ⟨?_, ?_, ?_⟩, ?_, ?_, ?_⟩
  · simp [Carousel.items, CarouselContent.list, Carousel.cursor, Carousel.setCursor, Carousel.activeMark, Carousel.activeSpace, h]
  · simp [Carousel.items, CarouselContent.list, Carousel.cursor, Carousel.setCursor, Carousel.activeMark, Carousel.activeSpace, h]
  · intro c notices first item hc hf hi hn hskip
    cases item with
    | stream n => exact Carousel.select_of_first hc hf hi rfl hskip
    | tile n => exact Carousel.select_of_first hc hf hi rfl hskip
    | notices =>
      have hget := List.getElem?_eq_getElem (hn rfl)
      rw [Carousel.select_of_first hc hf hi (congrArg (Option.map _) hget) hskip]
      dsimp only
      rw [hget]
      rfl
  · exact fun c notices h => Carousel.select_of_none h
  · exact fun c => ⟨Carousel.start_space, Carousel.start_mark⟩
  · rintro c notices m rfl
    rw [Carousel.endCycle_eq, Carousel.moved_run, Carousel.moved_eq]
    rfl
  · exact fun c => ⟨rfl, fun x h => Carousel.applyContent_of_some h⟩
  · rintro c notices m rfl
    rw [Carousel.advance_eq_ite, Carousel.stepped_eq]
    rfl

end Sys2Proof.Machine

end

section
/-! SUPPORT. Settles O43: the active periods of a carousel change only where a cycle starts or it stops (L10, R127). -/

namespace Sys2Proof.Machine

open Sys2Proof

/-! ### The start of a cycle and the stop (R127, R129) -/

/-- R127: a cycle is at its start, with the length that the active periods of its list give it. -/
def Carousel.AtCycleStart (c : Carousel) : Prop :=
  (c.phase = some .mark ∧ c.remaining = some c.activeMark)
    ∨ (c.phase = some .space ∧ c.remaining = some (c.activeMark + c.activeSpace))

/-- L10: where the active periods of a carousel are not those it had, it is STOPPED or at the start of a cycle. -/
def Carousel.LatchedFrom (c d : Carousel) : Prop :=
  d.active ≠ c.active → (d.run = .stopped ∧ d.phase = none) ∨ d.AtCycleStart

theorem Carousel.LatchedFrom.of_active {c d : Carousel} (h : d.active = c.active) : c.LatchedFrom d := fun hn => absurd h hn

theorem Carousel.LatchedFrom.of_start {c d : Carousel} (h : d.AtCycleStart) : c.LatchedFrom d := fun _ => .inr h

theorem Carousel.start_atCycleStart (c : Carousel) : c.start.AtCycleStart := by
  unfold Carousel.start
  split
  · exact .inr ⟨rfl, rfl⟩
  · exact .inl ⟨rfl, rfl⟩

theorem Carousel.latchedFrom_begin (c d : Carousel) (ns : List Nat) : c.LatchedFrom (d.begin ns) :=
  .of_start (Carousel.start_atCycleStart _)

theorem Carousel.latchedFrom_endCycle (c : Carousel) (ns : List Nat) : c.LatchedFrom (c.endCycle ns) := by
  rw [Carousel.endCycle_eq]
  split
  · exact fun _ => .inl ⟨rfl, rfl⟩
  · exact c.latchedFrom_begin _ ns

theorem Carousel.latchedFrom_turnOn (c : Carousel) (ns : List Nat) : c.LatchedFrom (c.turnOn ns) := by
  unfold Carousel.turnOn
  split
  · exact c.latchedFrom_begin _ ns
  · exact .of_active rfl
  · exact .of_active rfl

theorem Carousel.turnOff_active (c : Carousel) : c.turnOff.active = c.active := by
  unfold Carousel.turnOff; split <;> rfl

theorem Carousel.endMark_active (c : Carousel) : c.endMark.active = c.active := by
  unfold Carousel.endMark; split <;> rfl

theorem Carousel.count_active (c : Carousel) : c.count.active = c.active := by
  unfold Carousel.count; split <;> rfl

/-! ### The rotation unit -/

/-- L10 for every carousel of the unit. -/
def RotationUnit.LatchedFrom (r u : RotationUnit) : Prop :=
  ∀ (k : Nat) (hk : k < 12), r.carousels[k].LatchedFrom u.carousels[k]

theorem RotationUnit.LatchedFrom.refl (r : RotationUnit) : r.LatchedFrom r := fun _ _ => .of_active rfl

/-- One carousel changes, and its active periods stay. -/
theorem RotationUnit.latchedFrom_modify (r : RotationUnit) (i : Nat) {f : Carousel → Carousel}
    (hf : ∀ c, (f c).active = c.active) : r.LatchedFrom { r with carousels := modifyAt r.carousels i f } := by
  intro k hk
  rw [modifyAt_getElem]
  split
  · exact .of_active (hf _)
  · exact .of_active rfl

theorem State.changeCarousels_latchedFrom (s : State) (set : List Nat) {f : Nat → Carousel → Carousel}
    (hf : ∀ i (c : Carousel), c.LatchedFrom (f i c)) : s.rotation.LatchedFrom (s.changeCarousels set f).rotation := by
  intro k hk
  show s.rotation.carousels[k].LatchedFrom (s.rotation.carousels.mapFinIdx _)[k]
  rw [Vector.getElem_mapFinIdx]
  split
  · exact hf _ _
  · exact .of_active rfl

theorem RotationUnit.setGroup_latchedFrom (r : RotationUnit) (g : Nat) (leader : Option Nat) (members : List Nat) :
    r.LatchedFrom (r.setGroup g leader members) := by
  intro k hk
  refine .of_active ?_
  simp only [RotationUnit.setGroup, Vector.getElem_mapFinIdx]
  split
  · rfl
  · split <;> rfl

/-- R135: the leader stays as it is, and a member stays as it is or starts a cycle. -/
theorem RotationUnit.LatchedFrom.restartMembers {r u : RotationUnit} (h : r.LatchedFrom u) (ns : List Notice) (l g : Nat) :
    r.LatchedFrom (u.restartMembers ns l g) := by
  unfold RotationUnit.restartMembers
  split
  · exact h
  · intro k hk
    simp only [Vector.getElem_mapFinIdx]
    split
    · exact Carousel.latchedFrom_begin _ _ _
    · exact h k hk

theorem RotationUnit.latchedFrom_cycleEnd (r : RotationUnit) (ns : List Notice) (i : Nat) : r.LatchedFrom (r.cycleEnd ns i) := by
  unfold RotationUnit.cycleEnd
  split
  · exact .refl r
  · rename_i c hc
    obtain ⟨hi, rfl⟩ := Vector.getElem?_eq_some_iff.mp hc
    split
    · have hend : r.LatchedFrom { r with
          carousels := r.carousels.setIfInBounds i (r.carousels[i].endCycle (expansion ns i)) } := by
        intro k hk
        rw [Vector.getElem_setIfInBounds]
        split
        · rename_i he
          subst he
          exact Carousel.latchedFrom_endCycle _ _
        · exact .of_active rfl
      dsimp only
      split
      · split
        · exact hend.restartMembers _ _ _
        · exact hend
      · exact hend
    · exact .refl r

/-! ### Every command -/

/-- What a directive's action does to the rotation unit of every state with the same rotation unit, its command does. -/
theorem State.takeAndAnswer_latchedFrom {α : Type} {b : Block} {p : Port} {select : Directive → Option α}
    {act : α → State → State × Reply} {s : State} (hact : ∀ a (u : State), u.rotation.LatchedFrom (act a u).1.rotation) :
    Result.Keeps (fun t => s.rotation.LatchedFrom t.rotation) (.next (s.takeAndAnswer b p select act)) := by
  refine .next ?_
  obtain e | ⟨q, d, a, -, -, e⟩ | ⟨q, d, a, -, -, -, -, e⟩ := State.take_cases b p select
    (fun q a s => (act a s).1.issue p (q.answer (act a s).2)) s
  · rw [State.takeAndAnswer, e]
    exact .refl _
  · rw [State.takeAndAnswer, e]
    exact hact a (s.putHandoff b p (s.handoffOf b p).tail)
  · rw [State.takeAndAnswer, e]
    exact .refl _

theorem setCarousel_latchedFrom (c m : Nat) (a b : List Coded) (s : State) :
    s.rotation.LatchedFrom (setCarousel c m a b s).1.rotation := by
  unfold setCarousel
  split
  · exact .refl _
  · split
    · exact .refl _
    · exact s.rotation.latchedFrom_modify _ fun _ => rfl

theorem setPeriods_latchedFrom (c : Nat) (a b x y : Option Nat) (s : State) :
    s.rotation.LatchedFrom (setPeriods c a b x y s).1.rotation := by
  unfold setPeriods
  dsimp only
  split
  · exact s.rotation.latchedFrom_modify _ fun _ => rfl
  · exact .refl _

theorem setQuiet_latchedFrom (set : List Nat) (v : Nat) (s : State) :
    s.rotation.LatchedFrom (setQuiet set v s).1.rotation := by
  unfold setQuiet
  split
  · exact s.changeCarousels_latchedFrom set fun _ _ => .of_active rfl
  · exact .refl _

theorem carouselOn_latchedFrom (set : List Nat) (s : State) : s.rotation.LatchedFrom (carouselOn set s).1.rotation := by
  unfold carouselOn
  split
  · exact s.changeCarousels_latchedFrom set fun _ c => c.latchedFrom_turnOn _
  · exact .refl _

theorem carouselOff_latchedFrom (set : List Nat) (s : State) : s.rotation.LatchedFrom (carouselOff set s).1.rotation := by
  unfold carouselOff
  split
  · exact s.changeCarousels_latchedFrom set fun _ c => .of_active c.turnOff_active
  · exact .refl _

theorem setSyncGroup_latchedFrom (g l : Nat) (ms : List Nat) (s : State) :
    s.rotation.LatchedFrom (setSyncGroup g l ms s).1.rotation := by
  unfold setSyncGroup
  split
  · exact .refl _
  · split
    · split
      · exact s.rotation.setGroup_latchedFrom _ _ _
      · exact .refl _
    · split
      · exact s.rotation.setGroup_latchedFrom _ _ _
      · exact .refl _

theorem execCarouselTenthTick_latchedFrom (s : State) :
    Result.Keeps (fun t => s.rotation.LatchedFrom t.rotation) (execCarouselTenthTick s) := by
  refine .next ?_
  split
  · exact .refl _
  · intro k hk
    rw [mapAll_getElem]
    exact .of_active (Carousel.count_active _)

theorem execCueQuiet_latchedFrom (s : State) :
    Result.Keeps (fun t => s.rotation.LatchedFrom t.rotation) (execCueQuiet s) := by
  refine .next ?_
  split
  · exact .refl _
  · rename_i rest _
    split
    · exact setQuiet_latchedFrom _ _ { s with mail := { s.mail with cuesToRotation := rest } }
    · exact .refl _

/-- R20: a full reset stops every carousel. -/
theorem RotationUnit.latchedFrom_reset (r : RotationUnit) : r.LatchedFrom State.reset.rotation := by
  intro k hk _
  have hreset : State.reset.rotation.carousels[k] = .atReset := reset_carousel ⟨k, hk⟩
  rw [hreset]
  exact .inl ⟨rfl, rfl⟩

/-- L10 (R127): every command but the starts and the stops of cycles leaves the active periods of every carousel. -/
theorem exec_latchedFrom (i : Instr) (s : State) : Result.Keeps (fun t => s.rotation.LatchedFrom t.rotation) (exec i s) := by
  cases i with
  | answerSent p =>
    refine execAnswerSent_preserves (P := fun t => s.rotation.LatchedFrom t.rotation) (fun hf hp => ?_)
      (fun _ => s.rotation.latchedFrom_reset) (.refl _) p
    rwa [← hf.same (.block .rotation) (by simp)]
  | fullReset => exact .next s.rotation.latchedFrom_reset
  | setCarousel p => exact State.takeAndAnswer_latchedFrom fun _ u => setCarousel_latchedFrom _ _ _ _ u
  | setPeriods p => exact State.takeAndAnswer_latchedFrom fun _ u => setPeriods_latchedFrom _ _ _ _ _ u
  | setQuiet p => exact State.takeAndAnswer_latchedFrom fun _ u => setQuiet_latchedFrom _ _ u
  | carouselOn p => exact State.takeAndAnswer_latchedFrom carouselOn_latchedFrom
  | carouselOff p => exact State.takeAndAnswer_latchedFrom carouselOff_latchedFrom
  | setSyncGroup p => exact State.takeAndAnswer_latchedFrom fun _ u => setSyncGroup_latchedFrom _ _ _ u
  | carouselTenthTick => exact execCarouselTenthTick_latchedFrom s
  | markEnd c => exact .next (s.rotation.latchedFrom_modify c Carousel.endMark_active)
  | cycleEnd c => exact .next (s.rotation.latchedFrom_cycleEnd _ c)
  | cueQuiet => exact execCueQuiet_latchedFrom s
  | _ =>
    refine (exec_frame _ s).keeps fun t hf => ?_
    have hsame : s.rotation = t.rotation := hf.same (.block .rotation)
      (by simp [Instr.touches, Instr.takes, Instr.queryKind, Instr.eventTouches, Instr.block])
    rw [← hsame]
    exact .refl _

/-- Settles O43: L10 of every command. -/
theorem cycleLengthsAreLatched : Obligations.CycleLengthsAreLatched :=
  fun i s t k h hne => exec_latchedFrom i s t h k k.isLt hne

end Sys2Proof.Machine

end

section
/-! SUPPORT. Settles O41: tenth-ticks, mark ends, cycle ends, and the restarts of a leader's group (R128, R129, R135). -/

namespace Sys2Proof.Machine

open Sys2Proof

/-! ### Ticks and mark ends (R128) -/

theorem modifyAt_eq_put {α : Type} {n : Nat} (v : Vector α n) (i : Fin n) (f : α → α) : modifyAt v i f = put v i (f v[i]) :=
  dif_pos i.isLt

theorem execCarouselTenthTick_counts {s : State} (ht : 0 < s.mail.ticksToRotation) (hs : s.rotation.settled = true) :
    execCarouselTenthTick s = .next { s with
      mail := { s.mail with ticksToRotation := s.mail.ticksToRotation - 1 }
      rotation := { s.rotation with carousels := mapAll Carousel.count s.rotation.carousels } } :=
  congrArg Host.Outcome.next (if_neg (by simp [ht.ne', hs]))

theorem Carousel.markDue_iff (c : Carousel) :
    c.markDue = true ↔ c.remaining = some 0 ∧ c.phase = some .mark ∧ 0 < c.activeSpace := by
  simp [Carousel.markDue, and_assoc, Nat.pos_iff_ne_zero]

theorem Carousel.endMark_of_due {c : Carousel} (h : c.markDue = true) :
    c.endMark = { c with phase := some .space, remaining := some c.activeSpace } := if_pos h

theorem Carousel.endDue_iff (c : Carousel) : c.endDue = true
    ↔ c.remaining = some 0 ∧ (c.phase = some .space ∨ c.phase = some .mark ∧ c.activeSpace = 0) := by
  simp [Carousel.endDue]

/-! ### Cycle ends and restarts (R129, R135) -/

/-- R135: a restarted member has taken its pending values and begins from the leader's list choice, cursor and step. -/
theorem Carousel.restartFrom_eq (c l : Carousel) (ns : List Nat) {x y : Carousel}
    (hx : x = { c.applyPeriods.applyContent with choice := l.choice })
    (hy : y = { x.setCursor (if x.items = [] then 0 else l.cursor % x.items.length) with noticeStep := l.noticeStep }) :
    c.restartFrom l ns = (y.select ns).start := by
  subst hx hy
  rfl

/-- R129: the end of a cycle that is no leader's, or that stops, changes one carousel. -/
theorem RotationUnit.cycleEnd_alone {r : RotationUnit} (ns : List Notice) (i : Fin 12) (hd : r.carousels[i].endDue = true)
    (h : ∀ g, r.carousels[i].group = some g → r.leaders[g]? ≠ some (some i.val)
      ∨ (r.carousels[i].endCycle (expansion ns i)).run ≠ .running) :
    r.cycleEnd ns i = { r with carousels := put r.carousels i (r.carousels[i].endCycle (expansion ns i)) } := by
  have hget : r.carousels[i.val]? = some r.carousels[i] := Vector.getElem?_eq_getElem i.isLt
  unfold RotationUnit.cycleEnd
  rw [hget]
  dsimp only
  rw [if_pos hd, setIfInBounds_eq_put]
  cases hg : r.carousels[i].group with
  | none => rfl
  | some g =>
    refine if_neg ?_
    rintro ⟨hlead, hrun⟩
    have hleader : r.leaders[g]? = some (some i.val) := by
      cases hl : r.leaders[g]? with
      | none => simp [hl] at hlead
      | some l => simpa [hl] using hlead
    exact (h g hg).elim (absurd hleader) (absurd hrun)

/-- R135: what becomes of each carousel where the members of a leader's group are restarted. -/
theorem RotationUnit.restartMembers_eq (r : RotationUnit) (ns : List Notice) (i : Fin 12) (g : Nat) :
    ∃ v : Vector Carousel 12, r.restartMembers ns i g = { r with carousels := v }
      ∧ ∀ j : Fin 12, v[j] = if j ≠ i ∧ r.carousels[j].group = some g ∧ r.carousels[j].run = .running
        then r.carousels[j].restartFrom r.carousels[i] (expansion ns j) else r.carousels[j] := by
  have hget : r.carousels[i.val]? = some r.carousels[i] := Vector.getElem?_eq_getElem i.isLt
  unfold RotationUnit.restartMembers
  rw [hget]
  refine ⟨_, rfl, fun j => ?_⟩
  rw [Fin.getElem_fin, Vector.getElem_mapFinIdx]
  simp only [ne_eq, Fin.ext_iff, Fin.getElem_fin]

/-- R135: the end of a leader's cycle that begins a new one restarts the other running members of its group. -/
theorem RotationUnit.cycleEnd_leader {r : RotationUnit} {ns : List Notice} {i : Fin 12} {g : Nat} {after : Carousel}
    (hd : r.carousels[i].endDue = true) (hafter : after = r.carousels[i].endCycle (expansion ns i))
    (hg : r.carousels[i].group = some g) (hl : r.leaders[g]? = some (some i.val)) (hrun : after.run = .running) :
    ∃ v : Vector Carousel 12, r.cycleEnd ns i = { r with carousels := v } ∧ v[i] = after
      ∧ ∀ j : Fin 12, j ≠ i → v[j] = if r.carousels[j].group = some g ∧ r.carousels[j].run = .running
        then r.carousels[j].restartFrom after (expansion ns j) else r.carousels[j] := by
  subst hafter
  have hget : r.carousels[i.val]? = some r.carousels[i] := Vector.getElem?_eq_getElem i.isLt
  have hself := put_getElem r.carousels i i (r.carousels[i].endCycle (expansion ns i))
  obtain ⟨v, hv, hmember⟩ := RotationUnit.restartMembers_eq
    { r with carousels := put r.carousels i (r.carousels[i].endCycle (expansion ns i)) } ns i g
  rw [if_pos rfl] at hself
  dsimp only at hv hmember
  refine ⟨v, ?_, by rw [hmember, hself, if_neg fun h => h.1 rfl], fun j hj => ?_⟩
  · unfold RotationUnit.cycleEnd
    rw [hget]
    dsimp only
    rw [if_pos hd, setIfInBounds_eq_put, hg, ← hv]
    exact if_pos ⟨by rw [hl]; rfl, hrun⟩
  · simp only [hmember, hself, put_getElem_of_ne _ _ hj, ne_eq, hj, not_false_eq_true, true_and]

/-- Settles O41. -/
theorem ticksRunTheCarousels : Obligations.TicksRunTheCarousels := by
  refine ⟨fun s ht hs => execCarouselTenthTick_counts ht hs, fun s i hp hr hspace => ?_, ?_⟩
  · have hdue := (Carousel.markDue_iff _).mpr ⟨hr, hp, hspace⟩
    rw [← Carousel.endMark_of_due hdue, ← modifyAt_eq_put]
    rfl
  · rintro s i c after rfl hr hp hafter
    have hdue := (Carousel.endDue_iff _).mpr ⟨hr, hp⟩
    have hexec : exec (.cycleEnd i.val) s = .next { s with rotation := s.rotation.cycleEnd s.notice.notices i } := rfl
    rw [hexec]
    refine ⟨fun halone => ?_, fun g hg hl hrun => ?_⟩
    · subst hafter
      rw [RotationUnit.cycleEnd_alone _ i hdue halone]
    · obtain ⟨v, hv, hself, hmember⟩ := RotationUnit.cycleEnd_leader hdue hafter hg hl hrun
      refine ⟨v, by rw [hv], hself, fun j m x y hj hm hx hy => ?_⟩
      rw [hmember j hj, ← hm]
      refine ⟨fun hno => if_neg ?_, fun hgroup hrunning => ?_⟩
      · rintro ⟨hgroup, hrunning⟩
        exact hno.elim (absurd hgroup) (absurd hrunning)
      · rw [if_pos ⟨hgroup, hrunning⟩, Carousel.restartFrom_eq m after _ hx hy]

end Sys2Proof.Machine

end

section
/-! SUPPORT. Settles O42: the carousels' directives and cues (R39, R124, R125, R131 to R134). -/

namespace Sys2Proof.Machine

open Sys2Proof

/-- Taking a directive leaves the rotation unit to its effect (R8). -/
theorem State.Takes.rotation {s u : State} {b : Block} {p : Port} {q : Packet} {d : Directive} (h : s.Takes b p q d u) :
    u.rotation = s.rotation := by
  obtain ⟨-, -, -, -, -, rfl⟩ := h
  rfl

/-! ### Changing carousels -/

theorem State.changeCarousel_eq (s : State) (k : Fin 12) (f : Carousel → Carousel) :
    s.changeCarousel k f = { s with rotation := { s.rotation with
      carousels := put s.rotation.carousels k (f s.rotation.carousels[k]) } } := by
  rw [State.changeCarousel, modifyAt_eq_put]

theorem State.changeCarousels_eq (s : State) (set : List Nat) (f : Nat → Carousel → Carousel) :
    ∃ v : Vector Carousel 12, s.changeCarousels set f = { s with rotation := { s.rotation with carousels := v } }
      ∧ ∀ i : Fin 12, v[i] = if i.val ∈ set then f i s.rotation.carousels[i] else s.rotation.carousels[i] := by
  refine ⟨_, rfl, fun i => ?_⟩
  rw [Fin.getElem_fin, Vector.getElem_mapFinIdx]
  simp only [List.contains_iff_mem, Fin.getElem_fin]

/-! ### SET CAROUSEL (R124) -/

/-- R124: the item that a kind and a number stand for. -/
def Coded.StandsFor (x : Coded) (i : Item) : Prop :=
  x.kind = 1 ∧ x.value ≤ 3 ∧ i = .stream x.value ∨ x.kind = 2 ∧ x.value ≤ 255 ∧ i = .tile x.value
    ∨ x.kind = 3 ∧ x.value = 0 ∧ i = .notices

theorem itemOf_eq_some_iff (x : Coded) (i : Item) : itemOf x = some i ↔ x.StandsFor i := by
  unfold itemOf Coded.StandsFor
  split
  · rename_i hk; simp [hk, eq_comm]
  · rename_i hk; simp [hk, eq_comm]
  · rename_i hk; simp [hk, eq_comm]
  · rename_i h1 h2 h3
    exact iff_of_false nofun fun h => h.elim (fun h => h1 h.1) fun h => h.elim (fun h => h2 h.1) fun h => h3 h.1

theorem mapM_eq_some_iff {α β : Type} (f : α → Option β) (xs : List α) (ys : List β) :
    xs.mapM f = some ys ↔ List.Forall₂ (fun x y => f x = some y) xs ys := by
  induction xs generalizing ys with
  | nil => simp [eq_comm]
  | cons x xs ih =>
    simp [List.forall₂_cons_left_iff, Option.bind_eq_some_iff, ih, eq_comm (a := ys)]

theorem itemsOf_eq_some_iff (xs : List Coded) (is : List Item) :
    itemsOf xs = some is ↔ xs.length ≤ 8 ∧ List.Forall₂ Coded.StandsFor xs is := by
  simp only [itemsOf, Option.ite_none_right_eq_some, mapM_eq_some_iff, itemOf_eq_some_iff]

theorem exists_of_forall₂_left {α β : Type} {R : α → β → Prop} {xs : List α} {ys : List β} (h : List.Forall₂ R xs ys) {x : α}
    (hx : x ∈ xs) : ∃ y, R x y := by
  induction h with
  | nil => cases hx
  | cons hr _ ih =>
    obtain rfl | hx := List.mem_cons.mp hx
    · exact ⟨_, hr⟩
    · exact ih hx

theorem modeOf_eq_some_iff (n : Nat) (m : Mode) : modeOf n = some m ↔ m.number = n := by
  unfold modeOf
  split
  · cases m <;> simp [Mode.number]
  · cases m <;> simp [Mode.number]
  · rename_i h1 h2
    cases m with
    | single => simpa [Mode.number] using Ne.symm h1
    | alternate => simpa [Mode.number] using Ne.symm h2

theorem contentOf_eq_some_iff (mode : Nat) (xs ys : List Coded) (x : CarouselContent) : contentOf mode xs ys = some x
    ↔ x.mode.number = mode ∧ itemsOf xs = some x.primary ∧ itemsOf ys = some x.secondary := by
  rw [← modeOf_eq_some_iff]
  unfold contentOf
  constructor
  · intro h
    split at h
    · rename_i hm hp hs
      cases h
      exact ⟨hm, hp, hs⟩
    · cases h
  · rintro ⟨hm, hp, hs⟩
    rw [hm, hp, hs]

theorem contentOf_eq_none {mode : Nat} {xs ys : List Coded}
    (h : (mode ≠ 1 ∧ mode ≠ 2) ∨ 8 < xs.length ∨ 8 < ys.length
      ∨ ∃ f : Coded, (f ∈ xs ∨ f ∈ ys) ∧ ∀ i, ¬f.StandsFor i) : contentOf mode xs ys = none := by
  refine Option.eq_none_iff_forall_ne_some.mpr fun x hx => ?_
  obtain ⟨hm, hp, hs⟩ := (contentOf_eq_some_iff ..).mp hx
  obtain ⟨hxs, hp⟩ := (itemsOf_eq_some_iff ..).mp hp
  obtain ⟨hys, hs⟩ := (itemsOf_eq_some_iff ..).mp hs
  obtain ⟨h1, h2⟩ | h | h | ⟨f, hf, hno⟩ := h
  · cases hmode : x.mode with
    | single => exact h1 (hm.symm.trans (congrArg _ hmode))
    | alternate => exact h2 (hm.symm.trans (congrArg _ hmode))
  · omega
  · omega
  · obtain ⟨i, hi⟩ := hf.elim (exists_of_forall₂_left hp) (exists_of_forall₂_left hs)
    exact hno i hi

theorem Coded.not_standsFor {f : Coded} (h : (f.kind ≠ 1 ∧ f.kind ≠ 2 ∧ f.kind ≠ 3) ∨ (f.kind = 1 ∧ 3 < f.value)
    ∨ (f.kind = 3 ∧ f.value ≠ 0)) (i : Item) : ¬f.StandsFor i := by
  unfold Coded.StandsFor
  omega

theorem setCarousel_refused {c mode : Nat} {xs ys : List Coded} (h : 11 < c ∨ contentOf mode xs ys = none) (s : State) :
    setCarousel c mode xs ys s = refuse s .outOfRange := by
  unfold setCarousel
  split
  · rfl
  · rename_i hx
    exact if_pos (h.resolve_right (by simp [hx]))

theorem setCarousel_done {c mode : Nat} {xs ys : List Coded} {x : CarouselContent} (hc : c ≤ 11)
    (h : contentOf mode xs ys = some x) (s : State) :
    setCarousel c mode xs ys s = done (s.changeCarousel c fun r => { r with pendingContent := some x }) := by
  unfold setCarousel
  rw [h]
  exact if_neg (Nat.not_lt.mpr hc)

/-! ### SET PERIODS (R125) -/

/-- R125: the operands of a SET PERIODS that is in range. -/
structure PeriodsInRange (c : Nat) (pm ps sm ss : Option Nat) : Prop where
  carousel : c ≤ 11
  marks : ∀ m, pm = some m ∨ sm = some m → 1 ≤ m ∧ m ≤ 6000
  spaces : ∀ m, ps = some m ∨ ss = some m → m ≤ 6000

theorem periodsInRange_iff (c : Nat) (pm ps sm ss : Option Nat) :
    (decide (c ≤ 11) && pm.all (fun m => decide (1 ≤ m) && decide (m ≤ 6000)) && ps.all (fun m => decide (m ≤ 6000))
        && sm.all (fun m => decide (1 ≤ m) && decide (m ≤ 6000)) && ss.all fun m => decide (m ≤ 6000)) = true
      ↔ PeriodsInRange c pm ps sm ss := by
  simp only [Bool.and_eq_true, Option.all_eq_true, decide_eq_true_eq]
  constructor
  · rintro ⟨⟨⟨⟨hc, hpm⟩, hps⟩, hsm⟩, hss⟩
    exact ⟨hc, fun m hm => hm.elim (hpm m) (hsm m), fun m hm => hm.elim (hps m) (hss m)⟩
  · rintro ⟨hc, hm, hs⟩
    exact ⟨⟨⟨⟨hc, fun m h => hm m (.inl h)⟩, fun m h => hs m (.inl h)⟩, fun m h => hm m (.inr h)⟩, fun m h => hs m (.inr h)⟩

theorem setPeriods_refused {c : Nat} {pm ps sm ss : Option Nat} (h : ¬PeriodsInRange c pm ps sm ss) (s : State) :
    setPeriods c pm ps sm ss s = refuse s .outOfRange :=
  if_neg ((periodsInRange_iff ..).not.mpr h)

theorem setPeriods_done {c : Nat} {pm ps sm ss : Option Nat} (h : PeriodsInRange c pm ps sm ss) (s : State) :
    setPeriods c pm ps sm ss s = done (s.changeCarousel c fun r => { r with
      pending := ⟨r.pending.primaryMark.write pm, r.pending.primarySpace.write ps, r.pending.secondaryMark.write sm,
        r.pending.secondarySpace.write ss⟩ }) :=
  if_pos ((periodsInRange_iff ..).mpr h)

/-! ### SET QUIET, CAROUSEL ON and CAROUSEL OFF (R131 to R133, R39) -/

theorem setQuiet_refused {set : List Nat} {value : Nat} (h : validSet set = false ∨ 1 < value) (s : State) :
    setQuiet set value s = refuse s .outOfRange := by
  refine if_neg ?_
  rw [Bool.and_eq_true, decide_eq_true_eq]
  rintro ⟨hv, hle⟩
  obtain hf | hlt := h
  · rw [hf] at hv
    cases hv
  · omega

theorem setQuiet_done {set : List Nat} {value : Nat} (hs : validSet set = true) (hv : value ≤ 1) (s : State) :
    setQuiet set value s = done (s.changeCarousels set fun _ c => { c with quiet := decide (value = 1) }) :=
  if_pos (by simp [hs, hv])

/-- R39: a cue's QUIET at the head of its queue. -/
theorem execCueQuiet_cons {s : State} {on : Bool} {set : List Nat} {rest : List (Bool × List Nat)}
    (h : s.mail.cuesToRotation = (on, set) :: rest) (hs : s.rotation.settled = true) :
    execCueQuiet s
      = .next (setQuiet set (if on then 1 else 0) { s with mail := { s.mail with cuesToRotation := rest } }).1 := by
  simp only [execCueQuiet, h, hs, if_true]

theorem carouselOn_refused {set : List Nat} (h : validSet set = false) (s : State) :
    carouselOn set s = refuse s .outOfRange := if_neg (by simp [h])

theorem carouselOn_done {set : List Nat} (h : validSet set = true) (s : State) :
    carouselOn set s = done (s.changeCarousels set fun i c => c.turnOn (expansion s.notice.notices i)) := if_pos h

theorem carouselOff_refused {set : List Nat} (h : validSet set = false) (s : State) :
    carouselOff set s = refuse s .outOfRange := if_neg (by simp [h])

theorem carouselOff_done {set : List Nat} (h : validSet set = true) (s : State) :
    carouselOff set s = done (s.changeCarousels set fun _ c => c.turnOff) := if_pos h

/-! ### SET SYNC GROUP (R134) -/

theorem setSyncGroup_refused {g leader : Nat} {members : List Nat}
    (h : 3 < g ∨ (11 < leader ∧ leader ≠ 255) ∨ (∃ m ∈ members, 11 < m) ∨ ¬members.Nodup ∨ (members = [] ∧ leader ≠ 255)
      ∨ (members ≠ [] ∧ leader ∉ members)) (s : State) : setSyncGroup g leader members s = refuse s .outOfRange := by
  unfold setSyncGroup
  split
  · rfl
  · rename_i hok
    have hlate : (members = [] ∧ leader ≠ 255) ∨ (members ≠ [] ∧ leader ∉ members) := by
      obtain ⟨hg, hl, hm, hr⟩ : g ≤ 3 ∧ (11 < leader → leader = 255) ∧ (∀ x ∈ members, x ≤ 11) ∧ members.Nodup := by
        simpa [hasRepeat] using hok
      obtain h | h | ⟨m, hmem, h⟩ | h | h := h
      · omega
      · exact absurd (hl h.1) h.2
      · exact absurd (hm m hmem) (Nat.not_le.mpr h)
      · exact absurd hr h
      · exact h
    obtain ⟨he, hl⟩ | ⟨he, hl⟩ := hlate
    · rw [if_pos he, if_neg hl]
    · rw [if_neg he, if_neg (by simpa using hl)]

theorem setSyncGroup_done {g leader : Nat} {members : List Nat} (hg : g ≤ 3) (hm : ∀ m ∈ members, m ≤ 11) (hd : members.Nodup)
    (hl : members = [] ∧ leader = 255 ∨ leader ∈ members) (s : State) : setSyncGroup g leader members s
      = done { s with rotation := s.rotation.setGroup g (if members = [] then none else some leader) members } := by
  have hok : ¬(3 < g ∨ (11 < leader ∧ leader ≠ 255) ∨ members.all (· ≤ 11) = false ∨ hasRepeat members = true) := by
    rintro (h | ⟨h, hne⟩ | h | h)
    · omega
    · exact hl.elim (fun hl => hne hl.2) fun hl => absurd (hm _ hl) (Nat.not_le.mpr h)
    · rw [List.all_eq_true.mpr fun m hmem => decide_eq_true (hm m hmem)] at h
      cases h
    · simp [hasRepeat, hd] at h
  unfold setSyncGroup
  rw [if_neg hok]
  obtain ⟨rfl, rfl⟩ | hl := hl
  · rfl
  · have hne := List.ne_nil_of_mem hl
    rw [if_neg hne, if_neg hne, if_pos (by simpa using hl)]

theorem RotationUnit.setGroup_carousel (r : RotationUnit) (g : Nat) (leader : Option Nat) (members : List Nat) (i : Fin 12) :
    (r.setGroup g leader members).carousels[i] = { r.carousels[i] with
      group := if i.val ∈ members then some g
        else if r.carousels[i].group = some g then none else r.carousels[i].group } := by
  rw [RotationUnit.setGroup, Fin.getElem_fin, Vector.getElem_mapFinIdx]
  simp only [List.contains_iff_mem, Fin.getElem_fin]
  split
  · rfl
  · split <;> rfl

/-- R134: the leader left to another group, where a group takes its members. -/
def leaderLeft (members : List Nat) : Option Nat → Option Nat
  | none => none
  | some c => if c ∈ members then none else some c

/-- R134: a carousel taken from a group it led leaves that group without a leader. -/
theorem RotationUnit.setGroup_leader (r : RotationUnit) (g : Nat) (leader : Option Nat) (members : List Nat) (h : Fin 4) :
    (r.setGroup g leader members).leaders[h] = if h.val = g then leader else leaderLeft members r.leaders[h] := by
  rw [RotationUnit.setGroup, Fin.getElem_fin, Vector.getElem_mapFinIdx, Fin.getElem_fin]
  refine if_congr Iff.rfl rfl ?_
  cases r.leaders[h.val] with
  | none => rfl
  | some c => exact if_congr List.contains_iff_mem rfl rfl

/-- Settles O42: each directive from its refusals and its DONE, and the records that change from their own lemmas. -/
theorem carouselDirectivesAct : Obligations.CarouselDirectivesAct := by
  refine ⟨⟨fun s u p q c mode xs ys x h => ?_, fun s u p q c pm ps sm ss h => ?_, fun s u p q set value hbad => ?_,
    fun s u p q set value hne hle hnd => ?_⟩, fun s u p q g leader members h => ?_, fun s k set f => ?_⟩
  · rw [exec_setCarousel h]
    refine ⟨fun hbad => ?_, fun hc hm hxs hys hp hs => ?_⟩
    · rw [setCarousel_refused (hbad.imp_right fun hbad => contentOf_eq_none (hbad.imp_right (.imp_right (.imp_right
        fun ⟨f, hf, hno⟩ => ⟨f, hf, Coded.not_standsFor hno⟩))))]
      rfl
    · rw [setCarousel_done hc ((contentOf_eq_some_iff ..).mpr ⟨hm, (itemsOf_eq_some_iff ..).mpr ⟨hxs, hp⟩,
        (itemsOf_eq_some_iff ..).mpr ⟨hys, hs⟩⟩)]
      rfl
  · rw [exec_setPeriods h]
    refine ⟨fun hbad => ?_, fun hc hm hs => ?_⟩
    · rw [setPeriods_refused]
      · rfl
      · rintro ⟨hc, hm, hs⟩
        obtain hlt | ⟨m, hmark, hlt⟩ | ⟨m, hspace, hlt⟩ := hbad
        · omega
        · have := hm m hmark
          omega
        · exact absurd (hs m hspace) (Nat.not_le.mpr hlt)
    · rw [setPeriods_done ⟨hc, hm, hs⟩]
      rfl
  · have hset := validSet_eq_false hbad
    refine ⟨fun h => ?_, fun h => ?_, fun h => ?_⟩
    · rw [exec_setQuiet h, setQuiet_refused (.inl hset)]
      rfl
    · rw [exec_carouselOn h, carouselOn_refused hset]
      rfl
    · rw [exec_carouselOff h, carouselOff_refused hset]
      rfl
  · have hset := (validSet_iff set).mpr ⟨hne, hle, hnd⟩
    refine ⟨fun h hv => ?_, fun h hv => ?_, fun on rest hcue hs => ?_, fun h => ?_, fun h => ?_⟩
    · rw [exec_setQuiet h, setQuiet_done hset hv]
      rfl
    · rw [exec_setQuiet h, setQuiet_refused (.inr hv)]
      rfl
    · refine (execCueQuiet_cons hcue hs).trans ?_
      rw [setQuiet_done hset (by cases on <;> decide)]
      cases on <;> rfl
    · rw [exec_carouselOn h, carouselOn_done hset, State.Takes.notice h]
      refine congrArg (fun f => Host.Outcome.next (State.answered (u.changeCarousels set f) p q .done))
        (funext fun i => funext fun c => ?_)
      unfold Carousel.turnOn
      cases c.run <;> rfl
    · rw [exec_carouselOff h, carouselOff_done hset]
      refine congrArg (fun f => Host.Outcome.next (State.answered (u.changeCarousels set f) p q .done))
        (funext fun i => funext fun c => ?_)
      unfold Carousel.turnOff
      cases c.run <;> rfl
  · rw [exec_setSyncGroup h, ← State.Takes.rotation h]
    refine ⟨fun hbad => ?_, fun hg hm hd hl => ?_⟩
    · rw [setSyncGroup_refused hbad]
      rfl
    · rw [setSyncGroup_done hg hm hd hl]
      exact ⟨_, _, rfl, u.rotation.setGroup_carousel g (if members = [] then none else some leader) members,
        u.rotation.setGroup_leader g _ members⟩
  · exact ⟨s.changeCarousel_eq k (f k), s.changeCarousels_eq set f⟩

end Sys2Proof.Machine

end

section
/-! SUPPORT. The render unit's operations, said once: what each leaves in the tile table, in the two lanes and in the engine, by the
state of the tile it names (R142 to R153). -/

namespace Sys2Proof.Machine

open Sys2Proof

/-- Taking a directive leaves the render unit to its effect (R8). -/
theorem State.Takes.render {s u : State} {b : Block} {p : Port} {q : Packet} {d : Directive} (h : s.Takes b p q d u) :
    u.render = s.render := by
  obtain ⟨-, -, -, -, -, rfl⟩ := h
  rfl

theorem isImageTile_iff (t : Nat) : isImageTile t = true ↔ 128 ≤ t ∧ t ≤ 191 := by simp [isImageTile]

theorem isTextTile_iff (t : Nat) : isTextTile t = true ↔ 200 ≤ t ∧ t ≤ 223 := by simp [isTextTile]

theorem isImageTile_eq_false_iff (t : Nat) : isImageTile t = false ↔ t < 128 ∨ 191 < t := by
  rw [← Bool.not_eq_true, isImageTile_iff]
  omega

theorem isTextTile_eq_false_iff (t : Nat) : isTextTile t = false ↔ t < 200 ∨ 223 < t := by
  rw [← Bool.not_eq_true, isTextTile_iff]
  omega

/-! ### The tile table -/

/-- Changing the record of a number that has one replaces it. -/
theorem modifyAt_of_getElem? {α : Type} {n t : Nat} {v : Vector α n} {x : α} (h : v[t]? = some x) (f : α → α) :
    modifyAt v t f = v.setIfInBounds t (f x) := by
  obtain ⟨ht, rfl⟩ := Vector.getElem?_eq_some_iff.mp h
  exact (modifyAt_eq_put v ⟨t, ht⟩ f).trans (setIfInBounds_eq_put v ⟨t, ht⟩ _).symm

theorem modifyAt_of_getElem?_none {α : Type} {n t : Nat} {v : Vector α n} (h : v[t]? = none) (f : α → α) :
    modifyAt v t f = v :=
  modifyAt_of_le v f (Vector.getElem?_eq_none_iff.mp h)

theorem getElem?_setIfInBounds_of_some {α : Type} {n t : Nat} {v : Vector α n} {x : α} (h : v[t]? = some x) (a : α) (k : Nat) :
    (v.setIfInBounds t a)[k]? = if k = t then some a else v[k]? := by
  obtain ⟨ht, -⟩ := Vector.getElem?_eq_some_iff.mp h
  rw [Vector.getElem?_setIfInBounds]
  by_cases hk : k = t
  · subst hk
    simp [ht]
  · rw [if_neg hk, if_neg fun e => hk e.symm]

/-! ### The lanes (R148) -/

/-- The tiles of a lane, in order. -/
def RenderUnit.laneList (u : RenderUnit) : Lane → List Nat
  | .urgent => u.urgentLane
  | .normal => u.normalLane

@[simp] theorem RenderUnit.laneList_putTile (u : RenderUnit) (t : Nat) (x : Tile) (l : Lane) :
    (u.putTile t x).laneList l = u.laneList l := by
  cases l <;> rfl

@[simp] theorem RenderUnit.laneList_leaveLanes (u : RenderUnit) (t : Nat) (l : Lane) :
    (u.leaveLanes t).laneList l = (u.laneList l).filter (· ≠ t) := by
  cases l <;> rfl

theorem RenderUnit.laneList_joinLane (u : RenderUnit) (t : Nat) (m l : Lane) :
    (u.joinLane t m).laneList l = if l = m then u.laneList l ++ [t] else u.laneList l := by
  cases m <;> cases l <;> rfl

@[simp] theorem RenderUnit.tiles_leaveLanes (u : RenderUnit) (t : Nat) : (u.leaveLanes t).tiles = u.tiles := rfl

@[simp] theorem RenderUnit.tiles_joinLane (u : RenderUnit) (t : Nat) (l : Lane) : (u.joinLane t l).tiles = u.tiles := by
  cases l <;> rfl

/-- A tile that joins a lane stands at the tail of that lane, and the other is as it was. -/
theorem RenderUnit.joinLane_eq (u : RenderUnit) (t : Nat) (l : Lane) : u.joinLane t l = { u with
    urgentLane := if l = .urgent then u.urgentLane ++ [t] else u.urgentLane
    normalLane := if l = .urgent then u.normalLane else u.normalLane ++ [t] } := by
  cases l <;> rfl

/-- A list that does not name a tile has nothing to lose. -/
theorem filter_ne_of_notMem {t : Nat} {ts : List Nat} (h : t ∉ ts) : (ts.filter fun k => decide (k ≠ t)) = ts :=
  List.filter_eq_self.mpr fun _ hk => decide_eq_true fun e => h (e ▸ hk)

/-! ### Redraw requests (R148) -/

section Tile
variable {u : RenderUnit} {t : Nat} {x : Tile} (hx : u.tiles[t]? = some x)
include hx

/-- A tile without a size, and an IMAGE tile, is left as it is. -/
theorem RenderUnit.redraw_of_undrawable (h : x.size = none ∨ isImageTile t = true) (lane : Lane) : u.redraw t lane = u := by
  unfold RenderUnit.redraw
  rw [hx]
  exact if_pos h

section Drawable
variable (hd : ¬(x.size = none ∨ isImageTile t = true))
include hd

/-- A tile that does not wait and is not being drawn joins the lane named. -/
theorem RenderUnit.redraw_of_settled (h : x.state = .empty ∨ x.state = .clean) (lane : Lane) :
    u.redraw t lane = (u.putTile t { x with state := .queued, lane := lane }).joinLane t lane := by
  unfold RenderUnit.redraw
  obtain h | h := h <;> simp only [hx, if_neg hd, h]

/-- A NORMAL tile for which URGENT is asked moves to the tail of URGENT. -/
theorem RenderUnit.redraw_of_raised (h : x.state = .queued) (hl : x.lane = .normal) :
    u.redraw t .urgent = ((u.leaveLanes t).putTile t { x with lane := .urgent }).joinLane t .urgent := by
  unfold RenderUnit.redraw
  simp only [hx, if_neg hd, h, hl, and_self, if_true]

/-- Any other waiting tile keeps its place. -/
theorem RenderUnit.redraw_of_queued {lane : Lane} (h : x.state = .queued) (hl : ¬(x.lane = .normal ∧ lane = .urgent)) :
    u.redraw t lane = u := by
  unfold RenderUnit.redraw
  simp only [hx, if_neg hd, h, if_neg hl]

/-- A tile that is being drawn becomes stale. -/
theorem RenderUnit.redraw_of_running (h : x.state = .rendering ∨ x.state = .renderingStale) (lane : Lane) :
    u.redraw t lane = u.putTile t { x with state := .renderingStale, lane := laneAfter x.lane lane } := by
  unfold RenderUnit.redraw
  obtain h | h := h <;> simp only [hx, if_neg hd, h]

theorem RenderUnit.redraw_of_loading (h : x.state = .loading) (lane : Lane) : u.redraw t lane = u := by
  unfold RenderUnit.redraw
  simp only [hx, if_neg hd, h]

end Drawable

/-! ### Size requests and emptying (R146, R147) -/

theorem RenderUnit.resize_of_same {w h : Nat} (hs : x.size = some (w, h)) : u.resize t w h = u := by
  unfold RenderUnit.resize
  rw [hx]
  exact if_pos hs

theorem RenderUnit.resize_of_ne {w h : Nat} (hs : x.size ≠ some (w, h)) :
    u.resize t w h = u.putTile t { x with size := some (w, h), image := none, state := x.state.resized } := by
  unfold RenderUnit.resize
  rw [hx]
  exact if_neg hs

theorem RenderUnit.empty_eq :
    u.empty t = (u.leaveLanes t).putTile t { x with size := none, image := none, state := .empty, loadData := [] } := by
  unfold RenderUnit.empty
  rw [hx]

/-! ### The loaded tiles' directives (R144, R145) -/

theorem RenderUnit.loadText_eq (w h : Nat) (g : GlyphSet) (text : List Byte) :
    u.loadText t w h g text = ((u.putTile t { x with glyphSet := g, text := text }).resize t w h).redraw t .normal := by
  unfold RenderUnit.loadText
  rw [modifyAt_of_getElem? hx]
  rfl

theorem RenderUnit.clearLoaded_of_empty (h : x.state = .empty) : u.clearLoaded t = u := by
  unfold RenderUnit.clearLoaded
  rw [hx]
  exact if_pos h

/-- R145: a cleared tile leaves its lane and is EMPTY; a TEXT tile loses its text as well. -/
theorem RenderUnit.clearLoaded_of_ne (h : x.state ≠ .empty) :
    u.clearLoaded t = (u.leaveLanes t).putTile t { x with
      size := none, image := none, state := .empty, loadData := []
      glyphSet := if isTextTile t = true then .small else x.glyphSet
      text := if isTextTile t = true then [] else x.text } := by
  have hy := getElem?_setIfInBounds_of_some hx { x with size := none, image := none, state := .empty, loadData := [] } t
  rw [if_pos rfl] at hy
  unfold RenderUnit.clearLoaded
  simp only [hx, if_neg h, RenderUnit.empty_eq hx]
  split
  · simp only [RenderUnit.putTile, RenderUnit.tiles_leaveLanes]
    rw [modifyAt_of_getElem? hy, Vector.setIfInBounds_setIfInBounds]
  · rfl

end Tile

/-! ### The ends of render jobs (R152, R153) -/

section Job
variable {u : RenderUnit} {j : RenderJob} {x : Tile} (hx : u.tiles[j.tile]? = some x)
include hx

theorem RenderUnit.finish_of_rendering (h : x.state = .rendering) :
    u.finish j = u.putTile j.tile { x with
      image := if x.size = some (j.width, j.height) then some j.image else x.image, state := .clean } := by
  unfold RenderUnit.finish
  simp only [hx, h]

/-- R152: a stale tile is drawn again. -/
theorem RenderUnit.finish_of_stale (h : x.state = .renderingStale) :
    u.finish j = u.requeue j.tile { x with image := if x.size = some (j.width, j.height) then some j.image else x.image } := by
  unfold RenderUnit.finish
  simp only [hx, h]

/-- R147: a tile that was emptied meanwhile stays as it is. -/
theorem RenderUnit.finish_of_other (h : x.state ≠ .rendering) (h' : x.state ≠ .renderingStale) : u.finish j = u := by
  unfold RenderUnit.finish
  simp only [hx]
  split
  · exact absurd ‹_› h
  · exact absurd ‹_› h'
  all_goals rfl

theorem RenderUnit.abandon_of_running (h : x.state = .rendering ∨ x.state = .renderingStale) :
    u.abandon j = u.requeue j.tile x := by
  unfold RenderUnit.abandon
  obtain h | h := h <;> simp only [hx, h]

theorem RenderUnit.abandon_of_other (h : x.state ≠ .rendering) (h' : x.state ≠ .renderingStale) : u.abandon j = u := by
  unfold RenderUnit.abandon
  simp only [hx]
  split
  · exact absurd ‹_› h
  · exact absurd ‹_› h'
  all_goals rfl

end Job

/-! ### The restart's tests (R156) -/

section Restart
variable {u : RenderUnit} {t : Nat} {x : Tile} (hx : u.tiles[t]? = some x)
include hx

theorem RenderUnit.rendersAgain_iff :
    u.rendersAgain t = true ↔ x.size ≠ none ∧ isImageTile t = false ∧ isTextTile t = false := by
  unfold RenderUnit.rendersAgain
  rw [hx]
  simp [Option.isSome_iff_ne_none, and_assoc]

theorem RenderUnit.textPending_iff :
    u.textPending t = true ↔ isTextTile t = true ∧ (x.state = .queued ∨ x.state = .rendering ∨ x.state = .renderingStale) := by
  unfold RenderUnit.textPending
  rw [hx]
  simp [or_assoc]

end Restart

/-- R156 steps 3 and 4: the record of a tile after the restart. -/
def RenderUnit.restartTile (u : RenderUnit) (t : Nat) (x : Tile) : Tile :=
  if u.rendersAgain t = true then { x with state := .queued }
  else if u.textPending t = true then { x with state := .queued, lane := .normal } else x

theorem RenderUnit.restartLanes_getElem? (u : RenderUnit) (t : Nat) :
    u.restartLanes.tiles[t]? = u.tiles[t]?.map (u.restartTile t) := by
  by_cases ht : t < 256
  · rw [Vector.getElem?_eq_getElem ht, Vector.getElem?_eq_getElem ht]
    exact congrArg some (Vector.getElem_mapFinIdx ..)
  · rw [Vector.getElem?_eq_none (Nat.not_lt.mp ht), Vector.getElem?_eq_none (Nat.not_lt.mp ht)]
    rfl

theorem RenderUnit.mem_tilesOfLane (u : RenderUnit) (l : Lane) (test : Nat → Bool) (t : Nat) :
    t ∈ u.tilesOfLane l test ↔ test t = true ∧ ∃ x, u.tiles[t]? = some x ∧ x.lane = l := by
  rw [RenderUnit.tilesOfLane, List.mem_filter, List.mem_range, Bool.and_eq_true]
  cases hx : u.tiles[t]? with
  | none => simp
  | some x =>
    obtain ⟨ht, -⟩ := Vector.getElem?_eq_some_iff.mp hx
    simp [ht]

/-! ### Requests taken (R146 to R148) -/

theorem State.takeTileRequest_cons {s : State} {b : Block} {act : TileRequest → Option RenderUnit} {r : TileRequest}
    {rest : List TileRequest} {u : RenderUnit} (h : s.mail.tiles[b.index] = r :: rest) (ha : act r = some u) :
    s.takeTileRequest b act = { s with render := u, mail := { s.mail with tiles := put s.mail.tiles b.index rest } } := by
  unfold State.takeTileRequest
  simp only [h, ha]

end Sys2Proof.Machine

end

section
/-! SUPPORT. Settles O47: the redraw queue stays exactly the QUEUED tiles (L7, R146 to R148). A sound tile table with its lanes and a
sound engine, what each operation of the render unit keeps of them, and each command. -/

namespace Sys2Proof.Machine

open Sys2Proof

/-! ### Sound lanes and a sound engine -/

/-- Whether a tile waits for a render job in a lane. -/
def Tile.WaitsIn (x : Tile) (l : Lane) : Prop := x.state = .queued ∧ x.lane = l

/-- The states that a tile of a number may be in: without a size a rendered tile is EMPTY (R146, R147), and an IMAGE tile is never
drawn by a render job (R142). -/
def Tile.Fits (t : Nat) (x : Tile) : Prop :=
  if isImageTile t = true then x.state = .empty ∨ x.state = .loading ∨ x.state = .clean else x.size = none → x.state = .empty

/-- The two lanes hold the QUEUED tiles, each once. -/
structure RenderUnit.LanesSound (u : RenderUnit) : Prop where
  nodup : ∀ l, (u.laneList l).Nodup
  mem_iff : ∀ l t, t ∈ u.laneList l ↔ ∃ x, u.tiles[t]? = some x ∧ x.WaitsIn l
  fits : ∀ (t : Nat) (x : Tile), u.tiles[t]? = some x → x.Fits t

/-- Piece writes are for IMAGE tiles, and render jobs for the others. -/
structure RenderUnit.EngineSound (u : RenderUnit) : Prop where
  piece : ∀ w, u.engine = .piece w → isImageTile w.tile = true
  waiting : ∀ w, u.waiting = some w → isImageTile w.tile = true
  job : ∀ j, u.engine = .job j → isImageTile j.tile = false

theorem Tile.fits_iff (t : Nat) (x : Tile) : x.Fits t ↔ (isImageTile t = false → x.size = none → x.state = .empty)
    ∧ (isImageTile t = true → x.state = .empty ∨ x.state = .loading ∨ x.state = .clean) := by
  unfold Tile.Fits
  cases isImageTile t <;> simp

theorem Tile.Fits.notQueued {t : Nat} {x : Tile} (h : x.Fits t) (hi : isImageTile t = true) : x.state ≠ .queued := by
  rw [Tile.Fits, if_pos hi] at h
  obtain h | h | h := h <;> rw [h] <;> decide

theorem Tile.Fits.notImage {t : Nat} {x : Tile} (h : x.Fits t)
    (hs : x.state = .queued ∨ x.state = .rendering ∨ x.state = .renderingStale) : isImageTile t = false := by
  cases hi : isImageTile t with
  | false => rfl
  | true =>
    rw [Tile.Fits, if_pos hi] at h
    obtain h | h | h := h <;> rw [h] at hs <;> simp at hs

theorem Tile.Fits.sized {t : Nat} {x : Tile} (h : x.Fits t) (hi : isImageTile t = false) (hs : x.state ≠ .empty) :
    x.size ≠ none :=
  fun hn => hs (((x.fits_iff t).mp h).1 hi hn)

/-- A tile other than an IMAGE tile that has a size may be in every state. -/
theorem Tile.fits_of_sized {t : Nat} {x : Tile} (hi : isImageTile t = false) (hs : x.size ≠ none) : x.Fits t :=
  (x.fits_iff t).mpr ⟨fun _ hn => absurd hn hs, fun h => by rw [hi] at h; cases h⟩

theorem Tile.fits_of_empty {t : Nat} {x : Tile} (hs : x.state = .empty) : x.Fits t :=
  (x.fits_iff t).mpr ⟨fun _ _ => hs, fun _ => .inl hs⟩

/-- A record that keeps its size and state fits as before. -/
theorem Tile.Fits.congr {t : Nat} {x y : Tile} (h : x.Fits t) (hsize : y.size = x.size) (hstate : y.state = x.state) : y.Fits t := by
  rw [Tile.Fits, hsize, hstate]
  exact h

/-- Since a tile waits in at most one lane, "once in all" is "once in each lane". -/
theorem RenderUnit.sound_iff (u : RenderUnit) : u.Sound ↔ u.LanesSound ∧ u.EngineSound := by
  constructor
  · rintro ⟨hn, hu, hnormal, hsize, himage, hpiece, hwaiting, hjob⟩
    obtain ⟨hnu, hnn, -⟩ := List.nodup_append.mp hn
    refine ⟨⟨fun l => ?_, fun l t => ?_, fun t x hx => (x.fits_iff t).mpr ⟨hsize t x hx, himage t x hx⟩⟩,
      hpiece, hwaiting, hjob⟩
    · cases l
      · exact hnu
      · exact hnn
    · cases l
      · exact hu t
      · exact hnormal t
  · rintro ⟨⟨hn, hmem, hfits⟩, ⟨hpiece, hwaiting, hjob⟩⟩
    refine ⟨List.nodup_append.mpr ⟨hn .urgent, hn .normal, fun a ha b hb hab => ?_⟩, hmem .urgent, hmem .normal,
      fun t x hx => ((x.fits_iff t).mp (hfits t x hx)).1, fun t x hx => ((x.fits_iff t).mp (hfits t x hx)).2, hpiece, hwaiting, hjob⟩
    subst hab
    obtain ⟨x, hx, -, hurgent⟩ := (hmem .urgent a).mp ha
    obtain ⟨y, hy, -, hnormal⟩ := (hmem .normal a).mp hb
    rw [hx] at hy
    cases hy
    rw [hurgent] at hnormal
    cases hnormal

/-! ### One tile changed -/

theorem RenderUnit.EngineSound.congr {u v : RenderUnit} (h : u.EngineSound) (k : u.SameEngine v) : v.EngineSound := by
  obtain ⟨hpiece, hwaiting, hjob⟩ := h
  obtain ⟨he, hw⟩ := k
  exact ⟨he.symm ▸ hpiece, hw.symm ▸ hwaiting, he.symm ▸ hjob⟩

/-- An operation on the tile table and the lanes keeps the unit sound, if it keeps them sound. -/
theorem RenderUnit.Sound.of_sameEngine {u v : RenderUnit} (h : u.Sound) (k : u.SameEngine v) (hv : u.LanesSound → v.LanesSound) :
    v.Sound := by
  obtain ⟨hl, he⟩ := u.sound_iff.mp h
  exact v.sound_iff.mpr ⟨hv hl, he.congr k⟩

namespace RenderUnit.LanesSound
variable {u : RenderUnit} (h : u.LanesSound) {t : Nat} {x y : Tile}
include h

/-- A tile that does not wait is in neither lane. -/
theorem leaveLanes_of_notQueued (hx : u.tiles[t]? = some x) (hq : x.state ≠ .queued) : u.leaveLanes t = u := by
  have hnot (l : Lane) : t ∉ u.laneList l := fun ht => by
    obtain ⟨z, hz, hw, -⟩ := (h.mem_iff l t).mp ht
    rw [hx] at hz
    cases hz
    exact hq hw
  have hurgent := filter_ne_of_notMem (hnot .urgent)
  have hnormal := filter_ne_of_notMem (hnot .normal)
  unfold RenderUnit.leaveLanes
  exact congrArg₂ (fun a b => { u with urgentLane := a, normalLane := b }) hurgent hnormal

/-- One tile's record is replaced, and the lanes follow it. -/
theorem change {v : RenderUnit} (hx : u.tiles[t]? = some x) (htiles : v.tiles = u.tiles.setIfInBounds t y)
    (hnodup : ∀ l, (v.laneList l).Nodup) (hmem : ∀ l k, k ∈ v.laneList l ↔ if k = t then y.WaitsIn l else k ∈ u.laneList l)
    (hfits : y.Fits t) : v.LanesSound := by
  have hrecord (k : Nat) : v.tiles[k]? = if k = t then some y else u.tiles[k]? := by
    rw [htiles, getElem?_setIfInBounds_of_some hx]
  refine ⟨hnodup, fun l k => ?_, fun k z hz => ?_⟩
  · rw [hmem, hrecord]
    by_cases hk : k = t
    · simp [hk]
    · rw [if_neg hk, if_neg hk]
      exact h.mem_iff l k
  · rw [hrecord] at hz
    by_cases hk : k = t
    · rw [if_pos hk] at hz
      cases hz
      exact hk ▸ hfits
    · rw [if_neg hk] at hz
      exact h.fits k z hz

/-- A record changes, but the tile waits as before. -/
theorem putTile (hx : u.tiles[t]? = some x) (hw : ∀ l, y.WaitsIn l ↔ x.WaitsIn l) (hfits : y.Fits t) :
    (u.putTile t y).LanesSound := by
  refine h.change hx rfl (fun l => by rw [laneList_putTile]; exact h.nodup l) (fun l k => ?_) hfits
  rw [laneList_putTile]
  by_cases hk : k = t
  · subst hk
    simp [h.mem_iff, hx, hw]
  · rw [if_neg hk]

/-- A tile leaves the queue. -/
theorem leave (hx : u.tiles[t]? = some x) (hq : y.state ≠ .queued) (hfits : y.Fits t) :
    ((u.leaveLanes t).putTile t y).LanesSound := by
  refine h.change hx rfl (fun l => ?_) (fun l k => ?_) hfits
  · rw [laneList_putTile, laneList_leaveLanes]
    exact (h.nodup l).filter _
  · rw [laneList_putTile, laneList_leaveLanes, List.mem_filter]
    by_cases hk : k = t
    · simp [hk, Tile.WaitsIn, hq]
    · simp [hk]

/-- A tile goes to the tail of the lane in its lane field, out of whatever place it had. -/
theorem move (hx : u.tiles[t]? = some x) (hq : y.state = .queued) (hfits : y.Fits t) :
    (((u.leaveLanes t).putTile t y).joinLane t y.lane).LanesSound := by
  refine h.change hx (tiles_joinLane ..) (fun l => ?_) (fun l k => ?_) hfits
  · rw [laneList_joinLane, laneList_putTile, laneList_leaveLanes]
    have hrest := (h.nodup l).filter fun k => decide (k ≠ t)
    split
    · exact hrest.append (List.nodup_singleton t) (by simp)
    · exact hrest
  · rw [laneList_joinLane, laneList_putTile, laneList_leaveLanes]
    by_cases hk : k = t
    · subst hk
      by_cases hl : l = y.lane
      · simp [hl, Tile.WaitsIn, hq]
      · simp [hl, Tile.WaitsIn, Ne.symm hl]
    · split <;> simp [hk]

/-- A tile that does not wait joins the tail of the lane in its lane field. -/
theorem join (hx : u.tiles[t]? = some x) (hx' : x.state ≠ .queued) (hq : y.state = .queued) (hfits : y.Fits t) :
    ((u.putTile t y).joinLane t y.lane).LanesSound := by
  have hm := h.move hx hq hfits
  rwa [h.leaveLanes_of_notQueued hx hx'] at hm

/-- A record changes where there is one, but the tile waits as before. -/
theorem modify {f : Tile → Tile} (hf : ∀ x, u.tiles[t]? = some x → (∀ l, (f x).WaitsIn l ↔ x.WaitsIn l) ∧ (f x).Fits t) :
    ({ u with tiles := modifyAt u.tiles t f } : RenderUnit).LanesSound := by
  cases hx : u.tiles[t]? with
  | none => rwa [modifyAt_of_getElem?_none hx]
  | some x =>
    rw [modifyAt_of_getElem? hx]
    obtain ⟨hw, hfits⟩ := hf x hx
    exact h.putTile hx hw hfits

/-! ### Requests (R146 to R148) -/

theorem redraw (t : Nat) (lane : Lane) : (u.redraw t lane).LanesSound := by
  cases hx : u.tiles[t]? with
  | none =>
    unfold RenderUnit.redraw
    rwa [hx]
  | some x =>
    by_cases hd : x.size = none ∨ isImageTile t = true
    · rwa [redraw_of_undrawable hx hd]
    · have hsize : x.size ≠ none := fun hn => hd (.inl hn)
      have himage : isImageTile t = false := Bool.eq_false_iff.mpr fun hi => hd (.inr hi)
      obtain hs | hs | hs | hs : (x.state = .empty ∨ x.state = .clean) ∨ x.state = .queued
          ∨ (x.state = .rendering ∨ x.state = .renderingStale) ∨ x.state = .loading := by cases x.state <;> simp
      · rw [redraw_of_settled hx hd hs]
        exact h.join hx (by obtain hs | hs := hs <;> simp [hs]) (y := { x with state := .queued, lane := lane }) rfl
          (Tile.fits_of_sized himage hsize)
      · by_cases hl : x.lane = .normal ∧ lane = .urgent
        · obtain ⟨hl, rfl⟩ := hl
          rw [redraw_of_raised hx hd hs hl]
          exact h.move hx (y := { x with lane := .urgent }) hs (Tile.fits_of_sized himage hsize)
        · rwa [redraw_of_queued hx hd hs hl]
      · rw [redraw_of_running hx hd hs]
        exact h.putTile hx (fun l => by obtain hs | hs := hs <;> simp [Tile.WaitsIn, hs]) (Tile.fits_of_sized himage hsize)
      · rwa [redraw_of_loading hx hd hs]

/-- R146: a change of size never takes a tile out of the queue, nor puts one in. -/
theorem resize (t w ht : Nat) : (u.resize t w ht).LanesSound := by
  cases hx : u.tiles[t]? with
  | none =>
    unfold RenderUnit.resize
    rwa [hx]
  | some x =>
    by_cases hs : x.size = some (w, ht)
    · rwa [resize_of_same hx hs]
    · rw [resize_of_ne hx hs]
      have hresized : x.state.resized = .queued ↔ x.state = .queued := by cases x.state <;> simp [TileState.resized]
      refine h.putTile hx (fun l => by simp only [Tile.WaitsIn, hresized])
        ((Tile.fits_iff ..).mpr ⟨fun _ hn => (nomatch hn), fun hi => ?_⟩)
      obtain he | he | he := ((x.fits_iff t).mp (h.fits t x hx)).2 hi <;> simp [he, TileState.resized]

theorem empty (t : Nat) : (u.empty t).LanesSound := by
  cases hx : u.tiles[t]? with
  | none =>
    unfold RenderUnit.empty
    rwa [hx]
  | some x =>
    rw [empty_eq hx]
    exact h.leave hx (by simp) (Tile.fits_of_empty rfl)

/-! ### Loaded tiles (R143 to R145) -/

theorem loadText (t w ht : Nat) (g : GlyphSet) (text : List Byte) : (u.loadText t w ht g text).LanesSound :=
  ((h.modify (f := fun x => { x with glyphSet := g, text := text }) fun x hx =>
    ⟨fun _ => Iff.rfl, (h.fits t x hx).congr rfl rfl⟩).resize t w ht).redraw t .normal

theorem clearLoaded (t : Nat) : (u.clearLoaded t).LanesSound := by
  cases hx : u.tiles[t]? with
  | none =>
    unfold RenderUnit.clearLoaded
    rwa [hx]
  | some x =>
    by_cases hs : x.state = .empty
    · rwa [clearLoaded_of_empty hx hs]
    · rw [clearLoaded_of_ne hx hs]
      exact h.leave hx (by simp) (Tile.fits_of_empty rfl)

/-! ### The ends of render jobs (R152, R153) -/

/-- A tile whose job has ended is drawn again. -/
theorem requeue (hx : u.tiles[t]? = some x) (hs : x.state = .rendering ∨ x.state = .renderingStale) (image : Option Image) :
    (u.requeue t { x with image := image }).LanesSound := by
  have hi := (h.fits t x hx).notImage (.inr hs)
  have hsize := (h.fits t x hx).sized hi (by obtain hs | hs := hs <;> simp [hs])
  exact h.join hx (by obtain hs | hs := hs <;> simp [hs]) (y := { x with image := image, state := .queued }) rfl
    (Tile.fits_of_sized hi hsize)

theorem finish (j : RenderJob) : (u.finish j).LanesSound := by
  cases hx : u.tiles[j.tile]? with
  | none =>
    unfold RenderUnit.finish
    rwa [hx]
  | some x =>
    by_cases hs : x.state = .rendering
    · have hi := (h.fits _ x hx).notImage (.inr (.inl hs))
      rw [finish_of_rendering hx hs]
      exact h.putTile hx (fun l => by simp [Tile.WaitsIn, hs]) (Tile.fits_of_sized hi ((h.fits _ x hx).sized hi (by simp [hs])))
    · by_cases hs' : x.state = .renderingStale
      · rw [finish_of_stale hx hs']
        exact h.requeue hx (.inr hs') _
      · rwa [finish_of_other hx hs hs']

theorem abandon (j : RenderJob) : (u.abandon j).LanesSound := by
  cases hx : u.tiles[j.tile]? with
  | none =>
    unfold RenderUnit.abandon
    rwa [hx]
  | some x =>
    by_cases hs : x.state = .rendering ∨ x.state = .renderingStale
    · rw [abandon_of_running hx hs]
      exact h.requeue hx hs x.image
    · rw [not_or] at hs
      rwa [abandon_of_other hx hs.1 hs.2]

/-! ### The restart (R156) -/

/-- A tile that the restart does not queue was not waiting either. -/
theorem waitsIn_restartTile (hx : u.tiles[t]? = some x) (l : Lane) : (u.restartTile t x).WaitsIn l ↔
    u.rendersAgain t = true ∧ x.lane = l ∨ u.textPending t = true ∧ l = .normal := by
  have hagain := u.rendersAgain_iff hx
  have hpending := u.textPending_iff hx
  unfold RenderUnit.restartTile
  by_cases ha : u.rendersAgain t = true
  · have hp : ¬u.textPending t = true := fun hp => by
      obtain ⟨-, -, htext⟩ := hagain.mp ha
      rw [(hpending.mp hp).1] at htext
      cases htext
    simp [ha, hp, Tile.WaitsIn]
  · by_cases hp : u.textPending t = true
    · simp [ha, hp, Tile.WaitsIn, eq_comm]
    · have hq : x.state ≠ .queued := fun hq => by
        have hi := (h.fits t x hx).notImage (.inl hq)
        have hsize := (h.fits t x hx).sized hi (by simp [hq])
        cases ht : isTextTile t with
        | true => exact hp (hpending.mpr ⟨ht, .inl hq⟩)
        | false => exact ha (hagain.mpr ⟨hsize, hi, ht⟩)
      simp [ha, hp, Tile.WaitsIn, hq]

theorem fits_restartTile (hx : u.tiles[t]? = some x) : (u.restartTile t x).Fits t := by
  unfold RenderUnit.restartTile
  split
  · obtain ⟨hsize, hi, -⟩ := (u.rendersAgain_iff hx).mp ‹_›
    exact Tile.fits_of_sized hi hsize
  · split
    · obtain ⟨-, hs⟩ := (u.textPending_iff hx).mp ‹_›
      have hi := (h.fits t x hx).notImage hs
      exact Tile.fits_of_sized hi ((h.fits t x hx).sized hi (by obtain hs | hs | hs := hs <;> simp [hs]))
    · exact h.fits t x hx

theorem mem_restartLanes (l : Lane) (t : Nat) : t ∈ u.restartLanes.laneList l ↔
    ∃ x, u.tiles[t]? = some x ∧ (u.restartTile t x).WaitsIn l := by
  have hpending : t ∈ (List.range 256).filter u.textPending ↔ ∃ x, u.tiles[t]? = some x ∧ u.textPending t = true := by
    rw [List.mem_filter, List.mem_range]
    constructor
    · rintro ⟨ht, hp⟩
      exact ⟨_, Vector.getElem?_eq_getElem ht, hp⟩
    · rintro ⟨x, hx, hp⟩
      exact ⟨(Vector.getElem?_eq_some_iff.mp hx).1, hp⟩
  have hwaits : (∃ x, u.tiles[t]? = some x ∧ (u.restartTile t x).WaitsIn l) ↔
      ∃ x, u.tiles[t]? = some x ∧ (u.rendersAgain t = true ∧ x.lane = l ∨ u.textPending t = true ∧ l = .normal) :=
    exists_congr fun x => and_congr_right fun hx => h.waitsIn_restartTile hx l
  rw [hwaits]
  cases l with
  | urgent =>
    refine (u.mem_tilesOfLane .urgent u.rendersAgain t).trans ?_
    simp [and_left_comm]
  | normal =>
    refine List.mem_append.trans ?_
    rw [mem_tilesOfLane, hpending]
    simp only [and_true, and_or_left, exists_or]
    simp [and_left_comm]

theorem restartLanes : u.restartLanes.LanesSound := by
  have hrange (p : Nat → Bool) : ((List.range 256).filter p).Nodup := List.nodup_range.filter p
  refine ⟨fun l => ?_, fun l t => ?_, fun t y hy => ?_⟩
  · cases l with
    | urgent => exact (hrange _ : (u.tilesOfLane .urgent u.rendersAgain).Nodup)
    | normal =>
      refine (hrange _).append (hrange _) fun t ht hp => ?_
      obtain ⟨ha, x, hx, -⟩ := (u.mem_tilesOfLane ..).mp ht
      obtain ⟨-, -, htext⟩ := (u.rendersAgain_iff hx).mp ha
      rw [((u.textPending_iff hx).mp (List.mem_filter.mp hp).2).1] at htext
      cases htext
  · rw [h.mem_restartLanes, restartLanes_getElem?]
    cases u.tiles[t]? <;> simp
  · rw [restartLanes_getElem?] at hy
    obtain ⟨x, hx, rfl⟩ := Option.map_eq_some_iff.mp hy
    exact h.fits_restartTile hx

end RenderUnit.LanesSound

/-! ### The render unit -/

theorem RenderUnit.laneList_withEngine (u : RenderUnit) (e : RenderEngine) (w : Option PieceWrite) (l : Lane) :
    ({ u with engine := e, waiting := w } : RenderUnit).laneList l = u.laneList l := by
  cases l <;> rfl

section Sound
variable {u : RenderUnit} (h : u.Sound)
include h

theorem RenderUnit.Sound.redraw (t : Nat) (lane : Lane) : (u.redraw t lane).Sound :=
  h.of_sameEngine (u.redraw_sameEngine t lane) fun hl => hl.redraw t lane

theorem RenderUnit.Sound.resize (t w ht : Nat) : (u.resize t w ht).Sound :=
  h.of_sameEngine (u.resize_sameEngine t w ht) fun hl => hl.resize t w ht

theorem RenderUnit.Sound.empty (t : Nat) : (u.empty t).Sound :=
  h.of_sameEngine (u.empty_sameEngine t) fun hl => hl.empty t

theorem RenderUnit.Sound.loadText (t w ht : Nat) (g : GlyphSet) (text : List Byte) : (u.loadText t w ht g text).Sound :=
  h.of_sameEngine (u.loadText_sameEngine ..) fun hl => hl.loadText t w ht g text

theorem RenderUnit.Sound.clearLoaded (t : Nat) : (u.clearLoaded t).Sound :=
  h.of_sameEngine (u.clearLoaded_sameEngine t) fun hl => hl.clearLoaded t

/-- The engine and the waiting piece write change, and the tile table and the lanes do not. -/
theorem RenderUnit.Sound.withEngine {e : RenderEngine} {w : Option PieceWrite}
    (he : ({ u with engine := e, waiting := w } : RenderUnit).EngineSound) :
    ({ u with engine := e, waiting := w } : RenderUnit).Sound := by
  obtain ⟨⟨hn, hmem, hfits⟩, -⟩ := u.sound_iff.mp h
  exact (RenderUnit.sound_iff _).mpr
    ⟨⟨fun l => u.laneList_withEngine e w l ▸ hn l, fun l => u.laneList_withEngine e w l ▸ hmem l, hfits⟩, he⟩

/-- Work that has ended leaves the engine idle. -/
theorem RenderUnit.Sound.idle : ({ u with engine := .idle } : RenderUnit).Sound := by
  obtain ⟨-, -, hwaiting, -⟩ := u.sound_iff.mp h
  exact h.withEngine ⟨fun _ hw => (nomatch hw), hwaiting, fun _ hj => (nomatch hj)⟩

theorem RenderUnit.Sound.finish (j : RenderJob) : (u.finish j).Sound :=
  h.of_sameEngine (u.finish_sameEngine j) fun hl => hl.finish j

theorem RenderUnit.Sound.abandon (j : RenderJob) : (u.abandon j).Sound :=
  h.of_sameEngine (u.abandon_sameEngine j) fun hl => hl.abandon j

theorem RenderUnit.Sound.restartLanes : u.restartLanes.Sound :=
  h.of_sameEngine ⟨rfl, rfl⟩ fun hl => hl.restartLanes

/-- R142, R143: a record of an IMAGE tile changes within the states of a loaded tile. -/
theorem RenderUnit.Sound.modifyImage {t : Nat} (hi : isImageTile t = true) {f : Tile → Tile}
    (hf : ∀ x, x.Fits t → (f x).state = x.state ∨ (f x).state = .loading ∨ (f x).state = .clean) :
    ({ u with tiles := modifyAt u.tiles t f } : RenderUnit).Sound := by
  refine h.of_sameEngine ⟨rfl, rfl⟩ fun hl => hl.modify fun x hx => ?_
  have hx := hl.fits t x hx
  have hy : (f x).Fits t := by
    have hstates := hx
    rw [Tile.Fits, if_pos hi] at hstates ⊢
    obtain he | he := hf x hx
    · rwa [he]
    · exact .inr he
  exact ⟨fun l => by simp [Tile.WaitsIn, hx.notQueued hi, hy.notQueued hi], hy⟩

/-- R149: the tile whose job is next waits in a lane. -/
theorem RenderUnit.Sound.nextTile {t : Nat} (hn : u.nextTile = some t) {x : Tile} (hx : u.tiles[t]? = some x) : x.state = .queued := by
  obtain ⟨hl, -⟩ := u.sound_iff.mp h
  have hmem : ∃ l, t ∈ u.laneList l := by
    unfold RenderUnit.nextTile at hn
    split at hn
    · rename_i hu
      cases hn
      exact ⟨.urgent, by rw [RenderUnit.laneList, hu]; exact List.mem_cons_self⟩
    · exact ⟨.normal, List.mem_of_mem_head? hn⟩
  obtain ⟨l, hmem⟩ := hmem
  obtain ⟨y, hy, hq, -⟩ := (hl.mem_iff l t).mp hmem
  rw [hx] at hy
  cases hy
  exact hq

end Sound

/-! ### Directives (R142 to R145) -/

theorem loadImage_renderSound {s : State} (h : s.render.Sound) (t w ht total : Nat) : (loadImage t w ht total s).1.render.Sound := by
  unfold loadImage
  split
  · rename_i hc
    simp only [Bool.and_eq_true] at hc
    exact h.modifyImage hc.1.1 fun _ _ => .inr (.inl rfl)
  · exact h

theorem loadTextTile_renderSound {s : State} (h : s.render.Sound) (t w ht glyph : Nat) (text : List Byte) :
    (loadTextTile t w ht glyph text s).1.render.Sound := by
  unfold loadTextTile
  split
  · exact h
  · split
    · exact h
    · exact h.loadText ..

theorem clearTile_renderSound {s : State} (h : s.render.Sound) (t : Nat) : (clearTile t s).1.render.Sound := by
  unfold clearTile
  split
  · exact h.clearLoaded t
  · exact h

/-- R143: the checks of IMAGE PIECE let pass pieces of IMAGE tiles alone. -/
theorem isImageTile_of_pieceOutcome {u : RenderUnit} {t offset : Nat} {piece : List Byte}
    (h : pieceOutcome u t offset piece = none) : isImageTile t = true := by
  cases hi : isImageTile t with
  | true => rfl
  | false =>
    unfold pieceOutcome at h
    split at h
    · cases h
    · rw [if_pos (.inl hi)] at h
      cases h

theorem takePiece_renderSound {s : State} (h : s.render.Sound) (p : Port) (q : Packet) (t offset : Nat) (piece : List Byte) :
    (takePiece p q t offset piece s).render.Sound := by
  unfold takePiece
  split
  · exact h
  · rename_i hpiece
    obtain ⟨-, hp, -, hj⟩ := s.render.sound_iff.mp h
    refine h.withEngine ⟨hp, fun w hw => ?_, hj⟩
    cases hw
    exact isImageTile_of_pieceOutcome hpiece

/-- What moving packets keeps and the whole action keeps, taking a directive keeps. -/
theorem State.take_preserves {P : State → Prop} {α : Type} {u : Block} {p : Port} {select : Directive → Option α}
    {act : Packet → α → State → State} (hmove : ∀ {s t : State}, s.Frame [.queues, .block .link] t → P s → P t)
    (hact : ∀ q a t, P t → P (act q a t)) {s : State} (h : P s) : P (s.take u p select act) := by
  have hput := hmove (s.putHandoff_frame u p (s.handoffOf u p).tail) h
  obtain e | ⟨q, d, a, -, -, e⟩ | ⟨q, d, a, -, -, -, -, e⟩ := State.take_cases u p select act s
  · rw [e]; exact h
  · rw [e]; exact hact q a _ hput
  · rw [e]; exact hmove (State.issue_frame ..) hput

/-! ### Requests and the engine -/

theorem takeTileRequest_renderSound {s : State} (h : s.render.Sound) (b : Block) {act : TileRequest → Option RenderUnit}
    (hact : ∀ r u, act r = some u → u.Sound) : (s.takeTileRequest b act).render.Sound := by
  unfold State.takeTileRequest
  split
  · exact h
  · split
    · exact h
    · exact hact _ _ ‹_›

theorem execPieceWriteStart_renderSound {s : State} (h : s.render.Sound) :
    Result.Keeps (fun t => t.render.Sound) (execPieceWriteStart s) := by
  refine .next ?_
  obtain ⟨-, -, hw, -⟩ := s.render.sound_iff.mp h
  split
  · rename_i hwaiting
    refine h.withEngine ⟨fun w he => ?_, fun _ hn => (nomatch hn), fun _ hj => (nomatch hj)⟩
    cases he
    exact hw _ hwaiting
  · exact h

/-- R143: a piece written makes its tile CLEAN, or leaves it as it was. -/
theorem Tile.receive_state (x : Tile) (piece : List Byte) :
    (x.receive piece).state = x.state ∨ (x.receive piece).state = .clean := by
  unfold Tile.receive
  dsimp only
  split
  · exact .inr rfl
  · exact .inl rfl

theorem execPieceWriteComplete_renderSound {s : State} (h : s.render.Sound) :
    Result.Keeps (fun t => t.render.Sound) (execPieceWriteComplete s) := by
  refine .next ?_
  obtain ⟨-, hp, -, -⟩ := s.render.sound_iff.mp h
  split
  · rename_i w _ he _
    exact h.idle.modifyImage (hp w he) fun x _ => (x.receive_state w.piece).imp_right .inr
  · exact h

theorem execPieceWriteEnded_renderSound {s : State} (h : s.render.Sound) :
    Result.Keeps (fun t => t.render.Sound) (execPieceWriteEnded s) := by
  refine .next ?_
  split
  · exact h.idle
  · exact h

/-- R150: the tile whose job starts leaves its lane. -/
theorem startRender_renderSound {s : State} (h : s.render.Sound) {t w ht : Nat} {x : Tile} (hx : s.render.tiles[t]? = some x)
    (hs : x.size = some (w, ht)) (hq : x.state = .queued) : (s.startRender t x w ht).render.Sound := by
  obtain ⟨hl, -, hw, -⟩ := s.render.sound_iff.mp h
  have hi := (hl.fits t x hx).notImage (.inl hq)
  have hleft : ((s.render.leaveLanes t).putTile t { x with state := .rendering }).Sound :=
    h.of_sameEngine ⟨rfl, rfl⟩ fun hl => hl.leave hx (by simp) (Tile.fits_of_sized hi (by simp [hs]))
  refine hleft.withEngine ⟨fun _ hp => (nomatch hp), hw, fun j hj => ?_⟩
  cases hj
  exact hi

theorem execRenderJobStart_renderSound {s : State} (h : s.render.Sound) :
    Result.Keeps (fun t => t.render.Sound) (execRenderJobStart s) := by
  refine .next ?_
  split
  · rename_i hn
    split
    · rename_i hx
      split
      · exact startRender_renderSound h hx ‹_› (h.nextTile hn hx)
      · exact h
    · exact h
  · exact h

theorem execRenderJobComplete_renderSound {s : State} (h : s.render.Sound) :
    Result.Keeps (fun t => t.render.Sound) (execRenderJobComplete s) := by
  refine .next ?_
  split
  · exact h.idle.finish _
  · exact h

theorem execRenderJobAbandon_renderSound {s : State} (h : s.render.Sound) :
    Result.Keeps (fun t => t.render.Sound) (execRenderJobAbandon s) := by
  refine .next ?_
  split
  · exact h.idle.abandon _
  · exact h

theorem State.cancelRender_render (s : State) : s.cancelRender.render = { s.render with engine := .idle, waiting := none } := by
  unfold State.cancelRender
  dsimp only
  split <;> simp

theorem execRenderRestart_renderSound {s : State} (h : s.render.Sound) :
    Result.Keeps (fun t => t.render.Sound) (execRenderRestart s) := by
  refine .next ?_
  split
  · exact h
  · show ((s.dropRestart .render).cancelRender.render.restartLanes).Sound
    rw [State.cancelRender_render]
    refine RenderUnit.Sound.restartLanes (RenderUnit.Sound.withEngine h ?_)
    exact ⟨fun _ hp => (nomatch hp), fun _ hw => (nomatch hw), fun _ hj => (nomatch hj)⟩

/-! ### Every command -/

/-- R146 to R148: every command keeps the redraw queue the QUEUED tiles. -/
theorem exec_renderSound (i : Instr) {s : State} (h : s.render.Sound) : Result.Keeps (fun t => t.render.Sound) (exec i s) := by
  have hmove {s t : State} (hf : s.Frame [.queues, .block .link] t) (hs : s.render.Sound) : t.render.Sound := by
    rwa [← hf.same (.block .render) (by simp)]
  have hreset (t : State) : t.fullReset.render.Sound := reset_renderSound
  cases i with
  | answerSent p => exact execAnswerSent_preserves hmove hreset h p
  | fullReset => exact .next (hreset s)
  | loadImage p => exact .next (State.takeAndAnswer_preserves hmove (fun _ _ ht => loadImage_renderSound ht ..) h)
  | imagePiece p => exact .next (State.take_preserves hmove (fun q _ _ ht => takePiece_renderSound ht p q ..) h)
  | loadTextTile p => exact .next (State.takeAndAnswer_preserves hmove (fun _ _ ht => loadTextTile_renderSound ht ..) h)
  | clearTile p => exact .next (State.takeAndAnswer_preserves hmove (fun _ _ ht => clearTile_renderSound ht _) h)
  | redrawRequest b =>
    refine .next (takeTileRequest_renderSound h b fun r u hu => ?_)
    split at hu
    · cases hu
      exact h.redraw ..
    · cases hu
  | sizeRequest b =>
    refine .next (takeTileRequest_renderSound h b fun r u hu => ?_)
    split at hu
    · cases hu
      exact h.resize ..
    · cases hu
  | emptyTile b =>
    refine .next (takeTileRequest_renderSound h b fun r u hu => ?_)
    split at hu
    · cases hu
      exact h.empty _
    · cases hu
  | pieceWriteStart => exact execPieceWriteStart_renderSound h
  | pieceWriteComplete => exact execPieceWriteComplete_renderSound h
  | pieceWriteEnded => exact execPieceWriteEnded_renderSound h
  | renderJobStart => exact execRenderJobStart_renderSound h
  | renderJobComplete => exact execRenderJobComplete_renderSound h
  | renderJobAbandon => exact execRenderJobAbandon_renderSound h
  | renderRestart => exact execRenderRestart_renderSound h
  | _ =>
    refine (exec_frame _ s).keeps fun t hf => ?_
    have hsame : s.render = t.render := hf.same (.block .render)
      (by simp [Instr.touches, Instr.takes, Instr.queryKind, Instr.eventTouches, Instr.block])
    rwa [← hsame]

/-- Settles O47: a step runs one command, and every command keeps the queue. -/
theorem redrawQueueHoldsTheQueuedTiles : Obligations.RedrawQueueHoldsTheQueuedTiles := fun _ _ h hs =>
  step_keeps (P := fun t => t.render.Sound) (fun _ _ h => h) (fun i _ h => exec_renderSound i h) h hs

end Sys2Proof.Machine

end

section
/-! SUPPORT. Settles O44 and O45: the loaded tiles' directives (R142 to R145), and redraw, size and empty requests (R146 to R148). -/

namespace Sys2Proof.Machine

open Sys2Proof

theorem tileSizeOk_iff (w h : Nat) : tileSizeOk w h = true ↔ 1 ≤ w ∧ w ≤ 48 ∧ 1 ≤ h ∧ h ≤ 48 := by
  simp [tileSizeOk, and_assoc]

/-! ### LOAD IMAGE (R142) -/

theorem loadImage_refused {t w h total : Nat}
    (hbad : t < 128 ∨ 191 < t ∨ w < 1 ∨ 48 < w ∨ h < 1 ∨ 48 < h ∨ total ≠ 3200 * w * h) (s : State) :
    loadImage t w h total s = refuse s .outOfRange := by
  refine if_neg fun hok => ?_
  simp only [Bool.and_eq_true, isImageTile_iff, tileSizeOk_iff, decide_eq_true_eq] at hok
  omega

theorem loadImage_done {t w h : Nat} (ht : isImageTile t = true) (hsize : tileSizeOk w h = true) {s : State} {x : Tile}
    (hx : s.render.tiles[t]? = some x) : loadImage t w h (3200 * w * h) s = done { s with render := { s.render with
      tiles := s.render.tiles.setIfInBounds t { x with
        size := some (w, h), byteTotal := 3200 * w * h, bytesReceived := 0, loadData := [], image := none, state := .loading } } } := by
  rw [loadImage, modifyAt_of_getElem? hx]
  exact if_pos (by simp [ht, hsize])

/-! ### IMAGE PIECE (R143) -/

/-- A piece for a tile that is not an IMAGE tile or that is not LOADING. -/
theorem pieceOutcome_of_notLoading {u : RenderUnit} {t : Nat}
    (h : t < 128 ∨ 191 < t ∨ ∃ x, u.tiles[t]? = some x ∧ x.state ≠ .loading) (offset : Nat) (piece : List Byte) :
    pieceOutcome u t offset piece = some .outOfRange := by
  unfold pieceOutcome
  cases hx : u.tiles[t]? with
  | none => rfl
  | some x =>
    refine if_pos ?_
    rw [isImageTile_eq_false_iff, or_assoc]
    refine h.imp_right (Or.imp_right ?_)
    rintro ⟨y, hy, hs⟩
    rw [hx] at hy
    cases hy
    exact hs

section Piece
variable {u : RenderUnit} {t : Nat} {x : Tile} (hx : u.tiles[t]? = some x) (hi : isImageTile t = true) (hs : x.state = .loading)
include hx hi hs

/-- The checks that a piece of a LOADING tile still has to pass, in order. -/
theorem pieceOutcome_of_loading (offset : Nat) (piece : List Byte) : pieceOutcome u t offset piece =
    if x.byteTotal < offset + piece.length then some .outOfRange
    else if offset + piece.length ≤ x.bytesReceived then some .done
    else if offset ≠ x.bytesReceived then some .outOfRange
    else none := by
  unfold pieceOutcome
  rw [hx]
  exact if_neg (by simp [hi, hs])

end Piece

theorem takePiece_of_some {s : State} {t offset : Nat} {piece : List Byte} {o : OutcomeCode}
    (h : pieceOutcome s.render t offset piece = some o) (p : Port) (q : Packet) :
    takePiece p q t offset piece s = s.answered p q o := by
  rw [takePiece, h]

theorem takePiece_of_none {s : State} {t offset : Nat} {piece : List Byte}
    (h : pieceOutcome s.render t offset piece = none) (p : Port) (q : Packet) :
    takePiece p q t offset piece s
      = { s.reserve p with render := { s.render with waiting := some ⟨t, piece, p, q.tag, q.code⟩ } } := by
  rw [takePiece, h]

/-! ### LOAD TEXT TILE and CLEAR TILE (R144, R145) -/

theorem loadTextTile_refused {t w h glyph : Nat}
    (hbad : t < 200 ∨ 223 < t ∨ w < 1 ∨ 48 < w ∨ h < 1 ∨ 48 < h ∨ (glyph ≠ 1 ∧ glyph ≠ 2) ∨ (glyph = 2 ∧ h = 1))
    (text : List Byte) (s : State) : loadTextTile t w h glyph text s = refuse s .outOfRange := by
  unfold loadTextTile
  split
  · rfl
  · rename_i g hg
    refine if_pos ?_
    have hglyph : glyph = 1 ∨ glyph = 2 ∧ g = .large := by
      unfold glyphSetOf at hg
      split at hg
      · exact .inl rfl
      · cases hg
        exact .inr ⟨rfl, rfl⟩
      · cases hg
    rw [isTextTile_eq_false_iff, ← Bool.not_eq_true (tileSizeOk w h), tileSizeOk_iff]
    obtain hg | ⟨hg, hl⟩ := hglyph
    · omega
    · simp only [hl, true_and]
      omega

theorem loadTextTile_done {t w h glyph : Nat} {g : GlyphSet} (ht : isTextTile t = true) (hsize : tileSizeOk w h = true)
    (hg : glyph = 1 ∧ g = .small ∨ glyph = 2 ∧ g = .large ∧ 2 ≤ h) (text : List Byte) (s : State) :
    loadTextTile t w h glyph text s = done { s with render := s.render.loadText t w h g text } := by
  obtain ⟨rfl, rfl⟩ | ⟨rfl, rfl, hh⟩ := hg
  · exact if_neg (by simp [ht, hsize])
  · exact if_neg (by simp [ht, hsize]; omega)

theorem clearTile_refused {t : Nat} (h : t < 128 ∨ (191 < t ∧ t < 200) ∨ 223 < t) (s : State) :
    clearTile t s = refuse s .outOfRange := by
  refine if_neg fun hok => ?_
  rw [Bool.or_eq_true, isImageTile_iff, isTextTile_iff] at hok
  omega

theorem clearTile_done {t : Nat} (h : isImageTile t = true ∨ isTextTile t = true) (s : State) :
    clearTile t s = done { s with render := s.render.clearLoaded t } :=
  if_pos (Bool.or_eq_true _ _ ▸ h)

/-- Settles O44. -/
theorem loadedTilesTakeTheirDirectives : Obligations.LoadedTilesTakeTheirDirectives := by
  refine ⟨fun s u p q t w h total ht => ?_, fun s u p q t offset piece ht => ?_, fun s u p q t w h glyph text ht => ?_,
    fun s u p q t ht => ?_⟩
  · rw [exec_loadImage ht, ← State.Takes.render ht]
    refine ⟨fun hbad => by rw [loadImage_refused hbad]; rfl, fun x hfirst hlast hw hw' hh hh' htotal hx => ?_⟩
    subst htotal
    rw [loadImage_done ((isImageTile_iff t).mpr ⟨hfirst, hlast⟩) ((tileSizeOk_iff w h).mpr ⟨hw, hw', hh, hh'⟩) hx]
    rfl
  · rw [exec_imagePiece ht, ← State.Takes.render ht]
    refine ⟨fun hbad => by rw [takePiece_of_some (pieceOutcome_of_notLoading hbad ..)], fun x hfirst hlast hx hs => ?_⟩
    have hchecks := pieceOutcome_of_loading hx ((isImageTile_iff t).mpr ⟨hfirst, hlast⟩) hs offset piece
    refine ⟨fun hbeyond => ?_, fun hwithin => ⟨fun hagain => ?_, fun hnew hgap => ?_, fun hnew hnext => ?_⟩⟩
    · rw [takePiece_of_some (hchecks.trans (if_pos hbeyond))]
    all_goals rw [if_neg (Nat.not_lt.mpr hwithin)] at hchecks
    · rw [takePiece_of_some (hchecks.trans (if_pos hagain))]
    all_goals rw [if_neg (Nat.not_le.mpr hnew)] at hchecks
    · rw [takePiece_of_some (hchecks.trans (if_pos hgap))]
    · rw [takePiece_of_none (hchecks.trans (if_neg (not_not.mpr hnext)))]
  · rw [exec_loadTextTile ht, ← State.Takes.render ht]
    refine ⟨fun hbad => by rw [loadTextTile_refused hbad]; rfl, fun x g hfirst hlast hw hw' hh hh' hg hx => ?_⟩
    rw [loadTextTile_done ((isTextTile_iff t).mpr ⟨hfirst, hlast⟩) ((tileSizeOk_iff w h).mpr ⟨hw, hw', hh, hh'⟩) hg,
      RenderUnit.loadText_eq hx]
    rfl
  · rw [exec_clearTile ht, ← State.Takes.render ht]
    refine ⟨fun hbad => by rw [clearTile_refused hbad]; rfl, fun x hloaded hx => ⟨fun hs => ?_, fun hs => ?_, rfl⟩⟩
    all_goals rw [clearTile_done (by rwa [isImageTile_iff, isTextTile_iff])]
    · rw [RenderUnit.clearLoaded_of_empty hx hs]
      rfl
    · have htext : (isTextTile t = true) = (200 ≤ t) := by rw [isTextTile_iff, eq_iff_iff]; omega
      rw [RenderUnit.clearLoaded_of_ne hx hs]
      simp only [htext]
      rfl

/-! ### Redraw, size and empty requests (R146 to R148) -/

theorem laneAfter_eq (present named : Lane) : laneAfter present named = if named = .urgent then .urgent else present := by
  cases named <;> rfl

/-- Settles O45. -/
theorem tileRequestsActByTheTilesState : Obligations.TileRequestsActByTheTilesState := by
  intro s u b t x rest hx hu
  subst hu
  refine ⟨fun lane hm => ?_, fun w h hm => ?_, fun hm => ?_⟩
  · have hexec : exec (.redrawRequest b) s = .next { s with
        render := s.render.redraw t lane, mail := { s.mail with tiles := put s.mail.tiles b.index rest } } :=
      congrArg Host.Outcome.next (State.takeTileRequest_cons hm rfl)
    refine ⟨hexec, fun hd => ?_, fun hsize ht => ?_⟩
    · rw [hexec, RenderUnit.redraw_of_undrawable hx (by rwa [isImageTile_iff])]
    · have hd : ¬(x.size = none ∨ isImageTile t = true) := by
        rw [isImageTile_iff]
        rintro (hn | hi)
        · exact hsize hn
        · omega
      refine ⟨fun hs => ?_, fun hs hl hnamed hn => ?_, fun hs hl => ?_, fun hs => ?_⟩
      · rw [hexec, RenderUnit.redraw_of_settled hx hd hs, RenderUnit.joinLane_eq]
        rfl
      · subst hnamed
        rw [hexec, RenderUnit.redraw_of_raised hx hd hs hl]
        simp only [RenderUnit.joinLane, RenderUnit.putTile, RenderUnit.leaveLanes, filter_ne_of_notMem hn]
      · have hkept : ¬(x.lane = .normal ∧ lane = .urgent) := by
          rintro ⟨hn, hu⟩
          rw [hn, hu] at hl
          simp at hl
        rw [hexec, RenderUnit.redraw_of_queued hx hd hs hkept]
      · rw [hexec, RenderUnit.redraw_of_running hx hd hs, laneAfter_eq]
        rfl
  · have hexec : exec (.sizeRequest b) s = .next { s with
        render := s.render.resize t w h, mail := { s.mail with tiles := put s.mail.tiles b.index rest } } :=
      congrArg Host.Outcome.next (State.takeTileRequest_cons hm rfl)
    refine ⟨hexec, fun hs => ?_, fun hs => ?_⟩
    · rw [hexec, RenderUnit.resize_of_same hx hs]
    · rw [hexec, RenderUnit.resize_of_ne hx hs]
      cases x.state <;> rfl
  · refine (congrArg Host.Outcome.next (State.takeTileRequest_cons hm rfl)).trans ?_
    rw [RenderUnit.empty_eq hx]
    rfl

end Sys2Proof.Machine

end

section
/-! SUPPORT. Settles O46: the render engine's piece writes and render jobs, and its restart (R143, R149, R150, R152, R153, R156). -/

namespace Sys2Proof.Machine

open Sys2Proof

/-! ### The RENDER channel (R173) -/

theorem Channel.give_eq (c : Channel) (n : Nat) : c.give n = { c with
    remaining := n, hasWork := true, state := if c.state = .halted then .halted else .preempted } := by
  unfold Channel.give
  cases c.state <;> rfl

theorem Channel.drop_eq (c : Channel) : c.drop = { c with
    remaining := 0, hasWork := false, state := if c.state = .halted then .halted else .idle } := by
  unfold Channel.drop
  cases c.state <;> rfl

/-! ### Starts (R149, R150) -/

theorem execRenderJobStart_of_waiting {s : State} {w : PieceWrite} (he : s.render.engine = .idle) (hw : s.render.waiting = some w) :
    execRenderJobStart s = .next s := by
  unfold execRenderJobStart
  rw [he, hw]

theorem execPieceWriteStart_of_waiting {s : State} {w : PieceWrite} (he : s.render.engine = .idle)
    (hw : s.render.waiting = some w) : execPieceWriteStart s
      = .next (({ s with render := { s.render with engine := .piece w, waiting := none } } : State).giveWork .render 1) := by
  unfold execPieceWriteStart
  rw [he, hw]

theorem execRenderJobStart_of_next {s : State} {t w h : Nat} {x : Tile} (he : s.render.engine = .idle)
    (hw : s.render.waiting = none) (hn : s.render.nextTile = some t) (hx : s.render.tiles[t]? = some x) (hs : x.size = some (w, h)) :
    execRenderJobStart s = .next (s.startRender t x w h) := by
  unfold execRenderJobStart
  simp only [he, hw, hn, hx, hs]

theorem filter_ne_cons_self {t : Nat} {ts : List Nat} (h : t ∉ ts) : ((t :: ts).filter fun k => decide (k ≠ t)) = ts :=
  (List.filter_cons_of_neg (by simp)).trans (filter_ne_of_notMem h)

/-- The head of URGENT, or else of NORMAL, is the next tile, and leaves the rest of its lane behind it. -/
theorem RenderUnit.nextTile_leaveLanes {u : RenderUnit} {t : Nat} {urgent normal : List Nat}
    (h : u.urgentLane = t :: urgent ∧ u.normalLane = normal ∨ u.urgentLane = [] ∧ urgent = [] ∧ u.normalLane = t :: normal)
    (hu : t ∉ urgent) (hn : t ∉ normal) :
    u.nextTile = some t ∧ u.leaveLanes t = { u with urgentLane := urgent, normalLane := normal } := by
  unfold RenderUnit.nextTile RenderUnit.leaveLanes
  obtain ⟨hurgent, hnormal⟩ | ⟨hurgent, rfl, hnormal⟩ := h
  · rw [hurgent, hnormal, filter_ne_cons_self hu, filter_ne_of_notMem hn]
    exact ⟨rfl, rfl⟩
  · rw [hurgent, hnormal, filter_ne_cons_self hn]
    exact ⟨rfl, rfl⟩

/-! ### Ends (R143, R152, R153) -/

theorem Tile.receive_eq (x : Tile) (piece : List Byte) : x.receive piece =
    if x.bytesReceived + piece.length = x.byteTotal then { x with
      bytesReceived := x.byteTotal, loadData := [], state := .clean
      image := x.size.map fun z => .picture z.1 z.2 (x.loadData ++ piece) }
    else { x with bytesReceived := x.bytesReceived + piece.length, loadData := x.loadData ++ piece } := by
  unfold Tile.receive
  dsimp only
  split
  · rename_i hall
    rw [hall]
  · rfl

/-- The head of the reports is taken, and the engine is idle. -/
def State.endRender (s : State) : State := { s.dropRenderReport with render := { s.render with engine := .idle } }

theorem State.endRender_of_cons {s : State} {r : WorkReport} {rest : List WorkReport} (h : s.mail.memoryToRender = r :: rest) :
    s.endRender = { s with render := { s.render with engine := .idle }, mail := { s.mail with memoryToRender := rest } } := by
  unfold State.endRender State.dropRenderReport
  rw [h]
  rfl

section Piece
variable {s : State} {w : PieceWrite} {rest : List WorkReport} (he : s.render.engine = .piece w)
include he

theorem execPieceWriteComplete_of_complete {x : Tile} (hm : s.mail.memoryToRender = .complete :: rest)
    (hx : s.render.tiles[w.tile]? = some x) : execPieceWriteComplete s = .next (({ s.endRender with render := { s.endRender.render with
      tiles := s.render.tiles.setIfInBounds w.tile (x.receive w.piece) } } : State).issueReserved w.port (w.answer .done)) := by
  unfold execPieceWriteComplete
  simp only [he, hm, modifyAt_of_getElem? hx]
  rfl

theorem execPieceWriteEnded_of_ended (hm : s.mail.memoryToRender = .ended :: rest) :
    execPieceWriteEnded s = .next (s.endRender.issueReserved w.port (w.answer .refusedState)) := by
  unfold execPieceWriteEnded
  simp only [he, hm]
  rfl

end Piece

section Job
variable {s : State} {j : RenderJob} {rest : List WorkReport} (he : s.render.engine = .job j)
include he

theorem execRenderJobComplete_of_complete (hm : s.mail.memoryToRender = .complete :: rest) :
    execRenderJobComplete s = .next { s.endRender with render := s.endRender.render.finish j } := by
  unfold execRenderJobComplete
  simp only [he, hm]
  rfl

theorem execRenderJobAbandon_of_ended (hm : s.mail.memoryToRender = .ended :: rest) :
    execRenderJobAbandon s = .next { s.endRender with render := s.endRender.render.abandon j } := by
  unfold execRenderJobAbandon
  simp only [he, hm]
  rfl

end Job

/-- A requeued tile stands at the tail of the lane in its lane field. -/
theorem RenderUnit.requeue_eq (u : RenderUnit) (t : Nat) (x : Tile) : u.requeue t x = { u with
    tiles := u.tiles.setIfInBounds t { x with state := .queued }
    urgentLane := if x.lane = .urgent then u.urgentLane ++ [t] else u.urgentLane
    normalLane := if x.lane = .urgent then u.normalLane else u.normalLane ++ [t] } :=
  RenderUnit.joinLane_eq ..

theorem TileState.notRunning {y : TileState} (h : y = .empty ∨ y = .queued ∨ y = .clean) :
    y ≠ .rendering ∧ y ≠ .renderingStale := by
  obtain rfl | rfl | rfl := h <;> decide

/-! ### The restart (R156) -/

theorem execRenderRestart_of_pos {s : State} (h : 0 < s.mail.restarts[Block.render.index]) : execRenderRestart s
    = .next { (s.dropRestart .render).cancelRender with
        render := ({ s.render with engine := .idle, waiting := none } : RenderUnit).restartLanes } := by
  have hr := (s.dropRestart .render).cancelRender_render
  unfold execRenderRestart
  rw [if_neg (Nat.ne_of_gt h)]
  dsimp only
  rw [hr]
  rfl

/-- The RENDER channel's work is cancelled, and the report of a unit in flight is ignored. -/
theorem State.cancelRender_memory (s : State) : s.cancelRender.memory = { s.memory with
    render := s.memory.render.drop, inFlight := s.memory.inFlight.map (ignoreUnit .render) } := by
  unfold State.cancelRender
  dsimp only
  split <;> rfl

theorem State.cancelRender_mail (s : State) : s.cancelRender.mail = { s.mail with memoryToRender := [] } := by
  unfold State.cancelRender
  dsimp only
  split <;> rfl

theorem State.cancelRender_link_of_none {s : State} (h : s.render.heldPiece = none) : s.cancelRender.link = s.link := by
  unfold State.cancelRender
  rw [h]
  rfl

theorem State.cancelRender_link_of_some {s : State} {w : PieceWrite} (h : s.render.heldPiece = some w) :
    s.cancelRender.link = (s.issueReserved w.port (w.answer .refusedState)).link := by
  unfold State.cancelRender
  rw [h]
  rfl

theorem RenderUnit.heldPiece_of_notPiece {u : RenderUnit} (h : ∀ w, u.engine ≠ .piece w) : u.heldPiece = u.waiting := by
  unfold RenderUnit.heldPiece
  split
  · exact absurd ‹_› (h _)
  · rfl

theorem RenderUnit.heldPiece_of_piece {u : RenderUnit} {w : PieceWrite} (h : u.engine = .piece w) : u.heldPiece = some w := by
  rw [RenderUnit.heldPiece, h]

/-- The numbers below `n` that meet a test, ascending. -/
theorem range_filter (n : Nat) (p : Nat → Bool) :
    (List.range n).filter p = ((List.finRange n).filter fun k => p k.val).map Fin.val := by
  rw [← List.map_coe_finRange_eq_range, List.filter_map]
  rfl

theorem RenderUnit.tilesOfLane_eq (u : RenderUnit) (l : Lane) (test : Nat → Bool) :
    u.tilesOfLane l test = ((List.finRange 256).filter fun k => test k.val && decide (u.tiles[k].lane = l)).map Fin.val := by
  rw [RenderUnit.tilesOfLane, range_filter]
  refine congrArg (List.map Fin.val) (List.filter_congr fun k _ => ?_)
  rw [Vector.getElem?_eq_getElem k.isLt]
  rfl

section Restart
variable {u : RenderUnit} {again pending : Fin 256 → Bool}
  (hagain : ∀ k, again k = true ↔ u.tiles[k].size ≠ none ∧ (k.val < 128 ∨ (192 ≤ k.val ∧ k.val ≤ 199) ∨ 224 ≤ k.val))
  (hpending : ∀ k, pending k = true ↔ (200 ≤ k.val ∧ k.val ≤ 223) ∧ (u.tiles[k].state = .queued
    ∨ u.tiles[k].state = .rendering ∨ u.tiles[k].state = .renderingStale))

theorem RenderUnit.getElem?_tiles (u : RenderUnit) (k : Fin 256) : u.tiles[k.val]? = some u.tiles[k] :=
  Vector.getElem?_eq_getElem k.isLt

include hagain in
theorem RenderUnit.rendersAgain_eq (k : Fin 256) : u.rendersAgain k.val = again k := by
  rw [Bool.eq_iff_iff, hagain, u.rendersAgain_iff (u.getElem?_tiles k), isImageTile_eq_false_iff, isTextTile_eq_false_iff]
  refine and_congr_right fun _ => ?_
  omega

include hpending in
theorem RenderUnit.textPending_eq (k : Fin 256) : u.textPending k.val = pending k := by
  rw [Bool.eq_iff_iff, hpending, u.textPending_iff (u.getElem?_tiles k), isTextTile_iff]

include hagain in
theorem RenderUnit.tilesOfLane_rendersAgain (l : Lane) : u.tilesOfLane l u.rendersAgain
    = ((List.finRange 256).filter fun k => again k && decide (u.tiles[k].lane = l)).map Fin.val := by
  rw [RenderUnit.tilesOfLane_eq]
  simp only [RenderUnit.rendersAgain_eq hagain]

include hagain hpending in
/-- Steps 2 to 4: the tiles queued again, and the two lanes. -/
theorem RenderUnit.restartLanes_spec :
    (∀ k : Fin 256, u.restartLanes.tiles[k] = if again k then { u.tiles[k] with state := .queued }
      else if pending k then { u.tiles[k] with state := .queued, lane := .normal } else u.tiles[k])
    ∧ u.restartLanes.urgentLane = ((List.finRange 256).filter fun k => again k && decide (u.tiles[k].lane = .urgent)).map Fin.val
    ∧ u.restartLanes.normalLane = ((List.finRange 256).filter fun k => again k && decide (u.tiles[k].lane = .normal)).map Fin.val
      ++ ((List.finRange 256).filter pending).map Fin.val := by
  refine ⟨fun k => ?_, RenderUnit.tilesOfLane_rendersAgain hagain .urgent, ?_⟩
  · have hk := u.restartLanes_getElem? k.val
    rw [RenderUnit.getElem?_tiles, RenderUnit.getElem?_tiles, Option.map_some, Option.some_inj] at hk
    rw [hk, RenderUnit.restartTile, RenderUnit.rendersAgain_eq hagain, RenderUnit.textPending_eq hpending]
  · refine congrArg₂ _ (RenderUnit.tilesOfLane_rendersAgain hagain .normal) ?_
    rw [range_filter]
    simp only [RenderUnit.textPending_eq hpending]

end Restart

/-- Settles O46. -/
theorem renderEngineDoesOneThingAtATime : Obligations.RenderEngineDoesOneThingAtATime := by
  refine ⟨⟨fun s w he hw => ⟨execRenderJobStart_of_waiting he hw, ?_⟩, fun s t w h x urgent normal he hw hlanes hu hn hx hs => ?_,
    fun s u w x r rest he hm hx hu => ?_, fun s u j x image r rest he hm hx himage hu => ?_⟩,
    fun s again pending hr hagain hpending => ?_, fun _ _ _ => rfl⟩
  · refine (execPieceWriteStart_of_waiting he hw).trans ?_
    simp only [State.giveWork, MemoryUnit.putChannel, MemoryUnit.channel, Channel.give_eq]
  · obtain ⟨hnext, hleave⟩ := RenderUnit.nextTile_leaveLanes hlanes hu hn
    refine (execRenderJobStart_of_next he hw hnext hx hs).trans ?_
    simp only [State.startRender, hleave, State.giveWork, MemoryUnit.putChannel, MemoryUnit.channel, Channel.give_eq]
    rfl
  · rw [← State.endRender_of_cons hm] at hu
    subst hu
    refine ⟨fun hr => ?_, fun hr => ?_⟩
    all_goals subst hr
    · refine (execPieceWriteComplete_of_complete he hm hx).trans ?_
      rw [Tile.receive_eq]
      rfl
    · exact execPieceWriteEnded_of_ended he hm
  · rw [← State.endRender_of_cons hm] at hu
    have hx' : s.endRender.render.tiles[j.tile]? = some x := hx
    subst hu himage
    refine ⟨fun hr => ?_, fun hr => ?_⟩
    all_goals subst hr
    · have hexec : exec .renderJobComplete s = _ := execRenderJobComplete_of_complete he hm
      rw [hexec]
      refine ⟨fun hs => ?_, fun hs => ?_, fun hs => ?_⟩
      · rw [RenderUnit.finish_of_rendering hx' hs]
        rfl
      · rw [RenderUnit.finish_of_stale hx' hs, RenderUnit.requeue_eq]
        rfl
      · obtain ⟨hrun, hstale⟩ := TileState.notRunning hs
        rw [RenderUnit.finish_of_other hx' hrun hstale]
    · have hexec : exec .renderJobAbandon s = _ := execRenderJobAbandon_of_ended he hm
      rw [hexec]
      refine ⟨fun hs => ?_, fun hs => ?_⟩
      · rw [RenderUnit.abandon_of_running hx' hs, RenderUnit.requeue_eq]
        rfl
      · obtain ⟨hrun, hstale⟩ := TileState.notRunning hs
        rw [RenderUnit.abandon_of_other hx' hrun hstale]
  · obtain ⟨htiles, hurgent, hnormal⟩ := RenderUnit.restartLanes_spec hagain hpending
    refine ⟨_, execRenderRestart_of_pos hr, rfl, rfl, htiles, hurgent, hnormal, ?_, State.cancelRender_mail _, fun hp hw => ?_,
      fun w hw => ?_⟩
    · refine (State.cancelRender_memory _).trans ?_
      rw [Channel.drop_eq]
      rfl
    · exact State.cancelRender_link_of_none ((RenderUnit.heldPiece_of_notPiece hp).trans hw)
    · refine State.cancelRender_link_of_some (s := s.dropRestart .render) ?_
      obtain hw | ⟨hp, hw⟩ := hw
      · exact RenderUnit.heldPiece_of_piece hw
      · exact (RenderUnit.heldPiece_of_notPiece hp).trans hw

end Sys2Proof.Machine

end

section
/-! SUPPORT. The composer's operations, said once: what each event of the panel output and each stage of a compose job makes of a
panel's record, and of the composer (R159, R161 to R166, R169). -/

namespace Sys2Proof.Machine

open Sys2Proof

/-! ### Panel records and events -/

theorem State.changePanel_eq (s : State) (k : Fin 12) (f : Panel → Panel) : s.changePanel k f = { s with
    composer := { s.composer with panels := put s.composer.panels k (f s.composer.panels[k]) } } := by
  rw [State.changePanel, modifyAt_eq_put]

/-- The event at the head of the panel output's queue, where the command acts on it. -/
theorem State.takePanelEvent_cons {s : State} {act : PanelEvent → Option (State → State)} {e : PanelEvent}
    {rest : List PanelEvent} {f : State → State} (h : s.mail.outputToComposer = e :: rest) (ha : act e = some f) :
    s.takePanelEvent act = f { s with mail := { s.mail with outputToComposer := rest } } := by
  unfold State.takePanelEvent
  simp only [h, ha]

/-! ### Panels that go DARK (R159) -/

theorem Buffer.darken_eq (b : Buffer) : b.darken = if b.role = .composing then b else { b with role := .free } := by
  unfold Buffer.darken
  cases b with
  | mk role seq frame => cases role <;> rfl

theorem Panel.darken_eq (x : Panel) : x.darken = { x with
    state := .dark
    bufA := if x.bufA.role = .composing then x.bufA else { x.bufA with role := .free }
    bufB := if x.bufB.role = .composing then x.bufB else { x.bufB with role := .free }
    request := if x.request = .queued then .none else x.request } := by
  unfold Panel.darken
  rw [Buffer.darken_eq, Buffer.darken_eq]
  cases x.request <;> rfl

/-! ### Frame slots (R161) -/

/-- R161: the role of a buffer after the swap. -/
def BufferRole.turn : BufferRole → BufferRole
  | .ready => .front
  | .front => .free
  | r => r

theorem Buffer.swap_eq (b : Buffer) : b.swap = { b with role := b.role.turn } := by
  unfold Buffer.swap
  cases b with
  | mk role seq frame => cases role <;> rfl

theorem Panel.has_iff_or (x : Panel) (r : BufferRole) : x.has r = true ↔ x.bufA.role = r ∨ x.bufB.role = r := by
  simp [Panel.has]

/-- R161 step 1: a READY buffer takes the place of the FRONT one, or the FRONT one is shown again. -/
theorem Panel.swap_eq (x : Panel) : x.swap = if x.bufA.role = .ready ∨ x.bufB.role = .ready then
      { x with bufA := x.bufA.swap, bufB := x.bufB.swap, shown := min (x.shown + 1) 4294967295 }
    else if x.bufA.role = .front ∨ x.bufB.role = .front then { x with repeated := min (x.repeated + 1) 4294967295 } else x := by
  unfold Panel.swap
  simp only [Panel.has_iff_or]
  rfl

/-- R161 step 2: a pending layout becomes current. -/
theorem Panel.takeLayout_eq (x : Panel) : x.takeLayout = { x with
    current := match x.pendingLayout with | none => x.current | some n => some n
    pendingLayout := none } := by
  unfold Panel.takeLayout
  cases x with
  | mk state current pendingLayout => cases pendingLayout <;> rfl

theorem Panel.current_swap (x : Panel) : x.swap.current = x.current := by
  unfold Panel.swap
  split
  · rfl
  · split <;> rfl

theorem Panel.pendingLayout_swap (x : Panel) : x.swap.pendingLayout = x.pendingLayout := by
  unfold Panel.swap
  split
  · rfl
  · split <;> rfl

theorem Panel.request_swap (x : Panel) : x.swap.request = x.request := by
  unfold Panel.swap
  split
  · rfl
  · split <;> rfl

theorem Panel.request_takeLayout (x : Panel) : x.takeLayout.request = x.request := by
  unfold Panel.takeLayout
  split <;> rfl

/-- R161 step 3: a panel without a request joins the queue. -/
theorem State.requestFrame_of_none {x : Panel} (h : x.request = .none) (s : State) (p : Nat) : s.requestFrame p x = { s with
    composer := { s.composer with
      panels := modifyAt s.composer.panels p fun _ => { x with request := .queued }, queue := s.composer.queue ++ [p] } } := by
  unfold State.requestFrame
  rw [h]
  rfl

/-- R161 step 3: an unfinished request raises FRAME_LATE. -/
theorem State.requestFrame_of_ne {x : Panel} (h : x.request ≠ .none) (s : State) (p : Nat) :
    s.requestFrame p x = (s.changePanel p fun _ => x).sendCondition .composer (.raise .frameLate) := by
  unfold State.requestFrame
  cases hr : x.request with
  | none => exact absurd hr h
  | queued | composing => rfl

theorem State.frameSlot_of_live {s : State} {k : Fin 12} (h : s.composer.panels[k].state = .live) :
    s.frameSlot k = s.requestFrame k s.composer.panels[k].swap.takeLayout := by
  unfold State.frameSlot
  rw [show s.composer.panels[k.val]? = some s.composer.panels[k] from Vector.getElem?_eq_getElem k.isLt]
  exact if_pos h

theorem State.frameSlot_of_notLive {s : State} {k : Fin 12} (h : s.composer.panels[k].state ≠ .live) : s.frameSlot k = s := by
  unfold State.frameSlot
  rw [show s.composer.panels[k.val]? = some s.composer.panels[k] from Vector.getElem?_eq_getElem k.isLt]
  exact if_neg h

/-! ### Compose jobs (R162 to R166, R169) -/

/-- R163 step 2: the buffer taken is a FREE one, and there is one to take where a buffer is FREE. -/
theorem Panel.freeBuffer_eq_some {x : Panel} (h : x.bufA.role = .free ∨ x.bufB.role = .free) (choice : Bool) :
    ∃ n, x.freeBuffer choice = some n ∧ (x.bufferNamed n).role = .free := by
  unfold Panel.freeBuffer
  split
  · rename_i ha hb
    cases choice
    · exact ⟨.b, rfl, hb⟩
    · exact ⟨.a, rfl, ha⟩
  · rename_i ha _
    exact ⟨.a, rfl, ha⟩
  · rename_i hb _
    exact ⟨.b, rfl, hb⟩
  · exact absurd h (not_or.mpr ⟨‹_›, ‹_›⟩)

theorem State.startCompose_composer (s : State) (p : Nat) (rest : List Nat) (x : Panel) (n : BufferName) :
    (s.startCompose p rest x n).composer = { s.composer with
      queue := rest, engine := some ⟨p, n, (s.frameFor p x).1⟩, panels := modifyAt s.composer.panels p fun _ => x.claim n } :=
  rfl

/-- R165: what a job's buffer becomes at its completion. -/
theorem Panel.complete_eq (x : Panel) (n : BufferName) (f : Frame) : x.complete n f =
    if x.state = .dark then { x.putBuffer n { x.bufferNamed n with role := .free, frame := f } with request := .none }
    else if x.bufA.role = .front ∨ x.bufB.role = .front then
      { x.putBuffer n { x.bufferNamed n with role := .ready, frame := f } with request := .none }
    else { x.putBuffer n { x.bufferNamed n with role := .front, frame := f } with
      request := .none, shown := min (x.shown + 1) 4294967295 } := by
  unfold Panel.complete
  simp only [Panel.has_iff_or]
  cases x.state <;> rfl

theorem State.endCompose_of_cons {s : State} {r : WorkReport} {rest : List WorkReport} (h : s.mail.memoryToComposer = r :: rest) :
    s.endCompose = { s with
      composer := { s.composer with engine := none }
      mail := { s.mail with memoryToComposer := rest, composerToMemory := s.mail.composerToMemory ++ [.release] } } := by
  unfold State.endCompose State.releasePins
  rw [h]
  rfl

/-- R166: the job's panel is queued again, unless it is DARK. -/
theorem State.abandonCompose_eq {s : State} {j : ComposeJob} {k : Fin 12} {x : Panel} (hj : j.panel = k.val)
    (hx : x = s.composer.panels[k]) : s.abandonCompose j = { s.endCompose with composer := { s.endCompose.composer with
      queue := if x.state = .dark then s.composer.queue else s.composer.queue ++ [k.val]
      panels := put s.composer.panels k (x.abandon j.buffer) } } := by
  unfold State.abandonCompose
  rw [hj, show s.composer.panels[k.val]? = some x from hx ▸ Vector.getElem?_eq_getElem k.isLt]
  dsimp only
  rw [State.changePanel_eq]
  split <;> rfl

/-- R169: the restart acts on the composer, on its channel and on what is under way between the two. -/
theorem State.restartComposer_eq (s : State) : s.restartComposer = { s with
    composer := { s.composer with engine := none, queue := [], panels := mapAll Panel.restart s.composer.panels }
    mail := { s.mail with
      memoryToComposer := []
      composerToMemory := s.mail.composerToMemory ++ if s.composer.engine = none then [] else [.release] }
    memory := s.memory.cancel .compose } := by
  unfold State.restartComposer
  cases he : s.composer.engine with
  | none => simp [State.cancelWork]
  | some j => simp [State.cancelWork, State.releasePins]

end Sys2Proof.Machine

end

section
/-! SUPPORT. Settles O52: the buffers of every panel keep their roles, and the compose queue its requests (L6, R159, R161 to
R163). A panel that agrees with the queue and the engine, what each event and each stage of a compose job keeps of that, and each
command. -/

namespace Sys2Proof.Machine

open Sys2Proof

/-! ### Panels that agree with the queue and the engine -/

/-- The role of a panel's buffer. -/
def Panel.role (x : Panel) (n : BufferName) : BufferRole := (x.bufferNamed n).role

/-- The buffer of a panel that the engine's job writes. -/
def ComposerUnit.writing (u : ComposerUnit) (p : Nat) : Option BufferName :=
  u.engine.bind fun j => if j.panel = p then some j.buffer else none

/-- L6: a panel's buffers and request agree with the buffer that the engine writes of it, `w`, and with its waiting in the
queue, `q`. -/
structure Panel.Agrees (x : Panel) (w : Option BufferName) (q : Prop) : Prop where
  front : ∀ m n, x.role m = .front → x.role n = .front → m = n
  ready : ∀ m n, x.role m = .ready → x.role n = .ready → m = n
  composing : ∀ n, x.role n = .composing ↔ w = some n
  notReady : x.request ≠ .none → ∀ n, x.role n ≠ .ready
  queued : x.request = .queued ↔ q
  job : x.request = .composing ↔ w ≠ none

theorem ComposerUnit.writing_eq_some_iff (u : ComposerUnit) (p : Nat) (n : BufferName) :
    u.writing p = some n ↔ u.writes p n := by
  unfold ComposerUnit.writing ComposerUnit.writes
  cases u.engine <;> simp

theorem ComposerUnit.writing_ne_none_iff (u : ComposerUnit) (p : Nat) :
    u.writing p ≠ none ↔ ∃ j, u.engine = some j ∧ j.panel = p := by
  unfold ComposerUnit.writing
  cases u.engine <;> simp

theorem ComposerUnit.writing_idle {u : ComposerUnit} (h : u.engine = none) (p : Nat) : u.writing p = none := by
  rw [ComposerUnit.writing, h, Option.bind_none]

theorem ComposerUnit.writing_job {u : ComposerUnit} {j : ComposeJob} (h : u.engine = some j) (p : Nat) :
    u.writing p = if j.panel = p then some j.buffer else none := by
  rw [ComposerUnit.writing, h, Option.bind_some]

/-- At most one of the two buffers is in a role. -/
theorem Panel.atMostOne_iff (x : Panel) (r : BufferRole) :
    ¬(x.bufA.role = r ∧ x.bufB.role = r) ↔ ∀ m n, x.role m = r → x.role n = r → m = n := by
  constructor
  · intro h m n hm hn
    cases m <;> cases n
    · rfl
    · exact absurd ⟨hm, hn⟩ h
    · exact absurd ⟨hn, hm⟩ h
    · rfl
  · rintro h ⟨ha, hb⟩
    exact nomatch h .a .b ha hb

theorem ComposerUnit.panelSound_iff (u : ComposerUnit) (p : Nat) (x : Panel) :
    u.PanelSound p x ↔ x.Agrees (u.writing p) (p ∈ u.queue) := by
  unfold ComposerUnit.PanelSound
  rw [← u.writing_ne_none_iff, ← u.writing_eq_some_iff, ← u.writing_eq_some_iff, x.atMostOne_iff, x.atMostOne_iff]
  constructor
  · rintro ⟨hfront, hready, ha, hb, hnot, hqueued, hjob⟩
    refine ⟨hfront, hready, fun n => ?_, fun hr n => ?_, hqueued, hjob⟩
    · cases n
      · exact ha
      · exact hb
    · obtain ⟨hna, hnb⟩ := hnot hr
      cases n
      · exact hna
      · exact hnb
  · rintro ⟨hfront, hready, hcomposing, hnot, hqueued, hjob⟩
    exact ⟨hfront, hready, hcomposing .a, hcomposing .b, fun hr => ⟨hnot hr .a, hnot hr .b⟩, hqueued, hjob⟩

theorem ComposerUnit.sound_iff (u : ComposerUnit) : u.Sound ↔
    (∀ p (h : p < 12), u.panels[p].Agrees (u.writing p) (p ∈ u.queue)) ∧ u.queue.Nodup ∧ ∀ p ∈ u.queue, p < 12 := by
  unfold ComposerUnit.Sound
  simp only [ComposerUnit.panelSound_iff]

/-! ### One panel's record -/

theorem Panel.role_putBuffer (x : Panel) (n m : BufferName) (b : Buffer) :
    (x.putBuffer n b).role m = if m = n then b.role else x.role m := by
  cases n <;> cases m <;> rfl

section Agrees
variable {x y : Panel} {w : Option BufferName} {q : Prop} (h : x.Agrees w q)
include h

/-- A record that keeps its roles and its request agrees as before. -/
theorem Panel.Agrees.congr (hrole : ∀ n, y.role n = x.role n) (hrequest : y.request = x.request) : y.Agrees w q := by
  obtain ⟨hfront, hready, hcomposing, hnot, hqueued, hjob⟩ := h
  refine ⟨fun m n => ?_, fun m n => ?_, fun n => ?_, fun hr n => ?_, ?_, ?_⟩
  · rw [hrole, hrole]
    exact hfront m n
  · rw [hrole, hrole]
    exact hready m n
  · rw [hrole, hcomposing]
  · rw [hrole]
    exact hnot (hrequest ▸ hr) n
  · rw [hrequest, hqueued]
  · rw [hrequest, hjob]

theorem Panel.Agrees.of_iff {q' : Prop} (hq : q ↔ q') : x.Agrees w q' := propext hq ▸ h

/-- A request is QUEUED and COMPOSING in no panel at once. -/
theorem Panel.Agrees.notQueued (hw : w ≠ none) : ¬q := fun hq => by
  have hjob := h.job.mpr hw
  rw [h.queued.mpr hq] at hjob
  cases hjob

end Agrees

theorem Panel.role_darken (x : Panel) (n : BufferName) :
    x.darken.role n = if x.role n = .composing then .composing else .free := by
  have hbuffer (b : Buffer) : b.darken.role = if b.role = .composing then .composing else .free := by
    rw [Buffer.darken_eq]
    split
    · assumption
    · rfl
  cases n
  · exact hbuffer x.bufA
  · exact hbuffer x.bufB

/-- R159: a panel that goes DARK leaves the queue, and a job of it goes on. -/
theorem Panel.Agrees.darken {x : Panel} {w : Option BufferName} {q : Prop} (h : x.Agrees w q) : x.darken.Agrees w False := by
  obtain ⟨-, -, hcomposing, -, -, hjob⟩ := h
  have hfree (n : BufferName) (r : BufferRole) (hr : r ≠ .free) (hc : r ≠ .composing) : x.darken.role n ≠ r := by
    rw [Panel.role_darken]
    split
    · exact hc.symm
    · exact hr.symm
  refine ⟨fun m _ hm => absurd hm (hfree m .front (by decide) (by decide)),
    fun m _ hm => absurd hm (hfree m .ready (by decide) (by decide)), fun n => ?_,
    fun _ n => hfree n .ready (by decide) (by decide), ?_, ?_⟩
  · rw [← hcomposing, Panel.role_darken]
    by_cases hc : x.role n = .composing
    · simp [hc]
    · simp [hc]
  · unfold Panel.darken
    cases x.request <;> simp
  · rw [← hjob]
    unfold Panel.darken
    cases x.request <;> simp

/-! ### A frame slot (R161) -/

theorem BufferRole.turn_eq_front_iff (r : BufferRole) : r.turn = .front ↔ r = .ready := by
  cases r <;> decide

theorem BufferRole.turn_eq_composing_iff (r : BufferRole) : r.turn = .composing ↔ r = .composing := by
  cases r <;> decide

theorem BufferRole.turn_ne_ready (r : BufferRole) : r.turn ≠ .ready := by
  cases r <;> decide

theorem Panel.has_eq_true_iff (x : Panel) (r : BufferRole) : x.has r = true ↔ ∃ n, x.role n = r := by
  rw [Panel.has_iff_or]
  constructor
  · rintro (ha | hb)
    · exact ⟨.a, ha⟩
    · exact ⟨.b, hb⟩
  · rintro ⟨n, hn⟩
    cases n
    · exact .inl hn
    · exact .inr hn

theorem Panel.role_swap_of_ready {x : Panel} (h : x.has .ready = true) (n : BufferName) : x.swap.role n = (x.role n).turn := by
  unfold Panel.swap
  rw [if_pos h, Panel.role, Panel.role]
  cases n
  · exact congrArg Buffer.role x.bufA.swap_eq
  · exact congrArg Buffer.role x.bufB.swap_eq

theorem Panel.role_swap_of_notReady {x : Panel} (h : ¬x.has .ready = true) (n : BufferName) : x.swap.role n = x.role n := by
  unfold Panel.swap
  rw [if_neg h]
  split
  · cases n <;> rfl
  · rfl

theorem Panel.role_takeLayout (x : Panel) (n : BufferName) : x.takeLayout.role n = x.role n := by
  unfold Panel.takeLayout
  split
  · rfl
  · cases n <;> rfl

theorem Panel.swap_notReady (x : Panel) (n : BufferName) : x.swap.role n ≠ .ready := by
  by_cases hr : x.has .ready = true
  · rw [Panel.role_swap_of_ready hr]
    exact (x.role n).turn_ne_ready
  · rw [Panel.role_swap_of_notReady hr]
    exact fun hn => hr ((x.has_eq_true_iff .ready).mpr ⟨n, hn⟩)

section Agrees
variable {x : Panel} {w : Option BufferName} {q : Prop} (h : x.Agrees w q)
include h

theorem Panel.Agrees.swap : x.swap.Agrees w q := by
  by_cases hr : x.has .ready = true
  · obtain ⟨-, hready, hcomposing, -, hqueued, hjob⟩ := h
    refine ⟨fun m n => ?_, fun m _ hm => absurd hm (x.swap_notReady m), fun n => ?_, fun _ => x.swap_notReady, ?_, ?_⟩
    · rw [Panel.role_swap_of_ready hr, Panel.role_swap_of_ready hr, BufferRole.turn_eq_front_iff, BufferRole.turn_eq_front_iff]
      exact hready m n
    · rw [Panel.role_swap_of_ready hr, BufferRole.turn_eq_composing_iff, hcomposing]
    · rw [x.request_swap, hqueued]
    · rw [x.request_swap, hjob]
  · exact h.congr (Panel.role_swap_of_notReady hr) x.request_swap

theorem Panel.Agrees.takeLayout : x.takeLayout.Agrees w q := h.congr x.role_takeLayout x.request_takeLayout

/-- R161: a panel without a request and without a READY buffer asks for a frame. -/
theorem Panel.Agrees.ask (hr : x.request = .none) (hn : ∀ n, x.role n ≠ .ready) :
    ({ x with request := .queued } : Panel).Agrees w True := by
  obtain ⟨hfront, hready, hcomposing, -, -, hjob⟩ := h
  refine ⟨hfront, hready, hcomposing, fun _ => hn, by simp, ?_⟩
  rw [← hjob, hr]
  simp

/-! ### The stages of a compose job (R163, R165, R166) -/

/-- The buffer `n` of a panel that has a request takes the role `r`, as the engine takes it up or gives it back. -/
theorem Panel.Agrees.change {y : Panel} {w' : Option BufferName} {q' : Prop} {n : BufferName} {r : BufferRole}
    (hrequest : x.request ≠ .none) (hw : ∀ m, m ≠ n → w ≠ some m ∧ w' ≠ some m)
    (hrole : ∀ m, y.role m = if m = n then r else x.role m) (hfront : r = .front → ∀ m, x.role m ≠ .front)
    (hcomposing : r = .composing ↔ w' = some n) (hready : r = .ready → y.request = .none)
    (hqueued : y.request = .queued ↔ q') (hjob : y.request = .composing ↔ w' ≠ none) : y.Agrees w' q' := by
  obtain ⟨hone, -, hc, hnot, -, -⟩ := h
  have hnot := hnot hrequest
  refine ⟨fun m k hm hk => ?_, fun m k hm hk => ?_, fun m => ?_, fun hr m => ?_, hqueued, hjob⟩
  · rw [hrole] at hm hk
    split at hm
    · split at hk
      · exact ‹m = n›.trans ‹k = n›.symm
      · exact absurd hk (hfront hm k)
    · split at hk
      · exact absurd hm (hfront hk m)
      · exact hone m k hm hk
  · rw [hrole] at hm hk
    split at hm
    · split at hk
      · exact ‹m = n›.trans ‹k = n›.symm
      · exact absurd hk (hnot k)
    · exact absurd hm (hnot m)
  · rw [hrole]
    by_cases hm : m = n
    · rw [if_pos hm, hm, hcomposing]
    · obtain ⟨hw, hw'⟩ := hw m hm
      rw [if_neg hm, hc]
      exact iff_of_false hw hw'
  · rw [hrole]
    split
    · exact fun he => hr (hready he)
    · exact hnot m

end Agrees

theorem Panel.role_claim (x : Panel) (n m : BufferName) : (x.claim n).role m = if m = n then .composing else x.role m :=
  x.role_putBuffer n m _

/-- R163: the panel at the head of the queue, and a FREE buffer of it. -/
theorem Panel.Agrees.claim {x : Panel} (h : x.Agrees none True) (n : BufferName) : (x.claim n).Agrees (some n) False := by
  have hrequest : x.request ≠ .none := by
    rw [h.queued.mpr trivial]
    decide
  refine h.change hrequest (fun m hm => ⟨nofun, fun he => hm (Option.some.inj he).symm⟩) (x.role_claim n) nofun (by simp) nofun
    ?_ ?_
  · exact iff_of_false nofun id
  · exact iff_of_true rfl nofun

/-- R166: a job given up leaves its buffer FREE. -/
theorem Panel.Agrees.abandon {x : Panel} {n : BufferName} {q : Prop} (h : x.Agrees (some n) q) :
    (x.abandon n).Agrees none (x.state ≠ .dark) := by
  have hrequest : x.request ≠ .none := by
    rw [h.job.mpr nofun]
    decide
  refine h.change hrequest (fun m hm => ⟨fun he => hm (Option.some.inj he).symm, nofun⟩) (x.role_putBuffer n · _) nofun
    (by simp) nofun ?_ ?_
  · unfold Panel.abandon
    by_cases hs : x.state = .dark
    · simp [hs]
    · simp [hs]
  · unfold Panel.abandon
    by_cases hs : x.state = .dark
    · simp [hs]
    · simp [hs]

/-- R165: the role that a job's buffer takes at completion. -/
def Panel.completedRole (x : Panel) : BufferRole :=
  if x.state = .dark then .free else if x.bufA.role = .front ∨ x.bufB.role = .front then .ready else .front

theorem Panel.role_complete (x : Panel) (n : BufferName) (f : Frame) (m : BufferName) :
    (x.complete n f).role m = if m = n then x.completedRole else x.role m := by
  rw [Panel.complete_eq, Panel.completedRole]
  split
  · exact x.role_putBuffer n m _
  · split
    · exact x.role_putBuffer n m _
    · exact x.role_putBuffer n m _

theorem Panel.request_complete (x : Panel) (n : BufferName) (f : Frame) : (x.complete n f).request = .none := by
  rw [Panel.complete_eq]
  split
  · rfl
  · split <;> rfl

theorem Panel.completedRole_ne_composing (x : Panel) : x.completedRole ≠ .composing := by
  unfold Panel.completedRole
  split
  · decide
  · split <;> decide

/-- R165: a job that completes. -/
theorem Panel.Agrees.complete {x : Panel} {n : BufferName} {q : Prop} (h : x.Agrees (some n) q) (f : Frame) :
    (x.complete n f).Agrees none False := by
  have hrequest : x.request ≠ .none := by
    rw [h.job.mpr nofun]
    decide
  have hdone := x.request_complete n f
  refine h.change hrequest (fun m hm => ⟨fun he => hm (Option.some.inj he).symm, nofun⟩) (x.role_complete n f)
    (fun hf m hm => ?_) (iff_of_false x.completedRole_ne_composing nofun) (fun _ => hdone) (by simp [hdone])
    (by simp [hdone])
  · have hhas := (x.has_iff_or .front).mp ((x.has_eq_true_iff .front).mpr ⟨m, hm⟩)
    unfold Panel.completedRole at hf
    rw [if_pos hhas] at hf
    split at hf <;> cases hf

/-- R169: every buffer FREE, and no request. -/
theorem Panel.restart_agrees (x : Panel) : x.restart.Agrees none False := by
  have hrole (n : BufferName) : x.restart.role n = .free := by cases n <;> rfl
  have hnot (n : BufferName) {r : BufferRole} (hr : r ≠ .free) : x.restart.role n ≠ r := fun h => hr (h.symm.trans (hrole n))
  refine ⟨fun m _ hm => absurd hm (hnot m (by decide)), fun m _ hm => absurd hm (hnot m (by decide)), fun n =>
    iff_of_false (hnot n (by decide)) nofun, fun _ n => hnot n (by decide), iff_of_false nofun id,
    iff_of_false nofun fun h => h rfl⟩

/-! ### The composer -/

section Sound
variable {u v : ComposerUnit} (h : u.Sound)
include h

/-- One panel's record changes, and the queue and the engine change for that panel alone. -/
theorem ComposerUnit.Sound.change {p : Nat} {f : Panel → Panel} (hpanels : v.panels = modifyAt u.panels p f)
    (hwriting : ∀ k, k ≠ p → v.writing k = u.writing k) (hqueue : ∀ k, k ≠ p → (k ∈ v.queue ↔ k ∈ u.queue))
    (hnodup : v.queue.Nodup) (hrange : p ∈ v.queue → p < 12)
    (hp : ∀ x, u.panels[p]? = some x → x.Agrees (u.writing p) (p ∈ u.queue) → (f x).Agrees (v.writing p) (p ∈ v.queue)) :
    v.Sound := by
  obtain ⟨hall, -, hlt⟩ := u.sound_iff.mp h
  refine v.sound_iff.mpr ⟨fun k hk => ?_, hnodup, fun k hk => ?_⟩
  · have hget : v.panels[k] = if k = p then f u.panels[k] else u.panels[k] := by simp only [hpanels, modifyAt_getElem]
    by_cases hkp : k = p
    · subst hkp
      rw [hget, if_pos rfl]
      exact hp _ (Vector.getElem?_eq_getElem hk) (hall k hk)
    · rw [hget, if_neg hkp, hwriting k hkp]
      exact (hall k hk).of_iff (hqueue k hkp).symm
  · by_cases hkp : k = p
    · exact hkp ▸ hrange (hkp ▸ hk)
    · exact hlt k ((hqueue k hkp).mp hk)

/-- A panel's record changes but for its buffers' roles and its request. -/
theorem ComposerUnit.Sound.changePanel {p : Nat} {f : Panel → Panel}
    (hf : ∀ x, (∀ n, (f x).role n = x.role n) ∧ (f x).request = x.request) :
    ({ u with panels := modifyAt u.panels p f } : ComposerUnit).Sound := by
  obtain ⟨-, hnodup, hlt⟩ := u.sound_iff.mp h
  exact h.change rfl (fun _ _ => rfl) (fun _ _ => Iff.rfl) hnodup (hlt p) fun x _ hx => hx.congr (hf x).1 (hf x).2

/-- Records, layouts and the frame of the job change, but no role, no request, and not which buffer the job writes. -/
theorem ComposerUnit.Sound.congr (hrole : ∀ k (hk : k < 12) n, v.panels[k].role n = u.panels[k].role n)
    (hrequest : ∀ k (hk : k < 12), v.panels[k].request = u.panels[k].request) (hqueue : v.queue = u.queue)
    (hwriting : ∀ k, v.writing k = u.writing k) : v.Sound := by
  obtain ⟨hall, hnodup, hlt⟩ := u.sound_iff.mp h
  refine v.sound_iff.mpr ⟨fun k hk => ?_, hqueue ▸ hnodup, hqueue ▸ hlt⟩
  rw [hwriting, hqueue]
  exact (hall k hk).congr (hrole k hk) (hrequest k hk)

theorem ComposerUnit.Sound.agrees {p : Nat} {x : Panel} (hx : u.panels[p]? = some x) :
    x.Agrees (u.writing p) (p ∈ u.queue) := by
  obtain ⟨hall, -, -⟩ := u.sound_iff.mp h
  obtain ⟨hp, rfl⟩ := Vector.getElem?_eq_some_iff.mp hx
  exact hall p hp

end Sound

/-- R160: a set of panels changes but for the buffers' roles and the requests. -/
theorem State.changePanels_composerSound {s : State} (h : s.composer.Sound) (set : List Nat) {f : Panel → Panel}
    (hf : ∀ x, (∀ n, (f x).role n = x.role n) ∧ (f x).request = x.request) : (s.changePanels set f).composer.Sound := by
  have hget (k : Nat) (hk : k < 12) : (s.changePanels set f).composer.panels[k] =
      if set.contains k then f s.composer.panels[k] else s.composer.panels[k] := Vector.getElem_mapFinIdx ..
  refine h.congr (fun k hk n => ?_) (fun k hk => ?_) rfl fun _ => rfl
  · rw [hget]
    split
    · exact (hf _).1 n
    · rfl
  · rw [hget]
    split
    · exact (hf _).2
    · rfl

/-! ### Directives and cues (R157, R160) -/

theorem loadLayout_composerSound {s : State} (h : s.composer.Sound) (n : Nat) (f : LayoutFields) :
    (loadLayout n f s).1.composer.Sound := by
  unfold loadLayout
  split
  · exact h
  · split
    · exact h.congr (fun _ _ _ => rfl) (fun _ _ => rfl) rfl fun _ => rfl
    · exact h

theorem applyLayout_composerSound {s : State} (h : s.composer.Sound) (n : Nat) (set : List Nat) :
    (applyLayout n set s).1.composer.Sound := by
  unfold applyLayout
  split
  · exact h
  · split
    · exact h
    · exact State.changePanels_composerSound h set fun x => ⟨fun n => by cases n <;> rfl, rfl⟩

theorem setOverride_composerSound {s : State} (h : s.composer.Sound) (n : Nat) (set : List Nat) :
    (setOverride n set s).1.composer.Sound := by
  unfold setOverride
  split
  · exact h
  · split
    · exact State.changePanels_composerSound h set fun x => ⟨fun n => by cases n <;> rfl, rfl⟩
    · split
      · exact h
      · exact State.changePanels_composerSound h set fun x => ⟨fun n => by cases n <;> rfl, rfl⟩

theorem execCueApplyLayout_composerSound {s : State} (h : s.composer.Sound) :
    Result.Keeps (fun t => t.composer.Sound) (execCueApplyLayout s) := by
  refine .next ?_
  split
  · exact h
  · refine applyLayout_composerSound ?_ ..
    exact h

/-! ### Events of the panel output (R159, R161) -/

theorem State.takePanelEvent_composerSound {s : State} (h : s.composer.Sound) {act : PanelEvent → Option (State → State)}
    (hact : ∀ e f, act e = some f → ∀ t : State, t.composer.Sound → (f t).composer.Sound) :
    (s.takePanelEvent act).composer.Sound := by
  unfold State.takePanelEvent
  split
  · exact h
  · split
    · exact h
    · exact hact _ _ ‹_› _ h

theorem State.panelDark_composerSound {s : State} (h : s.composer.Sound) (p : Nat) : (s.panelDark p).composer.Sound := by
  obtain ⟨-, hnodup, -⟩ := s.composer.sound_iff.mp h
  have hleft : p ∉ s.composer.queue.filter (· ≠ p) := by simp
  refine h.change rfl (fun _ _ => rfl) (fun k hk => ?_) (hnodup.filter _) (fun hp => absurd hp hleft) fun x _ hx => ?_
  · exact List.mem_filter.trans (and_iff_left (decide_eq_true hk))
  · exact hx.darken.of_iff (iff_of_false id hleft)

theorem State.requestFrame_composerSound {s : State} (h : s.composer.Sound) {p : Nat} {x : Panel}
    (hx : s.composer.panels[p]? = some x) : (s.requestFrame p x.swap.takeLayout).composer.Sound := by
  obtain ⟨hp, -⟩ := Vector.getElem?_eq_some_iff.mp hx
  obtain ⟨-, hnodup, hlt⟩ := s.composer.sound_iff.mp h
  have hx := (h.agrees hx).swap.takeLayout
  have hnot (n : BufferName) : x.swap.takeLayout.role n ≠ .ready := by
    rw [x.swap.role_takeLayout]
    exact x.swap_notReady n
  by_cases hr : x.swap.takeLayout.request = .none
  · have hout : p ∉ s.composer.queue := fun hq => by
      rw [hx.queued.mpr hq] at hr
      cases hr
    rw [State.requestFrame_of_none hr]
    have hnodup := hnodup.append (List.nodup_singleton p) (by simpa using hout)
    refine h.change (f := fun _ => { x.swap.takeLayout with request := .queued }) rfl (fun _ _ => rfl) (fun k hk => by simp [hk])
      hnodup (fun _ => hp) fun _ _ _ => ?_
    exact (hx.ask hr hnot).of_iff (by simp)
  · rw [State.requestFrame_of_ne hr, State.sendCondition_composer]
    exact h.change rfl (fun _ _ => rfl) (fun _ _ => Iff.rfl) hnodup (hlt p) fun _ _ _ => hx

theorem State.frameSlot_composerSound {s : State} (h : s.composer.Sound) (p : Nat) : (s.frameSlot p).composer.Sound := by
  unfold State.frameSlot
  split
  · exact h
  · split
    · exact State.requestFrame_composerSound h ‹_›
    · exact h

/-! ### Compose jobs (R162 to R166, R169) -/

/-- R162, R163: the panel at the head of the queue leaves it, and the engine writes its buffer. -/
theorem State.startCompose_composerSound {s : State} (h : s.composer.Sound) {p : Nat} {rest : List Nat} {x : Panel}
    (he : s.composer.engine = none) (hq : s.composer.queue = p :: rest) (hx : s.composer.panels[p]? = some x) (n : BufferName) :
    (s.startCompose p rest x n).composer.Sound := by
  obtain ⟨-, hnodup, -⟩ := s.composer.sound_iff.mp h
  rw [hq] at hnodup
  obtain ⟨hout, hnodup⟩ := List.nodup_cons.mp hnodup
  have hx := h.agrees hx
  rw [ComposerUnit.writing_idle he, hq] at hx
  rw [State.startCompose_composer]
  have hjob (k : Nat) := ComposerUnit.writing_job (u := (s.startCompose p rest x n).composer) rfl k
  rw [State.startCompose_composer] at hjob
  refine h.change (f := fun _ => x.claim n) rfl (fun k hk => ?_) (fun k hk => ?_) hnodup (fun hp => absurd hp hout)
    fun _ _ _ => ?_
  · rw [hjob, if_neg (Ne.symm hk), ComposerUnit.writing_idle he]
  · rw [hq, List.mem_cons]
    exact (or_iff_right hk).symm
  · rw [hjob, if_pos rfl]
    exact ((hx.of_iff (iff_true_intro List.mem_cons_self)).claim n).of_iff (iff_of_false id hout)

theorem execComposeJobStart_composerSound {s : State} (h : s.composer.Sound) :
    Result.Keeps (fun t => t.composer.Sound) (execComposeJobStart s) := by
  refine .next ?_
  split
  · rename_i he hq
    split
    · split
      · exact h
      · split
        · exact h
        · exact State.startCompose_composerSound h he hq ‹_› _
    · exact h
  · exact h

/-- R165, R166: the engine becomes idle, and the panel of its job changes with its place in the queue. -/
theorem ComposerUnit.Sound.endJob {u : ComposerUnit} (h : u.Sound) {j : ComposeJob} (he : u.engine = some j) {f : Panel → Panel}
    {queue : List Nat} (hothers : ∀ k, k ≠ j.panel → (k ∈ queue ↔ k ∈ u.queue)) (hnodup : queue.Nodup)
    (hrange : j.panel ∈ queue → j.panel < 12)
    (hf : ∀ x, u.panels[j.panel]? = some x → x.Agrees (some j.buffer) (j.panel ∈ u.queue) → (f x).Agrees none (j.panel ∈ queue)) :
    ({ u with engine := none, queue := queue, panels := modifyAt u.panels j.panel f } : ComposerUnit).Sound := by
  refine h.change rfl (fun k hk => ?_) hothers hnodup hrange fun x hx ha => ?_
  · rw [ComposerUnit.writing_job he, if_neg (Ne.symm hk)]
    rfl
  · rw [ComposerUnit.writing_job he, if_pos rfl] at ha
    exact hf x hx ha

section Job
variable {s : State} (h : s.composer.Sound) {j : ComposeJob} (he : s.composer.engine = some j)
include h he

theorem State.completeJob_composerSound :
    (s.endCompose.changePanel j.panel fun x => x.complete j.buffer j.frame).composer.Sound := by
  obtain ⟨-, hnodup, hlt⟩ := s.composer.sound_iff.mp h
  refine h.endJob he (fun _ _ => Iff.rfl) hnodup (hlt _) fun x _ ha => ?_
  exact (ha.complete j.frame).of_iff (iff_of_false id (ha.notQueued nofun))

theorem State.abandonCompose_composerSound : (s.abandonCompose j).composer.Sound := by
  obtain ⟨-, hnodup, hlt⟩ := s.composer.sound_iff.mp h
  unfold State.abandonCompose
  split
  · rename_i hx
    have hsame := h.endJob (f := id) he (fun _ _ => Iff.rfl) hnodup (hlt _) fun x hx' => nomatch hx.symm.trans hx'
    rwa [modifyAt_of_getElem?_none hx] at hsame
  · rename_i x hx
    obtain ⟨hp, -⟩ := Vector.getElem?_eq_some_iff.mp hx
    have ha := h.agrees hx
    rw [ComposerUnit.writing_job he, if_pos rfl] at ha
    have hout := ha.notQueued nofun
    dsimp only
    split
    · rename_i hdark
      refine h.endJob he (fun _ _ => Iff.rfl) hnodup (hlt _) fun _ _ _ => ?_
      exact ha.abandon.of_iff (iff_of_false (not_not_intro hdark) hout)
    · rename_i hdark
      have hothers (k : Nat) (hk : k ≠ j.panel) : k ∈ s.composer.queue ++ [j.panel] ↔ k ∈ s.composer.queue := by simp [hk]
      have hnodup := hnodup.append (List.nodup_singleton j.panel) (by simpa using hout)
      refine h.endJob he hothers hnodup (fun _ => hp) fun _ _ _ => ?_
      exact ha.abandon.of_iff (iff_of_true hdark (by simp))

end Job

theorem execComposeJobComplete_composerSound {s : State} (h : s.composer.Sound) :
    Result.Keeps (fun t => t.composer.Sound) (execComposeJobComplete s) := by
  refine .next ?_
  split
  · exact State.completeJob_composerSound h ‹_›
  · exact h

theorem execComposeJobAbandon_composerSound {s : State} (h : s.composer.Sound) :
    Result.Keeps (fun t => t.composer.Sound) (execComposeJobAbandon s) := by
  refine .next ?_
  split
  · exact State.abandonCompose_composerSound h ‹_›
  · exact h

/-- R169: the restart needs nothing of what was before it. -/
theorem State.restartComposer_composerSound (s : State) : s.restartComposer.composer.Sound := by
  rw [State.restartComposer_eq]
  refine (ComposerUnit.sound_iff _).mpr ⟨fun k hk => ?_, .nil, fun _ hk => nomatch hk⟩
  rw [mapAll_getElem]
  exact s.composer.panels[k].restart_agrees.of_iff (iff_of_false id nofun)

theorem execComposerRestart_composerSound {s : State} (h : s.composer.Sound) :
    Result.Keeps (fun t => t.composer.Sound) (execComposerRestart s) := by
  refine .next ?_
  split
  · exact h
  · exact State.restartComposer_composerSound _

/-! ### The last unit of a job (R158, R173) -/

theorem State.drawStreams_composerSound {s : State} (h : s.composer.Sound) : s.drawStreams.composer.Sound := by
  refine h.congr (fun _ _ _ => rfl) (fun _ _ => rfl) rfl fun k => ?_
  unfold ComposerUnit.writing State.drawStreams
  cases s.composer.engine <;> rfl

theorem State.unitDone_composerSound {s : State} (h : s.composer.Sound) (name : ChannelName) :
    (s.unitDone name).composer.Sound := by
  unfold State.unitDone
  dsimp only
  split
  · rw [State.reportWork_composer]
    split
    · exact State.drawStreams_composerSound h
    · exact h
  · exact h

theorem State.segmentWritten_composer (s : State) (w : SegmentWrite) : (s.segmentWritten w).composer = s.composer :=
  ((s.segmentWritten_frame w).same (.block .composer) (by simp)).symm

theorem execTransferUnitComplete_composerSound {s : State} (h : s.composer.Sound) :
    Result.Keeps (fun t => t.composer.Sound) (execTransferUnitComplete s) := by
  refine .next ?_
  dsimp only
  split
  · exact h
  · split
    · exact h
    · split
      · split
        · exact h
        · rw [State.segmentWritten_composer]
          exact h
      · exact h
      all_goals
        refine State.unitDone_composerSound ?_ _
        exact h

/-! ### Every command -/

/-- L6: every command keeps the buffers' roles and the requests. -/
theorem exec_composerSound (i : Instr) {s : State} (h : s.composer.Sound) :
    Result.Keeps (fun t => t.composer.Sound) (exec i s) := by
  have hmove {s t : State} (hf : s.Frame [.queues, .block .link] t) (hs : s.composer.Sound) : t.composer.Sound := by
    rwa [← hf.same (.block .composer) (by simp)]
  have hreset (t : State) : t.fullReset.composer.Sound := reset_composerSound
  cases i with
  | answerSent p => exact execAnswerSent_preserves hmove hreset h p
  | fullReset => exact .next (hreset s)
  | loadLayout p => exact .next (State.takeAndAnswer_preserves hmove (fun _ _ ht => loadLayout_composerSound ht ..) h)
  | applyLayout p => exact .next (State.takeAndAnswer_preserves hmove (fun _ _ ht => applyLayout_composerSound ht ..) h)
  | setOverride p => exact .next (State.takeAndAnswer_preserves hmove (fun _ _ ht => setOverride_composerSound ht ..) h)
  | cueApplyLayout => exact execCueApplyLayout_composerSound h
  | panelLive =>
    refine .next (State.takePanelEvent_composerSound h fun e f hf t ht => ?_)
    split at hf
    · cases hf
      exact ht.changePanel fun x => ⟨fun n => by cases n <;> rfl, rfl⟩
    · cases hf
  | panelStandbyEvent =>
    refine .next (State.takePanelEvent_composerSound h fun e f hf t ht => ?_)
    split at hf
    · cases hf
      exact ht.changePanel fun x => ⟨fun n => by cases n <;> rfl, rfl⟩
    · cases hf
  | panelDark =>
    refine .next (State.takePanelEvent_composerSound h fun e f hf t ht => ?_)
    split at hf
    · cases hf
      exact State.panelDark_composerSound ht _
    · cases hf
  | frameSlot =>
    refine .next (State.takePanelEvent_composerSound h fun e f hf t ht => ?_)
    split at hf
    · cases hf
      exact State.frameSlot_composerSound ht _
    · cases hf
  | composeJobStart => exact execComposeJobStart_composerSound h
  | composeJobComplete => exact execComposeJobComplete_composerSound h
  | composeJobAbandon => exact execComposeJobAbandon_composerSound h
  | composerRestart => exact execComposerRestart_composerSound h
  | transferUnitComplete => exact execTransferUnitComplete_composerSound h
  | _ =>
    refine (exec_frame _ s).keeps fun t hf => ?_
    have hsame : s.composer = t.composer := hf.same (.block .composer)
      (by simp [Instr.touches, Instr.takes, Instr.queryKind, Instr.eventTouches, Instr.block])
    rwa [← hsame]

/-- Settles O52: a step runs one command, and every command keeps the roles and the requests. -/
theorem buffersKeepTheirRoles : Obligations.BuffersKeepTheirRoles := fun _ _ h hs =>
  step_keeps (P := fun t => t.composer.Sound) (fun _ _ h => h) (fun i _ h => exec_composerSound i h) h hs

end Sys2Proof.Machine

end

section
/-! SUPPORT. Settles O48: LOAD LAYOUT, APPLY LAYOUT, SET OVERRIDE and a cue's APPLY LAYOUT (R39, R157, R160). -/

namespace Sys2Proof.Machine

open Sys2Proof

/-- Taking a directive leaves the composer to its effect (R8). -/
theorem State.Takes.composer {s u : State} {b : Block} {p : Port} {q : Packet} {d : Directive} (h : s.Takes b p q d u) :
    u.composer = s.composer := by
  obtain ⟨-, -, -, -, -, rfl⟩ := h
  rfl

/-! ### The layout that LOAD LAYOUT carries (R157) -/

/-- R157: the fill that a kind and a value stand for. -/
def Coded.StandsForFill (c : Coded) (x : Fill) : Prop :=
  c.kind = 1 ∧ x = .colour c.value ∨ c.kind = 2 ∧ c.value ≤ 3 ∧ x = .stream c.value
    ∨ c.kind = 3 ∧ c.value ≤ 255 ∧ x = .tile c.value

/-- R157: the content that a kind and a number stand for. -/
def Coded.StandsForContent (c : Coded) (x : Content) : Prop :=
  c.kind = 1 ∧ c.value ≤ 3 ∧ x = .stream c.value ∨ c.kind = 2 ∧ c.value ≤ 255 ∧ x = .tile c.value
    ∨ c.kind = 3 ∧ c.value ≤ 7 ∧ x = .board c.value ∨ c.kind = 4 ∧ c.value = 0 ∧ x = .feature
    ∨ c.kind = 5 ∧ c.value ≤ 7 ∧ x = .clock c.value

/-- R157: the orientation that a number stands for. -/
def Orientation.StandsFor (n : Nat) (o : Orientation) : Prop := n = 1 ∧ o = .landscape ∨ n = 2 ∧ o = .portrait

/-- R157: the region that fields carry, within a panel of an orientation. -/
def RegionFields.Carries (o : Orientation) (r : RegionFields) (x : Region) : Prop :=
  x.rect = ⟨r.col, r.row, r.width, r.height⟩ ∧ r.content.StandsForContent x.content ∧ r.width ≠ 0 ∧ r.height ≠ 0
    ∧ r.col + r.width ≤ (if o = .landscape then 48 else 27) ∧ r.row + r.height ≤ (if o = .landscape then 27 else 48)

theorem fillOfCoded_eq_some_iff (c : Coded) (x : Fill) : fillOfCoded c = some x ↔ c.StandsForFill x := by
  unfold fillOfCoded Coded.StandsForFill
  split
  · rename_i hk; simp [hk, eq_comm]
  · rename_i hk; simp [hk, eq_comm]
  · rename_i hk; simp [hk, eq_comm]
  · rename_i h1 h2 h3
    refine iff_of_false nofun ?_
    rintro (⟨hk, -⟩ | ⟨hk, -⟩ | ⟨hk, -⟩)
    exacts [h1 hk, h2 hk, h3 hk]

theorem contentOfCoded_eq_some_iff (c : Coded) (x : Content) : contentOfCoded c = some x ↔ c.StandsForContent x := by
  unfold contentOfCoded Coded.StandsForContent
  split
  · rename_i hk; simp [hk, eq_comm]
  · rename_i hk; simp [hk, eq_comm]
  · rename_i hk; simp [hk, eq_comm]
  · rename_i hk; simp [hk, eq_comm]
  · rename_i hk; simp [hk, eq_comm]
  · rename_i h1 h2 h3 h4 h5
    refine iff_of_false nofun ?_
    rintro (⟨hk, -⟩ | ⟨hk, -⟩ | ⟨hk, -⟩ | ⟨hk, -⟩ | ⟨hk, -⟩)
    exacts [h1 hk, h2 hk, h3 hk, h4 hk, h5 hk]

theorem backgroundOf_eq_some_iff (c : Coded) (x : Fill) : backgroundOf c = some x ↔ c.kind ≠ 3 ∧ c.StandsForFill x := by
  rw [backgroundOf, Option.ite_none_left_eq_some, fillOfCoded_eq_some_iff]

theorem orientationOfNumber_eq_some_iff (n : Nat) (o : Orientation) :
    orientationOfNumber n = some o ↔ Orientation.StandsFor n o := by
  unfold orientationOfNumber Orientation.StandsFor
  split
  · simp [eq_comm]
  · simp [eq_comm]
  · rename_i h1 h2
    refine iff_of_false nofun ?_
    rintro (⟨hk, -⟩ | ⟨hk, -⟩)
    exacts [h1 hk, h2 hk]

theorem RegionFields.region_eq_some_iff (r : RegionFields) (o : Orientation) (x : Region) :
    r.region o = some x ↔ RegionFields.Carries o r x := by
  have hw : o.panelRect.width = if o = .landscape then 48 else 27 := by cases o <;> rfl
  have hh : o.panelRect.height = if o = .landscape then 27 else 48 := by cases o <;> rfl
  unfold RegionFields.region RegionFields.Carries
  rw [Option.ite_none_right_eq_some, Option.map_eq_some_iff, hw, hh]
  simp only [contentOfCoded_eq_some_iff]
  constructor
  · rintro ⟨⟨h1, h2, h3, h4⟩, c, hc, rfl⟩
    exact ⟨rfl, hc, h1, h2, h3, h4⟩
  · rintro ⟨hrect, hc, h1, h2, h3, h4⟩
    exact ⟨⟨h1, h2, h3, h4⟩, x.content, hc, by rw [← hrect]⟩

/-- R157: FEATURE has a kind of its own. -/
theorem Coded.StandsForContent.feature_iff {c : Coded} {x : Content} (h : c.StandsForContent x) : x = .feature ↔ c.kind = 4 := by
  obtain ⟨hk, -, rfl⟩ | ⟨hk, -, rfl⟩ | ⟨hk, -, rfl⟩ | ⟨hk, -, rfl⟩ | ⟨hk, -, rfl⟩ := h <;> simp [hk]

/-- R157: as many regions are FEATURE as the fields say. -/
theorem features_length {o : Orientation} {fs : List RegionFields} {rs : List Region}
    (h : List.Forall₂ (RegionFields.Carries o) fs rs) :
    (rs.filter fun r => r.content = .feature).length = (fs.filter fun r => decide (r.content.kind = 4)).length := by
  induction h with
  | nil => rfl
  | cons hr _ ih =>
    obtain ⟨-, hc, -⟩ := hr
    simp only [List.filter_cons, hc.feature_iff]
    split <;> simp [ih]

/-- R157: the fields carried are in range, and stand for a layout. -/
structure LayoutFields.Carries (f : LayoutFields) (l : Layout) : Prop where
  orientation : Orientation.StandsFor f.orientation l.orientation
  notTile : f.background.kind ≠ 3
  background : f.background.StandsForFill l.background
  spaceFill : f.spaceFill.StandsForFill l.spaceFill
  regions : List.Forall₂ (RegionFields.Carries l.orientation) f.regions l.regions
  nonempty : f.regions ≠ []
  atMost : f.regions.length ≤ 12
  oneFeature : (f.regions.filter fun r => decide (r.content.kind = 4)).length ≤ 1

theorem LayoutFields.layout_eq_some_iff (f : LayoutFields) (l : Layout) : f.layout = some l ↔ f.Carries l := by
  have hregions (o : Orientation) (rs : List Region) :
      (f.regions.mapM fun r => r.region o) = some rs ↔ List.Forall₂ (RegionFields.Carries o) f.regions rs := by
    rw [mapM_eq_some_iff]
    simp only [RegionFields.region_eq_some_iff]
  unfold LayoutFields.layout
  constructor
  · intro h
    split at h
    · rename_i ho hb hs
      split at h
      · cases h
      · rename_i rs hrs
        obtain ⟨⟨hpos, hle, hone⟩, h⟩ := Option.ite_none_right_eq_some.mp h
        cases h
        rw [hregions] at hrs
        have hlen := hrs.length_eq
        obtain ⟨htile, hb⟩ := (backgroundOf_eq_some_iff ..).mp hb
        refine ⟨(orientationOfNumber_eq_some_iff ..).mp ho, htile, hb, (fillOfCoded_eq_some_iff ..).mp hs, hrs, ?_, by omega, ?_⟩
        · exact List.ne_nil_of_length_pos (by omega)
        · rw [← features_length hrs]
          exact decide_eq_true_iff.mp hone
    · cases h
  · rintro ⟨ho, htile, hb, hs, hrs, hne, hle, hone⟩
    have hlen := hrs.length_eq
    have hpos := List.length_pos_of_ne_nil hne
    have hone : oneFeature l.regions = true := decide_eq_true_iff.mpr (features_length hrs ▸ hone)
    rw [(orientationOfNumber_eq_some_iff ..).mpr ho, (backgroundOf_eq_some_iff ..).mpr ⟨htile, hb⟩,
      (fillOfCoded_eq_some_iff ..).mpr hs]
    dsimp only
    rw [(hregions ..).mpr hrs]
    exact if_pos ⟨by omega, by omega, hone⟩

/-- R157: LOAD LAYOUT is refused where a field stands for nothing. -/
theorem LayoutFields.layout_eq_none {f : LayoutFields}
    (h : (f.orientation ≠ 1 ∧ f.orientation ≠ 2) ∨ f.background.kind = 3 ∨ (∀ x, ¬f.background.StandsForFill x)
      ∨ (∀ x, ¬f.spaceFill.StandsForFill x) ∨ f.regions = [] ∨ 12 < f.regions.length
      ∨ (∃ o r, Orientation.StandsFor f.orientation o ∧ r ∈ f.regions ∧ ∀ x, ¬RegionFields.Carries o r x)
      ∨ 1 < (f.regions.filter fun r => decide (r.content.kind = 4)).length) : f.layout = none := by
  refine Option.eq_none_iff_forall_ne_some.mpr fun l hl => ?_
  obtain ⟨ho, htile, hb, hs, hrs, hne, hle, hone⟩ := (f.layout_eq_some_iff l).mp hl
  obtain ⟨h1, h2⟩ | h | h | h | h | h | ⟨o, r, hor, hr, hno⟩ | h := h
  · exact ho.elim (fun ho => h1 ho.1) fun ho => h2 ho.1
  · exact htile h
  · exact h _ hb
  · exact h _ hs
  · exact hne h
  · omega
  · have hsame := ((orientationOfNumber_eq_some_iff ..).mpr hor).symm.trans ((orientationOfNumber_eq_some_iff ..).mpr ho)
    cases hsame
    obtain ⟨x, hx⟩ := exists_of_forall₂_left hrs hr
    exact hno x hx
  · omega

theorem loadLayout_done {n : Nat} {f : LayoutFields} {l : Layout} (h : n < 32) (hl : f.layout = some l) (s : State) :
    loadLayout n f s = done { s with composer := { s.composer with layouts := s.composer.layouts.set n (some l) h } } := by
  unfold loadLayout
  rw [hl]
  exact dif_pos h

theorem loadLayout_refused {n : Nat} {f : LayoutFields} (h : 31 < n ∨ f.layout = none) (s : State) :
    loadLayout n f s = refuse s .outOfRange := by
  unfold loadLayout
  split
  · rfl
  · rename_i hl
    have hn : 31 < n := h.resolve_right (by simp [hl])
    exact dif_neg (by omega)

/-! ### Panel sets (R160) -/

/-- R160: exactly the panels of the set are changed. -/
theorem State.changePanels_eq {s : State} {set : List Nat} {f : Panel → Panel} {v : Vector Panel 12}
    (h : ∀ k : Fin 12, v[k] = if k.val ∈ set then f s.composer.panels[k] else s.composer.panels[k]) :
    s.changePanels set f = { s with composer := { s.composer with panels := v } } := by
  have hv : (s.changePanels set f).composer.panels = v := by
    ext i hi
    rw [show v[i] = _ from h ⟨i, hi⟩]
    refine (Vector.getElem_mapFinIdx ..).trans ?_
    simp only [List.contains_iff_mem, Fin.getElem_fin]
  rw [← hv]
  rfl

section Refusal
variable {s : State} {n : Nat} {set : List Nat}

theorem State.layoutRefusal_noLayout (h : s.composer.layouts[n]? = some none) : s.layoutRefusal n set = some .noSuch := by
  have hl : s.layoutOf n = none := by rw [State.layoutOf, h]; rfl
  rw [State.layoutRefusal, hl]

variable (hle : ∀ m ∈ set, m ≤ 11) {l : Layout} (hl : s.composer.layouts[n]? = some (some l))
include hle hl

/-- R160 step 3: every panel of the set has the orientation of the layout. -/
theorem State.layoutRefusal_eq_none_iff :
    s.layoutRefusal n set = none ↔ ∀ k : Fin 12, k.val ∈ set → s.output.panels[k].orientation = l.orientation := by
  have horient (k : Fin 12) : s.orientationOf k = s.output.panels[k].orientation := by
    rw [State.orientationOf, State.outputOf, Vector.getElem?_eq_getElem k.isLt]
    rfl
  rw [State.layoutRefusal, (layoutOf_eq_some_iff ..).mpr hl]
  dsimp only
  rw [ite_eq_left_iff]
  simp only [reduceCtorEq, imp_false, not_not, List.all_eq_true, decide_eq_true_iff]
  constructor
  · exact fun h k hk => (horient k).symm.trans (h k hk)
  · exact fun h m hm => (horient ⟨m, Nat.lt_succ_of_le (hle m hm)⟩).trans (h ⟨m, _⟩ hm)

theorem State.layoutRefusal_orientation (h : ∃ k : Fin 12, k.val ∈ set ∧ s.output.panels[k].orientation ≠ l.orientation) :
    s.layoutRefusal n set = some .refusedState := by
  have hne : s.layoutRefusal n set ≠ none := fun hn => by
    obtain ⟨k, hk, ho⟩ := h
    exact ho ((State.layoutRefusal_eq_none_iff hle hl).mp hn k hk)
  rw [State.layoutRefusal, (layoutOf_eq_some_iff ..).mpr hl] at hne ⊢
  dsimp only at hne ⊢
  exact if_neg fun hall => hne (if_pos hall)

end Refusal

theorem State.layoutRefusal_withMail (s : State) (m : Mail) (n : Nat) (set : List Nat) :
    ({ s with mail := m } : State).layoutRefusal n set = s.layoutRefusal n set := rfl

/-- Taking a directive leaves the layouts and the panels that its checks read. -/
theorem State.Takes.layoutRefusal {s u : State} {b : Block} {p : Port} {q : Packet} {d : Directive} (h : s.Takes b p q d u)
    (n : Nat) (set : List Nat) : u.layoutRefusal n set = s.layoutRefusal n set := by
  obtain ⟨-, -, -, -, -, rfl⟩ := h
  rfl

/-! ### APPLY LAYOUT and SET OVERRIDE (R160) -/

section Directives
variable {n : Nat} {set : List Nat}

theorem applyLayout_outOfRange (h : 31 < n ∨ validSet set = false) (s : State) : applyLayout n set s = refuse s .outOfRange :=
  if_pos h

theorem setOverride_outOfRange (h : (31 < n ∧ n ≠ 255) ∨ validSet set = false) (s : State) :
    setOverride n set s = refuse s .outOfRange :=
  if_pos h

theorem setOverride_none (hset : validSet set = true) (s : State) :
    setOverride 255 set s = done (s.changePanels set fun x => { x with override := none }) := by
  unfold setOverride
  rw [if_neg (by simp [hset]), if_pos rfl]

variable {s : State} (hn : n ≤ 31) (hset : validSet set = true)
include hn hset

theorem applyLayout_eq : applyLayout n set s = match s.layoutRefusal n set with
    | some o => refuse s o
    | none => done (s.changePanels set fun x => { x with pendingLayout := some n }) := by
  have hin : ¬(31 < n ∨ validSet set = false) := by simp [hset, hn]
  exact if_neg hin

theorem setOverride_eq : setOverride n set s = match s.layoutRefusal n set with
    | some o => refuse s o
    | none => done (s.changePanels set fun x => { x with override := some n }) := by
  have hin : ¬((31 < n ∧ n ≠ 255) ∨ validSet set = false) := by simp [hset, Nat.not_lt.mpr hn]
  exact (if_neg hin).trans (if_neg (by omega))

end Directives

/-- R39: a cue's APPLY LAYOUT at the head of its queue. -/
theorem execCueApplyLayout_cons {s : State} {n : Nat} {set : List Nat} {rest : List (Nat × List Nat)}
    (h : s.mail.cuesToComposer = (n, set) :: rest) :
    execCueApplyLayout s = .next (applyLayout n set { s with mail := { s.mail with cuesToComposer := rest } }).1 := by
  unfold execCueApplyLayout
  rw [h]

section Settled
variable {s : State} {n : Nat} {set : List Nat} (hn : n ≤ 31) (hset : validSet set = true)
include hn hset

/-- R160, R39: an outcome that refuses the layout for the set refuses the three of them. -/
theorem exec_layout_refused {o : OutcomeCode} (ho : s.layoutRefusal n set = some o) (u : State) (p : Port) (q : Packet)
    {v : State} {rest : List (Nat × List Nat)} (hv : v = { s with mail := { s.mail with cuesToComposer := rest } }) :
    (s.Takes .composer p q (.applyLayout n set) u → exec (.applyLayout p) s = .next (u.answered p q o))
    ∧ (s.Takes .composer p q (.setOverride n set) u → exec (.setOverride p) s = .next (u.answered p q o))
    ∧ (s.mail.cuesToComposer = (n, set) :: rest → exec .cueApplyLayout s = .next v) := by
  subst hv
  refine ⟨fun h => ?_, fun h => ?_, fun h => ?_⟩
  · rw [exec_applyLayout h, applyLayout_eq hn hset, State.Takes.layoutRefusal h, ho]
    rfl
  · rw [exec_setOverride h, setOverride_eq hn hset, State.Takes.layoutRefusal h, ho]
    rfl
  · refine (execCueApplyLayout_cons h).trans ?_
    rw [applyLayout_eq hn hset, State.layoutRefusal_withMail, ho]
    rfl

/-- R160, R39: a layout that is not refused is taken by the panels of the set. -/
theorem exec_layout_taken (ho : s.layoutRefusal n set = none) (u : State) (p : Port) (q : Packet)
    {v : State} {rest : List (Nat × List Nat)} (hv : v = { s with mail := { s.mail with cuesToComposer := rest } }) :
    (s.Takes .composer p q (.applyLayout n set) u → exec (.applyLayout p) s
      = .next ((u.changePanels set fun x => { x with pendingLayout := some n }).answered p q .done))
    ∧ (s.Takes .composer p q (.setOverride n set) u → exec (.setOverride p) s
      = .next ((u.changePanels set fun x => { x with override := some n }).answered p q .done))
    ∧ (s.mail.cuesToComposer = (n, set) :: rest → exec .cueApplyLayout s
      = .next (v.changePanels set fun x => { x with pendingLayout := some n })) := by
  subst hv
  refine ⟨fun h => ?_, fun h => ?_, fun h => ?_⟩
  · rw [exec_applyLayout h, applyLayout_eq hn hset, State.Takes.layoutRefusal h, ho]
    rfl
  · rw [exec_setOverride h, setOverride_eq hn hset, State.Takes.layoutRefusal h, ho]
    rfl
  · refine (execCueApplyLayout_cons h).trans ?_
    rw [applyLayout_eq hn hset, State.layoutRefusal_withMail, ho]
    rfl

end Settled

/-- Settles O48: the layout carried from its fields, then each command from its refusals and from what the panels take. -/
theorem layoutsAreLoadedAndApplied : Obligations.LayoutsAreLoadedAndApplied := by
  refine ⟨fun s u p q n f fill content region h hfill hcontent hregion => ?_, fun s u p q n set => ⟨fun h hbad => ?_,
    fun h hbad => ?_⟩, fun s n set rest hm hbad => ?_, fun s u v p q n set rest cued panels hne hle hnd hpanels hcued hv => ?_⟩
  · obtain rfl : fill = Coded.StandsForFill := funext fun c => funext fun x => propext (hfill c x)
    obtain rfl : content = Coded.StandsForContent := funext fun c => funext fun x => propext (hcontent c x)
    obtain rfl : region = RegionFields.Carries := funext fun o => funext fun r => funext fun x => propext (hregion o r x)
    rw [exec_loadLayout h]
    refine ⟨fun hbad => ?_, fun hn l ho htile hb hs hrs hne hle hone => ?_⟩
    · rw [loadLayout_refused (hbad.imp_right LayoutFields.layout_eq_none)]
      rfl
    · rw [loadLayout_done hn ((f.layout_eq_some_iff l).mpr ⟨ho, htile, hb, hs, hrs, hne, hle, hone⟩), State.Takes.composer h]
      rfl
  · rw [exec_applyLayout h, applyLayout_outOfRange (hbad.imp_right validSet_eq_false)]
    rfl
  · rw [exec_setOverride h, setOverride_outOfRange (hbad.imp_right validSet_eq_false)]
    rfl
  · refine (execCueApplyLayout_cons hm).trans ?_
    rw [applyLayout_outOfRange (hbad.imp_right validSet_eq_false)]
    rfl
  · have hset := (validSet_iff set).mpr ⟨hne, hle, hnd⟩
    have hchange (t : State) (ht : t.composer = s.composer) (f : Panel → Panel) :
        t.changePanels set f = { t with composer := { s.composer with panels := panels f } } := by
      rw [State.changePanels_eq (v := panels f) (ht ▸ hpanels f), ht]
    refine ⟨fun h => ?_, fun hn hl => ?_, fun l hl => ?_⟩
    · rw [exec_setOverride h, setOverride_none hset, hchange u (State.Takes.composer h)]
      rfl
    · obtain ⟨happly, hoverride, hcue⟩ := exec_layout_refused hn hset (State.layoutRefusal_noLayout hl) u p q hv
      exact ⟨happly, hoverride, hcue ∘ hcued.mp⟩
    · have hn : n ≤ 31 := Nat.le_of_lt_succ (Vector.getElem?_eq_some_iff.mp hl).1
      refine ⟨fun hbad => ?_, fun hall => ?_⟩
      · obtain ⟨happly, hoverride, hcue⟩ := exec_layout_refused hn hset (State.layoutRefusal_orientation hle hl hbad) u p q hv
        exact ⟨happly, hoverride, hcue ∘ hcued.mp⟩
      · obtain ⟨happly, hoverride, hcue⟩ :=
          exec_layout_taken hn hset ((State.layoutRefusal_eq_none_iff hle hl).mpr hall) u p q hv
        refine ⟨fun h => ?_, fun h => ?_, fun h => ?_⟩
        · rw [happly h, hchange u (State.Takes.composer h)]
        · rw [hoverride h, hchange u (State.Takes.composer h)]
        · rw [hcue (hcued.mp h), hchange v (by rw [hv])]

end Sys2Proof.Machine

end

section
/-! SUPPORT. Settles O49: the composer at the panel output's events (R159, R161). -/

namespace Sys2Proof.Machine

open Sys2Proof

/-- Settles O49: each event from the panel's own operation on it. -/
theorem panelsFollowTheirEvents : Obligations.PanelsFollowTheirEvents := by
  rintro s u k x e rest hm rfl hu
  have htaken (act : PanelEvent → Option (State → State)) (f : State → State) (ha : act e = some f) :
      s.takePanelEvent act = f u := hu ▸ State.takePanelEvent_cons hm ha
  have hpanels : u.composer = s.composer := by rw [hu]
  refine ⟨?_, ?_, ?_, ?_, ?_⟩
  · rintro rfl
    refine congrArg Host.Outcome.next ((htaken _ _ rfl).trans ?_)
    rw [State.changePanel_eq, hpanels]
  · rintro rfl
    refine congrArg Host.Outcome.next ((htaken _ _ rfl).trans ?_)
    rw [State.changePanel_eq, hpanels]
  · rintro rfl
    refine congrArg Host.Outcome.next ((htaken _ _ rfl).trans ?_)
    rw [State.panelDark, State.changePanel_eq, Panel.darken_eq, hpanels]
  · rintro rfl hs
    exact congrArg Host.Outcome.next ((htaken _ _ rfl).trans (State.frameSlot_of_notLive (hpanels ▸ hs)))
  · rintro turn y z rfl hlive hturn hy hz
    obtain rfl : turn = Buffer.swap := funext fun b => (hturn b).trans b.swap_eq.symm
    rw [← Panel.swap_eq] at hy
    subst hy
    rw [← Panel.current_swap, ← Panel.pendingLayout_swap] at hz
    obtain rfl := hz.trans (Panel.takeLayout_eq _).symm
    have hslot : exec .frameSlot s = .next (u.requestFrame k u.composer.panels[k].swap.takeLayout) :=
      congrArg Host.Outcome.next ((htaken _ _ rfl).trans (State.frameSlot_of_live (hpanels ▸ hlive)))
    have hrequest : s.composer.panels[k].swap.takeLayout.request = s.composer.panels[k].request := by
      rw [Panel.request_takeLayout, Panel.request_swap]
    refine ⟨fun hr => ?_, fun hr => ?_⟩
    · rw [hslot, hpanels, State.requestFrame_of_none (hrequest.trans hr), modifyAt_eq_put, hpanels]
    · rw [hslot, hpanels, State.requestFrame_of_ne (hrequest ▸ hr), State.changePanel_eq, hpanels]

end Sys2Proof.Machine

end

section
/-! SUPPORT. Settles O50: a compose job from the queue to its buffer, and the composer's restart (R162, R163, R165, R166,
R169). -/

namespace Sys2Proof.Machine

open Sys2Proof

/-! ### The streams of a frame (R163) -/

theorem nodup_eraseDups (xs : List Nat) : xs.eraseDups.Nodup := by
  match xs with
  | [] => exact .nil
  | x :: xs =>
    rw [List.eraseDups_cons, List.nodup_cons]
    refine ⟨fun hx => ?_, nodup_eraseDups _⟩
    rw [List.mem_eraseDups, List.mem_filter] at hx
    simp at hx
termination_by xs.length
decreasing_by exact Nat.lt_succ_of_le (List.length_filter_le ..)

/-- R163: the streams of a frame are those that its layers draw. -/
theorem Frame.mem_streams_iff (f : Frame) (n : Nat) : n ∈ f.streams ↔ ∃ y ∈ f.layers, y.paint = .stream n := by
  unfold Frame.streams
  rw [List.mem_eraseDups, List.mem_filterMap]
  refine exists_congr fun y => and_congr_right fun _ => ?_
  cases y.paint <;> simp

/-! ### Starts and ends -/

/-- R162, R163: the panel at the head of the queue, with a FREE buffer of it. -/
theorem execComposeJobStart_of_ready {s : State} {k : Fin 12} {rest : List Nat} {n : BufferName} (he : s.composer.engine = none)
    (hq : s.composer.queue = k.val :: rest) (hr : s.rotation.settled = true) (hn : s.notice.settled = true)
    (hfree : s.composer.panels[k].freeBuffer (Config.freeChoice s.choices) = some n) :
    execComposeJobStart s = .next (s.startCompose k rest s.composer.panels[k] n) := by
  have hx : s.composer.panels[k.val]? = some s.composer.panels[k] := Vector.getElem?_eq_getElem k.isLt
  unfold execComposeJobStart
  simp only [he, hq, hr, hn, hx, hfree, and_self, if_true]

theorem State.startCompose_eq (s : State) (k : Fin 12) (rest : List Nat) (x : Panel) (n : BufferName) {f : Machine.Frame}
    {units : Nat} (hf : s.frameFor k x = (f, units)) : s.startCompose k rest x n = { s with
      choices := s.choices + 1
      composer := { s.composer with
        queue := rest, engine := some ⟨k, n, f⟩, panels := put s.composer.panels k (x.claim n) }
      mail := { s.mail with
        composerToMemory := s.mail.composerToMemory ++ f.streams.map fun i => .pin i (decide (x.state = .live)) }
      memory := { s.memory with compose := s.memory.compose.give units } } := by
  unfold State.startCompose
  rw [State.changePanel_eq, hf]
  rfl

section Ends
variable {s : State} {j : ComposeJob} {k : Fin 12} {rest : List WorkReport} (he : s.composer.engine = some j)
  (hj : j.panel = k.val)
include he hj

theorem execComposeJobComplete_of_complete (hm : s.mail.memoryToComposer = .complete :: rest) :
    execComposeJobComplete s = .next { s.endCompose with composer := { s.endCompose.composer with
      panels := put s.composer.panels k (s.composer.panels[k].complete j.buffer j.frame) } } := by
  unfold execComposeJobComplete
  simp only [he, hm]
  rw [hj, State.changePanel_eq]
  rfl

theorem execComposeJobAbandon_of_ended (hm : s.mail.memoryToComposer = .ended :: rest) :
    execComposeJobAbandon s = .next { s.endCompose with composer := { s.endCompose.composer with
      queue := if s.composer.panels[k].state = .dark then s.composer.queue else s.composer.queue ++ [k.val]
      panels := put s.composer.panels k (s.composer.panels[k].abandon j.buffer) } } := by
  unfold execComposeJobAbandon
  simp only [he, hm]
  rw [State.abandonCompose_eq hj rfl]

end Ends

/-! ### The restart (R169) -/

/-- R173: the composer gives up the work of its channel. -/
theorem MemoryUnit.cancel_compose (m : MemoryUnit) : m.cancel .compose = { m with
    compose := { m.compose with
      remaining := 0, hasWork := false, state := if m.compose.state = .halted then .halted else .idle }
    inFlight := m.inFlight.map fun x => if x.channel = .compose then { x with ignored := true } else x } :=
  congrArg (fun c => { m with compose := c, inFlight := m.inFlight.map (ignoreUnit .compose) }) m.compose.drop_eq

theorem execComposerRestart_of_pos {s : State} (h : 0 < s.mail.restarts[Block.composer.index]) :
    execComposerRestart s = .next (s.dropRestart .composer).restartComposer :=
  congrArg Host.Outcome.next (if_neg (Nat.ne_of_gt h))

/-- Settles O50: each stage of a job, and the restart, from its command's lemma. -/
theorem composeJobsRunTheirCourse : Obligations.ComposeJobsRunTheirCourse := by
  refine ⟨⟨fun s k x rest f units he hq hr hn hx hfree hf => ?_, fun s u j k x b r rest he hm hj hx hb hu => ?_⟩, fun s h => ?_,
    fun x b => ⟨rfl, rfl, rfl, rfl⟩, fun f => ⟨nodup_eraseDups _, f.mem_streams_iff⟩⟩
  · subst hx
    obtain ⟨n, htaken, hrole⟩ := Panel.freeBuffer_eq_some hfree (Config.freeChoice s.choices)
    refine ⟨n, hrole, (execComposeJobStart_of_ready he hq hr hn htaken).trans ?_⟩
    rw [State.startCompose_eq s k rest _ n hf, Channel.give_eq]
    rfl
  · subst hx hb
    rw [← State.endCompose_of_cons hm] at hu
    subst hu
    refine ⟨?_, ?_⟩
    all_goals rintro rfl
    · refine (execComposeJobComplete_of_complete he hj hm).trans ?_
      rw [Panel.complete_eq]
    · exact execComposeJobAbandon_of_ended he hj hm
  · refine (execComposerRestart_of_pos h).trans ?_
    rw [State.restartComposer_eq, MemoryUnit.cancel_compose]
    rfl

end Sys2Proof.Machine

end

section
/-! SUPPORT. What the pins of the stream stores rest on (R170, R171), and the commands that leave it as it is. -/

namespace Sys2Proof.Machine

open Sys2Proof

/-- The stores of every stream (R170). -/
def MemoryUnit.stores (m : MemoryUnit) : Vector (Vector Store 3) 4 := mapAll Stream.stores m.streams

/-- What the pins rest on (R171): the stores, the pin events under way from the composer, and whether its engine has no job. -/
def State.pins (s : State) : Vector (Vector Store 3) 4 × List PinEvent × Bool :=
  (s.memory.stores, s.mail.composerToMemory, s.composer.engine.isNone)

/-! ### Operations that several commands share -/

@[simp] theorem State.ite_pins {c : Prop} {_ : Decidable c} (s t : State) :
    (if c then s else t).pins = if c then s.pins else t.pins := apply_ite ..

@[simp] theorem State.sendCondition_pins (s : State) (b : Block) (e : ConditionEvent) : (s.sendCondition b e).pins = s.pins := rfl

@[simp] theorem State.withClock_pins (s : State) (c : Clock) : ({ s with clock := c } : State).pins = s.pins := rfl

@[simp] theorem State.sendMinute_pins (s : State) (n : Nat) : (s.sendMinute n).pins = s.pins := rfl

@[simp] theorem State.rollover_pins (s : State) (d : Nat) : (s.rollover d).pins = s.pins := rfl

@[simp] theorem State.redrawClockTiles_pins (s : State) : s.redrawClockTiles.pins = s.pins := rfl

@[simp] theorem State.sendAction_pins (s : State) (a : CueAction) : (s.sendAction a).pins = s.pins := by simp [State.pins]

@[simp] theorem State.withSchedule_pins (s : State) (x : ScheduleUnit × List ScheduleEvent) : (s.withSchedule x).pins = s.pins := by
  simp [State.pins]

@[simp] theorem State.withSeat_pins (s : State) (x : SeatUnit × List SeatEvent) : (s.withSeat x).pins = s.pins := by
  simp [State.pins]

@[simp] theorem State.reportWork_pins (s : State) (name : ChannelName) (r : WorkReport) : (s.reportWork name r).pins = s.pins := by
  cases name <;> rfl

@[simp] theorem State.discardPacket_pins (s : State) (p : Port) : (s.discardPacket p).pins = s.pins := rfl

@[simp] theorem State.joinIntake_pins (s : State) (p : Port) (q : Packet) : (s.joinIntake p q).pins = s.pins := by
  unfold State.joinIntake
  dsimp only
  split <;> rfl

theorem State.take_pins {α : Type} {u : Block} {p : Port} {select : Directive → Option α} {act : Packet → α → State → State}
    (h : ∀ q a t, (act q a t).pins = t.pins) (s : State) : (s.take u p select act).pins = s.pins := by
  obtain e | ⟨q, d, a, -, -, e⟩ | ⟨q, d, a, -, -, -, -, e⟩ := State.take_cases u p select act s
  · rw [e]
  · rw [e]; exact h ..
  · rw [e]; rfl

theorem State.takeAndAnswer_pins {α : Type} {u : Block} {p : Port} {select : Directive → Option α}
    {act : α → State → State × Reply} (h : ∀ a t, (act a t).1.pins = t.pins) (s : State) :
    (s.takeAndAnswer u p select act).pins = s.pins := by
  refine State.take_pins (fun q a t => ?_) s
  exact h a t

/-! ### Directives -/

theorem grantOwner_pins (g o : Nat) (s : State) : (grantOwner g o s).1.pins = s.pins := by
  unfold grantOwner
  repeat' split
  all_goals rfl

theorem setReportEnables_pins (ms : List Nat) (s : State) : (setReportEnables ms s).1.pins = s.pins := by
  unfold setReportEnables
  split <;> rfl

theorem acknowledgeConditions_pins (ms : List Nat) (s : State) : (acknowledgeConditions ms s).1.pins = s.pins := by
  unfold acknowledgeConditions
  split; · rfl
  split; · rfl
  dsimp only [done_fst, State.pins]
  split <;> rfl

theorem State.arrangeRestart_pins (p : Port) (q : Packet) (s : State) : (s.arrangeRestart p q).pins = s.pins := rfl

theorem State.arrangeReset_pins (s : State) : s.arrangeReset.pins = s.pins := by
  unfold State.arrangeReset
  split <;> rfl

@[simp] theorem State.evaluateCues_pins (s : State) (x w h m : Nat) : (s.evaluateCues x w h m).pins = s.pins := by
  unfold State.evaluateCues
  split
  · rfl
  · exact foldl_keeps State.sendAction State.pins State.sendAction_pins ..

@[simp] theorem State.evaluateCrossed_pins (s : State) (t : TimeFields) (last : Nat) (ms : List Nat) :
    (s.evaluateCrossed t last ms).pins = s.pins :=
  foldl_keeps _ State.pins (fun _ _ => State.evaluateCues_pins ..) ..

theorem State.minuteBoundary_pins (s : State) : s.minuteBoundary.pins = s.pins := by
  simp [State.minuteBoundary]

theorem State.countWallTime_pins (s : State) : s.countWallTime.pins = s.pins := by
  unfold State.countWallTime
  split
  · rfl
  · dsimp only
    split
    · exact State.minuteBoundary_pins _
    · rfl

theorem State.setFromUnset_pins (s : State) (t : TimeFields) : (s.setFromUnset t).pins = s.pins := by
  unfold State.setFromUnset
  dsimp only
  split <;> rfl

theorem State.backwardSet_pins (s : State) (t : TimeFields) : (s.backwardSet t).pins = s.pins := by
  unfold State.backwardSet
  dsimp only
  split <;> rfl

@[simp] theorem State.raiseMark_pins (s : State) (n : Nat) : (s.raiseMark n).pins = s.pins := by
  unfold State.raiseMark
  split <;> rfl

theorem State.forwardSet_pins (s : State) (t : TimeFields) : (s.forwardSet t).pins = s.pins := by
  unfold State.forwardSet
  dsimp only
  split
  · rfl
  · simp

theorem State.applyTime_pins (s : State) (t : TimeFields) : (s.applyTime t).pins = s.pins := by
  unfold State.applyTime
  split; · rfl
  split; · rfl
  split
  · exact s.backwardSet_pins t
  · exact s.forwardSet_pins t

theorem State.takeBeacon_pins (s : State) (t : TimeFields) : (s.takeBeacon t).pins = s.pins := by
  unfold State.takeBeacon
  split
  · exact s.setFromUnset_pins t
  · exact s.applyTime_pins t
  · exact State.applyTime_pins ..

theorem setClock_pins (t : TimeFields) (s : State) : (setClock t s).1.pins = s.pins := by
  unfold setClock
  split; · rfl
  split
  · rfl
  · exact s.takeBeacon_pins t

theorem setHouse_pins (f d : Nat) (s : State) : (setHouse f d s).1.pins = s.pins := by
  unfold setHouse
  split; · rfl
  split; · rfl
  split; · rfl
  dsimp only
  split <;> rfl

theorem setCue_pins (n : Nat) (f : CueFields) (s : State) : (setCue n f s).1.pins = s.pins := by
  unfold setCue
  repeat' split
  all_goals rfl

theorem clearCue_pins (n : Nat) (s : State) : (clearCue n s).1.pins = s.pins := by
  unfold clearCue
  repeat' split
  all_goals rfl

theorem loadTitle_pins (n : Nat) (text rating : List Byte) (m : Nat) (s : State) :
    (loadTitle n text rating m s).1.pins = s.pins := by
  unfold loadTitle
  repeat' split
  all_goals rfl

theorem setPhaseTimes_pins (x : PhaseSettings) (s : State) : (setPhaseTimes x s).1.pins = s.pins := by
  unfold setPhaseTimes
  split <;> simp

theorem loadScreening_pins (f : ScreeningFields) (s : State) : (loadScreening f s).1.pins = s.pins := by
  unfold loadScreening
  repeat' split
  all_goals simp

theorem amendScreening_pins (n : Nat) (f : AmendFields) (s : State) : (amendScreening n f s).1.pins = s.pins := by
  unfold amendScreening
  repeat' split
  all_goals simp

theorem cancelScreening_pins (n : Nat) (s : State) : (cancelScreening n s).1.pins = s.pins := by
  unfold cancelScreening
  repeat' split
  all_goals simp

theorem dropScreening_pins (n : Nat) (s : State) : (dropScreening n s).1.pins = s.pins := by
  unfold dropScreening
  split <;> simp

@[simp] theorem countTally_pins (s : State) (u : SeatUnit) (t : Tally) (o : OutcomeCode) :
    (countTally s u t o).1.pins = s.pins := State.withSeat_pins ..

theorem sell_pins (scr n : Nat) (s : State) : (sell scr n s).1.pins = s.pins := by
  unfold sell
  repeat' split
  all_goals simp

theorem refund_pins (scr n : Nat) (s : State) : (refund scr n s).1.pins = s.pins := by
  unfold refund
  repeat' split
  all_goals simp

theorem setSold_pins (scr a b : Nat) (s : State) : (setSold scr a b s).1.pins = s.pins := by
  unfold setSold
  repeat' split
  all_goals simp

theorem hold_pins (scr id n m : Nat) (s : State) : (hold scr id n m s).1.pins = s.pins := by
  unfold hold
  repeat' split
  all_goals simp

theorem confirm_pins (id : Nat) (s : State) : (confirm id s).1.pins = s.pins := by
  unfold confirm
  split <;> simp

theorem release_pins (id : Nat) (s : State) : (release id s).1.pins = s.pins := by
  unfold release
  split <;> simp

theorem setBands_pins (b : BandSettings) (s : State) : (setBands b s).1.pins = s.pins := by
  unfold setBands
  split <;> simp

theorem defineBoard_pins (b : Nat) (f : BoardFields) (s : State) : (defineBoard b f s).1.pins = s.pins := by
  unfold defineBoard
  repeat' split
  all_goals rfl

theorem clearBoard_pins (b : Nat) (s : State) : (clearBoard b s).1.pins = s.pins := by
  unfold clearBoard
  repeat' split
  all_goals rfl

theorem postNotice_pins (f : NoticeFields) (s : State) : (postNotice f s).1.pins = s.pins := by
  unfold postNotice
  repeat' split
  all_goals rfl

theorem withdrawNotice_pins (n : Nat) (s : State) : (withdrawNotice n s).1.pins = s.pins := by
  unfold withdrawNotice
  repeat' split
  all_goals rfl

theorem setNoticeStyle_pins (x : NoticeStyle) (s : State) : (setNoticeStyle x s).1.pins = s.pins := by
  unfold setNoticeStyle
  split <;> rfl

theorem setCarousel_pins (c m : Nat) (a b : List Coded) (s : State) : (setCarousel c m a b s).1.pins = s.pins := by
  unfold setCarousel
  repeat' split
  all_goals rfl

theorem setPeriods_pins (c : Nat) (a b x y : Option Nat) (s : State) : (setPeriods c a b x y s).1.pins = s.pins := by
  unfold setPeriods
  dsimp only
  split <;> rfl

theorem setQuiet_pins (set : List Nat) (v : Nat) (s : State) : (setQuiet set v s).1.pins = s.pins := by
  unfold setQuiet
  split <;> rfl

theorem carouselOn_pins (set : List Nat) (s : State) : (carouselOn set s).1.pins = s.pins := by
  unfold carouselOn
  split <;> rfl

theorem carouselOff_pins (set : List Nat) (s : State) : (carouselOff set s).1.pins = s.pins := by
  unfold carouselOff
  split <;> rfl

theorem setSyncGroup_pins (g l : Nat) (ms : List Nat) (s : State) : (setSyncGroup g l ms s).1.pins = s.pins := by
  unfold setSyncGroup
  repeat' split
  all_goals rfl

theorem loadImage_pins (t w h g : Nat) (s : State) : (loadImage t w h g s).1.pins = s.pins := by
  unfold loadImage
  split <;> rfl

theorem takePiece_pins (p : Port) (q : Packet) (t o : Nat) (x : List Byte) (s : State) : (takePiece p q t o x s).pins = s.pins := by
  unfold takePiece
  split <;> rfl

theorem loadTextTile_pins (t w h g : Nat) (x : List Byte) (s : State) : (loadTextTile t w h g x s).1.pins = s.pins := by
  unfold loadTextTile
  repeat' split
  all_goals rfl

theorem clearTile_pins (t : Nat) (s : State) : (clearTile t s).1.pins = s.pins := by
  unfold clearTile
  split <;> rfl

theorem loadLayout_pins (n : Nat) (f : LayoutFields) (s : State) : (loadLayout n f s).1.pins = s.pins := by
  unfold loadLayout
  repeat' split
  all_goals rfl

theorem applyLayout_pins (n : Nat) (set : List Nat) (s : State) : (applyLayout n set s).1.pins = s.pins := by
  unfold applyLayout
  repeat' split
  all_goals rfl

theorem setOverride_pins (n : Nat) (set : List Nat) (s : State) : (setOverride n set s).1.pins = s.pins := by
  unfold setOverride
  repeat' split
  all_goals rfl

theorem State.changeOutput_pins (s : State) (p : Nat) (f : Output → Output) : (s.changeOutput p f).pins = s.pins := by
  unfold State.changeOutput
  split
  · rfl
  · dsimp only
    repeat' split
    all_goals rfl

theorem State.changeOutputs_pins (s : State) (set : List Nat) (f : Output → Output) : (s.changeOutputs set f).pins = s.pins :=
  foldl_keeps _ State.pins (fun _ _ => State.changeOutput_pins ..) ..

theorem panelStandby_pins (set : List Nat) (s : State) : (panelStandby set s).1.pins = s.pins := by
  unfold panelStandby
  split
  · exact s.changeOutputs_pins ..
  · rfl

theorem wakePanels_pins (set : List Nat) (s : State) : (wakePanels set s).1.pins = s.pins := by
  unfold wakePanels
  split
  · exact s.changeOutputs_pins ..
  · rfl

theorem setBrightness_pins (n : Nat) (set : List Nat) (s : State) : (setBrightness n set s).1.pins = s.pins := by
  unfold setBrightness
  split
  · exact s.changeOutputs_pins ..
  · rfl

theorem setPanel_pins (n r o : Nat) (s : State) : (setPanel n r o s).1.pins = s.pins := by
  unfold setPanel
  split; · rfl
  split
  · exact s.changeOutput_pins ..
  · rfl


/-! ### The frame memory unit's work -/

/-- A change of one record that leaves what `g` reads of it. -/
theorem mapAll_modifyAt {α β : Type} {n : Nat} {g : α → β} {f : α → α} (h : ∀ x, g (f x) = g x) (v : Vector α n) (i : Nat) :
    mapAll g (modifyAt v i f) = mapAll g v := by
  ext k hk
  rw [mapAll_getElem, mapAll_getElem, modifyAt_getElem]
  split
  · exact h _
  · rfl

theorem mapAll_mapAll {α β γ : Type} {n : Nat} (g : β → γ) (f : α → β) (v : Vector α n) :
    mapAll g (mapAll f v) = mapAll (fun x => g (f x)) v := by
  ext k hk
  simp

theorem MemoryUnit.changeStream_stores {f : Stream → Stream} (h : ∀ x, (f x).stores = x.stores) (m : MemoryUnit) (n : Nat) :
    (m.changeStream n f).stores = m.stores := mapAll_modifyAt h ..

@[simp] theorem MemoryUnit.putChannel_stores (m : MemoryUnit) (name : ChannelName) (c : Channel) :
    (m.putChannel name c).stores = m.stores := by
  cases name <;> rfl

@[simp] theorem Stream.stopReceiving_stores (x : Stream) (id : Nat) : (x.stopReceiving id).stores = x.stores := by
  unfold Stream.stopReceiving
  split
  · rfl
  · split <;> rfl

@[simp] theorem MemoryUnit.abandonFrame_stores (m : MemoryUnit) (n id : Nat) : (m.abandonFrame n id).stores = m.stores :=
  MemoryUnit.changeStream_stores (fun x => x.stopReceiving_stores id) m n

@[simp] theorem MemoryUnit.abandonReception_stores (m : MemoryUnit) (n : Nat) : (m.abandonReception n).stores = m.stores := by
  unfold MemoryUnit.abandonReception
  split
  · rfl
  · split
    · rfl
    · exact m.abandonFrame_stores ..

theorem MemoryUnit.accept_stores (m : MemoryUnit) (g : Segment) (r : Reception) : (m.accept g r).stores = m.stores := by
  unfold MemoryUnit.accept
  split
  · exact m.abandonFrame_stores ..
  · dsimp only
    split
    · split
      · exact MemoryUnit.abandonFrame_stores ..
      · exact MemoryUnit.changeStream_stores (fun _ => by rfl) ..
    · exact MemoryUnit.changeStream_stores (fun _ => by rfl) ..

theorem MemoryUnit.testSegment_stores (m : MemoryUnit) (g : Segment) : (m.testSegment g).stores = m.stores := by
  unfold MemoryUnit.testSegment
  split; · rfl
  split; · rfl
  split
  · exact m.accept_stores ..
  · exact m.abandonFrame_stores ..

theorem MemoryUnit.takeSegment_stores (m : MemoryUnit) (g : Segment) : (m.takeSegment g).stores = m.stores := by
  unfold MemoryUnit.takeSegment
  split; · rfl
  split; · exact m.abandonReception_stores _
  split
  · rw [MemoryUnit.testSegment_stores, MemoryUnit.changeStream_stores (fun _ => by rfl), MemoryUnit.abandonReception_stores]
  · exact m.testSegment_stores g

theorem MemoryUnit.halt_stores (m : MemoryUnit) : m.halt.stores = m.stores :=
  foldl_keeps (fun (m : MemoryUnit) (w : SegmentWrite) => m.abandonFrame w.stream w.frameId) MemoryUnit.stores
    (fun _ _ => MemoryUnit.abandonFrame_stores ..) ..

theorem MemoryUnit.fault_stores (m : MemoryUnit) (u : UnitInFlight) : (m.fault u).stores = m.stores := by
  refine (MemoryUnit.halt_stores _).trans ?_
  split
  · rfl
  · split
    · exact MemoryUnit.abandonFrame_stores ..
    · rfl
    · rfl
    · rfl

theorem MemoryUnit.grantIngest_stores (m : MemoryUnit) : m.grantIngest.stores = m.stores := by
  unfold MemoryUnit.grantIngest
  split <;> rfl

theorem MemoryUnit.grant_stores (m : MemoryUnit) (name : ChannelName) : (m.grant name).stores = m.stores :=
  m.putChannel_stores ..

/-- Frame memory changes, but for the stores. -/
theorem State.withMemory_pins {s : State} {m : MemoryUnit} (h : m.stores = s.memory.stores) :
    ({ s with memory := m } : State).pins = s.pins := by
  rw [State.pins, h]
  rfl

theorem State.giveWork_pins (s : State) (name : ChannelName) (n : Nat) : (s.giveWork name n).pins = s.pins :=
  State.withMemory_pins (MemoryUnit.putChannel_stores ..)

theorem State.cancelWork_pins (s : State) (name : ChannelName) : (s.cancelWork name).pins = s.pins := by
  cases name <;> rfl

theorem State.endFaulted_pins (s : State) (name : ChannelName) : (s.endFaulted name).pins = s.pins := by
  unfold State.endFaulted
  dsimp only
  split
  · rw [State.withMemory_pins (MemoryUnit.putChannel_stores ..)]
    split
    · exact s.reportWork_pins ..
    · rfl
  · rfl

theorem State.resumeChannels_pins (s : State) : s.resumeChannels.pins = s.pins :=
  ((State.endFaulted_pins ..).trans (State.endFaulted_pins ..)).trans (s.endFaulted_pins _)

theorem State.drawStreams_pins (s : State) : s.drawStreams.pins = s.pins := by
  unfold State.drawStreams State.pins
  simp only [Option.isNone_map]

theorem State.unitDone_pins (s : State) (name : ChannelName) : (s.unitDone name).pins = s.pins := by
  unfold State.unitDone
  dsimp only
  split
  · rw [State.reportWork_pins]
    split
    · exact (State.drawStreams_pins _).trans (State.withMemory_pins (MemoryUnit.putChannel_stores ..))
    · exact State.withMemory_pins (MemoryUnit.putChannel_stores ..)
  · exact State.withMemory_pins (MemoryUnit.putChannel_stores ..)

/-! ### Events and commands -/

theorem State.routeFeed_pins (s : State) (kind tag : Nat) (body : List Byte) : (s.routeFeed kind tag body).pins = s.pins := by
  unfold State.routeFeed
  split; · rfl
  split
  · split <;> rfl
  · exact s.joinIntake_pins ..

theorem execFeedFrame_pins (frame : List Byte) (damaged : Bool) (s : State) :
    Result.Keeps (fun t => t.pins = s.pins) (execFeedFrame frame damaged s) := by
  refine .next ?_
  dsimp only
  split
  · rfl
  · split
    · exact State.routeFeed_pins ..
    · rfl

theorem State.applyDeskEvent_pins (s : State) (e : DeskEvent) : (s.applyDeskEvent e).pins = s.pins := by
  unfold State.applyDeskEvent
  split; · rfl
  · rfl
  split; · rfl
  split
  · exact s.joinIntake_pins ..
  · rfl

theorem execDeskByte_pins (b : Byte) (error : Bool) (s : State) :
    Result.Keeps (fun t => t.pins = s.pins) (execDeskByte b error s) :=
  .next (State.applyDeskEvent_pins ..)

theorem execIntakeHeadMove_pins (p : Port) (s : State) : Result.Keeps (fun t => t.pins = s.pins) (execIntakeHeadMove p s) := by
  refine .next ?_
  dsimp only
  split
  · rfl
  · split
    · split <;> rfl
    · split <;> rfl

theorem execReportSent_pins (s : State) : Result.Keeps (fun t => t.pins = s.pins) (execReportSent s) := by
  refine .next ?_
  split <;> rfl

theorem execConditionRaise_pins (b : Block) (s : State) : Result.Keeps (fun t => t.pins = s.pins) (execConditionRaise b s) := by
  refine .next ?_
  split <;> rfl

theorem execConditionEnd_pins (b : Block) (s : State) : Result.Keeps (fun t => t.pins = s.pins) (execConditionEnd b s) := by
  refine .next ?_
  split
  · unfold State.countTowardRestart
    repeat' split
    all_goals rfl
  · rfl

theorem execBeaconWatch_pins (s : State) : Result.Keeps (fun t => t.pins = s.pins) (execBeaconWatch s) := by
  refine .next ?_
  split
  · rfl
  · dsimp only
    split <;> rfl

theorem execPanelFrameSlot_pins (p : Nat) (s : State) : Result.Keeps (fun t => t.pins = s.pins) (execPanelFrameSlot p s) := by
  refine .next ?_
  split
  · rfl
  · split <;> rfl

theorem execTenthTick_pins (s : State) : Result.Keeps (fun t => t.pins = s.pins) (execTenthTick s) := by
  refine .next ?_
  split
  · rfl
  · dsimp only
    split <;> rfl

theorem execRunTimeSecond_pins (s : State) : Result.Keeps (fun t => t.pins = s.pins) (execRunTimeSecond s) := by
  refine .next ?_
  split
  · rfl
  · exact State.countWallTime_pins _

theorem execBeacon_pins (s : State) : Result.Keeps (fun t => t.pins = s.pins) (execBeacon s) := by
  refine .next ?_
  split
  · exact State.takeBeacon_pins ..
  · rfl

theorem execBeaconOverdue_pins (s : State) : Result.Keeps (fun t => t.pins = s.pins) (execBeaconOverdue s) := by
  refine .next ?_
  split
  · dsimp only
    split <;> rfl
  · rfl

theorem execScheduleMinuteEvent_pins (s : State) : Result.Keeps (fun t => t.pins = s.pins) (execScheduleMinuteEvent s) := by
  refine .next ?_
  split
  · exact State.withSchedule_pins ..
  · rfl

theorem execScheduleRollover_pins (s : State) : Result.Keeps (fun t => t.pins = s.pins) (execScheduleRollover s) := by
  refine .next ?_
  split
  · exact State.withSchedule_pins ..
  · rfl

theorem execLingerEnd_pins (s : State) : Result.Keeps (fun t => t.pins = s.pins) (execLingerEnd s) := by
  refine .next ?_
  split
  · rfl
  · exact State.withSchedule_pins ..

theorem State.takeSeatEvent_pins (s : State) (act : ScheduleEvent → Option (SeatUnit × List SeatEvent)) :
    (s.takeSeatEvent act).pins = s.pins := by
  unfold State.takeSeatEvent
  split; · rfl
  split
  · rfl
  · exact State.withSeat_pins ..

theorem execHoldExpiry_pins (s : State) : Result.Keeps (fun t => t.pins = s.pins) (execHoldExpiry s) := by
  refine .next ?_
  split
  · rfl
  · exact State.withSeat_pins ..

theorem State.takeBuilderClock_pins (s : State) (act : BuilderEvent → Option (BuilderUnit × List TileRequest)) :
    (s.takeBuilderClock act).pins = s.pins := by
  unfold State.takeBuilderClock
  repeat' split
  all_goals rfl

theorem State.takeBuilderSchedule_pins (s : State) (act : ScheduleEvent → Option (BuilderUnit × List TileRequest)) :
    (s.takeBuilderSchedule act).pins = s.pins := by
  unfold State.takeBuilderSchedule
  repeat' split
  all_goals rfl

theorem State.withBuilder_pins (s : State) (x : BuilderUnit × List TileRequest) : (s.withBuilder x).pins = s.pins := rfl

theorem State.withNotice_pins (s : State) (x : NoticeUnit × List TileRequest) : (s.withNotice x).pins = s.pins := rfl

theorem execFigureChanged_pins (s : State) : Result.Keeps (fun t => t.pins = s.pins) (execFigureChanged s) := by
  refine .next ?_
  split
  · rfl
  · split <;> rfl

theorem execBoardRestart_pins (s : State) : Result.Keeps (fun t => t.pins = s.pins) (execBoardRestart s) := by
  refine .next ?_
  split
  · rfl
  · exact State.withBuilder_pins ..

theorem State.takeNoticeEvent_pins (s : State) (act : ScheduleEvent → Option (NoticeUnit × List TileRequest)) :
    (s.takeNoticeEvent act).pins = s.pins := by
  unfold State.takeNoticeEvent
  repeat' split
  all_goals rfl

theorem execNoticeExpiry_pins (s : State) : Result.Keeps (fun t => t.pins = s.pins) (execNoticeExpiry s) := by
  refine .next ?_
  split
  · rfl
  · split <;> rfl

theorem execNoticeRestart_pins (s : State) : Result.Keeps (fun t => t.pins = s.pins) (execNoticeRestart s) := by
  refine .next ?_
  split
  · rfl
  · exact State.withNotice_pins ..

theorem execCarouselTenthTick_pins (s : State) : Result.Keeps (fun t => t.pins = s.pins) (execCarouselTenthTick s) := by
  refine .next ?_
  split <;> rfl

theorem execCueQuiet_pins (s : State) : Result.Keeps (fun t => t.pins = s.pins) (execCueQuiet s) := by
  refine .next ?_
  split
  · rfl
  · split
    · exact setQuiet_pins ..
    · rfl

theorem State.takeTileRequest_pins (s : State) (b : Block) (act : TileRequest → Option RenderUnit) :
    (s.takeTileRequest b act).pins = s.pins := by
  unfold State.takeTileRequest
  repeat' split
  all_goals rfl

theorem execPieceWriteStart_pins (s : State) : Result.Keeps (fun t => t.pins = s.pins) (execPieceWriteStart s) := by
  refine .next ?_
  split
  · exact State.giveWork_pins ..
  · rfl

theorem execPieceWriteComplete_pins (s : State) : Result.Keeps (fun t => t.pins = s.pins) (execPieceWriteComplete s) := by
  refine .next ?_
  split <;> rfl

theorem execPieceWriteEnded_pins (s : State) : Result.Keeps (fun t => t.pins = s.pins) (execPieceWriteEnded s) := by
  refine .next ?_
  split <;> rfl

theorem execRenderJobStart_pins (s : State) : Result.Keeps (fun t => t.pins = s.pins) (execRenderJobStart s) := by
  refine .next ?_
  split
  · split
    · split
      · exact State.giveWork_pins ..
      · rfl
    · rfl
  · rfl

theorem execRenderJobComplete_pins (s : State) : Result.Keeps (fun t => t.pins = s.pins) (execRenderJobComplete s) := by
  refine .next ?_
  split <;> rfl

theorem execRenderJobAbandon_pins (s : State) : Result.Keeps (fun t => t.pins = s.pins) (execRenderJobAbandon s) := by
  refine .next ?_
  split <;> rfl

theorem execRenderRestart_pins (s : State) : Result.Keeps (fun t => t.pins = s.pins) (execRenderRestart s) := by
  refine .next ?_
  split
  · rfl
  · unfold State.cancelRender
    dsimp only
    split <;> rfl

theorem execCueApplyLayout_pins (s : State) : Result.Keeps (fun t => t.pins = s.pins) (execCueApplyLayout s) := by
  refine .next ?_
  split
  · rfl
  · exact applyLayout_pins ..

theorem State.takePanelEvent_pins {act : PanelEvent → Option (State → State)} {s : State}
    (h : ∀ e f, act e = some f → ∀ t, (f t).pins = t.pins) : (s.takePanelEvent act).pins = s.pins := by
  unfold State.takePanelEvent
  split; · rfl
  split
  · rfl
  · exact h _ _ ‹_› _

theorem State.frameSlot_pins (s : State) (p : Nat) : (s.frameSlot p).pins = s.pins := by
  unfold State.frameSlot State.requestFrame
  repeat' split
  all_goals rfl

theorem execPanelLive_pins (s : State) : Result.Keeps (fun t => t.pins = s.pins) (execPanelLive s) := by
  refine .next (State.takePanelEvent_pins fun e f hf t => ?_)
  split at hf
  · cases hf; rfl
  · cases hf

theorem execPanelStandbyEvent_pins (s : State) : Result.Keeps (fun t => t.pins = s.pins) (execPanelStandbyEvent s) := by
  refine .next (State.takePanelEvent_pins fun e f hf t => ?_)
  split at hf
  · cases hf; rfl
  · cases hf

theorem execPanelDark_pins (s : State) : Result.Keeps (fun t => t.pins = s.pins) (execPanelDark s) := by
  refine .next (State.takePanelEvent_pins fun e f hf t => ?_)
  split at hf
  · cases hf; rfl
  · cases hf

theorem execFrameSlot_pins (s : State) : Result.Keeps (fun t => t.pins = s.pins) (execFrameSlot s) := by
  refine .next (State.takePanelEvent_pins fun e f hf t => ?_)
  split at hf
  · cases hf; exact t.frameSlot_pins _
  · cases hf

theorem execSegment_pins (s : State) : Result.Keeps (fun t => t.pins = s.pins) (execSegment s) := by
  refine .next ?_
  split
  · rfl
  · dsimp only
    split
    · rfl
    · exact State.withMemory_pins (MemoryUnit.takeSegment_stores ..)

theorem execUnitGrant_pins (s : State) : Result.Keeps (fun t => t.pins = s.pins) (execUnitGrant s) := by
  refine .next ?_
  split; · rfl
  split; · exact State.withMemory_pins (MemoryUnit.grantIngest_stores _)
  split
  · split
    · rfl
    · exact State.withMemory_pins (MemoryUnit.grant_stores ..)
  · split
    · exact State.withMemory_pins (MemoryUnit.grant_stores ..)
    · rfl

theorem execUnitFault_pins (s : State) : Result.Keeps (fun t => t.pins = s.pins) (execUnitFault s) := by
  refine .next ?_
  split
  · rfl
  · exact State.withMemory_pins (MemoryUnit.fault_stores ..)

theorem execResume_pins (s : State) : Result.Keeps (fun t => t.pins = s.pins) (execResume s) := by
  refine .next ?_
  split
  · exact State.resumeChannels_pins _
  · rfl

theorem execStreamWatch_pins (s : State) : Result.Keeps (fun t => t.pins = s.pins) (execStreamWatch s) := by
  refine .next ?_
  split
  · rfl
  · refine (foldl_keeps (fun s _ => s.sendCondition .memory (.raise .streamLost)) State.pins (fun _ _ => rfl) ..).trans ?_
    refine State.withMemory_pins ((mapAll_mapAll ..).trans ?_)
    refine congrArg (mapAll · _) (funext fun x => ?_)
    split <;> rfl

theorem State.takeOutputCue_pins {act : OutputCue → Option (State → State × Reply)} {s : State}
    (h : ∀ e f, act e = some f → ∀ t, (f t).1.pins = t.pins) : (s.takeOutputCue act).pins = s.pins := by
  unfold State.takeOutputCue
  split; · rfl
  split
  · rfl
  · exact h _ _ ‹_› _

theorem execCueStandby_pins (s : State) : Result.Keeps (fun t => t.pins = s.pins) (execCueStandby s) := by
  refine .next (State.takeOutputCue_pins fun e f hf t => ?_)
  split at hf
  · cases hf; exact panelStandby_pins ..
  · cases hf

theorem execCueWake_pins (s : State) : Result.Keeps (fun t => t.pins = s.pins) (execCueWake s) := by
  refine .next (State.takeOutputCue_pins fun e f hf t => ?_)
  split at hf
  · cases hf; exact wakePanels_pins ..
  · cases hf

theorem execCueBrightness_pins (s : State) : Result.Keeps (fun t => t.pins = s.pins) (execCueBrightness s) := by
  refine .next (State.takeOutputCue_pins fun e f hf t => ?_)
  split at hf
  · cases hf; exact setBrightness_pins ..
  · cases hf

theorem execBacklightStep_pins (s : State) : Result.Keeps (fun t => t.pins = s.pins) (execBacklightStep s) := by
  refine .next ?_
  split <;> rfl

theorem execPanelOutputRestart_pins (s : State) : Result.Keeps (fun t => t.pins = s.pins) (execPanelOutputRestart s) := by
  refine .next ?_
  split <;> rfl

/-! ### Every command -/

end Sys2Proof.Machine

namespace Sys2Proof

open Machine

/-- The commands that may change what the pins rest on: full resets, the stages of a compose job, pins and releases, completed
transfer units, and the frame memory's restart. -/
def Instr.movesPins : Instr → Bool
  | .answerSent _ | .fullReset | .composeJobStart | .composeJobComplete | .composeJobAbandon | .composerRestart
  | .pinRequest | .pinRelease | .transferUnitComplete | .frameMemoryRestart => true
  | _ => false

namespace Machine

theorem pins_of_act {α : Type} {u : Block} {p : Port} {select : Directive → Option α} {act : α → State → State × Reply}
    {s : State} {r : Result} (hr : r = .next (s.takeAndAnswer u p select act)) (h : ∀ a t, (act a t).1.pins = t.pins) :
    Result.Keeps (fun t => t.pins = s.pins) r :=
  hr ▸ .next (State.takeAndAnswer_pins h s)

/-- A directive's command leaves what the pins rest on. -/
theorem exec_pins_of_takes {i : Instr} {p : Port} {accepts : Directive → Bool} (ht : i.takes = some (p, accepts))
    (hq : i.queryKind = none) (s : State) : Result.Keeps (fun t => t.pins = s.pins) (exec i s) := by
  cases i with
  | grant => cases ht; exact pins_of_act rfl fun _ _ => grantOwner_pins ..
  | setReports => cases ht; exact pins_of_act rfl fun _ _ => setReportEnables_pins ..
  | acknowledge => cases ht; exact pins_of_act rfl fun _ _ => acknowledgeConditions_pins ..
  | reset => cases ht; exact pins_of_act rfl fun _ _ => State.arrangeReset_pins _
  | setClock => cases ht; exact pins_of_act rfl fun _ _ => setClock_pins ..
  | setHouse => cases ht; exact pins_of_act rfl fun _ _ => setHouse_pins ..
  | setCue => cases ht; exact pins_of_act rfl fun _ _ => setCue_pins ..
  | clearCue => cases ht; exact pins_of_act rfl fun _ _ => clearCue_pins ..
  | loadTitle => cases ht; exact pins_of_act rfl fun _ _ => loadTitle_pins ..
  | loadScreening => cases ht; exact pins_of_act rfl fun _ _ => loadScreening_pins ..
  | amendScreening => cases ht; exact pins_of_act rfl fun _ _ => amendScreening_pins ..
  | cancelScreening => cases ht; exact pins_of_act rfl fun _ _ => cancelScreening_pins ..
  | dropScreening => cases ht; exact pins_of_act rfl fun _ _ => dropScreening_pins ..
  | setPhaseTimes => cases ht; exact pins_of_act rfl fun _ _ => setPhaseTimes_pins ..
  | sell => cases ht; exact pins_of_act rfl fun _ _ => sell_pins ..
  | refund => cases ht; exact pins_of_act rfl fun _ _ => refund_pins ..
  | setSold => cases ht; exact pins_of_act rfl fun _ _ => setSold_pins ..
  | hold => cases ht; exact pins_of_act rfl fun _ _ => hold_pins ..
  | confirm => cases ht; exact pins_of_act rfl fun _ _ => confirm_pins ..
  | release => cases ht; exact pins_of_act rfl fun _ _ => release_pins ..
  | setBands => cases ht; exact pins_of_act rfl fun _ _ => setBands_pins ..
  | defineBoard => cases ht; exact pins_of_act rfl fun _ _ => defineBoard_pins ..
  | clearBoard => cases ht; exact pins_of_act rfl fun _ _ => clearBoard_pins ..
  | postNotice => cases ht; exact pins_of_act rfl fun _ _ => postNotice_pins ..
  | withdrawNotice => cases ht; exact pins_of_act rfl fun _ _ => withdrawNotice_pins ..
  | setNoticeStyle => cases ht; exact pins_of_act rfl fun _ _ => setNoticeStyle_pins ..
  | setCarousel => cases ht; exact pins_of_act rfl fun _ _ => setCarousel_pins ..
  | setPeriods => cases ht; exact pins_of_act rfl fun _ _ => setPeriods_pins ..
  | setQuiet => cases ht; exact pins_of_act rfl fun _ _ => setQuiet_pins ..
  | carouselOn => cases ht; exact pins_of_act rfl fun _ _ => carouselOn_pins ..
  | carouselOff => cases ht; exact pins_of_act rfl fun _ _ => carouselOff_pins ..
  | setSyncGroup => cases ht; exact pins_of_act rfl fun _ _ => setSyncGroup_pins ..
  | loadImage => cases ht; exact pins_of_act rfl fun _ _ => loadImage_pins ..
  | loadTextTile => cases ht; exact pins_of_act rfl fun _ _ => loadTextTile_pins ..
  | clearTile => cases ht; exact pins_of_act rfl fun _ _ => clearTile_pins ..
  | loadLayout => cases ht; exact pins_of_act rfl fun _ _ => loadLayout_pins ..
  | applyLayout => cases ht; exact pins_of_act rfl fun _ _ => applyLayout_pins ..
  | setOverride => cases ht; exact pins_of_act rfl fun _ _ => setOverride_pins ..
  | panelStandby => cases ht; exact pins_of_act rfl fun _ _ => panelStandby_pins ..
  | wake => cases ht; exact pins_of_act rfl fun _ _ => wakePanels_pins ..
  | setBrightness => cases ht; exact pins_of_act rfl fun _ _ => setBrightness_pins ..
  | setPanel => cases ht; exact pins_of_act rfl fun _ _ => setPanel_pins ..
  | imagePiece => exact .next (State.take_pins (fun _ _ _ => takePiece_pins ..) s)
  | displayRestart => exact .next (State.take_pins (fun _ _ _ => State.arrangeRestart_pins ..) s)
  | _ => cases hq <;> cases ht

/-- No other command than those named changes what the pins rest on. -/
theorem exec_pins {i : Instr} (hi : i.movesPins = false) (s : State) : Result.Keeps (fun t => t.pins = s.pins) (exec i s) := by
  cases ht : i.takes with
  | some x =>
    cases hk : i.queryKind with
    | some kind =>
      rw [exec_eq_takeQuery ht hk]
      exact   .next (State.takeAndAnswer_pins (fun _ _ => rfl) s)
    | none => exact exec_pins_of_takes ht hk s
  | none =>
    cases i with
    | feedFrame => exact execFeedFrame_pins _ _ _
    | deskByte => exact execDeskByte_pins _ _ _
    | intakeHeadMove => exact execIntakeHeadMove_pins _ _
    | reportSent => exact execReportSent_pins _
    | conditionRaise => exact execConditionRaise_pins _ _
    | conditionEnd => exact execConditionEnd_pins _ _
    | beaconWatch => exact execBeaconWatch_pins _
    | panelFrameSlot => exact execPanelFrameSlot_pins _ _
    | tenthTick => exact execTenthTick_pins _
    | runTimeSecond => exact execRunTimeSecond_pins _
    | beacon => exact execBeacon_pins _
    | beaconOverdue => exact execBeaconOverdue_pins _
    | scheduleMinuteEvent => exact execScheduleMinuteEvent_pins _
    | scheduleRollover => exact execScheduleRollover_pins _
    | lingerEnd => exact execLingerEnd_pins _
    | holdExpiry => exact execHoldExpiry_pins _
    | figureChanged => exact execFigureChanged_pins _
    | boardRestart => exact execBoardRestart_pins _
    | noticeExpiry => exact execNoticeExpiry_pins _
    | noticeRestart => exact execNoticeRestart_pins _
    | carouselTenthTick => exact execCarouselTenthTick_pins _
    | cueQuiet => exact execCueQuiet_pins _
    | pieceWriteStart => exact execPieceWriteStart_pins _
    | pieceWriteComplete => exact execPieceWriteComplete_pins _
    | pieceWriteEnded => exact execPieceWriteEnded_pins _
    | renderJobStart => exact execRenderJobStart_pins _
    | renderJobComplete => exact execRenderJobComplete_pins _
    | renderJobAbandon => exact execRenderJobAbandon_pins _
    | renderRestart => exact execRenderRestart_pins _
    | cueApplyLayout => exact execCueApplyLayout_pins _
    | panelLive => exact execPanelLive_pins _
    | panelStandbyEvent => exact execPanelStandbyEvent_pins _
    | panelDark => exact execPanelDark_pins _
    | frameSlot => exact execFrameSlot_pins _
    | segment => exact execSegment_pins _
    | unitGrant => exact execUnitGrant_pins _
    | unitFault => exact execUnitFault_pins _
    | resume => exact execResume_pins _
    | streamWatch => exact execStreamWatch_pins _
    | cueStandby => exact execCueStandby_pins _
    | cueWake => exact execCueWake_pins _
    | cueBrightness => exact execCueBrightness_pins _
    | backlightStep => exact execBacklightStep_pins _
    | panelOutputRestart => exact execPanelOutputRestart_pins _
    | linkUp => exact .next (State.changeOutput_pins ..)
    | linkDown => exact .next (State.changeOutput_pins ..)
    | screeningAdded => exact .next (State.takeSeatEvent_pins ..)
    | capacityChanged => exact .next (State.takeSeatEvent_pins ..)
    | seatPhaseChanged => exact .next (State.takeSeatEvent_pins ..)
    | seatScreeningRemoved => exact .next (State.takeSeatEvent_pins ..)
    | builderPhaseChanged => exact .next (State.takeBuilderSchedule_pins ..)
    | builderScreeningRemoved => exact .next (State.takeBuilderSchedule_pins ..)
    | screeningChanged => exact .next (State.takeBuilderSchedule_pins ..)
    | titleChanged => exact .next (State.takeBuilderSchedule_pins ..)
    | builderRollover => exact .next (State.takeBuilderClock_pins ..)
    | builderMinuteEvent => exact .next (State.takeBuilderClock_pins ..)
    | hourFormatChanged => exact .next (State.takeBuilderClock_pins ..)
    | builderTenthTick => exact .next (State.takeBuilderClock_pins ..)
    | noticePhaseChanged => exact .next (State.takeNoticeEvent_pins ..)
    | noticeScreeningRemoved => exact .next (State.takeNoticeEvent_pins ..)
    | redrawRequest => exact .next (State.takeTileRequest_pins ..)
    | sizeRequest => exact .next (State.takeTileRequest_pins ..)
    | emptyTile => exact .next (State.takeTileRequest_pins ..)
    | pageDwellExpiry => exact .next (State.withBuilder_pins ..)
    | urgentDwellExpiry => exact .next rfl
    | markEnd => exact .next rfl
    | cycleEnd => exact .next rfl
    | _ => cases hi <;> cases ht

end Machine

end Sys2Proof
end

section
/-! SUPPORT. The stores of a stream (R170, R171): what pinning, releasing, writing and turning make of them, and that each keeps
their roles. -/

namespace Sys2Proof.Machine

open Sys2Proof

/-! ### Counting stores -/

theorem toList_eq_map_finRange {α : Type} {n : Nat} (v : Vector α n) : v.toList = (List.finRange n).map (v[·]) := by
  refine List.ext_getElem (by simp) fun i h _ => ?_
  simp

theorem length_filter_toList {α : Type} {n : Nat} (v : Vector α n) (p : α → Bool) :
    (v.toList.filter p).length = ((List.finRange n).filter fun i => p v[i]).length := by
  rw [toList_eq_map_finRange, List.filter_map, List.length_map]
  rfl

theorem exactlyOne_of_three : ∀ q : Fin 3 → Bool,
    ((List.finRange 3).filter q).length = 1 ↔ ∃ i, ∀ j, q j = true ↔ j = i := by
  decide

theorem atMostOne_of_three : ∀ q : Fin 3 → Bool,
    ((List.finRange 3).filter q).length ≤ 1 ↔ ∀ i j, q i = true → q j = true → i = j := by
  decide

/-! ### The roles -/

/-- R170, R171: the roles and pins of a stream's three stores, store by store. -/
structure StoreRoles (v : Vector Store 3) : Prop where
  receiving : ∃ i : Fin 3, ∀ j : Fin 3, v[j].role = .receiving ↔ j = i
  latest : ∀ i j : Fin 3, v[i].role = .latest → v[j].role = .latest → i = j
  pinned : ∀ i j : Fin 3, v[i].pinned = true → v[j].pinned = true → i = j
  role_of_pinned : ∀ i : Fin 3, v[i].pinned = true → v[i].role = .latest ∨ v[i].role = .held
  pinned_of_held : ∀ i : Fin 3, v[i].role = .held → v[i].pinned = true

theorem Stream.storesSound_iff (x : Stream) : x.StoresSound ↔ StoreRoles x.stores := by
  unfold Stream.StoresSound
  rw [length_filter_toList, length_filter_toList, length_filter_toList, exactlyOne_of_three, atMostOne_of_three,
    atMostOne_of_three, forall_mem_toList_iff]
  simp only [decide_eq_true_eq]
  constructor
  · rintro ⟨hreceiving, hlatest, hpinned, heach⟩
    exact ⟨hreceiving, hlatest, hpinned, fun i => (heach i i.isLt).1, fun i => (heach i i.isLt).2⟩
  · rintro ⟨hreceiving, hlatest, hpinned, hrole, hheld⟩
    exact ⟨hreceiving, hlatest, hpinned, fun k hk => ⟨hrole ⟨k, hk⟩, hheld ⟨k, hk⟩⟩⟩

theorem mapAll_getElem_fin {α β : Type} {n : Nat} (f : α → β) (v : Vector α n) (k : Fin n) : (mapAll f v)[k] = f v[k] :=
  mapAll_getElem f v k k.isLt

/-- The stores change but for their roles and pins. -/
theorem StoreRoles.congr {v u : Vector Store 3} (h : StoreRoles v) (hrole : ∀ i : Fin 3, u[i].role = v[i].role)
    (hpinned : ∀ i : Fin 3, u[i].pinned = v[i].pinned) : StoreRoles u := by
  obtain ⟨hone, hlatest, hpin, hof, hheld⟩ := h
  constructor
  all_goals simpa only [hrole, hpinned]

/-! ### Pins (R171) -/

theorem Store.pin_eq (y : Store) : y.pin = { y with pinned := y.pinned || decide (y.role = .latest) } := by
  unfold Store.pin
  split <;> simp_all

theorem Store.release_eq (y : Store) :
    y.release = { y with pinned := false, role := if y.role = .held then .free else y.role } := rfl

/-- A job pins the LATEST store of a stream that has no pinned store. -/
theorem StoreRoles.pin {v : Vector Store 3} (h : StoreRoles v) (hnone : ∀ i : Fin 3, v[i].pinned = false) :
    StoreRoles (mapAll Store.pin v) := by
  obtain ⟨hone, hlatest, -, -, hheld⟩ := h
  have hrole (i : Fin 3) : (mapAll Store.pin v)[i].role = v[i].role := by rw [mapAll_getElem_fin, Store.pin_eq]
  have hpinned (i : Fin 3) : (mapAll Store.pin v)[i].pinned = true ↔ v[i].role = .latest := by
    rw [mapAll_getElem_fin, Store.pin_eq, hnone]
    simp
  constructor
  · simpa only [hrole]
  · simpa only [hrole]
  · simpa only [hpinned]
  · intro i hi
    rw [hrole]
    exact .inl ((hpinned i).mp hi)
  · intro i hi
    rw [hrole] at hi
    exact nomatch (hnone i).symm.trans (hheld i hi)

theorem StoreRoles.release {v : Vector Store 3} (h : StoreRoles v) : StoreRoles (mapAll Store.release v) := by
  obtain ⟨⟨i, hi⟩, hlatest, -, -, -⟩ := h
  have hrole (j : Fin 3) : (mapAll Store.release v)[j].role = if v[j].role = .held then .free else v[j].role := by
    rw [mapAll_getElem_fin, Store.release_eq]
  have hpinned (j : Fin 3) : (mapAll Store.release v)[j].pinned = false := by rw [mapAll_getElem_fin, Store.release_eq]
  have hsame (r : StoreRole) (hf : r ≠ .free) (hh : r ≠ .held) (j : Fin 3) :
      (mapAll Store.release v)[j].role = r ↔ v[j].role = r := by
    rw [hrole]
    split <;> grind
  constructor
  · exact ⟨i, fun j => (hsame _ (by decide) (by decide) j).trans (hi j)⟩
  · intro j k
    rw [hsame _ (by decide) (by decide), hsame _ (by decide) (by decide)]
    exact hlatest j k
  · intro j k hj
    exact nomatch (hpinned j).symm.trans hj
  · intro j hj
    exact nomatch (hpinned j).symm.trans hj
  · intro j hj
    rw [hrole] at hj
    split at hj <;> grind

/-! ### A frame completes (R170) -/

theorem Store.write_eq (y : Store) (w : SegmentWrite) : y.write w = { y with
    data := if y.role = .receiving then (if w.first then w.data else y.data ++ w.data) else y.data } := by
  unfold Store.write
  split <;> rfl

/-- R170: the role of a store after the completion of a frame, before a FREE store becomes RECEIVING. -/
def Store.turnedRole (y : Store) : StoreRole :=
  match y.role with
  | .receiving => .latest
  | .latest => if y.pinned then .held else .free
  | .free => .free
  | .held => .held

theorem Store.turn_role (y : Store) (w : SegmentWrite) : (y.turn w).role = y.turnedRole := by
  unfold Store.turn Store.turnedRole
  cases hr : y.role <;> simp [hr]

theorem Store.turn_pinned (y : Store) (w : SegmentWrite) : (y.turn w).pinned = y.pinned := by
  unfold Store.turn
  cases y.role <;> rfl

/-- R170 step 3: a FREE store is taken where there is one. -/
theorem freeStore_spec (v : Vector Store 3) (choice : Bool) :
    (∃ i : Fin 3, freeStore v choice = some i.val ∧ v[i].role = .free)
      ∨ freeStore v choice = none ∧ ∀ i : Fin 3, v[i].role ≠ .free := by
  unfold freeStore
  generalize hl : List.filter _ (List.range 3) = free
  have hmem (k : Nat) : k ∈ free ↔ ∃ i : Fin 3, i.val = k ∧ v[i].role = .free := by
    rw [← hl, List.mem_filter, List.mem_range]
    constructor
    · rintro ⟨hk, hf⟩
      rw [Vector.getElem?_eq_getElem hk] at hf
      exact ⟨⟨k, hk⟩, rfl, of_decide_eq_true hf⟩
    · rintro ⟨i, rfl, hf⟩
      rw [Vector.getElem?_eq_getElem i.isLt]
      exact ⟨i.isLt, decide_eq_true hf⟩
  split
  · exact .inr ⟨rfl, fun i hf => nomatch (hmem i).mpr ⟨i, rfl, hf⟩⟩
  · rename_i k
    obtain ⟨i, rfl, hf⟩ := (hmem k).mp (by simp)
    exact .inl ⟨i, rfl, hf⟩
  · rename_i k l _
    obtain ⟨i, hi, hf⟩ := (hmem (if choice then k else l)).mp (by split <;> simp)
    exact .inl ⟨i, congrArg some hi.symm, hf⟩

/-- R170: the stores at the completion of a frame: each turns its role, and then a FREE one becomes RECEIVING. -/
theorem turnStores_spec (v : Vector Store 3) (w : SegmentWrite) (choice : Bool) :
    (∃ k : Fin 3, v[k].turnedRole = .free ∧ turnStores v w choice
        = put (mapAll (fun y : Store => y.turn w) v) k { v[k].turn w with role := .receiving })
      ∨ (∀ i : Fin 3, v[i].turnedRole ≠ .free) ∧ turnStores v w choice = mapAll (fun y => y.turn w) v := by
  have hrole (i : Fin 3) : (mapAll (fun y : Store => y.turn w) v)[i].role = v[i].turnedRole := by
    rw [mapAll_getElem_fin, Store.turn_role]
  unfold turnStores
  dsimp only
  obtain ⟨k, hk, hf⟩ | ⟨hn, hf⟩ := freeStore_spec (mapAll (fun y => y.turn w) v) choice
  · rw [hk]
    refine .inl ⟨k, (hrole k).symm.trans hf, ?_⟩
    dsimp only
    rw [modifyAt_eq_put, mapAll_getElem_fin]
  · rw [hn]
    exact .inr ⟨fun i hi => hf i ((hrole i).trans hi), rfl⟩

theorem Store.turnedRole_eq_latest_iff (y : Store) : y.turnedRole = .latest ↔ y.role = .receiving := by
  unfold Store.turnedRole
  cases y.role <;> grind

section Turned
variable {v : Vector Store 3} (h : StoreRoles v)
include h

theorem StoreRoles.turnedRole_eq_held_iff (i : Fin 3) : v[i].turnedRole = .held ↔ v[i].pinned = true := by
  have hof := h.role_of_pinned i
  have hheld := h.pinned_of_held i
  unfold Store.turnedRole
  cases hr : v[i].role <;> grind

/-- R170: of the two stores that are not RECEIVING, the one that is not pinned is or becomes FREE. -/
theorem StoreRoles.exists_turnedRole_free : ∃ k : Fin 3, v[k].turnedRole = .free := by
  obtain ⟨i, hi⟩ := h.receiving
  have hothers : ∀ i : Fin 3, ∃ j k : Fin 3, j ≠ i ∧ k ≠ i ∧ j ≠ k := by decide
  obtain ⟨j, k, hj, hk, hne⟩ := hothers i
  have hfree (n : Fin 3) (hn : n ≠ i) (hp : ¬v[n].pinned = true) : v[n].turnedRole = .free := by
    have hl := mt v[n].turnedRole_eq_latest_iff.mp (mt (hi n).mp hn)
    have hh := mt (h.turnedRole_eq_held_iff n).mp hp
    unfold Store.turnedRole at hl hh ⊢
    cases hr : v[n].role <;> grind
  by_cases hp : v[j].pinned = true
  · exact ⟨k, hfree k hk fun hp' => hne (h.pinned j k hp hp')⟩
  · exact ⟨j, hfree j hj hp⟩

/-- R170: the completion of a frame keeps the roles. -/
theorem StoreRoles.turn (w : SegmentWrite) (choice : Bool) : StoreRoles (turnStores v w choice) := by
  obtain ⟨k, hk, he⟩ | ⟨hnone, -⟩ := turnStores_spec v w choice
  · obtain ⟨i, hi⟩ := h.receiving
    have hget (j : Fin 3) : (turnStores v w choice)[j]
        = if j = k then { v[k].turn w with role := .receiving } else v[j].turn w := by
      rw [he, put_getElem, mapAll_getElem_fin]
    have hrole (j : Fin 3) : (turnStores v w choice)[j].role = if j = k then .receiving else v[j].turnedRole := by
      rw [hget]
      split
      · rfl
      · exact Store.turn_role ..
    have hpinned (j : Fin 3) : (turnStores v w choice)[j].pinned = v[j].pinned := by
      rw [hget]
      split
      · subst j; exact Store.turn_pinned ..
      · exact Store.turn_pinned ..
    have hlatest (j : Fin 3) : (turnStores v w choice)[j].role = .latest → j = i := by
      rw [hrole]
      split
      · exact nofun
      · exact fun hl => (hi j).mp (v[j].turnedRole_eq_latest_iff.mp hl)
    have hheld (j : Fin 3) : (turnStores v w choice)[j].role = .held ↔ v[j].pinned = true := by
      rw [hrole, ← h.turnedRole_eq_held_iff]
      split
      · subst j
        rw [hk]
        exact iff_of_false nofun nofun
      · rfl
    constructor
    · refine ⟨k, fun j => ?_⟩
      rw [hrole]
      unfold Store.turnedRole
      grind
    · intro a b ha hb
      rw [hlatest a ha, hlatest b hb]
    · simpa only [hpinned] using h.pinned
    · intro j hj
      exact .inr ((hheld j).mpr (hpinned j ▸ hj))
    · intro j hj
      exact (hpinned j).trans ((hheld j).mp hj)
  · obtain ⟨k, hk⟩ := h.exists_turnedRole_free
    exact absurd hk (hnone k)

end Turned

theorem Stream.written_of_last {w : SegmentWrite} (hw : w.last = true) (x : Stream) (runTime : Nat) (choice : Bool) :
    x.written w runTime choice = { x with
      stores := turnStores (mapAll (fun y => y.write w) x.stores) w choice, lastFrame := runTime, lost := false } := by
  unfold Stream.written
  exact if_pos hw

theorem Stream.written_of_notLast {w : SegmentWrite} (hw : w.last = false) (x : Stream) (runTime : Nat) (choice : Bool) :
    x.written w runTime choice = { x with stores := mapAll (fun y => y.write w) x.stores } := by
  unfold Stream.written
  exact if_neg (hw ▸ Bool.false_ne_true)

theorem StoreRoles.write {v : Vector Store 3} (h : StoreRoles v) (w : SegmentWrite) : StoreRoles (mapAll (fun y => y.write w) v) :=
  h.congr (fun i => by rw [mapAll_getElem_fin, Store.write_eq]) (fun i => by rw [mapAll_getElem_fin, Store.write_eq])

end Sys2Proof.Machine
end

section
/-! SUPPORT. Settles O56: the stores keep their roles, and one job's pins are released before the next job's are asked for (R170,
R171). -/

namespace Sys2Proof.Machine

open Sys2Proof

/-! ### Pinned streams -/

theorem MemoryUnit.stores_getElem (m : MemoryUnit) (k : Nat) (hk : k < 4) : m.stores[k] = m.streams[k].stores :=
  mapAll_getElem ..

theorem MemoryUnit.mem_pinnedStreams_iff (m : MemoryUnit) (n : Nat) :
    n ∈ m.pinnedStreams ↔ ∃ h : n < 4, ∃ i : Fin 3, m.stores[n][i].pinned = true := by
  rw [MemoryUnit.pinnedStreams, List.mem_filter, List.mem_range]
  refine ⟨fun ⟨h, hs⟩ => ⟨h, ?_⟩, fun ⟨h, i, hi⟩ => ⟨h, ?_⟩⟩
  · rw [MemoryUnit.pinnedStore, Vector.getElem?_eq_getElem h, List.find?_isSome, ← m.stores_getElem n h] at hs
    obtain ⟨y, hy, hp⟩ := hs
    obtain ⟨k, hk, rfl⟩ := List.getElem_of_mem hy
    exact ⟨⟨k, by simpa using hk⟩, hp⟩
  · rw [MemoryUnit.pinnedStore, Vector.getElem?_eq_getElem h, List.find?_isSome, ← m.stores_getElem n h]
    exact ⟨_, by simp, hi⟩

/-- Pins that are found in one frame memory are found in another. -/
theorem MemoryUnit.pinnedStreams_subset {m n : MemoryUnit}
    (h : ∀ (k : Nat) (hk : k < 4) (i : Fin 3), n.stores[k][i].pinned = true → ∃ j : Fin 3, m.stores[k][j].pinned = true) :
    n.pinnedStreams ⊆ m.pinnedStreams := by
  intro k hk
  obtain ⟨hk, i, hi⟩ := (n.mem_pinnedStreams_iff k).mp hk
  exact (m.mem_pinnedStreams_iff k).mpr ⟨hk, h k hk i hi⟩

theorem MemoryUnit.pinnedStreams_of_stores {m n : MemoryUnit} (h : n.stores = m.stores) : n.pinnedStreams = m.pinnedStreams := by
  unfold MemoryUnit.pinnedStreams
  refine List.filter_congr fun k hk => Bool.eq_iff_iff.mpr ?_
  have hk := List.mem_range.mp hk
  rw [MemoryUnit.pinnedStore, MemoryUnit.pinnedStore, Vector.getElem?_eq_getElem hk, Vector.getElem?_eq_getElem hk]
  dsimp only
  rw [← m.stores_getElem, ← n.stores_getElem, h]

/-- R171: the stores of every stream keep their roles. -/
def MemoryUnit.RolesSound (m : MemoryUnit) : Prop := ∀ (k : Nat) (h : k < 4), StoreRoles m.stores[k]

theorem MemoryUnit.rolesSound_iff (m : MemoryUnit) : m.RolesSound ↔ ∀ x ∈ m.streams.toList, x.StoresSound := by
  rw [forall_mem_toList_iff]
  simp only [MemoryUnit.RolesSound, Stream.storesSound_iff, MemoryUnit.stores_getElem]

/-! ### Queues of pin events (R171) -/

/-- Fewer streams held, or the same, leave a queue in order. -/
theorem pinsOrdered_of_subset {held kept : List Nat} {es : List PinEvent} (h : pinsOrdered held es) (hs : kept ⊆ held) :
    pinsOrdered kept es := by
  induction es generalizing held kept with
  | nil => trivial
  | cons e es ih =>
    cases e with
    | release => exact h
    | pin n live => exact ⟨fun hn => h.1 (hs hn), ih h.2 (List.cons_subset_cons n hs)⟩

theorem pinsOrdered_append_release {held : List Nat} {es : List PinEvent} (h : pinsOrdered held es) :
    pinsOrdered held (es ++ [.release]) := by
  induction es generalizing held with
  | nil => trivial
  | cons e es ih =>
    cases e with
    | release => exact ih h
    | pin n live => exact ⟨h.1, ih h.2⟩

/-- The pin requests of one job name each stream once. -/
theorem pinsOrdered_requests {held ns : List Nat} (live : Bool) (hnodup : ns.Nodup) (hnew : ∀ n ∈ ns, n ∉ held) :
    pinsOrdered held (ns.map fun n => .pin n live) := by
  induction ns generalizing held with
  | nil => trivial
  | cons n ns ih =>
    obtain ⟨hn, hns⟩ := List.nodup_cons.mp hnodup
    refine ⟨hnew n List.mem_cons_self, ih hns fun k hk hkn => ?_⟩
    obtain rfl | hkn := List.mem_cons.mp hkn
    · exact hn hk
    · exact hnew k (List.mem_cons_of_mem n hk) hkn

/-- What follows a release starts with no stream held. -/
theorem pinsOrdered_append {held : List Nat} {es fs : List PinEvent} (h : pinsOrdered held es)
    (he : es.getLast? = some .release) (hf : pinsOrdered [] fs) : pinsOrdered held (es ++ fs) := by
  induction es generalizing held with
  | nil => cases he
  | cons e es ih =>
    cases es with
    | nil =>
      obtain rfl : e = .release := by simpa using he
      exact hf
    | cons e' es =>
      have he' : (e' :: es).getLast? = some .release := by simpa [List.getLast?_cons_cons] using he
      cases e with
      | release => exact ih h he'
      | pin n live => exact ⟨h.1, ih h.2 he'⟩

theorem endsReleased_append_release (es : List PinEvent) : endsReleased (es ++ [.release]) := .inr (by simp)

theorem endsReleased_tail {e : PinEvent} {es : List PinEvent} (h : endsReleased (e :: es)) : endsReleased es := by
  cases es with
  | nil => exact .inl rfl
  | cons f es =>
    obtain h | h := h
    · cases h
    · exact .inr (by simpa [List.getLast?_cons_cons] using h)

theorem not_endsReleased_pin (n : Nat) (live : Bool) : ¬endsReleased [.pin n live] := by
  simp [endsReleased]

/-! ### The law -/

theorem State.storesSound_iff (s : State) : s.StoresSound ↔ s.memory.RolesSound
    ∧ pinsOrdered s.memory.pinnedStreams s.mail.composerToMemory
    ∧ (s.composer.engine = none → endsReleased s.mail.composerToMemory
        ∧ (s.mail.composerToMemory = [] → s.memory.pinnedStreams = [])) := by
  rw [MemoryUnit.rolesSound_iff]
  rfl

section Law
variable {s t : State} (h : s.StoresSound)
include h

/-- Stores change, with their roles kept and no stream newly pinned. -/
theorem State.StoresSound.of_subset (hroles : t.memory.RolesSound) (hpins : t.memory.pinnedStreams ⊆ s.memory.pinnedStreams)
    (he : t.mail.composerToMemory = s.mail.composerToMemory) (hc : t.composer.engine = none → s.composer.engine = none) :
    t.StoresSound := by
  obtain ⟨-, hordered, hidle⟩ := s.storesSound_iff.mp h
  refine t.storesSound_iff.mpr ⟨hroles, ?_, fun hn => ?_⟩
  · rw [he]
    exact pinsOrdered_of_subset hordered hpins
  · obtain ⟨hends, hnone⟩ := hidle (hc hn)
    rw [he]
    exact ⟨hends, fun hq => List.subset_nil.mp (hnone hq ▸ hpins)⟩

/-- The law speaks of what the pins rest on alone. -/
theorem State.StoresSound.congr (hp : t.pins = s.pins) : t.StoresSound := by
  unfold State.pins at hp
  obtain ⟨hm, he, hc⟩ : t.memory.stores = s.memory.stores ∧ t.mail.composerToMemory = s.mail.composerToMemory
    ∧ t.composer.engine.isNone = s.composer.engine.isNone := by simpa using hp
  obtain ⟨hroles, -, -⟩ := s.storesSound_iff.mp h
  refine h.of_subset ?_ (MemoryUnit.pinnedStreams_of_stores hm ▸ List.Subset.refl _) he fun hn => ?_
  · unfold MemoryUnit.RolesSound
    rwa [hm]
  · rw [← Option.isNone_iff_eq_none, ← hc, hn]
    rfl

/-- R165, R166, R169: a release is sent, and nothing more is asked of the frame memory than before. -/
theorem State.StoresSound.appendRelease (hm : t.memory.stores = s.memory.stores)
    (he : t.mail.composerToMemory = s.mail.composerToMemory ++ [.release]) : t.StoresSound := by
  obtain ⟨hroles, hordered, -⟩ := s.storesSound_iff.mp h
  refine t.storesSound_iff.mpr ⟨?_, ?_, fun _ => ?_⟩
  · unfold MemoryUnit.RolesSound
    rwa [hm]
  · rw [MemoryUnit.pinnedStreams_of_stores hm, he]
    exact pinsOrdered_append_release hordered
  · rw [he]
    exact ⟨endsReleased_append_release _, fun hn => by simp at hn⟩

end Law

/-! ### Pins are taken and released (R171) -/

theorem MemoryUnit.stores_pinStream (m : MemoryUnit) (n : Nat) (live : Bool) (t k : Nat) (hk : k < 4) :
    (m.pinStream n live t).stores[k] = if k = n then mapAll Store.pin m.stores[k] else m.stores[k] := by
  rw [MemoryUnit.stores_getElem, MemoryUnit.stores_getElem]
  unfold MemoryUnit.pinStream MemoryUnit.changeStream
  dsimp only
  rw [modifyAt_getElem]
  split <;> rfl

theorem MemoryUnit.stores_releaseAll (m : MemoryUnit) (k : Nat) (hk : k < 4) :
    m.releaseAll.stores[k] = mapAll Store.release m.stores[k] := by
  rw [MemoryUnit.stores_getElem, MemoryUnit.stores_getElem]
  unfold MemoryUnit.releaseAll
  dsimp only
  rw [mapAll_getElem]

theorem MemoryUnit.pinnedStreams_releaseAll (m : MemoryUnit) : m.releaseAll.pinnedStreams = [] := by
  refine List.eq_nil_iff_forall_not_mem.mpr fun n hn => ?_
  obtain ⟨hn, i, hi⟩ := (MemoryUnit.mem_pinnedStreams_iff ..).mp hn
  rw [MemoryUnit.stores_releaseAll, mapAll_getElem_fin] at hi
  cases hi

theorem MemoryUnit.pinnedStreams_pinStream (m : MemoryUnit) (n : Nat) (live : Bool) (t : Nat) :
    (m.pinStream n live t).pinnedStreams ⊆ n :: m.pinnedStreams := by
  intro k hk
  obtain ⟨hk, i, hi⟩ := (MemoryUnit.mem_pinnedStreams_iff ..).mp hk
  rw [MemoryUnit.stores_pinStream] at hi
  split at hi
  · exact List.mem_cons.mpr (.inl ‹_›)
  · exact List.mem_cons_of_mem _ ((m.mem_pinnedStreams_iff k).mpr ⟨hk, i, hi⟩)

theorem execPinRequest_storesSound {s : State} (h : s.StoresSound) : Result.Keeps State.StoresSound (execPinRequest s) := by
  refine .next ?_
  split
  · rename_i n live rest hq
    obtain ⟨hroles, hordered, hidle⟩ := s.storesSound_iff.mp h
    rw [hq] at hordered hidle
    obtain ⟨hnot, hordered⟩ := hordered
    refine (State.storesSound_iff _).mpr ⟨fun k hk => ?_, ?_, fun hn => ?_⟩
    · rw [MemoryUnit.stores_pinStream]
      split
      · refine (hroles k hk).pin fun i => Bool.eq_false_iff.mpr fun hi => hnot ?_
        exact (s.memory.mem_pinnedStreams_iff n).mpr ⟨‹k = n› ▸ hk, i, by subst k; exact hi⟩
      · exact hroles k hk
    · exact pinsOrdered_of_subset hordered (s.memory.pinnedStreams_pinStream ..)
    · obtain ⟨hends, -⟩ := hidle hn
      refine ⟨endsReleased_tail hends, fun hr => ?_⟩
      dsimp only at hr
      rw [hr] at hends
      exact absurd hends (not_endsReleased_pin n live)
  · exact h

theorem execPinRelease_storesSound {s : State} (h : s.StoresSound) : Result.Keeps State.StoresSound (execPinRelease s) := by
  refine .next ?_
  split
  · rename_i rest hq
    obtain ⟨hroles, hordered, hidle⟩ := s.storesSound_iff.mp h
    rw [hq] at hordered hidle
    refine (State.storesSound_iff _).mpr ⟨fun k hk => ?_, ?_, fun hn => ?_⟩
    · rw [MemoryUnit.stores_releaseAll]
      exact (hroles k hk).release
    · rw [s.memory.pinnedStreams_releaseAll]
      exact hordered
    · exact ⟨endsReleased_tail (hidle hn).1, fun _ => s.memory.pinnedStreams_releaseAll⟩
  · exact h

/-! ### Compose jobs (R163, R165, R166, R169) -/

/-- A job starts on an idle engine, whose pins have all been released or will be, and asks for each stream of its frame once. -/
theorem State.startCompose_storesSound {s : State} (h : s.StoresSound) (he : s.composer.engine = none) (p : Nat) (rest : List Nat)
    (x : Panel) (n : BufferName) : (s.startCompose p rest x n).StoresSound := by
  obtain ⟨hroles, hordered, hidle⟩ := s.storesSound_iff.mp h
  obtain ⟨hends, hnone⟩ := hidle he
  have hrequests (held : List Nat) (hheld : held = []) := pinsOrdered_requests (held := held) (decide (x.state = .live))
    (nodup_eraseDups _ : (s.frameFor p x).1.streams.Nodup) (fun _ _ => hheld ▸ List.not_mem_nil)
  refine (State.storesSound_iff _).mpr ⟨hroles, ?_, fun hn => nomatch hn⟩
  show pinsOrdered s.memory.pinnedStreams (s.mail.composerToMemory ++ _)
  obtain hq | hq := hends
  · rw [hq]
    exact hrequests _ (hnone hq)
  · exact pinsOrdered_append hordered hq (hrequests _ rfl)

theorem execComposeJobStart_storesSound {s : State} (h : s.StoresSound) :
    Result.Keeps State.StoresSound (execComposeJobStart s) := by
  refine .next ?_
  split
  · rename_i he _
    split
    · split
      · exact h
      · split
        · exact h
        · exact State.startCompose_storesSound h he ..
    · exact h
  · exact h

theorem State.endCompose_storesSound {s : State} (h : s.StoresSound) : s.endCompose.StoresSound :=
  h.appendRelease rfl rfl

theorem execComposeJobComplete_storesSound {s : State} (h : s.StoresSound) :
    Result.Keeps State.StoresSound (execComposeJobComplete s) := by
  refine .next ?_
  split
  · exact (State.endCompose_storesSound h).congr rfl
  · exact h

theorem execComposeJobAbandon_storesSound {s : State} (h : s.StoresSound) :
    Result.Keeps State.StoresSound (execComposeJobAbandon s) := by
  refine .next ?_
  split
  · refine (State.endCompose_storesSound h).congr ?_
    unfold State.abandonCompose
    split
    · rfl
    · dsimp only
      split <;> rfl
  · exact h

theorem execComposerRestart_storesSound {s : State} (h : s.StoresSound) :
    Result.Keeps State.StoresSound (execComposerRestart s) := by
  refine .next ?_
  split
  · exact h
  · rw [State.restartComposer_eq]
    cases he : s.composer.engine with
    | none => exact h.congr (by simp [State.pins, he]; rfl)
    | some j => exact h.appendRelease rfl (by simp [he])

/-! ### Segment writes and the restart of the frame memory (R170, R180) -/

theorem MemoryUnit.stores_changeStream (m : MemoryUnit) (n : Nat) (f : Stream → Stream) (k : Nat) (hk : k < 4) :
    (m.changeStream n f).stores[k] = if k = n then (f m.streams[k]).stores else m.stores[k] := by
  rw [MemoryUnit.stores_getElem, MemoryUnit.stores_getElem]
  unfold MemoryUnit.changeStream
  dsimp only
  rw [modifyAt_getElem]
  split <;> rfl

theorem Stream.written_roles {x : Stream} (h : StoreRoles x.stores) (w : SegmentWrite) (t : Nat) (choice : Bool) :
    StoreRoles (x.written w t choice).stores := by
  cases hw : w.last with
  | true => rw [x.written_of_last hw]; exact (h.write w).turn w choice
  | false => rw [x.written_of_notLast hw]; exact h.write w

theorem turnStores_pinned (v : Vector Store 3) (w : SegmentWrite) (choice : Bool) (i : Fin 3) :
    (turnStores v w choice)[i].pinned = v[i].pinned := by
  obtain ⟨k, -, he⟩ | ⟨-, he⟩ := turnStores_spec v w choice
  · rw [he, put_getElem, mapAll_getElem_fin]
    split
    · subst i
      exact Store.turn_pinned ..
    · exact Store.turn_pinned ..
  · rw [he, mapAll_getElem_fin]
    exact Store.turn_pinned ..

theorem Stream.written_pinned (x : Stream) (w : SegmentWrite) (t : Nat) (choice : Bool) (i : Fin 3) :
    (x.written w t choice).stores[i].pinned = x.stores[i].pinned := by
  have hwrite : (mapAll (fun y : Store => y.write w) x.stores)[i].pinned = x.stores[i].pinned := by
    rw [mapAll_getElem_fin, Store.write_eq]
  cases hw : w.last with
  | true => rw [x.written_of_last hw, turnStores_pinned, hwrite]
  | false => rw [x.written_of_notLast hw, hwrite]

theorem State.segmentWritten_storesSound {s : State} (h : s.StoresSound) (w : SegmentWrite) : (s.segmentWritten w).StoresSound := by
  obtain ⟨hroles, -, -⟩ := s.storesSound_iff.mp h
  obtain ⟨t, hsame, hm, he, hc⟩ : ∃ t : State, (s.segmentWritten w).pins = t.pins
      ∧ t.memory = s.memory.changeStream w.stream (fun x => x.written w s.clock.runTime (Config.freeChoice s.choices))
      ∧ t.mail.composerToMemory = s.mail.composerToMemory ∧ t.composer = s.composer := by
    unfold State.segmentWritten
    dsimp only
    split
    · exact ⟨_, State.sendCondition_pins .., rfl, rfl, rfl⟩
    · exact ⟨_, rfl, rfl, rfl, rfl⟩
  have ht : t.StoresSound := by
    refine h.of_subset (fun k hk => ?_) (MemoryUnit.pinnedStreams_subset fun k hk i hi => ⟨i, ?_⟩) he (fun hn => hc ▸ hn)
    · rw [hm, MemoryUnit.stores_changeStream]
      split
      · exact Stream.written_roles (s.memory.stores_getElem k hk ▸ hroles k hk) ..
      · exact hroles k hk
    · rw [hm, MemoryUnit.stores_changeStream] at hi
      split at hi
      · rwa [Stream.written_pinned, ← s.memory.stores_getElem k hk] at hi
      · exact hi
  exact ht.congr hsame

theorem execTransferUnitComplete_storesSound {s : State} (h : s.StoresSound) :
    Result.Keeps State.StoresSound (execTransferUnitComplete s) := by
  refine .next ?_
  split
  · exact h
  · dsimp only
    have hcounted := h.congr (t := { s with memory := ({ s.memory with inFlight := none } : MemoryUnit).countIngest }) rfl
    split
    · exact hcounted
    · split
      · split
        · exact hcounted
        · exact State.segmentWritten_storesSound hcounted _
      · exact hcounted
      · exact hcounted.congr (State.unitDone_pins ..)
      · exact hcounted.congr (State.unitDone_pins ..)

theorem State.dropWork_pins (s : State) (name : ChannelName) : (s.dropWork name).pins = s.pins := by
  unfold State.dropWork
  dsimp only
  rw [State.withMemory_pins (MemoryUnit.putChannel_stores ..)]
  split
  · exact s.reportWork_pins ..
  · rfl

theorem storesAtReset_pinned : ∀ i : Fin 3, storesAtReset[i].pinned = false := by decide

/-- R180: after the restart every stream's stores are as after a full reset, and none is pinned. -/
theorem State.restartMemory_storesSound {s : State} (h : s.StoresSound) : s.restartMemory.StoresSound := by
  have hdropped : (((s.dropWork .ingest).dropWork .compose).dropWork .render).StoresSound :=
    h.congr (((State.dropWork_pins ..).trans (State.dropWork_pins ..)).trans (s.dropWork_pins _))
  have hreset (k : Nat) (hk : k < 4) : s.restartMemory.memory.stores[k] = storesAtReset :=
    (MemoryUnit.stores_getElem ..).trans (congrArg Stream.stores (mapAll_getElem ..))
  have hroles : StoreRoles storesAtReset := Stream.atReset.storesSound_iff.mp atReset_storesSound
  refine hdropped.of_subset (fun k hk => hreset k hk ▸ hroles) (MemoryUnit.pinnedStreams_subset fun k hk i hi => ?_) rfl id
  rw [hreset] at hi
  exact nomatch (storesAtReset_pinned i).symm.trans hi

theorem execFrameMemoryRestart_storesSound {s : State} (h : s.StoresSound) :
    Result.Keeps State.StoresSound (execFrameMemoryRestart s) := by
  refine .next ?_
  split
  · refine State.restartMemory_storesSound ?_
    exact h
  · exact h

/-! ### Every command -/

theorem State.fullReset_storesSound (s : State) : s.fullReset.StoresSound := reset_storesSound.congr rfl

theorem State.putLine_pins (s : State) (p : Port) (bytes : List Byte) : (s.putLine p bytes).pins = s.pins := by
  cases p <;> rfl

theorem State.countTowardReset_storesSound {s : State} (h : s.StoresSound) (p : Port) : (s.countTowardReset p).StoresSound := by
  unfold State.countTowardReset
  split
  · exact h
  · have hcount (r : ResetPending) : ({ s with link := { s.link with resetPending := some r } } : State).StoresSound :=
      h.congr rfl
    dsimp only
    split
    · split
      · exact s.fullReset_storesSound
      · exact hcount _
    · split
      · exact s.fullReset_storesSound
      · exact hcount _

theorem execAnswerSent_storesSound {s : State} (h : s.StoresSound) (p : Port) :
    Result.Keeps State.StoresSound (execAnswerSent p s) := by
  refine .next ?_
  dsimp only
  split; · exact h
  split; · exact h
  refine State.countTowardReset_storesSound (h.congr ?_) p
  exact State.putLine_pins ..

/-- R170, R171: every command keeps the stores' roles and the order of the pins. -/
theorem exec_storesSound (i : Instr) {s : State} (h : s.StoresSound) : Result.Keeps State.StoresSound (exec i s) := by
  by_cases hi : i.movesPins = true
  · cases i with
    | answerSent p => exact execAnswerSent_storesSound h p
    | fullReset => exact .next s.fullReset_storesSound
    | composeJobStart => exact execComposeJobStart_storesSound h
    | composeJobComplete => exact execComposeJobComplete_storesSound h
    | composeJobAbandon => exact execComposeJobAbandon_storesSound h
    | composerRestart => exact execComposerRestart_storesSound h
    | pinRequest => exact execPinRequest_storesSound h
    | pinRelease => exact execPinRelease_storesSound h
    | transferUnitComplete => exact execTransferUnitComplete_storesSound h
    | frameMemoryRestart => exact execFrameMemoryRestart_storesSound h
    | _ => cases hi
  · exact fun t ht => h.congr (exec_pins (Bool.eq_false_iff.mpr hi) s t ht)

/-- Settles O56: a step runs one command, and every command keeps the roles and the order. -/
theorem storesKeepTheirRoles : Obligations.StoresKeepTheirRoles := fun _ _ h hs =>
  step_keeps (fun _ _ h => h.congr rfl) (fun i _ h => exec_storesSound i h) h hs

end Sys2Proof.Machine
end

section
/-! SUPPORT. Settles O58: the backlights move toward their targets (R178). -/

namespace Sys2Proof.Machine

open Sys2Proof

/-- R178: the level after a number of tenth-ticks. -/
def Output.levelAfter (o : Output) (n : Nat) : Nat :=
  if o.level ≤ o.target then min (o.level + n) o.target else max (o.level - n) o.target

theorem execBacklightStep_of_pos {s : State} (h : 0 < s.mail.ticksToOutput) : exec .backlightStep s = .next { s with
    output := ⟨mapAll Output.stepLevel s.output.panels⟩
    mail := { s.mail with ticksToOutput := s.mail.ticksToOutput - 1 } } :=
  congrArg Host.Outcome.next (if_neg (Nat.ne_of_gt h))

/-- R178: one tick first and then the others come to all of them. -/
theorem Output.levelAfter_stepLevel (o : Output) (n : Nat) : o.stepLevel.levelAfter n = o.levelAfter (n + 1) := by
  unfold Output.levelAfter Output.stepLevel
  dsimp only
  split_ifs <;> omega

theorem Output.levelAfter_of_ge {o : Output} (h : o.target ≤ o.level) (n : Nat) :
    o.levelAfter n = max (o.level - n) o.target := by
  unfold Output.levelAfter
  split_ifs <;> omega

/-- R178: as many ticks as are under way, taken one after another. -/
theorem State.run_backlightSteps (n : Nat) {s : State} (h : n ≤ s.mail.ticksToOutput) (k : Fin 12) :
    (s.run (List.replicate n .backlightStep)).output.panels[k] =
      { s.output.panels[k] with level := s.output.panels[k].levelAfter n } := by
  induction n generalizing s with
  | zero =>
    have hzero (o : Output) : o.levelAfter 0 = o.level := by
      unfold Output.levelAfter
      split_ifs <;> omega
    rw [hzero]
    rfl
  | succ n ih =>
    rw [List.replicate_succ, State.run, execBacklightStep_of_pos (Nat.lt_of_lt_of_le n.succ_pos h)]
    dsimp only
    rw [ih (Nat.le_sub_of_add_le h)]
    dsimp only
    rw [mapAll_getElem_fin, Output.levelAfter_stepLevel]
    rfl

/-- Settles O58: one tick from the step of each level, and the others from the level after a number of them. -/
theorem backlightsMoveTowardTheirTargets : Obligations.BacklightsMoveTowardTheirTargets := by
  refine ⟨fun s h => ⟨_, execBacklightStep_of_pos h, fun k => mapAll_getElem_fin ..⟩, fun s n k h => ?_, fun o => ⟨rfl, rfl⟩,
    fun o => ⟨fun h => ?_, fun h => ?_⟩⟩
  · rw [State.run_backlightSteps n h k]
    exact ⟨rfl, fun hle => if_pos hle, fun hge => Output.levelAfter_of_ge hge n⟩
  · rw [Output.driveLow, Output.driveHigh, h]
  · rw [Output.driveHigh, h]

end Sys2Proof.Machine

end

section
/-! SUPPORT. Settles O53: segments, pins and the stream watch (R170, R171, R172). -/

namespace Sys2Proof.Machine

open Sys2Proof

/-! ### The fields of a segment -/

theorem length_of_get2 {bs rest : List Byte} {n : Nat} (h : get2 bs = some (n, rest)) : bs.length = rest.length + 2 := by
  unfold get2 at h
  split at h
  · cases h
    rfl
  · cases h

/-- R170: a segment carries six numbers of two bytes. -/
theorem le_length_of_readSegment {bs : List Byte} {g : Segment} (h : readSegment bs = some g) : 12 ≤ bs.length := by
  simp only [readSegment, Option.bind_eq_bind, Option.bind_eq_some_iff, Prod.exists] at h
  obtain ⟨_, _, h1, _, _, h2, _, _, h3, _, _, h4, _, _, h5, _, _, h6, -⟩ := h
  have h1 := length_of_get2 h1
  have h2 := length_of_get2 h2
  have h3 := length_of_get2 h3
  have h4 := length_of_get2 h4
  have h5 := length_of_get2 h5
  have h6 := length_of_get2 h6
  omega

theorem readSegment_put {n number index last w h : Nat} (hk : ∀ k ∈ [n, number, index, last, w, h], k ≤ 65535) (data : List Byte) :
    readSegment (put2 n ++ put2 number ++ put2 index ++ put2 last ++ put2 w ++ put2 h ++ data)
      = some ⟨n, number, index, last, w, h, data⟩ := by
  simp only [List.mem_cons, List.not_mem_nil, or_false, forall_eq_or_imp, forall_eq] at hk
  obtain ⟨hn, hnumber, hindex, hlast, hw, hh⟩ := hk
  simp only [List.append_assoc, readSegment, get2_put2 hn, get2_put2 hnumber, get2_put2 hindex, get2_put2 hlast, get2_put2 hw,
    get2_put2 hh, Option.bind_eq_bind, Option.bind_some]
  rfl

theorem execSegment_of_some {s : State} {body : List Byte} {rest : List (List Byte)} {g : Segment}
    (hm : s.mail.segments = body :: rest) (hg : readSegment body = some g) : exec .segment s = .next { s with
      mail := { s.mail with segments := rest }, memory := s.memory.takeSegment g } := by
  refine congrArg Host.Outcome.next ?_
  simp only [hm, hg]

theorem execSegment_of_none {s : State} {body : List Byte} {rest : List (List Byte)} (hm : s.mail.segments = body :: rest)
    (hg : readSegment body = none) : exec .segment s = .next { s with mail := { s.mail with segments := rest } } := by
  refine congrArg Host.Outcome.next ?_
  simp only [hm, hg]

/-! ### The INGEST channel's count (R173) -/

/-- Whether the unit in flight writes a segment and its work is not gone. -/
def MemoryUnit.ingestFlying (m : MemoryUnit) : Bool :=
  match m.inFlight with
  | some u => u.channel = .ingest && !u.ignored
  | none => false

/-- The segments that the INGEST channel counts. -/
def MemoryUnit.ingestCount (m : MemoryUnit) : Nat := m.ingestQueue.length + if m.ingestFlying then 1 else 0

theorem MemoryUnit.countIngest_eq (m : MemoryUnit) : m.countIngest = { m with ingest := {
    state := if m.ingest.state = .halted then .halted
      else if m.ingestFlying then .active else if m.ingestCount = 0 then .idle else .preempted
    remaining := m.ingestCount
    fault := m.ingest.fault
    hasWork := decide (0 < m.ingestCount) } } := by
  unfold MemoryUnit.countIngest MemoryUnit.ingestCount MemoryUnit.ingestFlying
  cases m.ingest with
  | mk state remaining fault hasWork => cases state <;> rfl

/-- The count reads of the channel only its fault mark and whether it is HALTED. -/
theorem MemoryUnit.countIngest_congr {m : MemoryUnit} {c : Channel} (hf : c.fault = m.ingest.fault)
    (hs : c.state = .halted ↔ m.ingest.state = .halted) : ({ m with ingest := c } : MemoryUnit).countIngest = m.countIngest := by
  have hstate : (c.state = .halted) = (m.ingest.state = .halted) := propext hs
  rw [MemoryUnit.countIngest_eq, MemoryUnit.countIngest_eq]
  simp only [hf, hstate]
  rfl

theorem MemoryUnit.countIngest_halted_iff (m : MemoryUnit) : m.countIngest.ingest.state = .halted ↔ m.ingest.state = .halted := by
  rw [MemoryUnit.countIngest_eq]
  dsimp only
  split_ifs <;> simp_all

/-! ### Frames abandoned (R170) -/

theorem MemoryUnit.changeStream_eq (m : MemoryUnit) (k : Fin 4) (f : Stream → Stream) :
    m.changeStream k f = { m with streams := put m.streams k (f m.streams[k]) } := by
  rw [MemoryUnit.changeStream, modifyAt_eq_put]

theorem SegmentWrite.boundTo_iff (w : SegmentWrite) (n id : Nat) : w.boundTo n id = true ↔ w.stream = n ∧ w.frameId = id := by
  simp [SegmentWrite.boundTo]

theorem UnitInFlight.abandonFrame_eq (u : UnitInFlight) (n id : Nat) : u.abandonFrame n id =
    match u.write with
    | none => u
    | some w => if w.stream = n ∧ w.frameId = id then { u with abandoned := true } else u := by
  unfold UnitInFlight.abandonFrame
  cases u.write with
  | none => rfl
  | some w => simp only [SegmentWrite.boundTo_iff]

theorem Stream.stopReceiving_eq (x : Stream) (id : Nat) : x.stopReceiving id =
    if x.reception.map Reception.frameId = some id then { x with reception := none } else x := by
  unfold Stream.stopReceiving
  cases x with
  | mk stores reception lastFrame lastUse lost nextFrameId => cases reception <;> simp

theorem MemoryUnit.abandonFrame_stream (m : MemoryUnit) (n id : Nat) (k : Fin 4) : (m.abandonFrame n id).streams[k] =
    if k.val = n ∧ m.streams[k].reception.map Reception.frameId = some id then { m.streams[k] with reception := none }
    else m.streams[k] := by
  refine (modifyAt_getElem m.streams n _ k k.isLt).trans ?_
  rw [Stream.stopReceiving_eq]
  by_cases hk : k.val = n
  · simp [hk]
  · simp [hk]

/-- R170: the write that a segment has just made goes with its frame. -/
theorem MemoryUnit.abandonFrame_joined (m : MemoryUnit) (w : SegmentWrite) :
    (({ m with ingestQueue := m.ingestQueue ++ [w] } : MemoryUnit).countIngest).abandonFrame w.stream w.frameId
      = m.abandonFrame w.stream w.frameId := by
  have hbound : w.boundTo w.stream w.frameId = true := (w.boundTo_iff ..).mpr ⟨rfl, rfl⟩
  have hqueue : (m.ingestQueue ++ [w]).filter (fun v => !v.boundTo w.stream w.frameId)
      = m.ingestQueue.filter fun v => !v.boundTo w.stream w.frameId := by
    simp [hbound]
  have hfault : ({ m with ingestQueue := m.ingestQueue ++ [w] } : MemoryUnit).countIngest.ingest.fault = m.ingest.fault := rfl
  refine Eq.trans ?_ (MemoryUnit.countIngest_congr hfault (MemoryUnit.countIngest_halted_iff _))
  rw [← hqueue]
  rfl

/-! ### Segments taken (R170) -/

theorem MemoryUnit.abandonReception_of_getElem? {m : MemoryUnit} {n : Nat} {x : Stream} (hx : m.streams[n]? = some x) :
    m.abandonReception n = match x.reception with | none => m | some o => m.abandonFrame n o.frameId := by
  unfold MemoryUnit.abandonReception
  simp only [hx] <;> rfl

theorem Reception.accepts_iff (r : Reception) (g : Segment) : r.accepts g = true ↔ g.index = r.nextIndex
    ∧ g.frameNumber = r.frameNumber ∧ g.width = r.width ∧ g.height = r.height
    ∧ r.bytes + g.data.length ≤ 3200 * g.width * g.height := by
  simp only [Reception.accepts, Bool.and_eq_true, decide_eq_true_eq, and_assoc]
  refine and_congr_right fun _ => and_congr_right fun _ => and_congr_right fun hw => and_congr_right fun hh => ?_
  rw [hw, hh]
  rfl

/-- Whether an accepted segment cannot join the ingest queue, or ends its frame short (R170, R174). -/
def MemoryUnit.Drops (m : MemoryUnit) (g : Segment) (r : Reception) : Prop :=
  m.ingest.state = .halted ∨ 4 ≤ m.ingestQueue.length ∨ (g.last = 1 ∧ r.bytes + g.data.length < frameBytes r.width r.height)

theorem MemoryUnit.drops_iff (m : MemoryUnit) {g : Segment} {r : Reception} (h : r.accepts g = true) : m.Drops g r ↔
    m.ingest.state = .halted ∨ 4 ≤ m.ingestQueue.length ∨ (g.last = 1 ∧ r.bytes + g.data.length < 3200 * g.width * g.height) := by
  obtain ⟨-, -, hw, hh, -⟩ := (r.accepts_iff g).mp h
  rw [hw, hh]
  rfl

theorem MemoryUnit.accept_of_drops {m : MemoryUnit} {g : Segment} {r : Reception} (h : m.Drops g r) :
    m.accept g r = m.abandonFrame g.stream r.frameId := by
  unfold MemoryUnit.accept
  split
  · rfl
  · rename_i hroom
    rw [not_or] at hroom
    obtain ⟨hlast, hshort⟩ := (h.resolve_left hroom.1).resolve_left hroom.2
    rw [if_pos hlast, if_pos hshort]
    exact m.abandonFrame_joined (g.write r.frameId)

theorem MemoryUnit.accept_of_not_drops {m : MemoryUnit} {g : Segment} {r : Reception} (h : ¬m.Drops g r) : m.accept g r =
    (({ m with ingestQueue := m.ingestQueue ++ [g.write r.frameId] } : MemoryUnit).countIngest).changeStream g.stream fun y =>
      { y with reception := if g.last = 1 then none
          else some { r with nextIndex := r.nextIndex + 1, bytes := r.bytes + g.data.length } } := by
  obtain ⟨hrun, hroom, hlong⟩ : m.ingest.state ≠ .halted ∧ ¬4 ≤ m.ingestQueue.length ∧ ¬(g.last = 1 ∧ _) := by
    simpa only [MemoryUnit.Drops, not_or] using h
  unfold MemoryUnit.accept
  rw [if_neg (not_or.mpr ⟨hrun, hroom⟩)]
  dsimp only
  split
  · rename_i hlast
    rw [if_neg fun hshort => hlong ⟨hlast, hshort⟩]
  · rfl

theorem MemoryUnit.testSegment_of_reception {m : MemoryUnit} {g : Segment} {x : Stream} {r : Reception}
    (hx : m.streams[g.stream]? = some x) (hr : x.reception = some r) :
    m.testSegment g = if r.accepts g then m.accept g r else m.abandonFrame g.stream r.frameId := by
  unfold MemoryUnit.testSegment
  simp only [hx, hr]

/-- The ranges of a segment's last flag and size (R170). -/
def Segment.inRange (g : Segment) : Prop := g.last ≤ 1 ∧ 1 ≤ g.width ∧ g.width ≤ 48 ∧ 1 ≤ g.height ∧ g.height ≤ 48

section Take
variable {m : MemoryUnit} {g : Segment}

theorem MemoryUnit.takeSegment_of_gt (h : 3 < g.stream) : m.takeSegment g = m := by
  unfold MemoryUnit.takeSegment
  exact if_pos h

theorem MemoryUnit.takeSegment_of_not_inRange (h : g.stream ≤ 3) (hr : ¬g.inRange) :
    m.takeSegment g = m.abandonReception g.stream := by
  unfold MemoryUnit.takeSegment
  rw [if_neg (by omega), if_pos]
  unfold Segment.inRange at hr
  omega

theorem MemoryUnit.takeSegment_of_inRange (h : g.stream ≤ 3) (hr : g.inRange) : m.takeSegment g =
    if g.index = 0 then ((m.abandonReception g.stream).changeStream g.stream fun x => x.beginFrame g).testSegment g
    else m.testSegment g := by
  unfold MemoryUnit.takeSegment
  rw [if_neg (by omega), if_neg]
  unfold Segment.inRange at hr
  omega

end Take

/-- R170: the frame that a segment of index 0 begins, after the one in reception has been abandoned. -/
theorem MemoryUnit.beginFrame_eq (m : MemoryUnit) (k : Fin 4) (g : Segment) :
    (m.abandonReception k).changeStream k (fun y => y.beginFrame g) = { m.abandonReception k with
      streams := (m.abandonReception k).streams.setIfInBounds k { m.streams[k] with
        reception := some ⟨m.streams[k].nextFrameId, g.frameNumber, g.width, g.height, 0, 0⟩
        nextFrameId := m.streams[k].nextFrameId + 1 } } := by
  have hbegun : (m.abandonReception k).streams[k].beginFrame g = m.streams[k].beginFrame g := by
    rw [MemoryUnit.abandonReception_of_getElem? (Vector.getElem?_eq_getElem k.isLt)]
    split
    · rfl
    · rw [MemoryUnit.abandonFrame_stream]
      split <;> rfl
  rw [MemoryUnit.changeStream_eq, hbegun, setIfInBounds_eq_put]
  rfl

/-! ### The segments of a stream -/

section Segment
variable {m : MemoryUnit} {g : Segment} {x : Stream} {r : Reception} (hx : m.streams[g.stream]? = some x)
  (hr : x.reception = some r)
include hx hr

/-- R170: a segment that is not the next one, or is dropped, abandons its frame. -/
theorem MemoryUnit.testSegment_abandons (h : ¬r.accepts g = true ∨ m.Drops g r) :
    m.testSegment g = m.abandonFrame g.stream r.frameId := by
  rw [MemoryUnit.testSegment_of_reception hx hr]
  split
  · rename_i ha
    exact MemoryUnit.accept_of_drops (h.resolve_left fun hn => hn ha)
  · rfl

/-- R170: any other joins the ingest queue. -/
theorem MemoryUnit.testSegment_joins (ha : r.accepts g = true) (h : ¬m.Drops g r) : m.testSegment g =
    (({ m with ingestQueue := m.ingestQueue ++ [g.write r.frameId] } : MemoryUnit).countIngest).changeStream g.stream fun y =>
      { y with reception := if g.last = 1 then none
          else some { r with nextIndex := r.nextIndex + 1, bytes := r.bytes + g.data.length } } := by
  rw [MemoryUnit.testSegment_of_reception hx hr, if_pos ha, MemoryUnit.accept_of_not_drops h]

end Segment

/-- R170: a segment is tested against the frame in reception; one of index 0 begins that frame. -/
theorem MemoryUnit.takeSegment_tests {s m : MemoryUnit} {g : Segment} {k : Fin 4} {r : Reception} (hk : g.stream = k.val)
    (hrange : g.inRange) (h : (g.index ≠ 0 ∧ m = s ∧ s.streams[k].reception = some r)
      ∨ (g.index = 0 ∧ r = ⟨s.streams[k].nextFrameId, g.frameNumber, g.width, g.height, 0, 0⟩
        ∧ m = { s.abandonReception k with streams := (s.abandonReception k).streams.setIfInBounds k { s.streams[k] with
            reception := some r, nextFrameId := s.streams[k].nextFrameId + 1 } })) :
    s.takeSegment g = m.testSegment g ∧ ∃ x, m.streams[g.stream]? = some x ∧ x.reception = some r := by
  rw [MemoryUnit.takeSegment_of_inRange (hk ▸ Nat.le_of_lt_succ k.isLt) hrange]
  obtain ⟨hi, rfl, hr⟩ | ⟨hi, rfl, rfl⟩ := h
  · rw [if_neg hi, hk]
    exact ⟨rfl, _, Vector.getElem?_eq_getElem k.isLt, hr⟩
  · rw [if_pos hi, hk, MemoryUnit.beginFrame_eq]
    refine ⟨rfl, _, getElem?_setIfInBounds_of_some (Vector.getElem?_eq_getElem k.isLt) _ _ |>.trans (if_pos rfl), rfl⟩

end Sys2Proof.Machine

end

section
/-! SUPPORT. Settles O53: the pins, the stream watch and the abandoned frames beside the segments (R170, R171, R172). -/

namespace Sys2Proof.Machine

open Sys2Proof

/-- R171: a pin request that the composer has sent. -/
theorem execPinRequest_of_pin {s : State} {k : Fin 4} {live : Bool} {rest : List PinEvent}
    (hm : s.mail.composerToMemory = .pin k live :: rest) : exec .pinRequest s = .next { s with
      mail := { s.mail with composerToMemory := rest }
      memory := { s.memory with streams := put s.memory.streams k { s.memory.streams[k] with
        stores := mapAll Store.pin s.memory.streams[k].stores
        lastUse := if live then some s.clock.runTime else s.memory.streams[k].lastUse } } } := by
  refine congrArg Host.Outcome.next ?_
  rw [hm]
  dsimp only
  rw [MemoryUnit.pinStream, MemoryUnit.changeStream_eq]

theorem execPinRelease_of_release {s : State} {rest : List PinEvent} (hm : s.mail.composerToMemory = .release :: rest) :
    exec .pinRelease s = .next { s with
      mail := { s.mail with composerToMemory := rest }, memory := s.memory.releaseAll } := by
  refine congrArg Host.Outcome.next ?_
  rw [hm]

/-- One event is sent again and again. -/
theorem foldl_sendCondition_self (b : Block) (e : ConditionEvent) (ns : List Nat) (s : State) :
    (ns.foldl (fun s _ => s.sendCondition b e) s).mail.conditions[b.index]
      = s.mail.conditions[b.index] ++ List.replicate ns.length e := by
  induction ns generalizing s with
  | nil => simp
  | cons n ns ih =>
    rw [List.foldl_cons, ih]
    refine (congrArg (· ++ _) (State.sendCondition_self ..)).trans ?_
    rw [List.append_assoc, List.length_cons, List.replicate_succ]
    rfl

theorem foldl_sendCondition_memory (b : Block) (e : ConditionEvent) (ns : List Nat) (s : State) :
    (ns.foldl (fun s _ => s.sendCondition b e) s).memory = s.memory :=
  foldl_keeps (fun (s : State) (_ : Nat) => s.sendCondition b e) State.memory (fun _ _ => rfl) ns s

/-- R172: when a stream becomes lost. -/
theorem Stream.losesAt_iff (x : Stream) (t : Nat) :
    x.losesAt t = true ↔ x.lost = false ∧ (∃ u, x.lastUse = some u ∧ t < u + 2) ∧ x.lastFrame + 2 ≤ t := by
  simp [Stream.losesAt, and_assoc, Option.any_eq_true]

theorem execStreamWatch_of_second {s : State} {t : Nat} (h : s.nextSecond .memory = some t) :
    ∃ v, exec .streamWatch s = .next v
      ∧ v.memory = { s.memory with
          streams := mapAll (fun x => if x.losesAt t then { x with lost := true } else x) s.memory.streams }
      ∧ v.mail.conditions[Block.memory.index] = s.mail.conditions[Block.memory.index]
        ++ List.replicate (s.memory.streams.toList.filter fun x => x.losesAt t).length (.raise .streamLost) := by
  refine ⟨_, congrArg Host.Outcome.next (by simp only [h]; rfl), foldl_sendCondition_memory .., ?_⟩
  refine (foldl_sendCondition_self ..).trans ?_
  rw [List.length_range]
  rfl

theorem MemoryUnit.abandonFrame_queue (m : MemoryUnit) (n id : Nat) : (m.abandonFrame n id).ingestQueue
    = m.ingestQueue.filter fun w => !(decide (w.stream = n) && decide (w.frameId = id)) := rfl

theorem MemoryUnit.abandonFrame_inFlight (m : MemoryUnit) (n id : Nat) :
    (m.abandonFrame n id).inFlight = m.inFlight.map fun u => u.abandonFrame n id := rfl

/-- Settles O53: a segment by what its test comes to, then a frame's abandonment, the pins and the watch from their own lemmas. -/
theorem segmentsBuildFramesAndStreamsAreWatched : Obligations.SegmentsBuildFramesAndStreamsAreWatched := by
  refine ⟨⟨fun s u body rest hm hu => ⟨fun hshort => ?_, ?_⟩, fun m a n id ha => ?_⟩, fun s k live x rest hm hx => ?_,
    fun s rest hm => execPinRelease_of_release hm, fun s t loses h hloses => ?_⟩
  · rw [hu]
    refine execSegment_of_none hm (Option.eq_none_iff_forall_ne_some.mpr fun g hg => ?_)
    exact absurd (le_length_of_readSegment hg) (Nat.not_le_of_lt hshort)
  · rintro n number index last w h data x m0 m r fits hk hb
    have hexec := execSegment_of_some hm (hb ▸ readSegment_put hk data)
    refine ⟨fun hn => ?_, fun hx hm0 => ?_⟩
    · rw [hexec, MemoryUnit.takeSegment_of_gt hn, hu]
    · obtain ⟨k, rfl, rfl⟩ : ∃ k : Fin 4, n = k.val ∧ x = s.memory.streams[k] := by
        obtain ⟨hn, rfl⟩ := Vector.getElem?_eq_some_iff.mp hx
        exact ⟨⟨n, hn⟩, rfl, rfl⟩
      have hle : k.val ≤ 3 := Nat.le_of_lt_succ k.isLt
      obtain rfl : m0 = s.memory.abandonReception k := hm0.trans (MemoryUnit.abandonReception_of_getElem? hx).symm
      refine ⟨fun hbad => ?_, fun hlast hw hw' hh hh' hi hr => ?_, fun hlast hw hw' hh hh' hcase hfits => ?_⟩
      · have hrange : ¬Segment.inRange ⟨k, number, index, last, w, h, data⟩ := by
          unfold Segment.inRange
          dsimp only
          omega
        rw [hexec, MemoryUnit.takeSegment_of_not_inRange hle hrange, hu]
      · rw [hexec, MemoryUnit.takeSegment_of_inRange hle ⟨hlast, hw, hw', hh, hh'⟩, if_neg hi, hu]
        unfold MemoryUnit.testSegment
        simp only [hx, hr]
      · obtain ⟨htakes, y, hy, hr⟩ := MemoryUnit.takeSegment_tests
          (g := ⟨k, number, index, last, w, h, data⟩) rfl ⟨hlast, hw, hw', hh, hh'⟩ hcase
        rw [htakes] at hexec
        have hfits := hfits.trans (r.accepts_iff ⟨k, number, index, last, w, h, data⟩).symm
        have hdrops (hf : fits) := MemoryUnit.drops_iff m (hfits.mp hf)
        refine ⟨fun hdrop => ?_, fun hf hrun hroom hlong => ?_⟩
        · rw [hexec, MemoryUnit.testSegment_abandons hy hr, hu]
          by_cases hf : fits
          · exact .inr ((hdrops hf).mpr (hdrop.resolve_left (not_not_intro hf)))
          · exact .inl (mt hfits.mpr hf)
        · rw [hexec, MemoryUnit.testSegment_joins hy hr (hfits.mp hf), hu]
          · rfl
          · rw [hdrops hf, not_or, not_or]
            exact ⟨hrun, Nat.not_le_of_lt (Nat.lt_succ_of_le hroom), hlong⟩
  · subst ha
    refine ⟨rfl, ?_, m.abandonFrame_stream n id, rfl, rfl, m.changeStream_eq⟩
    rw [MemoryUnit.abandonFrame_inFlight]
    exact congrArg (m.inFlight.map ·) (funext fun u => u.abandonFrame_eq n id)
  · subst hx
    exact execPinRequest_of_pin hm
  · obtain rfl : loses = fun x => x.losesAt t := funext fun x => Bool.eq_iff_iff.mpr ((hloses x).trans (x.losesAt_iff t).symm)
    exact execStreamWatch_of_second h

end Sys2Proof.Machine

end

section
/-! SUPPORT. Settles O54: the memory's grants, and what a completed transfer unit brings (R158, R170, R172, R173). -/

namespace Sys2Proof.Machine

open Sys2Proof

/-! ### Grants (R173) -/

theorem Channel.waits_iff (c : Channel) : c.waits = true ↔ c.state ≠ .halted ∧ c.hasWork = true ∧ 0 < c.remaining := by
  simp [Channel.waits, and_assoc]

theorem State.pinsOutstanding_iff (s : State) :
    s.pinsOutstanding = true ↔ ∃ n live, PinEvent.pin n live ∈ s.mail.composerToMemory := by
  unfold State.pinsOutstanding
  rw [List.any_eq_true]
  constructor
  · rintro ⟨e, he, hp⟩
    cases e with
    | pin n live => exact ⟨n, live, he⟩
    | release => cases hp
  · rintro ⟨n, live, he⟩
    exact ⟨_, he, rfl⟩

/-- R173: no grant while a unit is in flight. -/
theorem execUnitGrant_of_flying {s : State} {u : UnitInFlight} (h : s.memory.inFlight = some u) : exec .unitGrant s = .next s := by
  refine congrArg Host.Outcome.next ?_
  rw [h]

/-- R173: the highest channel that waits gets the memory, and COMPOSE not before its pins have been taken. -/
theorem execUnitGrant_of_free {s : State} (h : s.memory.inFlight = none) : exec .unitGrant s = .next (
    if s.memory.ingest.waits then { s with memory := s.memory.grantIngest }
    else if s.memory.compose.waits then
      if s.pinsOutstanding then s else { s with memory := s.memory.grant .compose }
    else if s.memory.render.waits then { s with memory := s.memory.grant .render }
    else s) := by
  refine congrArg Host.Outcome.next ?_
  rw [h]

/-! ### Counts (R173) -/

theorem MemoryUnit.countIngest_of_free {m : MemoryUnit} (h : m.inFlight = none) :
    m.countIngest = { m with ingest := { m.ingest with
    remaining := m.ingestQueue.length
    hasWork := decide (0 < m.ingestQueue.length)
    state := if m.ingest.state = .halted then .halted else if m.ingestQueue = [] then .idle else .preempted } } := by
  have hfly : m.ingestFlying = false := by
    unfold MemoryUnit.ingestFlying
    rw [h]
  rw [MemoryUnit.countIngest_eq]
  simp [MemoryUnit.ingestCount, hfly]

theorem MemoryUnit.countIngest_of_ingest {m : MemoryUnit} {w : SegmentWrite} {a : Bool}
    (h : m.inFlight = some ⟨.ingest, false, some w, a⟩) : m.countIngest = { m with ingest := { m.ingest with
      remaining := m.ingestQueue.length + 1
      hasWork := true
      state := if m.ingest.state = .halted then .halted else .active } } := by
  have hfly : m.ingestFlying = true := by
    unfold MemoryUnit.ingestFlying
    rw [h]
    rfl
  rw [MemoryUnit.countIngest_eq]
  simp [MemoryUnit.ingestCount, hfly]

/-- R173: a channel's count after its unit has completed. -/
theorem Channel.lower_of_le {c : Channel} (h : c.remaining ≤ 1) :
    c.lower = { c with remaining := 0, hasWork := false, state := .idle } := if_pos h

theorem Channel.lower_of_two {c : Channel} (h : 2 ≤ c.remaining) :
    c.lower = { c with remaining := c.remaining - 1, state := .preempted } := if_neg (Nat.not_le_of_lt h)

/-! ### Streams drawn (R158, R171) -/

theorem Frame.resolve_cons (f : Machine.Frame) (m : MemoryUnit) {y : Layer} {ls : List Layer} (h : f.layers = y :: ls) :
    (f.resolve m).layers = (y.resolve m).toList ++ (Frame.resolve { f with layers := ls } m).layers := by
  unfold Frame.resolve
  rw [h]
  dsimp only
  rw [List.filterMap_cons]
  cases y.resolve m <;> rfl

theorem Layer.resolve_toList (m : MemoryUnit) (y : Layer) : (y.resolve m).toList = match y.paint with
    | .stream n => match m.pinnedStore n with
      | some z => [{ y with paint := .image (.picture z.width z.height z.data) }]
      | none => []
    | _ => [y] := by
  unfold Layer.resolve
  cases y.paint with
  | stream n =>
    dsimp only
    cases m.pinnedStore n <;> rfl
  | colour c => rfl
  | image i => rfl

/-- R171: where one store of a stream is pinned, it is the one found. -/
theorem MemoryUnit.pinnedStore_eq {m : MemoryUnit} {n : Fin 4} {k : Fin 3} (h : m.streams[n].stores[k].pinned = true)
    (hall : ∀ j : Fin 3, j ≠ k → m.streams[n].stores[j].pinned = false) : m.pinnedStore n = some m.streams[n].stores[k] := by
  unfold MemoryUnit.pinnedStore
  rw [Vector.getElem?_eq_getElem n.isLt]
  dsimp only
  cases hf : m.streams[n.val].stores.toList.find? fun y => y.pinned with
  | none =>
    rw [List.find?_eq_none] at hf
    exact absurd h (hf _ (by simp))
  | some y =>
    have hp := List.find?_some hf
    obtain ⟨j, hj, rfl⟩ := List.getElem_of_mem (List.mem_of_find?_eq_some hf)
    have hj : j < 3 := by simpa using hj
    obtain rfl : (⟨j, hj⟩ : Fin 3) = k := by
      by_contra hne
      exact nomatch (hall ⟨j, hj⟩ hne).symm.trans hp
    rfl

/-! ### Completed units (R170, R172, R173) -/

/-- The state after the unit in flight has ended. -/
def State.landed (s : State) : State :=
  { s with memory := MemoryUnit.countIngest { s.memory with inFlight := none } }

section Complete
variable {s : State} {u : UnitInFlight} (hu : s.memory.inFlight = some u)
include hu

theorem execTransferUnitComplete_of_ignored (hi : u.ignored = true) : exec .transferUnitComplete s = .next s.landed := by
  refine congrArg Host.Outcome.next ?_
  simp only [hu, hi]
  rfl

theorem execTransferUnitComplete_of_abandoned (hi : u.ignored = false) (hc : u.channel = .ingest) (ha : u.abandoned = true) :
    exec .transferUnitComplete s = .next s.landed := by
  refine congrArg Host.Outcome.next ?_
  simp only [hu, hi, hc, ha]
  cases u.write <;> rfl

theorem execTransferUnitComplete_of_written (hi : u.ignored = false) (hc : u.channel = .ingest) (ha : u.abandoned = false)
    {w : SegmentWrite} (hw : u.write = some w) : exec .transferUnitComplete s = .next (s.landed.segmentWritten w) := by
  refine congrArg Host.Outcome.next ?_
  simp only [hu, hi, hc, ha, hw]
  rfl

theorem execTransferUnitComplete_of_compose (hi : u.ignored = false) (hc : u.channel = .compose) :
    exec .transferUnitComplete s = .next (s.landed.unitDone .compose) := by
  refine congrArg Host.Outcome.next ?_
  simp only [hu, hi, hc]
  rfl

theorem execTransferUnitComplete_of_render (hi : u.ignored = false) (hc : u.channel = .render) :
    exec .transferUnitComplete s = .next (s.landed.unitDone .render) := by
  refine congrArg Host.Outcome.next ?_
  simp only [hu, hi, hc]
  rfl

end Complete

theorem State.unitDone_of_two {s : State} {name : ChannelName} (h : 2 ≤ (s.memory.channel name).remaining) :
    s.unitDone name = { s with memory := s.memory.putChannel name (s.memory.channel name).lower } := by
  unfold State.unitDone
  exact if_neg (Nat.not_le_of_lt h)

theorem State.unitDone_of_le {s : State} {name : ChannelName} (h : (s.memory.channel name).remaining ≤ 1) :
    s.unitDone name = State.reportWork (if name = .compose then
      State.drawStreams { s with memory := s.memory.putChannel name (s.memory.channel name).lower }
      else { s with memory := s.memory.putChannel name (s.memory.channel name).lower }) name .complete := by
  unfold State.unitDone
  exact if_pos h

/-- R170: what becomes of each store at the completion of a frame. -/
theorem turnStores_getElem (v : Vector Store 3) (w : SegmentWrite) (choice : Bool) (i : Fin 3) :
    ((turnStores v w choice)[i] = v[i].turn w)
      ∨ v[i].turnedRole = .free ∧ (turnStores v w choice)[i] = { v[i].turn w with role := .receiving } := by
  obtain ⟨k, hk, he⟩ | ⟨-, he⟩ := turnStores_spec v w choice
  · rw [he, put_getElem, mapAll_getElem_fin]
    split
    · subst i
      exact .inr ⟨hk, rfl⟩
    · exact .inl rfl
  · rw [he, mapAll_getElem_fin]
    exact .inl rfl

/-- A store whose turned role is not FREE turns to it, and no more. -/
theorem turnStores_of_not_free {v : Vector Store 3} {i : Fin 3} (h : v[i].turnedRole ≠ .free) (w : SegmentWrite) (choice : Bool) :
    (turnStores v w choice)[i] = v[i].turn w :=
  (turnStores_getElem v w choice i).resolve_right fun hf => h hf.1

theorem Store.turn_of_free {y : Store} (h : y.turnedRole = .free) (w : SegmentWrite) : y.turn w = { y with role := .free } := by
  unfold Store.turnedRole at h
  unfold Store.turn
  cases y with
  | mk role pinned frameNumber width height data => cases role <;> simp_all

/-- A store that becomes or stays FREE may be the one that becomes RECEIVING. -/
theorem turnStores_of_free {v : Vector Store 3} {i : Fin 3} (h : v[i].turnedRole = .free) (w : SegmentWrite) (choice : Bool) :
    (turnStores v w choice)[i] = { v[i] with role := (turnStores v w choice)[i].role }
      ∧ ((turnStores v w choice)[i].role = .free ∨ (turnStores v w choice)[i].role = .receiving) := by
  obtain he | ⟨-, he⟩ := turnStores_getElem v w choice i
  · rw [he, Store.turn_of_free h]
    exact ⟨rfl, .inl rfl⟩
  · rw [he, Store.turn_of_free h]
    exact ⟨rfl, .inr rfl⟩

section Role
variable {v : Vector Store 3} {i : Fin 3} (w : SegmentWrite) (choice : Bool)

theorem turnStores_of_receiving (h : v[i].role = .receiving) : (turnStores v w choice)[i] = { v[i] with
    role := .latest, frameNumber := w.frameNumber, width := w.width, height := w.height } := by
  rw [turnStores_of_not_free (by rw [Store.turnedRole, h]; exact nofun), Store.turn, h]

theorem turnStores_of_pinned (h : v[i].role = .latest) (hp : v[i].pinned = true) :
    (turnStores v w choice)[i] = { v[i] with role := .held } := by
  rw [turnStores_of_not_free (by rw [Store.turnedRole, h, hp]; exact nofun), Store.turn, h]
  dsimp only
  rw [if_pos hp]

theorem turnStores_of_held (h : v[i].role = .held) : (turnStores v w choice)[i] = v[i] := by
  rw [turnStores_of_not_free (by rw [Store.turnedRole, h]; exact nofun), Store.turn, h]

end Role

/-! ### A segment written (R170, R172) -/

theorem State.segmentWritten_memory (s : State) (w : SegmentWrite) : (s.segmentWritten w).memory =
    s.memory.changeStream w.stream fun x => x.written w s.clock.runTime (Config.freeChoice s.choices) := by
  unfold State.segmentWritten
  dsimp only
  split <;> rfl

theorem Stream.written_lost (x : Stream) (w : SegmentWrite) (t : Nat) (choice : Bool) :
    (x.written w t choice).lost = (!w.last && x.lost) := by
  cases hw : w.last with
  | true => rw [x.written_of_last hw]; rfl
  | false => rw [x.written_of_notLast hw]; rfl

theorem MemoryUnit.anyLost_eq_false_iff (m : MemoryUnit) : m.anyLost = false ↔ ∀ k : Fin 4, m.streams[k].lost = false := by
  unfold MemoryUnit.anyLost
  rw [List.any_eq_false]
  simp only [Bool.not_eq_true, forall_mem_toList_iff]
  exact ⟨fun h k => h k k.isLt, fun h k hk => h ⟨k, hk⟩⟩

/-- R172: STREAM_LOST ends where a lost stream completes a frame and no other is lost. -/
theorem State.segmentWritten_conditions {s : State} {w : SegmentWrite} {k : Fin 4} (hk : w.stream = k.val) :
    (s.segmentWritten w).mail.conditions[Block.memory.index] = s.mail.conditions[Block.memory.index]
      ++ if w.last = true ∧ s.memory.streams[k].lost = true ∧ (∀ j : Fin 4, j.val ≠ w.stream → s.memory.streams[j].lost = false)
        then [.ends .streamLost] else [] := by
  have hwas : s.memory.isLost w.stream = s.memory.streams[k].lost := by
    rw [hk, MemoryUnit.isLost, Vector.getElem?_eq_getElem k.isLt]
    rfl
  have hlost (j : Fin 4) (t : Nat) (choice : Bool) :
      (s.memory.changeStream w.stream fun x => x.written w t choice).streams[j].lost
        = if j = k then !w.last && s.memory.streams[k].lost else s.memory.streams[j].lost := by
    rw [hk, MemoryUnit.changeStream_eq]
    dsimp only
    rw [put_getElem]
    split
    · exact Stream.written_lost ..
    · rfl
  have hends (t : Nat) (choice : Bool) : (s.memory.streams[k].lost
        && !(s.memory.changeStream w.stream fun x => x.written w t choice).anyLost) = true
      ↔ w.last = true ∧ s.memory.streams[k].lost = true ∧ ∀ j : Fin 4, j.val ≠ w.stream → s.memory.streams[j].lost = false := by
    rw [Bool.and_eq_true, Bool.not_eq_true', MemoryUnit.anyLost_eq_false_iff]
    simp only [hlost]
    rw [hk]
    constructor
    · rintro ⟨hl, hall⟩
      have hk := hall k
      rw [if_pos rfl, hl, Bool.and_true, Bool.not_eq_false'] at hk
      exact ⟨hk, hl, fun j hj => (if_neg fun e => hj (congrArg Fin.val e)).symm.trans (hall j)⟩
    · rintro ⟨hw, hl, hall⟩
      refine ⟨hl, fun j => ?_⟩
      split
      · simp [hw]
      · exact hall j fun e => ‹¬j = k› (Fin.ext e)
  unfold State.segmentWritten
  dsimp only
  rw [hwas]
  split
  · rename_i h
    rw [if_pos ((hends ..).mp h)]
    exact State.sendCondition_self ..
  · rename_i h
    rw [if_neg fun hp => h ((hends ..).mpr hp), List.append_nil]

/-! ### The obligation -/

/-- R170: what the last segment of a frame makes of each store. -/
def Store.TurnsTo (w : SegmentWrite) (z y : Store) : Prop :=
  (z.role = .receiving → y = { z with role := .latest, frameNumber := w.frameNumber, width := w.width, height := w.height })
  ∧ (z.role = .latest → z.pinned = true → y = { z with role := .held })
  ∧ (z.role = .latest → z.pinned = false → y = { z with role := y.role } ∧ (y.role = .free ∨ y.role = .receiving))
  ∧ (z.role = .held → y = z)
  ∧ (z.role = .free → y = { z with role := y.role } ∧ (y.role = .free ∨ y.role = .receiving))

theorem turnStores_turnsTo (v : Vector Store 3) (w : SegmentWrite) (choice : Bool) (i : Fin 3) :
    v[i].TurnsTo w (turnStores v w choice)[i] := by
  refine ⟨turnStores_of_receiving w choice, turnStores_of_pinned w choice, fun h hp => ?_, turnStores_of_held w choice,
    fun h => ?_⟩
  · exact turnStores_of_free (by rw [Store.turnedRole, h, hp]; rfl) w choice
  · exact turnStores_of_free (by rw [Store.turnedRole, h]) w choice

/-- R170, R172: a completed segment write. -/
theorem State.segmentWritten_spec {s : State} {w : SegmentWrite} {x : Stream} {stores : Vector Store 3}
    (hx : s.memory.streams[w.stream]? = some x)
    (hstores : stores = mapAll (fun y => if y.role = .receiving then
      { y with data := if w.first then w.data else y.data ++ w.data } else y) x.stores) :
    ∃ y, (s.segmentWritten w).memory.streams[w.stream]? = some y
      ∧ (s.segmentWritten w).memory = { s.memory with streams := (s.segmentWritten w).memory.streams }
      ∧ (∀ k, k ≠ w.stream → (s.segmentWritten w).memory.streams[k]? = s.memory.streams[k]?)
      ∧ (w.last = false → y = { x with stores := stores })
      ∧ (w.last = true → y = { x with stores := y.stores, lastFrame := s.clock.runTime, lost := false }
        ∧ ∀ i : Fin 3, stores[i].TurnsTo w y.stores[i])
      ∧ (s.segmentWritten w).mail.conditions[Block.memory.index] = s.mail.conditions[Block.memory.index]
        ++ if w.last = true ∧ x.lost = true ∧ (∀ k : Fin 4, k.val ≠ w.stream → s.memory.streams[k].lost = false)
          then [.ends .streamLost] else [] := by
  have hwrite : stores = mapAll (fun y => y.write w) x.stores := hstores
  obtain ⟨hn, rfl⟩ := Vector.getElem?_eq_some_iff.mp hx
  have hstreams (k : Nat) := (congrArg (·[k]?) (modifyAt_of_getElem? hx fun y =>
    y.written w s.clock.runTime (Config.freeChoice s.choices))).trans (getElem?_setIfInBounds_of_some hx _ k)
  refine ⟨s.memory.streams[w.stream].written w s.clock.runTime (Config.freeChoice s.choices), ?_, ?_, fun k hk => ?_,
    fun hl => ?_, fun hl => ?_, State.segmentWritten_conditions (k := ⟨w.stream, hn⟩) rfl⟩
  · rw [State.segmentWritten_memory]
    exact (hstreams _).trans (if_pos rfl)
  · rw [State.segmentWritten_memory]
    rfl
  · rw [State.segmentWritten_memory]
    exact (hstreams k).trans (if_neg hk)
  · rw [Stream.written_of_notLast hl, hwrite]
  · rw [Stream.written_of_last hl, hwrite]
    exact ⟨rfl, turnStores_turnsTo _ w _⟩

/-- R173: where INGEST waits, its next segment write gets the memory. -/
theorem execUnitGrant_ingest {s : State} {w : SegmentWrite} {rest : List SegmentWrite} (h : s.memory.inFlight = none)
    (hi : s.memory.ingest.waits = true) (hq : s.memory.ingestQueue = w :: rest) : exec .unitGrant s = .next { s with
      memory := MemoryUnit.countIngest { s.memory with
        ingestQueue := rest, inFlight := some ⟨.ingest, false, some w, false⟩ } } := by
  rw [execUnitGrant_of_free h, if_pos hi, MemoryUnit.grantIngest, hq]

/-- R173, R158: a unit of a compose job; with the last one its frame's streams are drawn and the work is complete. -/
theorem execTransferUnitComplete_compose {s : State} {u : UnitInFlight} (hu : s.memory.inFlight = some u) (hi : u.ignored = false)
    (hc : u.channel = .compose) :
    (2 ≤ s.memory.compose.remaining → exec .transferUnitComplete s = .next { s.landed with memory := { s.landed.memory with
      compose := { s.memory.compose with remaining := s.memory.compose.remaining - 1, state := .preempted } } })
    ∧ (s.memory.compose.remaining ≤ 1 → ∃ t, exec .transferUnitComplete s = .next t
      ∧ t.memory = { s.landed.memory with compose := { s.memory.compose with remaining := 0, hasWork := false, state := .idle } }
      ∧ t.mail = { s.mail with memoryToComposer := s.mail.memoryToComposer ++ [.complete] }
      ∧ t.composer = { s.composer with
          engine := s.composer.engine.map fun j => { j with frame := j.frame.resolve t.memory } }) := by
  rw [execTransferUnitComplete_of_compose hu hi hc]
  refine ⟨fun h => ?_, fun h => ⟨_, rfl, ?_⟩⟩
  · rw [State.unitDone_of_two (s := s.landed) (name := .compose) h, ← Channel.lower_of_two h]
    rfl
  · rw [State.unitDone_of_le (s := s.landed) (name := .compose) h, ← Channel.lower_of_le h]
    exact ⟨rfl, rfl, rfl⟩

/-- R173: a unit of a render job; with the last one the work is complete. -/
theorem execTransferUnitComplete_render {s : State} {u : UnitInFlight} (hu : s.memory.inFlight = some u) (hi : u.ignored = false)
    (hc : u.channel = .render) :
    (2 ≤ s.memory.render.remaining → exec .transferUnitComplete s = .next { s.landed with memory := { s.landed.memory with
      render := { s.memory.render with remaining := s.memory.render.remaining - 1, state := .preempted } } })
    ∧ (s.memory.render.remaining ≤ 1 → exec .transferUnitComplete s = .next { s.landed with
      memory := { s.landed.memory with render := { s.memory.render with remaining := 0, hasWork := false, state := .idle } }
      mail := { s.mail with memoryToRender := s.mail.memoryToRender ++ [.complete] } }) := by
  rw [execTransferUnitComplete_of_render hu hi hc]
  refine ⟨fun h => ?_, fun h => ?_⟩
  · rw [State.unitDone_of_two (s := s.landed) (name := .render) h, ← Channel.lower_of_two h]
    rfl
  · rw [State.unitDone_of_le (s := s.landed) (name := .render) h, ← Channel.lower_of_le h]
    rfl

/-- Settles O54: the grant by the channel that waits, and a completed unit by its channel. -/
theorem memoryGoesToTheHighestChannel : Obligations.MemoryGoesToTheHighestChannel := by
  refine ⟨fun s u h => execUnitGrant_of_flying h, fun s h => ⟨fun w rest hi hq => execUnitGrant_ingest h hi hq,
      fun hi hc hpins => ?_, fun hi hc hpins => ?_, fun hi hc hr => ?_, fun hi hc hr => ?_⟩,
    Channel.waits_iff, fun m => MemoryUnit.countIngest_of_free, fun m w a => MemoryUnit.countIngest_of_ingest,
    fun s v u hu hv => ?_⟩
  · have hnone : s.pinsOutstanding ≠ true := by
      rw [Ne, State.pinsOutstanding_iff]
      exact fun ⟨n, live, hn⟩ => hpins n live hn
    rw [execUnitGrant_of_free h, hi, hc, if_neg Bool.false_ne_true, if_pos rfl, if_neg hnone]
    rfl
  · rw [execUnitGrant_of_free h, hi, hc, if_neg Bool.false_ne_true, if_pos rfl, if_pos ((State.pinsOutstanding_iff s).mpr hpins)]
  · rw [execUnitGrant_of_free h, hi, hc, hr]
    rfl
  · rw [execUnitGrant_of_free h, hi, hc, hr]
    rfl
  · obtain rfl : v = s.landed := hv
    refine ⟨execTransferUnitComplete_of_ignored hu, fun hi hc => ⟨execTransferUnitComplete_of_abandoned hu hi hc,
        fun w x stores ha hw hx hstores => ?_⟩, execTransferUnitComplete_compose hu,
      fun f y ls m => ⟨rfl, fun hf => ?_, fun hf => ?_⟩, fun m n k => MemoryUnit.pinnedStore_eq, execTransferUnitComplete_render hu⟩
    · obtain ⟨y, hy, hmem, hrest, hlast⟩ := State.segmentWritten_spec (s := s.landed) hx hstores
      exact ⟨_, y, execTransferUnitComplete_of_written hu hi hc ha hw, hy, hmem, congrArg MemoryUnit.inFlight hmem, hrest, hlast⟩
    · rw [Frame.resolve, hf]
      rfl
    · exact (Frame.resolve_cons f m hf).trans (congrArg (· ++ _) (Layer.resolve_toList m y))

end Sys2Proof.Machine

end

section
/-! SUPPORT. Settles O55: the unit fault, the resume and the restart of the frame memory unit (R174, R175, R180). -/

namespace Sys2Proof.Machine

open Sys2Proof

/-! ### Frames ended together (R174) -/

/-- A stream whose frame in reception has ended where its number is one of those given. -/
def Stream.ending (x : Stream) (p : Nat → Bool) : Stream := { x with reception := x.reception.filter fun r => !p r.frameId }

theorem Stream.ending_nothing (x : Stream) : (x.ending fun _ => false) = x := by
  unfold Stream.ending
  cases x with
  | mk stores reception lastFrame lastUse lost nextFrameId => cases reception <;> rfl

theorem Stream.ending_ending (x : Stream) (p q : Nat → Bool) : (x.ending p).ending q = x.ending fun id => p id || q id := by
  unfold Stream.ending
  simp

theorem Stream.ending_eq (x : Stream) (p : Nat → Bool) : x.ending p = { x with reception := match x.reception with
    | none => none
    | some r => if p r.frameId then none else some r } := by
  unfold Stream.ending
  cases x.reception with
  | none => rfl
  | some r =>
    dsimp only
    cases hp : p r.frameId <;> simp [hp]

theorem Stream.stopReceiving_ending (x : Stream) (n : Nat) : x.stopReceiving n = x.ending fun id => decide (n = id) := by
  rw [Stream.stopReceiving_eq, Stream.ending_eq]
  cases x with
  | mk stores reception lastFrame lastUse lost nextFrameId =>
    cases reception with
    | none => rfl
    | some r => by_cases h : n = r.frameId <;> simp [h, eq_comm]

theorem MemoryUnit.abandonFrame_ending (m : MemoryUnit) (w : SegmentWrite) (k : Fin 4) :
    (m.abandonFrame w.stream w.frameId).streams[k] = m.streams[k].ending fun id => w.boundTo k id := by
  refine (modifyAt_getElem m.streams w.stream _ k k.isLt).trans ?_
  unfold SegmentWrite.boundTo
  by_cases hk : w.stream = k.val
  · rw [if_pos hk.symm, decide_eq_true hk, Stream.stopReceiving_ending]
    simp only [Bool.true_and]
    rfl
  · rw [if_neg (Ne.symm hk), decide_eq_false hk]
    exact (Stream.ending_nothing _).symm

/-- The frames of the writes end. -/
def MemoryUnit.endFrames (m : MemoryUnit) (ws : List SegmentWrite) : MemoryUnit :=
  ws.foldl (fun m w => m.abandonFrame w.stream w.frameId) m

theorem MemoryUnit.endFrames_stream (m : MemoryUnit) (ws : List SegmentWrite) (k : Fin 4) :
    (m.endFrames ws).streams[k] = m.streams[k].ending fun id => ws.any fun w => w.boundTo k id := by
  induction ws generalizing m with
  | nil => exact (Stream.ending_nothing _).symm
  | cons w ws ih => exact (ih _).trans ((congrArg (Stream.ending · _) (m.abandonFrame_ending w k)).trans (Stream.ending_ending ..))

/-- The writes left are those of no ended frame. -/
theorem MemoryUnit.mem_endFrames_queue {m : MemoryUnit} {ws : List SegmentWrite} {v : SegmentWrite} :
    v ∈ (m.endFrames ws).ingestQueue ↔ v ∈ m.ingestQueue ∧ ∀ w ∈ ws, ¬v.boundTo w.stream w.frameId = true := by
  induction ws generalizing m with
  | nil => exact ⟨fun h => ⟨h, nofun⟩, And.left⟩
  | cons w ws ih =>
    refine ih.trans ?_
    rw [MemoryUnit.abandonFrame_queue, List.mem_filter, List.forall_mem_cons, Bool.not_eq_true', ← Bool.not_eq_true]
    exact and_assoc

theorem MemoryUnit.endFrames_inFlight {m : MemoryUnit} (ws : List SegmentWrite) (h : m.inFlight = none) :
    (m.endFrames ws).inFlight = none := by
  induction ws generalizing m with
  | nil => exact h
  | cons w ws ih => exact ih (by rw [MemoryUnit.abandonFrame_inFlight, h]; rfl)

theorem MemoryUnit.endFrames_compose (m : MemoryUnit) (ws : List SegmentWrite) : (m.endFrames ws).compose = m.compose :=
  foldl_keeps (fun (m : MemoryUnit) (w : SegmentWrite) => m.abandonFrame w.stream w.frameId) MemoryUnit.compose
    (fun _ _ => rfl) ws m

theorem MemoryUnit.endFrames_render (m : MemoryUnit) (ws : List SegmentWrite) : (m.endFrames ws).render = m.render :=
  foldl_keeps (fun (m : MemoryUnit) (w : SegmentWrite) => m.abandonFrame w.stream w.frameId) MemoryUnit.render
    (fun _ _ => rfl) ws m

theorem MemoryUnit.endFrames_fault (m : MemoryUnit) (ws : List SegmentWrite) :
    (m.endFrames ws).ingest.fault = m.ingest.fault :=
  foldl_keeps (fun (m : MemoryUnit) (w : SegmentWrite) => m.abandonFrame w.stream w.frameId) (fun m => m.ingest.fault)
    (fun _ _ => rfl) ws m

/-! ### The fault (R174) -/

/-- The unit in flight has gone, and its channel has the fault mark unless the unit's work is gone. -/
def MemoryUnit.markFault (m : MemoryUnit) (u : UnitInFlight) : MemoryUnit :=
  if u.ignored then { m with inFlight := none }
  else ({ m with inFlight := none } : MemoryUnit).putChannel u.channel (m.channel u.channel).faulted

theorem MemoryUnit.putChannel_channel (m : MemoryUnit) (n k : ChannelName) (c : Channel) :
    (m.putChannel n c).channel k = if n = k then c else m.channel k := by
  cases n <;> cases k <;> rfl

/-- The segment write that a faulting unit was. -/
def UnitInFlight.faultWrites (u : UnitInFlight) : List SegmentWrite :=
  if u.channel = .ingest ∧ u.ignored = false then u.write.toList else []

theorem UnitInFlight.mem_faultWrites (u : UnitInFlight) (w : SegmentWrite) :
    w ∈ u.faultWrites ↔ u.channel = .ingest ∧ u.ignored = false ∧ u.write = some w := by
  unfold UnitInFlight.faultWrites
  split
  · rename_i h
    simp [h]
  · rename_i h
    exact ⟨nofun, fun hw => absurd ⟨hw.1, hw.2.1⟩ h⟩

/-- The memory between the frame of the faulting unit and those of the ingest queue. -/
def MemoryUnit.faultedUnit (m : MemoryUnit) (u : UnitInFlight) : MemoryUnit := (m.markFault u).endFrames u.faultWrites

theorem MemoryUnit.fault_eq (m : MemoryUnit) (u : UnitInFlight) : m.fault u = (m.faultedUnit u).halt.countIngest := by
  refine congrArg (fun v : MemoryUnit => v.halt.countIngest) ?_
  unfold MemoryUnit.faultedUnit MemoryUnit.markFault UnitInFlight.faultWrites
  cases u with
  | mk channel ignored write abandoned =>
    cases ignored with
    | true => simp [MemoryUnit.endFrames]
    | false =>
      cases channel with
      | ingest => cases write <;> rfl
      | compose => rfl
      | render => rfl

theorem MemoryUnit.markFault_channel (m : MemoryUnit) (u : UnitInFlight) (n : ChannelName) : (m.markFault u).channel n =
    if u.channel = n ∧ u.ignored = false then (m.channel n).faulted else m.channel n := by
  unfold MemoryUnit.markFault
  split
  · rename_i hi
    rw [if_neg fun h => Bool.false_ne_true (h.2.symm.trans hi)]
    cases n <;> rfl
  · rename_i hi
    rw [Bool.not_eq_true] at hi
    rw [MemoryUnit.putChannel_channel]
    by_cases hc : u.channel = n
    · rw [if_pos hc, if_pos ⟨hc, hi⟩, hc]
    · rw [if_neg hc, if_neg fun h => hc h.1]
      cases n <;> rfl

theorem MemoryUnit.markFault_queue (m : MemoryUnit) (u : UnitInFlight) : (m.markFault u).ingestQueue = m.ingestQueue := by
  unfold MemoryUnit.markFault
  split
  · rfl
  · cases u.channel <;> rfl

theorem MemoryUnit.markFault_streams (m : MemoryUnit) (u : UnitInFlight) : (m.markFault u).streams = m.streams := by
  unfold MemoryUnit.markFault
  split
  · rfl
  · cases u.channel <;> rfl

theorem MemoryUnit.markFault_inFlight (m : MemoryUnit) (u : UnitInFlight) : (m.markFault u).inFlight = none := by
  unfold MemoryUnit.markFault
  split
  · rfl
  · cases u.channel <;> rfl

/-- R174: after the fault nothing of the ingest queue is left. -/
theorem MemoryUnit.halt_eq (m : MemoryUnit) : m.halt = { m.endFrames m.ingestQueue with
    ingestQueue := []
    ingest := (m.endFrames m.ingestQueue).ingest.halt, compose := m.compose.halt, render := m.render.halt } := by
  have hnil : (m.endFrames m.ingestQueue).ingestQueue = [] := by
    rw [List.eq_nil_iff_forall_not_mem]
    intro v hv
    obtain ⟨hmem, hfree⟩ := MemoryUnit.mem_endFrames_queue.mp hv
    exact hfree v hmem ((v.boundTo_iff ..).mpr ⟨rfl, rfl⟩)
  rw [← hnil, ← m.endFrames_compose m.ingestQueue, ← m.endFrames_render m.ingestQueue]
  rfl

/-- R174: the frames that a fault ends. -/
theorem MemoryUnit.bound_faultedUnit_iff (m : MemoryUnit) (u : UnitInFlight) (k : Fin 4) (id : Nat) :
    ((∃ w ∈ u.faultWrites, w.boundTo k id = true) ∨ ∃ w ∈ (m.faultedUnit u).ingestQueue, w.boundTo k id = true)
      ↔ ∃ w, (w ∈ m.ingestQueue ∨ w ∈ u.faultWrites) ∧ w.boundTo k id = true := by
  have hqueue (v : SegmentWrite) : v ∈ (m.faultedUnit u).ingestQueue
      ↔ v ∈ m.ingestQueue ∧ ∀ w ∈ u.faultWrites, ¬v.boundTo w.stream w.frameId = true := by
    rw [MemoryUnit.faultedUnit, MemoryUnit.mem_endFrames_queue, MemoryUnit.markFault_queue]
  constructor
  · rintro (⟨w, hw, hb⟩ | ⟨w, hw, hb⟩)
    · exact ⟨w, .inr hw, hb⟩
    · exact ⟨w, .inl ((hqueue w).mp hw).1, hb⟩
  · rintro ⟨w, hw | hw, hb⟩
    · by_cases hfree : ∀ v ∈ u.faultWrites, ¬w.boundTo v.stream v.frameId = true
      · exact .inr ⟨w, (hqueue w).mpr ⟨hw, hfree⟩, hb⟩
      · push Not at hfree
        obtain ⟨v, hv, hsame⟩ := hfree
        rw [SegmentWrite.boundTo_iff] at hsame hb
        exact .inl ⟨v, hv, (v.boundTo_iff ..).mpr ⟨hsame.1.symm.trans hb.1, hsame.2.symm.trans hb.2⟩⟩
    · exact .inl ⟨w, hw, hb⟩

theorem MemoryUnit.fault_queue (m : MemoryUnit) (u : UnitInFlight) : (m.fault u).ingestQueue = [] := by
  rw [MemoryUnit.fault_eq, MemoryUnit.halt_eq]
  rfl

theorem MemoryUnit.faultedUnit_inFlight (m : MemoryUnit) (u : UnitInFlight) : (m.faultedUnit u).inFlight = none :=
  MemoryUnit.endFrames_inFlight _ (m.markFault_inFlight u)

theorem MemoryUnit.fault_inFlight (m : MemoryUnit) (u : UnitInFlight) : (m.fault u).inFlight = none := by
  rw [MemoryUnit.fault_eq, MemoryUnit.halt_eq]
  exact MemoryUnit.endFrames_inFlight _ (m.faultedUnit_inFlight u)

theorem MemoryUnit.fault_stream (m : MemoryUnit) (u : UnitInFlight) (k : Fin 4) {p : Nat → Bool}
    (hp : ∀ id, p id = true ↔ ∃ w, (w ∈ m.ingestQueue ∨ w ∈ u.faultWrites) ∧ w.boundTo k id = true) :
    (m.fault u).streams[k] = m.streams[k].ending p := by
  have hends : p = fun id => (u.faultWrites.any fun w => w.boundTo k id)
      || ((m.faultedUnit u).ingestQueue.any fun w => w.boundTo k id) := by
    funext id
    rw [Bool.eq_iff_iff, Bool.or_eq_true, List.any_eq_true, List.any_eq_true, MemoryUnit.bound_faultedUnit_iff]
    exact hp id
  rw [hends, ← Stream.ending_ending, ← m.markFault_streams u, ← MemoryUnit.endFrames_stream, MemoryUnit.fault_eq,
    MemoryUnit.halt_eq]
  exact MemoryUnit.endFrames_stream ..

theorem MemoryUnit.fault_compose (m : MemoryUnit) (u : UnitInFlight) :
    (m.fault u).compose = ((m.markFault u).channel .compose).halt := by
  rw [MemoryUnit.fault_eq, MemoryUnit.halt_eq]
  exact congrArg Channel.halt (MemoryUnit.endFrames_compose ..)

theorem MemoryUnit.fault_render (m : MemoryUnit) (u : UnitInFlight) :
    (m.fault u).render = ((m.markFault u).channel .render).halt := by
  rw [MemoryUnit.fault_eq, MemoryUnit.halt_eq]
  exact congrArg Channel.halt (MemoryUnit.endFrames_render ..)

theorem MemoryUnit.fault_ingest (m : MemoryUnit) (u : UnitInFlight) : (m.fault u).ingest =
    { ((m.markFault u).channel .ingest).halt with remaining := 0, hasWork := false } := by
  have hfault : ((m.faultedUnit u).endFrames (m.faultedUnit u).ingestQueue).ingest.fault
      = ((m.markFault u).channel .ingest).fault := (MemoryUnit.endFrames_fault ..).trans (MemoryUnit.endFrames_fault ..)
  rw [MemoryUnit.fault_eq, MemoryUnit.halt_eq]
  have hfly := MemoryUnit.endFrames_inFlight (m.faultedUnit u).ingestQueue (m.faultedUnit_inFlight u)
  rw [MemoryUnit.countIngest_of_free (by exact hfly)]
  simp [Channel.halt, hfault]

theorem execUnitFault_of_flying {s : State} {u : UnitInFlight} (h : s.memory.inFlight = some u) : exec .unitFault s =
    .next (({ s with memory := s.memory.fault u } : State).sendCondition .memory (.raise .memoryFault)) := by
  refine congrArg Host.Outcome.next ?_
  rw [h]

/-! ### The resume (R175) -/

/-- A channel after the resume. -/
def Channel.resumed (c : Channel) : Channel := if c.fault then ⟨.idle, 0, false, false⟩
  else if c.state = .halted then { c with state := if c.hasWork then .preempted else .idle } else c

theorem Channel.leaveHalted_eq (c : Channel) : c.leaveHalted =
    if c.state = .halted then { c with state := if c.hasWork then .preempted else .idle } else c := by
  unfold Channel.leaveHalted
  cases c.state <;> rfl

/-- A channel between the two steps of the resume. -/
def Channel.unfaulted (c : Channel) : Channel := if c.fault then { c.drop with fault := false } else c

theorem Channel.leaveHalted_unfaulted (c : Channel) : c.unfaulted.leaveHalted = c.resumed := by
  unfold Channel.unfaulted Channel.resumed
  split
  · rw [Channel.drop_eq]
    cases c.state <;> rfl
  · exact c.leaveHalted_eq

theorem State.reportEnded_compose (s : State) (p : Prop) [Decidable p] :
    (if p then s.reportWork .compose .ended else s) = { s with
      mail := { s.mail with memoryToComposer := s.mail.memoryToComposer ++ if p then [.ended] else [] } } := by
  split
  · rfl
  · rw [List.append_nil]

theorem State.reportEnded_render (s : State) (p : Prop) [Decidable p] :
    (if p then s.reportWork .render .ended else s) = { s with
      mail := { s.mail with memoryToRender := s.mail.memoryToRender ++ if p then [.ended] else [] } } := by
  split
  · rfl
  · rw [List.append_nil]

theorem State.endFaulted_ingest (s : State) :
    s.endFaulted .ingest = { s with memory := { s.memory with ingest := s.memory.ingest.unfaulted } } := by
  unfold State.endFaulted Channel.unfaulted MemoryUnit.channel
  dsimp only
  split
  · split <;> rfl
  · rfl

theorem State.endFaulted_compose (s : State) : s.endFaulted .compose = { s with
    memory := { s.memory with compose := s.memory.compose.unfaulted }
    mail := { s.mail with memoryToComposer := s.mail.memoryToComposer
      ++ if s.memory.compose.fault ∧ s.memory.compose.hasWork then [.ended] else [] } } := by
  unfold State.endFaulted MemoryUnit.channel
  dsimp only
  rw [State.reportEnded_compose, Channel.unfaulted]
  split
  · rename_i hf
    simp only [hf, true_and]
    rfl
  · rename_i hf
    rw [if_neg fun h => hf h.1, List.append_nil]

theorem State.endFaulted_render (s : State) : s.endFaulted .render = { s with
    memory := { s.memory with render := s.memory.render.unfaulted }
    mail := { s.mail with memoryToRender := s.mail.memoryToRender
      ++ if s.memory.render.fault ∧ s.memory.render.hasWork then [.ended] else [] } } := by
  unfold State.endFaulted MemoryUnit.channel
  dsimp only
  rw [State.reportEnded_render, Channel.unfaulted]
  split
  · rename_i hf
    simp only [hf, true_and]
    rfl
  · rename_i hf
    rw [if_neg fun h => hf h.1, List.append_nil]

theorem State.resumeChannels_eq (s : State) : s.resumeChannels = { s with
    memory := { s.memory with
      ingest := s.memory.ingest.resumed, compose := s.memory.compose.resumed, render := s.memory.render.resumed }
    mail := { s.mail with
      memoryToComposer := s.mail.memoryToComposer ++ if s.memory.compose.fault ∧ s.memory.compose.hasWork then [.ended] else []
      memoryToRender := s.mail.memoryToRender ++ if s.memory.render.fault ∧ s.memory.render.hasWork then [.ended] else [] } } := by
  unfold State.resumeChannels
  rw [State.endFaulted_ingest, State.endFaulted_compose, State.endFaulted_render, ← Channel.leaveHalted_unfaulted,
    ← Channel.leaveHalted_unfaulted, ← Channel.leaveHalted_unfaulted]

theorem execResume_of_resume {s : State} {rest : List MemoryEvent} (h : s.mail.linkToMemory = .resume :: rest) :
    exec .resume s = .next ({ s with mail := { s.mail with linkToMemory := rest } } : State).resumeChannels := by
  refine congrArg Host.Outcome.next ?_
  rw [h]

/-! ### The restart (R180) -/

theorem State.dropWork_ingest (s : State) :
    s.dropWork .ingest = { s with memory := { s.memory with ingest := .atReset } } := by
  unfold State.dropWork
  dsimp only
  split <;> rfl

theorem State.dropWork_compose (s : State) : s.dropWork .compose = { s with
    memory := { s.memory with compose := .atReset }
    mail := { s.mail with memoryToComposer := s.mail.memoryToComposer
      ++ if s.memory.compose.hasWork then [.ended] else [] } } := by
  unfold State.dropWork
  dsimp only
  rw [State.reportEnded_compose]
  rfl

theorem State.dropWork_render (s : State) : s.dropWork .render = { s with
    memory := { s.memory with render := .atReset }
    mail := { s.mail with memoryToRender := s.mail.memoryToRender
      ++ if s.memory.render.hasWork then [.ended] else [] } } := by
  unfold State.dropWork
  dsimp only
  rw [State.reportEnded_render]
  rfl

theorem State.restartMemory_eq (s : State) : s.restartMemory = State.sendCondition (State.sendCondition { s with
    memory := ⟨mapAll (Stream.restart s.clock.runTime) s.memory.streams, [], .atReset, .atReset, .atReset,
      s.memory.inFlight.map fun u => { u with ignored := true }⟩
    mail := { s.mail with
      memoryToComposer := s.mail.memoryToComposer ++ if s.memory.compose.hasWork then [.ended] else []
      memoryToRender := s.mail.memoryToRender ++ if s.memory.render.hasWork then [.ended] else [] } }
    .memory (.ends .memoryFault)) .memory (.ends .streamLost) := by
  unfold State.restartMemory
  rw [State.dropWork_ingest, State.dropWork_compose, State.dropWork_render]

theorem execFrameMemoryRestart_of_restart {s : State} {rest : List MemoryEvent} (h : s.mail.linkToMemory = .restart :: rest) :
    exec .frameMemoryRestart s = .next ({ s with mail := { s.mail with linkToMemory := rest } } : State).restartMemory := by
  refine congrArg Host.Outcome.next ?_
  rw [h]

/-- Settles O55: the fault by its frames and channels, the resume and the restart channel by channel. -/
theorem faultsHaltTheChannelsUntilTheResume : Obligations.FaultsHaltTheChannelsUntilTheResume := by
  refine ⟨fun s u lowered ends hu hlowered hends => ?_, fun s rest after hm hafter => ?_, fun s rest hm => ?_⟩
  · have hchannel (n : ChannelName) : ((s.memory.markFault u).channel n).halt = lowered n (s.memory.channel n) := by
      rw [MemoryUnit.markFault_channel, hlowered]
      split <;> rfl
    refine ⟨_, execUnitFault_of_flying hu, s.memory.fault_inFlight u, s.memory.fault_queue u,
      (s.memory.fault_compose u).trans (hchannel .compose), (s.memory.fault_render u).trans (hchannel .render),
      (s.memory.fault_ingest u).trans
        (congrArg (fun c : Channel => { c with remaining := 0, hasWork := false }) (hchannel .ingest)),
      fun k => ?_, State.sendCondition_self ..⟩
    refine (s.memory.fault_stream u k fun id => ?_).trans (Stream.ending_eq ..)
    rw [hends]
    simp only [UnitInFlight.mem_faultWrites, SegmentWrite.boundTo_iff]
  · obtain rfl : after = Channel.resumed := funext hafter
    rw [execResume_of_resume hm, State.resumeChannels_eq]
  · rw [execFrameMemoryRestart_of_restart hm, State.restartMemory_eq]
    refine ⟨_, rfl, rfl, rfl, rfl, rfl, rfl, mapAll_getElem_fin _ _, rfl, rfl, ?_, rfl⟩
    refine (State.sendCondition_self ..).trans ((congrArg (· ++ _) (State.sendCondition_self ..)).trans ?_)
    exact List.append_assoc ..

end Sys2Proof.Machine

end
